-- ==== Sys2Proof/Word.lean ====
section
/-! DEFINITION. The data words of the part: bytes, colours, and the words of a page of the asset store. -/

namespace Sys2Proof

/-- A byte of a packet, of the frame memory or of the asset store. -/
abbrev Byte := BitVec 8

/-- An RGB colour, 8 bits per channel (introduction, section 6.2). -/
structure Rgb where
  r : Byte
  g : Byte
  b : Byte
  deriving DecidableEq, Repr, Inhabited

/-- An ARGB colour, 8 bits per channel; alpha 255 is opaque, 0 fully transparent. -/
structure Argb where
  a : Byte
  r : Byte
  g : Byte
  b : Byte
  deriving DecidableEq, Repr, Inhabited

/-- The asset part of a block header (R153), with the kind as its code: 0 GLYPH_SET, 1 CHIME_PCM, 2 PROFILE. -/
structure BlockHeader where
  assetId : Nat
  kind : Nat
  generation : Nat
  sequence : Nat
  blockCount : Nat
  length : Nat
  deriving DecidableEq, Repr, Inhabited

/-- What one page of the array holds: its 4096 main bytes and the spare fields of R153. Only page 0 of a block
carries marks and a header, and only an asset's last page a commit record. `header = none` stands for header
bytes that are all FFh, `commit = none` for a clear commit mark. -/
structure Page where
  main : List Byte
  factory : Byte
  runtimeBad : Bool
  header : Option BlockHeader
  commit : Option (BitVec 32)
  deriving DecidableEq, Repr, Inhabited

end Sys2Proof
end

