-- ==== Sys2Proof/Syntax.lean ====
section
/-! DEFINITION. The commands and events of the part: one constructor of `Instr` per row of spec/opcode_table.json,
with its operands. The operands of a control command are the items of its parameter area (R185) as numbers, not yet
checked: the owner's rules check them. -/

namespace Sys2Proof

/-- The six links (section 9), in the order of R182. -/
inductive Link where
  | downlink | uplink | camera | front | left | right
  deriving DecidableEq, Repr, Inhabited

/-- The three panels. -/
inductive Panel where
  | front | left | right
  deriving DecidableEq, Repr, Inhabited

/-- The two seats. -/
inductive Seat where
  | left | right
  deriving DecidableEq, Repr, Inhabited

/-- The three audio zones. -/
inductive Zone where
  | seatL | seatR | cabin
  deriving DecidableEq, Repr, Inhabited

/-- The two receivers that carry video and have line staging (R58). -/
inductive VideoRx where
  | downlink | camera
  deriving DecidableEq, Repr, Inhabited

/-- A parameter that may be absent (R185): its presence byte is 0, 1, or neither. -/
inductive Optional (α : Type) where
  | absent
  | present (value : α)
  | badPresence
  deriving DecidableEq, Repr, Inhabited

/-- The items of TAG_SET (R50, section 3.1); the fields absent for its kind are carried as 0 (R185). -/
structure TagSetParams where
  tag : Nat
  kind : Nat
  source : Nat
  width : Nat
  height : Nat
  format : Nat
  ring : Nat
  damage : Nat
  channels : Nat
  zones : Nat
  deriving DecidableEq, Repr, Inhabited

/-- The items of RING_SET (R63). -/
structure RingSetParams where
  ring : Nat
  base : Nat
  count : Nat
  stride : Nat
  deriving DecidableEq, Repr, Inhabited

/-- The items of PANEL_SET (R71). -/
structure PanelSetParams where
  panel : Nat
  width : Nat
  height : Nat
  rate : Nat
  mirrorX : Nat
  mirrorY : Nat
  background : Rgb
  deriving DecidableEq, Repr, Inhabited

/-- The items of LAYER_SET (R82, R83): the panel, the layer record, the placement. -/
structure LayerSetParams where
  panel : Nat
  layer : Nat
  source : Nat
  sourceArg : Nat
  fill : Optional Rgb
  x : Int
  y : Int
  w : Nat
  h : Nat
  alpha : Nat
  visible : Nat
  persist : Nat
  placement : Nat
  placementArg : Nat
  deriving DecidableEq, Repr, Inhabited

/-- The items of CAMERA_SET (R8). -/
structure CameraSetParams where
  tag : Nat
  x : Nat
  y : Nat
  w : Nat
  h : Nat
  mirror : Nat
  deriving DecidableEq, Repr, Inhabited

/-- A takeover message: an icon code and a text of glyph codes (section 1.3, R104). -/
structure Message where
  icon : Nat
  text : List Nat
  deriving DecidableEq, Repr, Inhabited

/-- The items of TAKEOVER_SET (R7). -/
structure TakeoverSetParams where
  freshness : Nat
  debounce : Nat
  startTimeout : Nat
  watchdogCode : Nat
  watchdogAction : Nat
  linger : Nat
  exitSpeed : Nat
  engageChime : Nat
  duckRear : Nat
  starting : Message
  unavailable : Message
  deriving DecidableEq, Repr, Inhabited

/-- The items of GUIDE_SET (R28). -/
structure GuideSetParams where
  mode : Nat
  polarity : Int
  halfWidth : Nat
  overhang : Nat
  slew : Nat
  stopBar : Nat
  deriving DecidableEq, Repr, Inhabited

/-- The entries of a list, with the length in bytes of the parameter area that carries them: the owners of ROW_TABLE_SET and
PAGE_SET judge whether the two match (R31, R106). -/
structure SizedList (α : Type) where
  length : Nat
  entries : List α
  deriving DecidableEq, Repr

/-- One entry of ROW_TABLE_SET (R31). -/
structure RowParams where
  d : Nat
  v : Nat
  scale : Nat
  c : Nat
  w : Nat
  marker : Nat
  deriving DecidableEq, Repr, Inhabited

/-- One band of BAND_TABLE_SET (R32). -/
structure GuideBand where
  limit : Nat
  colour : Argb
  deriving DecidableEq, Repr, Inhabited

/-- The items of MENU_SET (R109). -/
structure MenuSetParams where
  seat : Nat
  root : Nat
  x : Nat
  y : Nat
  width : Nat
  rowHeight : Nat
  background : Argb
  text : Argb
  disabled : Argb
  highlight : Argb
  clickChime : Nat
  bumpChime : Nat
  inactivity : Nat
  glyphSet : Nat
  deriving DecidableEq, Repr, Inhabited

/-- A menu item as carried by PAGE_SET and ITEM_SET (R105). -/
structure ItemParams where
  label : List Nat
  icon : Optional Nat
  enabled : Nat
  action : Nat
  actionArg : Nat
  deriving DecidableEq, Repr, Inhabited

/-- The items of ZONE_SET after the zone and the option (R123). -/
structure ZoneParams where
  volume : Nat
  mute : Nat
  duckLevel : Nat
  ramp : Nat
  hold : Nat
  deriving DecidableEq, Repr, Inhabited

/-- A chime catalogue entry as carried by CHIME_DEFINE (section 7.1). -/
structure ChimeParams where
  asset : Nat
  level : Nat
  priority : Nat
  zones : Nat
  repeats : Nat
  gap : Nat
  duck : Nat
  follows : Nat
  deriving DecidableEq, Repr, Inhabited

/-- A proximity band (R147): an upper distance limit and a gap. -/
structure ProximityBand where
  limit : Nat
  gap : Nat
  deriving DecidableEq, Repr, Inhabited

/-- A control command with its parameters, one constructor per code of the command table (R188). -/
inductive Command where
  | tagSet (p : TagSetParams)
  | tagClear (tag : Nat)
  | tagRead (tag : Nat)
  | ringSet (p : RingSetParams)
  | panelSet (p : PanelSetParams)
  | panelWake (panel : Nat)
  | panelSleep (panel : Nat)
  | panelBlank (panel : Nat)
  | panelShow (panel : Nat)
  | panelLevel (panel level : Nat)
  | layerSet (p : LayerSetParams)
  | layerClear (panel layer : Nat)
  | panelRead (panel : Nat)
  | cameraSet (p : CameraSetParams)
  | takeoverSet (p : TakeoverSetParams)
  | takeoverDismiss
  | takeoverRead
  | guideSet (p : GuideSetParams)
  | steerTableSet (values : List Nat)
  | rowTableSet (rows : SizedList RowParams)
  | bandTableSet (bands : List GuideBand)
  | menuSet (p : MenuSetParams)
  | pageSet (page : Nat) (title : List Nat) (items : SizedList ItemParams)
  | pageClear (page : Nat)
  | itemSet (page item : Nat) (p : ItemParams)
  | menuOpen (seat : Nat)
  | menuClose (seat : Nat)
  | menuLock (seat locked : Nat)
  | zoneSet (zone option : Nat) (p : ZoneParams)
  | volumeTableSet (values : List Nat)
  | chimeDefine (id option : Nat) (p : Option ChimeParams)
  | chimePlay (id zones : Nat)
  | chimeStop (id : Nat)
  | proximitySet (id : Nat) (bands : List ProximityBand)
  | assetBegin (id kind length : Nat)
  | assetData (offset : Nat) (bytes : List Byte)
  | assetEnd (crc : BitVec 32)
  | assetDelete (id : Nat)
  | assetInfo (id : Nat)
  | storeStatus
  | storeAbort
  | linkRetrain (link : Nat)
  | countersRead (group clear : Nat)
  | attentionAck (flags : BitVec 16)
  | noticeMaskSet (mask : BitVec 16)
  | identify
  | softReset
  deriving DecidableEq, Repr, Inhabited

/-- The commands and events of the part: one constructor per row of the table. An event's operands are what comes
from outside the part with it; a packet event carries the packet's bytes, header first; a control command carries the
mark of its packet and its parameters. -/
inductive Instr where
  | fullReset
  | softReset (mark : Byte)
  | softResetEffect
  | reversePinChange (level : Bool)
  | debounceExpiry
  | vehiclePacket (bytes : List Byte)
  | recordStale
  | mismatchTimerExpiry
  | startTimerExpiry
  | watchdogExpiry
  | lingerTimerExpiry
  | linkLock (link : Link)
  | linkLossOfLock (link : Link)
  | framePacket (rx : VideoRx) (bytes : List Byte)
  | linePacket (rx : VideoRx) (bytes : List Byte)
  | fendPacket (rx : VideoRx) (bytes : List Byte)
  | audioPacket (bytes : List Byte)
  | ctrlPacket (bytes : List Byte)
  | keyPacket (seat : Seat) (bytes : List Byte)
  | lineWriteCompletion (rx : VideoRx)
  | endOfFrame (panel : Panel)
  | renderCompletion
  | zoneBlockEvent (zone : Zone)
  | voiceBlockEvent (voice : Fin 4)
  | gapTimerExpiry (voice : Fin 4)
  | holdTimerExpiry (zone : Zone)
  | inactivityTimerExpiry (seat : Seat)
  | arrayReady
  | pageReadCompletion (failed : Bool)
  | pageProgramCompletion (verifiedPass : Option (Fin 8))
  | eraseCompletion (failedBlocks : List (Fin 256))
  | abortCompletion
  | commandTake
  | waitingReplyAppend
  | sendCompletion
  | profileEntry
  | tagSet (mark : Byte) (p : TagSetParams)
  | tagClear (mark : Byte) (tag : Nat)
  | tagRead (mark : Byte) (tag : Nat)
  | ringSet (mark : Byte) (p : RingSetParams)
  | panelSet (mark : Byte) (p : PanelSetParams)
  | panelWake (mark : Byte) (panel : Nat)
  | panelSleep (mark : Byte) (panel : Nat)
  | panelBlank (mark : Byte) (panel : Nat)
  | panelShow (mark : Byte) (panel : Nat)
  | panelLevel (mark : Byte) (panel level : Nat)
  | layerSet (mark : Byte) (p : LayerSetParams)
  | layerClear (mark : Byte) (panel layer : Nat)
  | panelRead (mark : Byte) (panel : Nat)
  | cameraSet (mark : Byte) (p : CameraSetParams)
  | takeoverSet (mark : Byte) (p : TakeoverSetParams)
  | takeoverDismiss (mark : Byte)
  | takeoverRead (mark : Byte)
  | guideSet (mark : Byte) (p : GuideSetParams)
  | steerTableSet (mark : Byte) (values : List Nat)
  | rowTableSet (mark : Byte) (rows : SizedList RowParams)
  | bandTableSet (mark : Byte) (bands : List GuideBand)
  | menuSet (mark : Byte) (p : MenuSetParams)
  | pageSet (mark : Byte) (page : Nat) (title : List Nat) (items : SizedList ItemParams)
  | pageClear (mark : Byte) (page : Nat)
  | itemSet (mark : Byte) (page item : Nat) (p : ItemParams)
  | menuOpen (mark : Byte) (seat : Nat)
  | menuClose (mark : Byte) (seat : Nat)
  | menuLock (mark : Byte) (seat locked : Nat)
  | zoneSet (mark : Byte) (zone : Nat) (p : ZoneParams)
  | zoneSetRead (mark : Byte) (zone : Nat) (p : ZoneParams)
  | volumeTableSet (mark : Byte) (values : List Nat)
  | chimeDefine (mark : Byte) (id : Nat) (p : ChimeParams)
  | chimeDefineRemove (mark : Byte) (id : Nat)
  | chimeDefineRead (mark : Byte) (id : Nat)
  | chimePlay (mark : Byte) (id zones : Nat)
  | chimeStop (mark : Byte) (id : Nat)
  | proximitySet (mark : Byte) (id : Nat) (bands : List ProximityBand)
  | assetBegin (mark : Byte) (id kind length : Nat)
  | assetData (mark : Byte) (offset : Nat) (bytes : List Byte)
  | assetEnd (mark : Byte) (crc : BitVec 32)
  | assetDelete (mark : Byte) (id : Nat)
  | assetInfo (mark : Byte) (id : Nat)
  | storeStatus (mark : Byte)
  | storeAbort (mark : Byte)
  | linkRetrain (mark : Byte) (link : Nat)
  | countersRead (mark : Byte) (group clear : Nat)
  | attentionAck (mark : Byte) (flags : BitVec 16)
  | noticeMaskSet (mark : Byte) (mask : BitVec 16)
  | identify (mark : Byte)
  | resyncEndFlag (link : Link)
  | overlongPacket (link : Link)
  | arrivedPacketDiscarded (link : Link) (bytes : List Byte)
  deriving DecidableEq, Repr

end Sys2Proof
end

