-- ==== Sys2Proof/Config.lean ====
section
/-! DEFINITION. What is fixed for the part: the principal numbers (introduction, sections 4 and 5) and the free
values the manual leaves open. -/

namespace Sys2Proof.Config

/-- Bytes of the frame memory: 128 MiB (section 4.1). -/
def frameMemoryBytes : Nat := 134217728
/-- Bytes of the ring region, from address 0 (section 4.1). -/
def ringRegionBytes : Nat := 98566144
/-- First byte of the plane buffers (section 4.1). -/
def planeBase : Nat := 98566144
/-- Bytes of one plane buffer (section 4.1). -/
def planeBufferBytes : Nat := 4194304
/-- First byte of the glyph cache (section 4.1). -/
def glyphBase : Nat := 132120576
/-- Bytes of a glyph set (R99). -/
def glyphSetBytes : Nat := 305664
/-- Pages of a glyph set (R99). -/
def glyphSetPages : Nat := 75
/-- Icons begin here in a glyph set (R99). -/
def iconOffset : Nat := 10752
/-- Bytes of one text glyph and of one icon (R99). -/
def glyphBytes : Nat := 48
def iconBytes : Nat := 9216
/-- Store geometry (section 4.2): blocks, pages per block, main bytes per page, spare bytes per page, banks. -/
def storeBlocks : Nat := 256
def pagesPerBlock : Nat := 64
def pageBytes : Nat := 4096
def spareBytes : Nat := 128
def banks : Nat := 4
/-- Main bytes of one store block. -/
def blockBytes : Nat := 262144
/-- Largest asset: 64 store blocks. -/
def maxAssetBytes : Nat := 16777216
/-- Identification (R189). -/
def vendorCode : Nat := 0x1D05
def partCode : Nat := 6430
def revision : Nat := 1
/-- A film FIFO's capacity and restart level, and a block's frames (section 6.2). -/
def fifoFrames : Nat := 4096
def restartLevel : Nat := 1024
def blockFrames : Nat := 48
/-- Queue sizes (section 5). -/
def controlFifoPackets : Nat := 8
def uplinkPackets : Nat := 16
def chimeQueueEntries : Nat := 8
def stagingSlots : Nat := 4
/-- The largest packet (R175), and the largest body of a profile entry (R194). -/
def maxPacketBytes : Nat := 3852
/-- Duration of the mismatch timer in ms (R6). -/
def mismatchTime : Nat := 1000
/-- Greatest value of a counter (section 6.6). -/
def counterMax : Nat := 4294967295

/-- FREE VALUE (log entry 3). What an array page holds after an aborted, failed or interrupted operation: R154 and
R173 leave it partly written or in an unknown state. The argument is fresh for each such event. -/
opaque unknownPage : Nat → Page

/-- FREE VALUE (log entry 66). The runtime bad mark of a page after a bad-mark write that failed all its passes: R157 does
not examine the write's result and does not give what the mark reads as. The argument is fresh for each such write. -/
opaque unknownMark : Nat → Bool

/-- FREE VALUE (log entry 4). The size of the transparent GUIDE plane drawn while the geometry record is none: R41
gives the size of the record only. -/
opaque emptyGuideWidth : Nat
opaque emptyGuideHeight : Nat

/-- FREE VALUE (log entry 57). The repeated passes that an aborted program had made by its abort completion: R154 counts
each in PROGRAM_RETRY and does not give how many there are. The argument is fresh for each abort. -/
opaque abortedRetries : Nat → Fin 8

end Sys2Proof.Config
end

