-- ==== Sys2Proof/Machine/Arith.lean ====
section
/-! DEFINITION. The arithmetic of the manual's conventions (introduction, section 6.2), byte order, and the two
packet checks of R177. -/

namespace Sys2Proof.Machine

/-- nearest(a / b) for b > 0: halves are rounded away from zero (section 6.2). -/
def nearestDiv (a b : Int) : Int :=
  if 0 ≤ a then (2 * a + b) / (2 * b) else -((2 * (-a) + b) / (2 * b))

/-- floor(a / b) for b > 0 (section 6.2). -/
def floorDiv (a b : Int) : Int := a / b

/-- ceil(a / b). -/
def ceilDiv (a b : Nat) : Nat := (a + b - 1) / b

/-- x clamped to lo..hi (section 6.2). -/
def clampInt (lo hi x : Int) : Int := if x < lo then lo else if hi < x then hi else x

/-- A counter after one more event: 32-bit, saturating (section 6.6). -/
def bump (n : Nat) : Nat := min (n + 1) Config.counterMax

/-- A counter after k more events. -/
def bumpBy (n k : Nat) : Nat := min (n + k) Config.counterMax

/-- An unsigned number as n big-endian bytes, modulo 256^n (section 6.3). -/
def beBytes : Nat → Nat → List Byte
  | 0, _ => []
  | n + 1, x => beBytes n (x / 256) ++ [BitVec.ofNat 8 x]

/-- Big-endian bytes as an unsigned number. -/
def beNat (bs : List Byte) : Nat := bs.foldl (fun acc b => acc * 256 + b.toNat) 0

/-- The two's complement reading of an unsigned number of n bytes (section 6.3). -/
def signedOf (n x : Nat) : Int := if 2 * x < 256 ^ n then (x : Int) else (x : Int) - (256 ^ n : Nat)

/-- A signed number as n two's complement big-endian bytes. -/
def beInt (n : Nat) (x : Int) : List Byte := beBytes n (x % (256 ^ n : Nat)).toNat

/-- A signed 16-bit big-endian sample (R61, R134). -/
def sample16 (hi lo : Byte) : Int := signedOf 2 (hi.toNat * 256 + lo.toNat)

/-- One step of the header CRC (R177): polynomial x^8 + x^2 + x + 1, most significant bit first. -/
def crc8Bit (c : BitVec 8) : BitVec 8 := if c.getMsbD 0 then (c <<< 1) ^^^ 0x07#8 else c <<< 1

def crc8Byte (c b : BitVec 8) : BitVec 8 := Nat.repeat crc8Bit 8 (c ^^^ b)

/-- The header CRC of R177: initial value 0, no final inversion. -/
def crc8 (bs : List Byte) : Byte := bs.foldl crc8Byte 0#8

/-- One step of the payload CRC (R177): reflected polynomial EDB88320h, least significant bit first. -/
def crc32Bit (c : BitVec 32) : BitVec 32 :=
  if c.getLsbD 0 then (c >>> 1) ^^^ 0xEDB88320#32 else c >>> 1

def crc32Byte (c : BitVec 32) (b : Byte) : BitVec 32 := Nat.repeat crc32Bit 8 (c ^^^ b.setWidth 32)

/-- The initial value of the payload CRC's register: all ones (R177). -/
def crc32Init : BitVec 32 := 0xFFFFFFFF#32

/-- The payload CRC's register after more bytes. -/
def crc32Update (c : BitVec 32) (bs : List Byte) : BitVec 32 := bs.foldl crc32Byte c

/-- The payload CRC of R177: the register after all bytes, inverted. -/
def crc32 (bs : List Byte) : BitVec 32 := ~~~ (crc32Update crc32Init bs)

/-- An index below n, or none. -/
def fin? (n i : Nat) : Option (Fin n) := if h : i < n then some ⟨i, h⟩ else none

/-- A yes/no byte. R185 gives the two values 0 and 1 without saying which is which: that yes, on, asserted and applied are
1 is the model's choice (log entry 26). -/
def flag? (n : Nat) : Option Bool := if n = 0 then some false else if n = 1 then some true else none

/-- The byte of a yes/no, on/off, asserted/deasserted or applied/withdrawn item of result data (log entry 26). -/
def boolByte (b : Bool) : Byte := if b then 1#8 else 0#8

/-- A relation that holds from each entry of a list to the next. -/
def eachToNext {α : Type} (r : α → α → Bool) : List α → Bool
  | a :: b :: rest => r a b && eachToNext r (b :: rest)
  | _ => true

/-- A list of exactly n numbers as a table. -/
def table? (n : Nat) (xs : List Nat) : Option (Vector Nat n) :=
  if h : xs.length = n then some ⟨xs.toArray, by simpa using h⟩ else none

end Sys2Proof.Machine
end

