-- ==== Sys2Proof/Machine/State.lean ====
section
/-! DEFINITION. The state of the part, block by block, as plain data; its value after a full reset; the reasons a
step can stop. A timer is `none` when stopped; a running timer holds the milliseconds left, except where its field
says that it holds the milliseconds elapsed. -/

namespace Sys2Proof.Machine

/-! ### Vehicle State Monitor (sections 1.1 and 1.2) -/

inductive Gear where
  | park | reverse | neutral | drive | unknown
  deriving DecidableEq, Repr, Inhabited

inductive Supply where
  | normal | low | cranking
  deriving DecidableEq, Repr, Inhabited

inductive Mismatch where
  | agree | disagree | reported
  deriving DecidableEq, Repr, Inhabited

/-- The vehicle record (section 1.1), the REVERSE pin (R4), reverse asserted (R5) and the mismatch monitor (R6).
`age` saturates at 65535 (R3). `debounceTimer` and `mismatchTimer` hold the time elapsed. -/
structure Vehicle where
  gear : Gear
  supply : Supply
  steering : Int
  speed : Nat
  distances : Vector Nat 4
  age : Nat
  fresh : Bool
  pinRaw : Bool
  debounced : Bool
  debounceTimer : Option Nat
  reverseAsserted : Bool
  mismatch : Mismatch
  mismatchTimer : Option Nat
  deriving DecidableEq, Repr

/-- R3, R4, R6, with the raw pin level as it stands. -/
def Vehicle.reset (pinRaw : Bool) : Vehicle :=
  { gear := .unknown, supply := .normal, steering := 0, speed := 0, distances := #v[255, 255, 255, 255], age := 65535,
    fresh := false, pinRaw := pinRaw, debounced := false, debounceTimer := some 0, reverseAsserted := false,
    mismatch := .agree, mismatchTimer := none }

/-! ### Takeover Controller (sections 1.3 to 1.7) -/

inductive Phase where
  | idle | engaged | linger
  deriving DecidableEq, Repr, Inhabited

inductive View where
  | waiting | live | lost | frozen
  deriving DecidableEq, Repr, Inhabited

inductive LostCause where
  | none | startTimeout | watchdog | linkDown
  deriving DecidableEq, Repr, Inhabited

structure TakeoverSettings where
  freshness : Nat
  debounce : Nat
  startTimeout : Nat
  watchdogCode : Nat
  retrain : Bool
  linger : Nat
  exitSpeed : Nat
  engageChime : Nat
  duckRear : Bool
  starting : Message
  unavailable : Message
  deriving DecidableEq, Repr

structure CameraSettings where
  tag : Nat
  x : Nat
  y : Nat
  w : Nat
  h : Nat
  mirror : Bool
  deriving DecidableEq, Repr

/-- A reader's claim on a ring buffer (section 3.5). -/
structure Hold where
  ring : Fin 8
  buffer : Nat
  deriving DecidableEq, Repr, Inhabited

structure Takeover where
  settings : TakeoverSettings
  camera : CameraSettings
  phase : Phase
  view : View
  cause : LostCause
  lingerTimer : Option Nat
  startTimer : Option Nat
  watchdogTimer : Option Nat
  lastGood : Option Nat
  repeats : Nat
  rejoins : Nat
  duckDemand : Bool
  cameraHold : Option Hold
  deriving DecidableEq, Repr

/-- The defaults of TAKEOVER_SET (section 1.3). -/
def TakeoverSettings.default : TakeoverSettings :=
  { freshness := 300, debounce := 40, startTimeout := 1200, watchdogCode := 4, retrain := false, linger := 2000,
    exitSpeed := 1000, engageChime := 255, duckRear := true, starting := ⟨224, []⟩, unavailable := ⟨225, []⟩ }

/-- The defaults of CAMERA_SET (section 1.3). -/
def CameraSettings.default : CameraSettings := { tag := 0, x := 0, y := 0, w := 1280, h := 800, mirror := false }

/-- R27. -/
def Takeover.reset : Takeover :=
  { settings := .default, camera := .default, phase := .idle, view := .waiting, cause := .none, lingerTimer := none,
    startTimer := none, watchdogTimer := none, lastGood := none, repeats := 0, rejoins := 0, duckDemand := false,
    cameraHold := none }

/-! ### Guide Geometry Unit (chapter 2) -/

inductive GuideMode where
  | off | static | dynamic | both
  deriving DecidableEq, Repr, Inhabited

structure GuideSettings where
  mode : GuideMode
  polarity : Int
  halfWidth : Nat
  overhang : Nat
  slew : Nat
  stopBar : Bool
  deriving DecidableEq, Repr

/-- A row table entry (R31): distance, row, scale in px/m, centre column, width, marker. -/
structure RowEntry where
  d : Nat
  v : Nat
  scale : Nat
  c : Nat
  w : Nat
  marker : Bool
  deriving DecidableEq, Repr, Inhabited

/-- The left and right columns of one row. -/
structure Columns where
  left : Int
  right : Int
  deriving DecidableEq, Repr, Inhabited

structure StopBar where
  row : Int
  columns : Columns
  deriving DecidableEq, Repr

/-- The geometry record (R39). -/
structure GeometryRecord where
  width : Nat
  height : Nat
  mode : GuideMode
  kappaT : Int
  kappaDraw : Int
  dynamic : List Columns
  static : List Columns
  stopBar : Option StopBar
  deriving DecidableEq, Repr

structure Guide where
  settings : GuideSettings
  steerTable : Option (Vector Nat 9)
  rowTable : List RowEntry
  bandTable : List GuideBand
  kappaDraw : Option Int
  record : Option GeometryRecord
  deriving DecidableEq, Repr

def GuideSettings.default : GuideSettings :=
  { mode := .dynamic, polarity := 1, halfWidth := 850, overhang := 900, slew := 800, stopBar := true }

/-- R33. -/
def Guide.reset : Guide :=
  { settings := .default, steerTable := none, rowTable := [], bandTable := [], kappaDraw := none, record := none }

/-! ### Tag Table and Ring Manager (chapter 3) -/

inductive PixelFormat where
  | rgb565 | rgb888 | ycbcr422
  deriving DecidableEq, Repr, Inhabited

structure VideoDescriptor where
  source : VideoRx
  width : Nat
  height : Nat
  format : PixelFormat
  ring : Fin 8
  damage : Nat
  deriving DecidableEq, Repr

structure AudioDescriptor where
  stereo : Bool
  seatL : Bool
  seatR : Bool
  deriving DecidableEq, Repr

/-- A present stream descriptor (section 3.1). -/
inductive Descriptor where
  | video (d : VideoDescriptor)
  | audio (d : AudioDescriptor)
  deriving DecidableEq, Repr

inductive LineMark where
  | unseen | written | damaged
  deriving DecidableEq, Repr, Inhabited

/-- The frame context (section 3.3); `buffer = none` for a skipped frame. -/
structure FrameContext where
  number : Nat
  width : Nat
  height : Nat
  format : PixelFormat
  ring : Fin 8
  damage : Nat
  link : VideoRx
  buffer : Option Nat
  marks : List LineMark
  deriving DecidableEq, Repr

/-- The per-tag counters (section 3.7). -/
structure TagCounters where
  frameIn : Nat
  frameDone : Nat
  mismatch : Nat
  frameSkip : Nat
  frameDamaged : Nat
  frameAbandoned : Nat
  frameOverwrite : Nat
  frameUnshown : Nat
  audioIn : Nat
  deriving DecidableEq, Repr

structure TagRecord where
  descriptor : Option Descriptor
  frame : Option FrameContext
  counters : TagCounters
  deriving DecidableEq, Repr

inductive BufferState where
  | free | filling | complete
  deriving DecidableEq, Repr, Inhabited

/-- A buffer record (section 3.5). -/
structure Buffer where
  state : BufferState
  holds : Nat
  heldSinceFilled : Bool
  number : Nat
  width : Nat
  height : Nat
  format : PixelFormat
  damaged : Nat
  deriving DecidableEq, Repr, Inhabited

/-- A ring record (section 3.5); it has no buffers when the list is empty. -/
structure Ring where
  base : Nat
  stride : Nat
  latest : Option Nat
  buffers : List Buffer
  deriving DecidableEq, Repr, Inhabited

/-- A line in staging (R58): its place in the frame memory and its bytes. `live` while its frame is in progress. -/
structure StagedLine where
  tag : Fin 32
  live : Bool
  address : Nat
  bytes : List Byte
  deriving DecidableEq, Repr

/-- The admission counters of a link (R54, R56, R58, R59). -/
structure AdmissionCounters where
  null : Nat
  absent : Nat
  kind : Nat
  source : Nat
  limit : Nat
  orphan : Nat
  overflow : Nat
  deriving DecidableEq, Repr

/-- A video receiver's admission counters and line staging, oldest line first. -/
structure VideoPort where
  counters : AdmissionCounters
  staging : List StagedLine
  deriving DecidableEq, Repr

structure Streams where
  tags : Vector TagRecord 32
  rings : Vector Ring 8
  downlink : VideoPort
  camera : VideoPort
  deriving DecidableEq, Repr

def TagCounters.zero : TagCounters := ⟨0, 0, 0, 0, 0, 0, 0, 0, 0⟩
def AdmissionCounters.zero : AdmissionCounters := ⟨0, 0, 0, 0, 0, 0, 0⟩
def TagRecord.reset : TagRecord := { descriptor := none, frame := none, counters := .zero }
def Ring.reset : Ring := { base := 0, stride := 0, latest := none, buffers := [] }
def Buffer.reset : Buffer :=
  { state := .free, holds := 0, heldSinceFilled := false, number := 0, width := 0, height := 0, format := .rgb565,
    damaged := 0 }
def VideoPort.reset : VideoPort := { counters := .zero, staging := [] }

/-- R69. -/
def Streams.reset : Streams :=
  { tags := Vector.replicate 32 .reset, rings := Vector.replicate 8 .reset, downlink := .reset, camera := .reset }

/-! ### Panel Composers (chapter 4) -/

inductive PowerState where
  | off | sleep | waking | active | dozing
  deriving DecidableEq, Repr, Inhabited

inductive Transition where
  | none | wake | sleep
  deriving DecidableEq, Repr, Inhabited

inductive LayerSource where
  | ring (n : Fin 8)
  | menu
  | fill (c : Rgb)
  deriving DecidableEq, Repr

/-- A layer record (section 4.4). -/
structure Layer where
  id : Fin 6
  source : LayerSource
  x : Int
  y : Int
  w : Nat
  h : Nat
  alpha : Nat
  visible : Bool
  persist : Bool
  deriving DecidableEq, Repr

/-- Where a composed surface takes its samples from (R88): a fill colour, a ring buffer at its first byte with its
metadata, or a plane buffer at its first byte with its drawn size. -/
inductive SurfaceSource where
  | fill (c : Rgb)
  | picture (base width height : Nat) (format : PixelFormat)
  | plane (base width height : Nat)
  deriving DecidableEq, Repr

/-- The camera views in which a surface is composed (R22): all of them, LIVE alone, or WAITING, LOST and FROZEN. -/
inductive Shows where
  | always | inLive | outOfLive
  deriving DecidableEq, Repr

/-- One surface of a frame as fixed at its frame start (R86): window, global alpha, camera mirror, source, and the views
in which it is composed (R22). -/
structure Surface where
  x : Int
  y : Int
  w : Nat
  h : Nat
  alpha : Nat
  mirror : Bool
  source : SurfaceSource
  shows : Shows
  deriving DecidableEq, Repr

/-- The frame in progress: all that its frame start fixed (R86, R87, R22). `blank` for a blank frame of WAKING or
DOZING, `blanked` for a composed frame output as black (R79). Surfaces stand from bottom to top. `view` is the camera
view as it stood at the frame start; the view itself is not among what R86 fixes (log entry 83). -/
structure FrameInProgress where
  blank : Bool
  blanked : Bool
  width : Nat
  height : Nat
  mirrorX : Bool
  mirrorY : Bool
  background : Rgb
  view : View
  surfaces : List Surface
  deriving DecidableEq, Repr

/-- The panel record (section 4.1), the layer lists from bottom to top (section 4.4), the buffer each layer id
holds (R67) and the frame in progress (R73). -/
structure PanelRecord where
  width : Nat
  height : Nat
  rate : Nat
  mirrorX : Bool
  mirrorY : Bool
  background : Rgb
  level : Nat
  blanked : Bool
  requestActive : Bool
  power : PowerState
  transition : Transition
  blankEnded : Nat
  outBacklight : Nat
  pendingList : List Layer
  activeList : List Layer
  holds : Vector (Option Hold) 6
  frame : Option FrameInProgress
  deriving DecidableEq, Repr

structure Panels where
  front : PanelRecord
  left : PanelRecord
  right : PanelRecord
  deriving DecidableEq, Repr

/-- R92; the power state is OFF until the panel link reaches UP. -/
def PanelRecord.reset : PanelRecord :=
  { width := 1280, height := 800, rate := 60, mirrorX := false, mirrorY := false, background := ⟨0, 0, 0⟩, level := 50,
    blanked := false, requestActive := false, power := .off, transition := .none, blankEnded := 0, outBacklight := 0,
    pendingList := [], activeList := [], holds := Vector.replicate 6 none, frame := none }

def Panels.reset : Panels := { front := .reset, left := .reset, right := .reset }

/-! ### Raster Engine and glyph cache (sections 5.1 to 5.4) -/

inductive Plane where
  | guide | takeover | menuL | menuR
  deriving DecidableEq, Repr, Inhabited

inductive BackState where
  | idle | drawing | done
  deriving DecidableEq, Repr, Inhabited

/-- A plane buffer's drawn size; `none` when its drawn flag is no (R93). -/
structure DrawnSize where
  width : Nat
  height : Nat
  deriving DecidableEq, Repr, Inhabited

/-- A plane (R93): the front buffer is buffer 1 when `frontOne`; `requested` is its flag in the request set (R94). -/
structure PlaneRecord where
  frontOne : Bool
  back : BackState
  drawn0 : Option DrawnSize
  drawn1 : Option DrawnSize
  requested : Bool
  deriving DecidableEq, Repr

/-- One drawing operation of a render: a filled rectangle, a text glyph in a colour, an icon, or the outline of a
box (R41 to R47, R103, R104, R116). Later operations replace what earlier ones drew. -/
inductive DrawOp where
  | rect (x y w h : Int) (c : Argb)
  | glyph (x y : Int) (code : Nat) (c : Argb)
  | icon (x y : Int) (code : Nat)
  | box (x y w h : Int) (c : Argb)
  deriving DecidableEq, Repr

/-- A render in flight: all it draws, as read at its start (R95), and whether the glyph cache was LOADED then. -/
structure Render where
  plane : Plane
  width : Nat
  height : Nat
  ops : List DrawOp
  usesCache : Bool
  deriving DecidableEq, Repr

inductive CacheState where
  | empty | loading | loaded
  deriving DecidableEq, Repr, Inhabited

/-- A glyph cache load (R101): the pinned generation, the page to be read, and the token of the outstanding read;
no read is outstanding while the first one waits for a render's completion. -/
structure GlyphLoad where
  generation : Nat
  page : Nat
  token : Option Nat
  deriving DecidableEq, Repr

structure Raster where
  guide : PlaneRecord
  takeover : PlaneRecord
  menuL : PlaneRecord
  menuR : PlaneRecord
  inFlight : Option Render
  lastSeat : Seat
  cache : CacheState
  glyphSet : Nat
  load : Option GlyphLoad
  fallbackGlyph : Nat
  glyphLoadFail : Nat
  deriving DecidableEq, Repr

def PlaneRecord.reset : PlaneRecord :=
  { frontOne := false, back := .idle, drawn0 := none, drawn1 := none, requested := false }

/-- R93, R95, R98, R100. -/
def Raster.reset : Raster :=
  { guide := .reset, takeover := .reset, menuL := .reset, menuR := .reset, inFlight := none, lastSeat := .right,
    cache := .empty, glyphSet := 0, load := none, fallbackGlyph := 0, glyphLoadFail := 0 }

/-! ### Menu Engine (sections 5.5 to 5.7) -/

inductive Action where
  | subpage (n : Fin 16)
  | report (code : Nat)
  | volumeUp | volumeDown | brightnessUp | brightnessDown | back | close
  deriving DecidableEq, Repr

structure Item where
  label : List Nat
  icon : Option Nat
  enabled : Bool
  action : Action
  deriving DecidableEq, Repr

structure MenuPage where
  title : List Nat
  items : List Item
  deriving DecidableEq, Repr

structure MenuSettings where
  root : Fin 16
  x : Nat
  y : Nat
  width : Nat
  rowHeight : Nat
  background : Argb
  text : Argb
  disabled : Argb
  highlight : Argb
  clickChime : Nat
  bumpChime : Nat
  inactivity : Nat
  deriving DecidableEq, Repr

/-- A page stack entry: a page id and a saved highlight (section 5.6). -/
structure StackEntry where
  page : Fin 16
  saved : Nat
  deriving DecidableEq, Repr

/-- A seat context (section 5.6); the root entry and the entries above it, bottom first. -/
structure SeatContext where
  isOpen : Bool
  locked : Bool
  root : StackEntry
  above : List StackEntry
  highlight : Nat
  timer : Option Nat
  settings : MenuSettings
  keyLocked : Nat
  keyUnknown : Nat
  deriving DecidableEq, Repr

structure Menu where
  pages : Vector (Option MenuPage) 16
  left : SeatContext
  right : SeatContext
  deriving DecidableEq, Repr

/-- The defaults of MENU_SET (R109). -/
def MenuSettings.default : MenuSettings :=
  { root := 0, x := 0, y := 0, width := 480, rowHeight := 40, background := ⟨192, 0, 0, 0⟩,
    text := ⟨255, 255, 255, 255⟩, disabled := ⟨255, 128, 128, 128⟩, highlight := ⟨255, 0, 96, 192⟩,
    clickChime := 255, bumpChime := 255, inactivity := 8 }

/-- R109, R110. -/
def SeatContext.reset : SeatContext :=
  { isOpen := false, locked := false, root := ⟨0, 0⟩, above := [], highlight := 0, timer := none,
    settings := .default, keyLocked := 0, keyUnknown := 0 }

/-- R105, R110. -/
def Menu.reset : Menu := { pages := Vector.replicate 16 none, left := .reset, right := .reset }

/-! ### Zone Mixers (chapter 6) -/

/-- A stereo sample frame. -/
structure StereoFrame where
  left : Int
  right : Int
  deriving DecidableEq, Repr, Inhabited

inductive FifoState where
  | priming | playing
  deriving DecidableEq, Repr, Inhabited

inductive DemandState where
  | none | active | hold
  deriving DecidableEq, Repr, Inhabited

structure ZoneSettings where
  volume : Nat
  mute : Bool
  duckLevel : Nat
  ramp : Nat
  hold : Nat
  deriving DecidableEq, Repr

/-- A zone: its film FIFO, oldest frame first (CABIN's stays empty), settings, duck state and counters, and the
block of 48 frames last handed to its output (R118). -/
structure ZoneRecord where
  settings : ZoneSettings
  fifo : List StereoFrame
  fifoState : FifoState
  demand : DemandState
  voiceDemand : Bool
  holdTimer : Option Nat
  gain : Nat
  output : List StereoFrame
  overflow : Nat
  underflow : Nat
  saturate : Nat
  deriving DecidableEq, Repr

structure Audio where
  volumeTable : Vector Nat 41
  seatL : ZoneRecord
  seatR : ZoneRecord
  cabin : ZoneRecord
  deriving DecidableEq, Repr

/-- The defaults of ZONE_SET (R123). -/
def ZoneSettings.default : ZoneSettings := { volume := 20, mute := false, duckLevel := 8192, ramp := 10, hold := 150 }

/-- R132. -/
def ZoneRecord.reset : ZoneRecord :=
  { settings := .default, fifo := [], fifoState := .priming, demand := .none, voiceDemand := false, holdTimer := none,
    gain := 32768, output := List.replicate 48 ⟨0, 0⟩, overflow := 0, underflow := 0, saturate := 0 }

/-- The default volume table (R122): floor(32768 × s² / 1600) at step s. -/
def defaultVolumeTable : Vector Nat 41 := Vector.ofFn fun s : Fin 41 => 32768 * (s.val * s.val) / 1600

def Audio.reset : Audio := { volumeTable := defaultVolumeTable, seatL := .reset, seatR := .reset, cabin := .reset }

/-! ### Chime Engine (chapter 7) -/

/-- A set of zones. -/
structure ZoneSet where
  seatL : Bool
  seatR : Bool
  cabin : Bool
  deriving DecidableEq, Repr, Inhabited

/-- A defined catalogue entry (section 7.1). -/
structure ChimeEntry where
  asset : Nat
  level : Nat
  priority : Nat
  zones : ZoneSet
  repeats : Nat
  gap : Nat
  duck : Bool
  follows : Bool
  deriving DecidableEq, Repr

/-- A queue entry (section 7.3). -/
structure QueueEntry where
  id : Fin 32
  zones : ZoneSet
  priority : Nat
  repeats : Nat
  proximity : Bool
  arrival : Nat
  deriving DecidableEq, Repr

inductive VoiceState where
  | idle | loading | playing | gap
  deriving DecidableEq, Repr, Inhabited

/-- A voice's page buffer (R144); a READING buffer carries the token of its read. -/
inductive PageBuffer where
  | empty
  | reading (page token : Nat)
  | ready (page : Nat) (bytes : List Byte)
  deriving DecidableEq, Repr

/-- A voice (section 7.4); `arrival` is the arrival number of the request that began it (R142). -/
structure Voice where
  state : VoiceState
  id : Fin 32
  zones : ZoneSet
  priority : Nat
  level : Nat
  duck : Bool
  follows : Bool
  repeats : Nat
  proximity : Bool
  tailing : Bool
  stopping : Bool
  start : Nat
  arrival : Nat
  asset : Nat
  generation : Nat
  length : Nat
  position : Nat
  buffer0 : PageBuffer
  buffer1 : PageBuffer
  gapTimer : Option Nat
  block : List Int
  deriving DecidableEq, Repr

inductive ProximityState where
  | off | quiet | requested | sounding | tailing | suspended
  deriving DecidableEq, Repr, Inhabited

/-- The counters of R151. -/
structure ChimeCounters where
  merged : Nat
  dropped : Nat
  refused : Nat
  undefined : Nat
  notReady : Nat
  underrun : Nat
  readFail : Nat
  deriving DecidableEq, Repr

structure Chime where
  catalogue : Vector (Option ChimeEntry) 32
  queue : List QueueEntry
  voices : Vector Voice 4
  nextStart : Nat
  nextArrival : Nat
  proximity : ProximityState
  proximityId : Option (Fin 32)
  proximityBands : List ProximityBand
  counters : ChimeCounters
  deriving DecidableEq, Repr

def ZoneSet.empty : ZoneSet := ⟨false, false, false⟩
def ChimeCounters.zero : ChimeCounters := ⟨0, 0, 0, 0, 0, 0, 0⟩
def Voice.reset : Voice :=
  { state := .idle, id := 0, zones := .empty, priority := 0, level := 0, duck := false, follows := false, repeats := 0,
    proximity := false, tailing := false, stopping := false, start := 0, arrival := 0, asset := 0, generation := 0,
    length := 0, position := 0, buffer0 := .empty, buffer1 := .empty, gapTimer := none, block := List.replicate 48 0 }

/-- R152. -/
def Chime.reset : Chime :=
  { catalogue := Vector.replicate 32 none, queue := [], voices := Vector.replicate 4 .reset, nextStart := 0,
    nextArrival := 0, proximity := .off, proximityId := none, proximityBands := [], counters := .zero }

/-! ### Asset Store Controller (chapter 8) -/

inductive StoreState where
  | unmounted | mounting | ready
  deriving DecidableEq, Repr, Inhabited

inductive AssetKind where
  | glyphSet | chimePcm | profile
  deriving DecidableEq, Repr, Inhabited

/-- The seven sets of R158: every block is in exactly one. -/
inductive BlockSet where
  | bad | free | reserved | current | retired | eraseList | unclassified
  deriving DecidableEq, Repr, Inhabited

/-- What a page of the array holds: known words, or the free value of that number (Config.unknownPage). -/
inductive ArrayPage where
  | holds (p : Page)
  | unknown (n : Nat)
  deriving DecidableEq, Repr

/-- Who issued a page read (R162, R159, R160). A token tells an outstanding read from a later one. -/
inductive Reader where
  | mountHeader
  | mountCommit
  | voice (v : Fin 4) (token : Nat)
  | glyph (token : Nat)
  | profile (token : Nat)
  deriving DecidableEq, Repr

structure ReadRequest where
  reader : Reader
  block : Fin 256
  page : Nat
  deriving DecidableEq, Repr

/-- The operation in flight (R154). A program carries the words it writes, whether it is the commit program, and
whether its transaction still stands. -/
inductive ArrayOp where
  | idle
  | read (r : ReadRequest)
  | program (block : Fin 256) (page : Nat) (content : Page) (commit live : Bool)
  | badMark (block : Fin 256)
  | erase (blocks : List (Fin 256))
  deriving DecidableEq, Repr

/-- A directory record (R161). -/
structure AssetRecord where
  id : Nat
  kind : AssetKind
  generation : Nat
  length : Nat
  crc : BitVec 32
  blocks : List (Fin 256)
  pins : Nat
  deriving DecidableEq, Repr

/-- An entry of the retired list (R161). -/
structure RetiredEntry where
  id : Nat
  generation : Nat
  blocks : List (Fin 256)
  pins : Nat
  deriving DecidableEq, Repr

inductive TransactionState where
  | none | opened | finishing
  deriving DecidableEq, Repr, Inhabited

inductive FailCause where
  | program | crc | supply | abort | reset
  deriving DecidableEq, Repr, Inhabited

inductive TransactionOutcome where
  | none
  | done
  | failed (cause : FailCause)
  deriving DecidableEq, Repr

inductive TxBufferState where
  | free
  | filling (page : Nat)
  | queued (page : Nat)
  | programming (page : Nat)
  deriving DecidableEq, Repr

/-- A transaction page buffer (R163) with the bytes copied into it so far. -/
structure TxBuffer where
  state : TxBufferState
  bytes : List Byte
  deriving DecidableEq, Repr

/-- The transaction record (R163); `crc` is the CRC register, not yet inverted. -/
structure Transaction where
  state : TransactionState
  id : Nat
  kind : AssetKind
  length : Nat
  generation : Nat
  reserved : List (Fin 256)
  received : Nat
  crc : BitVec 32
  buffer0 : TxBuffer
  buffer1 : TxBuffer
  outcome : TransactionOutcome
  deriving DecidableEq, Repr

/-- The counters of R172. -/
structure StoreCounters where
  readFail : Nat
  programRetry : Nat
  programFail : Nat
  eraseFail : Nat
  opAborted : Nat
  mountDiscard : Nat
  deriving DecidableEq, Repr

/-- An asset block found by the mount (R159): its header, and the commit record of its page 0. -/
structure MountBlock where
  block : Fin 256
  header : BlockHeader
  commit : Option (BitVec 32)
  deriving DecidableEq, Repr

/-- The mount's work (R159, R160): the header reads still to complete, the asset blocks found, the commit page
reads still to complete, and the commit records found on them by block. -/
structure Mount where
  headersLeft : Nat
  blocks : List MountBlock
  commitsLeft : Nat
  commits : List (Fin 256 × BitVec 32)
  deriving DecidableEq, Repr

/-- The Asset Store Controller and its array. `array` lists the pages that are not erased, by page number block × 64
+ page; it is not volatile. `txQueue` and `badMarks` are the two parts of the program queue (R156). -/
structure Store where
  state : StoreState
  sets : Vector BlockSet 256
  eraseList : List (Fin 256)
  directory : List AssetRecord
  retired : List RetiredEntry
  transaction : Transaction
  op : ArrayOp
  aborting : Bool
  reads : List ReadRequest
  txQueue : List Nat
  badMarks : List (Fin 256)
  nextGeneration : Nat
  cursor : Nat
  mount : Mount
  counters : StoreCounters
  array : List (Nat × ArrayPage)
  nextToken : Nat
  freeCount : Nat
  deriving DecidableEq, Repr

def TxBuffer.reset : TxBuffer := { state := .free, bytes := [] }
def Transaction.reset : Transaction :=
  { state := .none, id := 0, kind := .glyphSet, length := 0, generation := 0, reserved := [], received := 0,
    crc := 0xFFFFFFFF#32, buffer0 := .reset, buffer1 := .reset, outcome := .none }
def StoreCounters.zero : StoreCounters := ⟨0, 0, 0, 0, 0, 0⟩
def Mount.reset : Mount := { headersLeft := 0, blocks := [], commitsLeft := 0, commits := [] }

/-- R173, over the array as the reset finds it. -/
def Store.reset (array : List (Nat × ArrayPage)) (nextToken freeCount : Nat) : Store :=
  { state := .unmounted, sets := Vector.replicate 256 .unclassified, eraseList := [], directory := [], retired := [],
    transaction := .reset, op := .idle, aborting := false, reads := [], txQueue := [], badMarks := [],
    nextGeneration := 1, cursor := 0, mount := .reset, counters := .zero, array := array, nextToken := nextToken,
    freeCount := freeCount }

/-! ### Links and the uplink (chapter 9) -/

inductive LinkState where
  | down | training | up
  deriving DecidableEq, Repr, Inhabited

/-- A receiver's assembler (R175); `off` while its link is not UP, when it takes no bytes. -/
inductive Assembler where
  | off | resync | assembling | discarding
  deriving DecidableEq, Repr, Inhabited

/-- A link's state, assembler and counters (R178); a link reports the counters it has. -/
structure LinkRecord where
  state : LinkState
  assembler : Assembler
  linkDown : Nat
  resync : Nat
  overlong : Nat
  runt : Nat
  hdrErr : Nat
  kindViolation : Nat
  payErr : Nat
  trail : Nat
  length : Nat
  replyDrop : Nat
  uplinkDrop : Nat
  deriving DecidableEq, Repr

structure Links where
  downlink : LinkRecord
  uplink : LinkRecord
  camera : LinkRecord
  front : LinkRecord
  left : LinkRecord
  right : LinkRecord
  deriving DecidableEq, Repr

/-- The status codes (R187), numbered by R184. -/
inductive Status where
  | ok | accepted | badCrc | unknown | param | length | busy | inUse | noSpace | notReady | notFound | failed | locked
  deriving DecidableEq, Repr, Inhabited

/-- An uplink packet before its checks are filled in (R179): a REPLY or one of the two NOTICE kinds. -/
inductive UplinkBody where
  | reply (mark : Byte) (status : Status) (code : Byte) (data : List Byte)
  | flags (flags : BitVec 16)
  | select (seat : Seat) (page item code : Nat)
  deriving DecidableEq, Repr

/-- An uplink packet; `retrains` on the reply of a LINK_RETRAIN of the uplink (R182). -/
structure UplinkPacket where
  body : UplinkBody
  retrains : Bool
  deriving DecidableEq, Repr

/-- The uplink queue, the packet being sent first, and the reply waiting for room (R180). -/
structure Uplink where
  queue : List UplinkPacket
  waiting : Option UplinkPacket
  deriving DecidableEq, Repr

/-- R183: a link in DOWN enters TRAINING at the same event (R174). -/
def LinkRecord.reset : LinkRecord :=
  { state := .training, assembler := .off, linkDown := 0, resync := 0, overlong := 0, runt := 0, hdrErr := 0,
    kindViolation := 0, payErr := 0, trail := 0, length := 0, replyDrop := 0, uplinkDrop := 0 }

def Links.reset : Links :=
  { downlink := .reset, uplink := .reset, camera := .reset, front := .reset, left := .reset, right := .reset }

def Uplink.reset : Uplink := { queue := [], waiting := none }

/-! ### Control Interpreter and Attention Unit (chapter 10) -/

/-- A packet of the control FIFO: mark, command code, parameters, and whether its payload check passed (R186). -/
structure ControlPacket where
  mark : Byte
  code : Byte
  params : List Byte
  good : Bool
  deriving DecidableEq, Repr

inductive StartPhase where
  | starting | profile | running
  deriving DecidableEq, Repr, Inhabited

inductive ProfileOutcome where
  | none | complete | cutShort
  deriving DecidableEq, Repr, Inhabited

/-- A soft reset on its way (R197): its reply waits for room; or it has taken effect at the moment its reply was
appended or dropped, and these of the packets that waited in the FIFO then are still to be answered FAILED. -/
inductive SoftReset where
  | none
  | arranged
  | failing (rest : List ControlPacket)
  deriving DecidableEq, Repr

/-- The profile being applied (R194): its pinned generation and length, the offset of the next entry, the bytes read
from that offset on and not yet taken, the next page to read, the token of the outstanding read. -/
structure ProfileRun where
  generation : Nat
  length : Nat
  offset : Nat
  bytes : List Byte
  nextPage : Nat
  token : Option Nat
  deriving DecidableEq, Repr

structure Control where
  fifo : List ControlPacket
  softReset : SoftReset
  phase : StartPhase
  outcome : ProfileOutcome
  executed : Nat
  profile : Option ProfileRun
  profileTurn : Bool
  ctrlOverflow : Nat
  profileReject : Nat
  deriving DecidableEq, Repr

/-- The flag set and the notice mask; bit n for flag n (R191). -/
structure Attention where
  flags : BitVec 16
  mask : BitVec 16
  deriving DecidableEq, Repr

/-- R193. -/
def Control.reset : Control :=
  { fifo := [], softReset := .none, phase := .starting, outcome := .none, executed := 0, profile := none,
    profileTurn := true, ctrlOverflow := 0, profileReject := 0 }

/-- R192: every flag clear, every mask bit set. -/
def Attention.reset : Attention := { flags := 0, mask := 0x0FFF }

/-! ### The part -/

/-- What the part has put on an output, for the outside to see: an uplink transmission (its last byte carries the end
flag, R179), a backlight message on a panel link (R80), or a whole output frame on a panel link, row by row (R90). -/
inductive Output where
  | uplink (bytes : List Byte)
  | backlight (panel : Panel) (level : Nat)
  | frame (panel : Panel) (rows : List (List Rgb))
  deriving DecidableEq, Repr

/-- The whole part. `mem` is the frame memory (section 4.1): the bytes that are not 0, addresses rising. `pending` is
the queue of commands and events still to come, first first. `out` is the trace of the messages sent, newest first. -/
structure State where
  vehicle : Vehicle
  takeover : Takeover
  guide : Guide
  streams : Streams
  panels : Panels
  raster : Raster
  menu : Menu
  audio : Audio
  chime : Chime
  store : Store
  links : Links
  uplink : Uplink
  control : Control
  attention : Attention
  mem : List Host.Cell
  pending : List Instr
  out : List Output
  deriving DecidableEq, Repr

/-- Every block in its full-reset state, over what a full reset does not touch: the raw pin level, the frame memory,
the array, the queue of commands, the trace of outputs (R193 and the reset rule of each chapter). -/
def State.resetOver (pinRaw : Bool) (mem : List Host.Cell) (array : List (Nat × ArrayPage)) (nextToken freeCount : Nat)
    (pending : List Instr) (out : List Output) : State :=
  { vehicle := .reset pinRaw, takeover := .reset, guide := .reset, streams := .reset, panels := .reset, raster := .reset,
    menu := .reset, audio := .reset, chime := .reset, store := .reset array nextToken freeCount, links := .reset,
    uplink := .reset, control := .reset, attention := .reset, mem := mem, pending := pending, out := out }

/-- The part right after a full reset at its first power-on: the array erased, the frame memory listing nothing, the
REVERSE pin deasserted (log entries 1, 2 and 5), no command waiting. -/
def State.reset : State := State.resetOver false [] [] 0 0 [] []

/-- Why a step stops with a fault. -/
inductive Fault where
  /-- Raised by a line write whose bytes do not lie in the frame memory of section 4.1: an address that does not exist.
  Safe: the model stops where the manual describes no such write, and no state reached from reset stages one. -/
  | frameMemoryRange (address : Nat)
  deriving DecidableEq, Repr

/-- Why a step is refused. -/
inductive Refusal where
  /-- Raised by `exec` for a row of the table that has no meaning yet. Safe: nothing is claimed of such a row. -/
  | notModelled (mnemonic : String)
  deriving DecidableEq, Repr

end Sys2Proof.Machine
end

