-- ==== Sys2Proof/Machine/Ops.lean ====
section
/-! DEFINITION. The named operations over the frame memory, over the parts of the state that come in numbers (panels,
zones, seats, planes, links, receivers, tags, rings, voices), and the Uplink Transmitter's handing-over of R180. -/

namespace Sys2Proof.Machine

/-! ### Frame memory (section 4.1) -/

/-- What an address that the memory does not list reads as: 0 (log entry 1). -/
def Memory.unlisted (_address : Nat) : Byte := 0#8

/-- The canonical form: addresses strictly rising, and no entry equal to what an unlisted address reads as. -/
abbrev Memory.wf (m : List Host.Cell) : Prop :=
  m.Pairwise (fun c d => c.1 < d.1) ∧ ∀ c ∈ m, c.2 ≠ Memory.unlisted c.1

/-- The byte at an address. -/
def Memory.read (m : List Host.Cell) (a : Nat) : Byte :=
  match m.find? (fun c => c.1 == a) with
  | some c => c.2
  | none => Memory.unlisted a

/-- The entries of consecutive bytes from an address, without those an unlisted address reads as. -/
def Memory.cells : Nat → List Byte → List Host.Cell
  | _, [] => []
  | a, b :: bs => if b = Memory.unlisted a then Memory.cells (a + 1) bs else (a, b) :: Memory.cells (a + 1) bs

/-- Consecutive bytes written from an address on. -/
def Memory.writeBlock (m : List Host.Cell) (a : Nat) (bs : List Byte) : List Host.Cell :=
  m.filter (fun c => c.1 < a) ++ (Memory.cells a bs ++ m.filter (fun c => a + bs.length ≤ c.1))

/-- Consecutive bytes read from an address on. -/
def Memory.readBlock (m : List Host.Cell) (a n : Nat) : List Byte :=
  let near := m.filter (fun c => a ≤ c.1 && c.1 < a + n)
  (List.range n).map fun i => Memory.read near (a + i)

/-! ### Parts that come in numbers -/

def State.panel (s : State) : Panel → PanelRecord
  | .front => s.panels.front
  | .left => s.panels.left
  | .right => s.panels.right

def State.setPanel (s : State) (p : Panel) (r : PanelRecord) : State :=
  match p with
  | .front => { s with panels.front := r }
  | .left => { s with panels.left := r }
  | .right => { s with panels.right := r }

def State.zone (s : State) : Zone → ZoneRecord
  | .seatL => s.audio.seatL
  | .seatR => s.audio.seatR
  | .cabin => s.audio.cabin

def State.setZone (s : State) (z : Zone) (r : ZoneRecord) : State :=
  match z with
  | .seatL => { s with audio.seatL := r }
  | .seatR => { s with audio.seatR := r }
  | .cabin => { s with audio.cabin := r }

def State.seat (s : State) : Seat → SeatContext
  | .left => s.menu.left
  | .right => s.menu.right

def State.setSeat (s : State) (k : Seat) (c : SeatContext) : State :=
  match k with
  | .left => { s with menu.left := c }
  | .right => { s with menu.right := c }

def State.plane (s : State) : Plane → PlaneRecord
  | .guide => s.raster.guide
  | .takeover => s.raster.takeover
  | .menuL => s.raster.menuL
  | .menuR => s.raster.menuR

def State.setPlane (s : State) (p : Plane) (r : PlaneRecord) : State :=
  match p with
  | .guide => { s with raster.guide := r }
  | .takeover => { s with raster.takeover := r }
  | .menuL => { s with raster.menuL := r }
  | .menuR => { s with raster.menuR := r }

def State.link (s : State) : Link → LinkRecord
  | .downlink => s.links.downlink
  | .uplink => s.links.uplink
  | .camera => s.links.camera
  | .front => s.links.front
  | .left => s.links.left
  | .right => s.links.right

def State.setLink (s : State) (l : Link) (r : LinkRecord) : State :=
  match l with
  | .downlink => { s with links.downlink := r }
  | .uplink => { s with links.uplink := r }
  | .camera => { s with links.camera := r }
  | .front => { s with links.front := r }
  | .left => { s with links.left := r }
  | .right => { s with links.right := r }

def State.port (s : State) : VideoRx → VideoPort
  | .downlink => s.streams.downlink
  | .camera => s.streams.camera

def State.setPort (s : State) (x : VideoRx) (p : VideoPort) : State :=
  match x with
  | .downlink => { s with streams.downlink := p }
  | .camera => { s with streams.camera := p }

def State.tag (s : State) (t : Fin 32) : TagRecord := s.streams.tags[t]

def State.setTag (s : State) (t : Fin 32) (r : TagRecord) : State :=
  { s with streams.tags := s.streams.tags.set t r }

def State.ring (s : State) (n : Fin 8) : Ring := s.streams.rings[n]

def State.setRing (s : State) (n : Fin 8) (r : Ring) : State :=
  { s with streams.rings := s.streams.rings.set n r }

def State.voice (s : State) (v : Fin 4) : Voice := s.chime.voices[v]

def State.setVoice (s : State) (v : Fin 4) (r : Voice) : State :=
  { s with chime.voices := s.chime.voices.set v r }

def State.page (s : State) (n : Fin 16) : Option MenuPage := s.menu.pages[n]

def State.setPage (s : State) (n : Fin 16) (p : Option MenuPage) : State :=
  { s with menu.pages := s.menu.pages.set n p }

end Sys2Proof.Machine

namespace Sys2Proof

open Machine

/-- The link a video receiver listens to. -/
def VideoRx.link : VideoRx → Link
  | .downlink => .downlink
  | .camera => .camera

/-- The link of a panel. -/
def Panel.link : Panel → Link
  | .front => .front
  | .left => .left
  | .right => .right

/-- A seat's panel, zone and menu plane (sections 4.4, 5.6). -/
def Seat.panel : Seat → Panel
  | .left => .left
  | .right => .right

def Seat.zone : Seat → Zone
  | .left => .seatL
  | .right => .seatR

def Seat.plane : Seat → Plane
  | .left => .menuL
  | .right => .menuR

end Sys2Proof

namespace Sys2Proof.Machine

/-- The named values of a panel, seat, zone and link, numbered in the order their chapters list them (R185). -/
def panel? : Nat → Option Panel
  | 0 => some .front
  | 1 => some .left
  | 2 => some .right
  | _ => none

def seat? : Nat → Option Seat
  | 0 => some .left
  | 1 => some .right
  | _ => none

def zone? : Nat → Option Zone
  | 0 => some .seatL
  | 1 => some .seatR
  | 2 => some .cabin
  | _ => none

def link? : Nat → Option Link
  | 0 => some .downlink
  | 1 => some .uplink
  | 2 => some .camera
  | 3 => some .front
  | 4 => some .left
  | 5 => some .right
  | _ => none

/-! ### Sets of zones -/

def ZoneSet.has (z : ZoneSet) : Zone → Bool
  | .seatL => z.seatL
  | .seatR => z.seatR
  | .cabin => z.cabin

def ZoneSet.single : Zone → ZoneSet
  | .seatL => ⟨true, false, false⟩
  | .seatR => ⟨false, true, false⟩
  | .cabin => ⟨false, false, true⟩

def ZoneSet.union (a b : ZoneSet) : ZoneSet := ⟨a.seatL || b.seatL, a.seatR || b.seatR, a.cabin || b.cabin⟩
def ZoneSet.inter (a b : ZoneSet) : ZoneSet := ⟨a.seatL && b.seatL, a.seatR && b.seatR, a.cabin && b.cabin⟩
def ZoneSet.minus (a b : ZoneSet) : ZoneSet := ⟨a.seatL && !b.seatL, a.seatR && !b.seatR, a.cabin && !b.cabin⟩
def ZoneSet.isEmpty (a : ZoneSet) : Bool := !(a.seatL || a.seatR || a.cabin)

/-- A set of zones from its byte (R185): bit 0 SEAT_L, bit 1 SEAT_R, bit 2 CABIN; none when another bit is set. -/
def zoneSet? (n : Nat) : Option ZoneSet :=
  if n < 8 then some ⟨n.testBit 0, n.testBit 1, n.testBit 2⟩ else none

def ZoneSet.byte (z : ZoneSet) : Byte :=
  BitVec.ofNat 8 ((if z.seatL then 1 else 0) + (if z.seatR then 2 else 0) + (if z.cabin then 4 else 0))

/-- The zones in their order. -/
def zones : List Zone := [.seatL, .seatR, .cabin]

/-! ### The Uplink Transmitter's queue (R180) -/

/-- A NOTICE handed over: appended with the uplink UP and room in the queue, dropped and counted otherwise. -/
def handNotice (b : UplinkBody) (s : State) : State :=
  if s.links.uplink.state = .up ∧ s.uplink.queue.length < Config.uplinkPackets then
    { s with uplink.queue := s.uplink.queue ++ [⟨b, false⟩] }
  else { s with links.uplink.uplinkDrop := bump s.links.uplink.uplinkDrop }

/-- A REPLY handed over: discarded and counted with the uplink not UP, appended with room in the queue, left waiting
otherwise. -/
def handReply (p : UplinkPacket) (s : State) : State :=
  if s.links.uplink.state = .up then
    if s.uplink.queue.length < Config.uplinkPackets then { s with uplink.queue := s.uplink.queue ++ [p] }
    else { s with uplink.waiting := some p }
  else { s with links.uplink.replyDrop := bump s.links.uplink.replyDrop }

/-- A message on an output. -/
def emit (o : Output) (s : State) : State := { s with out := o :: s.out }

end Sys2Proof.Machine
end

