-- ==== Sys2Proof/Machine/Operands.lean ====
section
/-! DEFINITION. The parameters of a CTRL packet (R185): each command's items, in the order its chapter lists them,
read from the parameter area and written to it. An area that is not exactly as long as its items is no command's: its
packet is answered LENGTH. -/

namespace Sys2Proof.Machine

/-! ### Reading -/

/-- A reader of items: the item and the bytes after it, or none when the area is too short. -/
abbrev Reading (α : Type) := StateT (List Byte) Option α

def readU8 : Reading Nat := fun bs =>
  match bs with
  | b :: rest => some (b.toNat, rest)
  | [] => none

def readByte : Reading Byte := fun bs =>
  match bs with
  | b :: rest => some (b, rest)
  | [] => none

def readU16 : Reading Nat := fun bs =>
  match bs with
  | b1 :: b0 :: rest => some (beNat [b1, b0], rest)
  | _ => none

def readU32 : Reading Nat := fun bs =>
  match bs with
  | b3 :: b2 :: b1 :: b0 :: rest => some (beNat [b3, b2, b1, b0], rest)
  | _ => none

def readI8 : Reading Int := do return signedOf 1 (← readU8)
def readI16 : Reading Int := do return signedOf 2 (← readU16)

def readRgb : Reading Rgb := do return ⟨← readByte, ← readByte, ← readByte⟩
def readArgb : Reading Argb := do return ⟨← readByte, ← readByte, ← readByte, ← readByte⟩

/-- n items one after another. -/
def readMany {α : Type} (r : Reading α) : Nat → Reading (List α)
  | 0 => pure []
  | n + 1 => do
    let x ← r
    let xs ← readMany r n
    return x :: xs

/-- A list: a count of 1 byte, then the entries. -/
def readList {α : Type} (r : Reading α) : Reading (List α) := do readMany r (← readU8)

/-- A value that may be absent: a presence byte, then the value when it is 1. A presence byte of neither value reads no
value after it, and its owner answers PARAM (log entry 26). -/
def readOptional {α : Type} (r : Reading α) : Reading (Optional α) := do
  let n ← readU8
  if n = 0 then return .absent
  else if n = 1 then return .present (← r)
  else return .badPresence

def readText : Reading (List Nat) := readList readU8
def readMessage : Reading Message := do return ⟨← readU8, ← readText⟩

def readTagSet : Reading TagSetParams := do
  return { tag := ← readU8, kind := ← readU8, source := ← readU8, width := ← readU16, height := ← readU16,
           format := ← readU8, ring := ← readU8, damage := ← readU8, channels := ← readU8, zones := ← readU8 }

def readRingSet : Reading RingSetParams := do
  return { ring := ← readU8, base := ← readU32, count := ← readU8, stride := ← readU32 }

def readPanelSet : Reading PanelSetParams := do
  return { panel := ← readU8, width := ← readU16, height := ← readU16, rate := ← readU8, mirrorX := ← readU8,
           mirrorY := ← readU8, background := ← readRgb }

/-- LAYER_SET's parameters: its layer id is the layer id of the record, carried once (R82; log entry 65). -/
def readLayerSet : Reading LayerSetParams := do
  return { panel := ← readU8, layer := ← readU8, source := ← readU8, sourceArg := ← readU8,
           fill := ← readOptional readRgb, x := ← readI16, y := ← readI16, w := ← readU16, h := ← readU16,
           alpha := ← readU8, visible := ← readU8, persist := ← readU8, placement := ← readU8,
           placementArg := ← readU8 }

def readCameraSet : Reading CameraSetParams := do
  return { tag := ← readU8, x := ← readU16, y := ← readU16, w := ← readU16, h := ← readU16, mirror := ← readU8 }

def readTakeoverSet : Reading TakeoverSetParams := do
  return { freshness := ← readU16, debounce := ← readU8, startTimeout := ← readU16, watchdogCode := ← readU8,
           watchdogAction := ← readU8, linger := ← readU16, exitSpeed := ← readU16, engageChime := ← readU8,
           duckRear := ← readU8, starting := ← readMessage, unavailable := ← readMessage }

def readGuideSet : Reading GuideSetParams := do
  return { mode := ← readU8, polarity := ← readI8, halfWidth := ← readU16, overhang := ← readU16, slew := ← readU16,
           stopBar := ← readU8 }

def readRow : Reading RowParams := do
  return { d := ← readU16, v := ← readU16, scale := ← readU16, c := ← readU16, w := ← readU8, marker := ← readU8 }

def readGuideBand : Reading GuideBand := do return { limit := ← readU16, colour := ← readArgb }

def readMenuSet : Reading MenuSetParams := do
  return { seat := ← readU8, root := ← readU8, x := ← readU16, y := ← readU16, width := ← readU16,
           rowHeight := ← readU8, background := ← readArgb, text := ← readArgb, disabled := ← readArgb,
           highlight := ← readArgb, clickChime := ← readU8, bumpChime := ← readU8, inactivity := ← readU8,
           glyphSet := ← readU16 }

def readItem : Reading ItemParams := do
  return { label := ← readText, icon := ← readOptional readU8, enabled := ← readU8, action := ← readU8,
           actionArg := ← readU8 }

def readZone : Reading ZoneParams := do
  return { volume := ← readU8, mute := ← readU8, duckLevel := ← readU16, ramp := ← readU8, hold := ← readU16 }

def readChime : Reading ChimeParams := do
  return { asset := ← readU16, level := ← readU16, priority := ← readU8, zones := ← readU8, repeats := ← readU8,
           gap := ← readU16, duck := ← readU8, follows := ← readU8 }

def readProximityBand : Reading ProximityBand := do return { limit := ← readU16, gap := ← readU16 }

/-- The items of CHIME_DEFINE: DEFINE alone carries an entry (R133, log entry 12). -/
def readChimeDefine : Reading Command := do
  let id ← readU8
  let option ← readU8
  if option = 0 then return .chimeDefine id option (some (← readChime))
  else return .chimeDefine id option none

def readAssetData : Reading Command := do
  let offset ← readU32
  let count ← readU16
  return .assetData offset (← readMany readByte count)

/-- The parameter length in bytes that the count of a ROW_TABLE_SET gives (R31): the count, and 10 bytes for each entry. -/
def rowTableLength (rows : List RowParams) : Nat := 1 + 10 * rows.length

/-- The bytes of a menu item (R105, R185): its label with a count, its icon with a presence byte, three bytes more. -/
def itemLength (i : ItemParams) : Nat :=
  1 + i.label.length + (match i.icon with
    | .present _ => 2
    | .absent => 1
    | .badPresence => 1) + 3

/-- The parameter length in bytes that the counts of a PAGE_SET give (R106): the page id, the title with its count, and the
items with theirs. -/
def pageLength (title : List Nat) (items : List ItemParams) : Nat := 3 + title.length + (items.map itemLength).sum

/-- The items of a ROW_TABLE_SET or a PAGE_SET. A packet whose area is read to its end has the length that its counts give,
so that its owner's own check of the length (R31, R106) never fails after check 5 of R186 (log entry 67). -/
def readRowTableSet : Reading Command := do
  let rows ← readList readRow
  return .rowTableSet ⟨rowTableLength rows, rows⟩

def readPageSet : Reading Command := do
  let page ← readU8
  let title ← readText
  let items ← readList readItem
  return .pageSet page title ⟨pageLength title items, items⟩

/-- The items of the command with a code of the command table (R188); none for a code of no command. -/
def readCommand : Nat → Option (Reading Command)
  | 1 => some (do return .tagSet (← readTagSet))
  | 2 => some (do return .tagClear (← readU8))
  | 3 => some (do return .tagRead (← readU8))
  | 4 => some (do return .ringSet (← readRingSet))
  | 10 => some (do return .panelSet (← readPanelSet))
  | 11 => some (do return .panelWake (← readU8))
  | 12 => some (do return .panelSleep (← readU8))
  | 13 => some (do return .panelBlank (← readU8))
  | 14 => some (do return .panelShow (← readU8))
  | 15 => some (do return .panelLevel (← readU8) (← readU8))
  | 16 => some (do return .layerSet (← readLayerSet))
  | 17 => some (do return .layerClear (← readU8) (← readU8))
  | 18 => some (do return .panelRead (← readU8))
  | 20 => some (do return .cameraSet (← readCameraSet))
  | 21 => some (do return .takeoverSet (← readTakeoverSet))
  | 22 => some (pure .takeoverDismiss)
  | 23 => some (pure .takeoverRead)
  | 30 => some (do return .guideSet (← readGuideSet))
  | 31 => some (do return .steerTableSet (← readMany readU16 9))
  | 32 => some readRowTableSet
  | 33 => some (do return .bandTableSet (← readList readGuideBand))
  | 40 => some (do return .menuSet (← readMenuSet))
  | 41 => some readPageSet
  | 42 => some (do return .pageClear (← readU8))
  | 43 => some (do return .itemSet (← readU8) (← readU8) (← readItem))
  | 44 => some (do return .menuOpen (← readU8))
  | 45 => some (do return .menuClose (← readU8))
  | 46 => some (do return .menuLock (← readU8) (← readU8))
  | 50 => some (do return .zoneSet (← readU8) (← readU8) (← readZone))
  | 51 => some (do return .volumeTableSet (← readMany readU16 41))
  | 60 => some readChimeDefine
  | 61 => some (do return .chimePlay (← readU8) (← readU8))
  | 62 => some (do return .chimeStop (← readU8))
  | 63 => some (do return .proximitySet (← readU8) (← readList readProximityBand))
  | 70 => some (do return .assetBegin (← readU16) (← readU8) (← readU32))
  | 71 => some readAssetData
  | 72 => some (do return .assetEnd (BitVec.ofNat 32 (← readU32)))
  | 73 => some (do return .assetDelete (← readU16))
  | 74 => some (do return .assetInfo (← readU16))
  | 75 => some (pure .storeStatus)
  | 76 => some (pure .storeAbort)
  | 80 => some (do return .linkRetrain (← readU8))
  | 81 => some (do return .countersRead (← readU8) (← readU8))
  | 82 => some (do return .attentionAck (BitVec.ofNat 16 (← readU16)))
  | 83 => some (do return .noticeMaskSet (BitVec.ofNat 16 (← readU16)))
  | 84 => some (pure .identify)
  | 85 => some (pure .softReset)
  | _ => none

/-- The command of a code with a parameter area, or none when the area is not as long as its items (R185). -/
def decodeParams (r : Reading Command) (params : List Byte) : Option Command :=
  match r params with
  | some (c, []) => some c
  | _ => none

/-! ### Writing -/

def u8 (n : Nat) : List Byte := [BitVec.ofNat 8 n]
def u16 (n : Nat) : List Byte := beBytes 2 n
def u32 (n : Nat) : List Byte := beBytes 4 n
def i8 (x : Int) : List Byte := beInt 1 x
def i16 (x : Int) : List Byte := beInt 2 x
def rgbBytes (c : Rgb) : List Byte := [c.r, c.g, c.b]
def argbBytes (c : Argb) : List Byte := [c.a, c.r, c.g, c.b]

/-- A list: its count in 1 byte, then its entries. -/
def listBytes {α : Type} (f : α → List Byte) (xs : List α) : List Byte := u8 xs.length ++ xs.flatMap f

/-- A value or none: a presence byte, then the value when there is one. -/
def optionBytes {α : Type} (f : α → List Byte) : Option α → List Byte
  | none => u8 0
  | some x => u8 1 ++ f x

def optionalBytes {α : Type} (f : α → List Byte) : Optional α → List Byte
  | .absent => u8 0
  | .present x => u8 1 ++ f x
  | .badPresence => u8 2

def messageBytes (m : Message) : List Byte := u8 m.icon ++ listBytes u8 m.text

def itemBytes (i : ItemParams) : List Byte :=
  listBytes u8 i.label ++ optionalBytes u8 i.icon ++ u8 i.enabled ++ u8 i.action ++ u8 i.actionArg

def rowBytes (r : RowParams) : List Byte := u16 r.d ++ u16 r.v ++ u16 r.scale ++ u16 r.c ++ u8 r.w ++ u8 r.marker

def chimeBytes (p : ChimeParams) : List Byte :=
  u16 p.asset ++ u16 p.level ++ u8 p.priority ++ u8 p.zones ++ u8 p.repeats ++ u16 p.gap ++ u8 p.duck ++ u8 p.follows

end Sys2Proof.Machine

namespace Sys2Proof

open Machine

/-- A command's parameter area (R185). -/
def Command.params : Command → List Byte
  | .tagSet p => u8 p.tag ++ u8 p.kind ++ u8 p.source ++ u16 p.width ++ u16 p.height ++ u8 p.format ++ u8 p.ring
      ++ u8 p.damage ++ u8 p.channels ++ u8 p.zones
  | .tagClear t => u8 t
  | .tagRead t => u8 t
  | .ringSet p => u8 p.ring ++ u32 p.base ++ u8 p.count ++ u32 p.stride
  | .panelSet p => u8 p.panel ++ u16 p.width ++ u16 p.height ++ u8 p.rate ++ u8 p.mirrorX ++ u8 p.mirrorY
      ++ rgbBytes p.background
  | .panelWake p => u8 p
  | .panelSleep p => u8 p
  | .panelBlank p => u8 p
  | .panelShow p => u8 p
  | .panelLevel p l => u8 p ++ u8 l
  | .layerSet p => u8 p.panel ++ u8 p.layer ++ u8 p.source ++ u8 p.sourceArg ++ optionalBytes rgbBytes p.fill
      ++ i16 p.x ++ i16 p.y ++ u16 p.w ++ u16 p.h ++ u8 p.alpha ++ u8 p.visible ++ u8 p.persist ++ u8 p.placement
      ++ u8 p.placementArg
  | .layerClear p l => u8 p ++ u8 l
  | .panelRead p => u8 p
  | .cameraSet p => u8 p.tag ++ u16 p.x ++ u16 p.y ++ u16 p.w ++ u16 p.h ++ u8 p.mirror
  | .takeoverSet p => u16 p.freshness ++ u8 p.debounce ++ u16 p.startTimeout ++ u8 p.watchdogCode
      ++ u8 p.watchdogAction ++ u16 p.linger ++ u16 p.exitSpeed ++ u8 p.engageChime ++ u8 p.duckRear
      ++ messageBytes p.starting ++ messageBytes p.unavailable
  | .takeoverDismiss => []
  | .takeoverRead => []
  | .guideSet p => u8 p.mode ++ i8 p.polarity ++ u16 p.halfWidth ++ u16 p.overhang ++ u16 p.slew ++ u8 p.stopBar
  | .steerTableSet vs => vs.flatMap u16
  | .rowTableSet rows => listBytes rowBytes rows.entries
  | .bandTableSet bands => listBytes (fun b => u16 b.limit ++ argbBytes b.colour) bands
  | .menuSet p => u8 p.seat ++ u8 p.root ++ u16 p.x ++ u16 p.y ++ u16 p.width ++ u8 p.rowHeight
      ++ argbBytes p.background ++ argbBytes p.text ++ argbBytes p.disabled ++ argbBytes p.highlight
      ++ u8 p.clickChime ++ u8 p.bumpChime ++ u8 p.inactivity ++ u16 p.glyphSet
  | .pageSet n title items => u8 n ++ listBytes u8 title ++ listBytes itemBytes items.entries
  | .pageClear n => u8 n
  | .itemSet n i p => u8 n ++ u8 i ++ itemBytes p
  | .menuOpen k => u8 k
  | .menuClose k => u8 k
  | .menuLock k l => u8 k ++ u8 l
  | .zoneSet z o p => u8 z ++ u8 o ++ u8 p.volume ++ u8 p.mute ++ u16 p.duckLevel ++ u8 p.ramp ++ u16 p.hold
  | .volumeTableSet vs => vs.flatMap u16
  | .chimeDefine n o p => u8 n ++ u8 o ++ (match p with | some e => chimeBytes e | none => [])
  | .chimePlay n z => u8 n ++ u8 z
  | .chimeStop n => u8 n
  | .proximitySet n bands => u8 n ++ listBytes (fun b => u16 b.limit ++ u16 b.gap) bands
  | .assetBegin n k l => u16 n ++ u8 k ++ u32 l
  | .assetData o bs => u32 o ++ u16 bs.length ++ bs
  | .assetEnd c => u32 c.toNat
  | .assetDelete n => u16 n
  | .assetInfo n => u16 n
  | .storeStatus => []
  | .storeAbort => []
  | .linkRetrain l => u8 l
  | .countersRead g c => u8 g ++ u8 c
  | .attentionAck f => u16 f.toNat
  | .noticeMaskSet m => u16 m.toNat
  | .identify => []
  | .softReset => []

/-- A command's code (R188). -/
def Command.code : Command → Nat
  | .tagSet _ => 1
  | .tagClear _ => 2
  | .tagRead _ => 3
  | .ringSet _ => 4
  | .panelSet _ => 10
  | .panelWake _ => 11
  | .panelSleep _ => 12
  | .panelBlank _ => 13
  | .panelShow _ => 14
  | .panelLevel _ _ => 15
  | .layerSet _ => 16
  | .layerClear _ _ => 17
  | .panelRead _ => 18
  | .cameraSet _ => 20
  | .takeoverSet _ => 21
  | .takeoverDismiss => 22
  | .takeoverRead => 23
  | .guideSet _ => 30
  | .steerTableSet _ => 31
  | .rowTableSet _ => 32
  | .bandTableSet _ => 33
  | .menuSet _ => 40
  | .pageSet _ _ _ => 41
  | .pageClear _ => 42
  | .itemSet _ _ _ => 43
  | .menuOpen _ => 44
  | .menuClose _ => 45
  | .menuLock _ _ => 46
  | .zoneSet _ _ _ => 50
  | .volumeTableSet _ => 51
  | .chimeDefine _ _ _ => 60
  | .chimePlay _ _ => 61
  | .chimeStop _ => 62
  | .proximitySet _ _ => 63
  | .assetBegin _ _ _ => 70
  | .assetData _ _ => 71
  | .assetEnd _ => 72
  | .assetDelete _ => 73
  | .assetInfo _ => 74
  | .storeStatus => 75
  | .storeAbort => 76
  | .linkRetrain _ => 80
  | .countersRead _ _ => 81
  | .attentionAck _ => 82
  | .noticeMaskSet _ => 83
  | .identify => 84
  | .softReset => 85

end Sys2Proof

namespace Sys2Proof.Machine

/-! ### What a command answers -/

/-- What is done as the reply is handed over: nothing; the uplink's retrain waits for the reply's send completion
(R182); a FLAGS notice follows the reply (R192); the soft reset is arranged (R197). -/
inductive After where
  | nothing | retrainUplink | flagsNotice | softReset
  deriving DecidableEq, Repr

/-- A command's answer by its owner: status, result data, the state it leaves, and what follows. -/
structure Answer where
  status : Status
  data : List Byte
  state : State
  after : After

/-- A refusal leaves the state as it was and carries no result data. -/
def refuse (st : Status) (s : State) : Answer := ⟨st, [], s, .nothing⟩

/-- OK with no result data. -/
def done (s : State) : Answer := ⟨.ok, [], s, .nothing⟩

/-- OK with result data. -/
def report (data : List Byte) (s : State) : Answer := ⟨.ok, data, s, .nothing⟩

end Sys2Proof.Machine
end

