-- ==== Sys2Proof/Machine/Guide.lean ====
section
/-! DEFINITION. The Guide Geometry Unit (chapter 2): settings and tables, the computation at a camera frame, and what
a GUIDE render draws. -/

namespace Sys2Proof.Machine

/-! ### Settings and tables (R28 to R32) -/

/-- The effective guide mode (R29); `GuideMode.off` is NONE. -/
def Guide.effectiveMode (g : Guide) : GuideMode :=
  if g.rowTable = [] ∨ g.bandTable = [] then .off else g.settings.mode

/-- Whether a mode draws the static lines, and the dynamic lines. -/
def GuideMode.hasStatic : GuideMode → Bool
  | .static | .both => true
  | .off | .dynamic => false

def GuideMode.hasDynamic : GuideMode → Bool
  | .dynamic | .both => true
  | .off | .static => false

def guideMode? : Nat → Option GuideMode
  | 0 => some .off
  | 1 => some .static
  | 2 => some .dynamic
  | 3 => some .both
  | _ => none

/-- The settings a GUIDE_SET carries, when they are valid (R28). -/
def guideSettings? (p : GuideSetParams) : Option GuideSettings := do
  let mode ← guideMode? p.mode
  let bar ← flag? p.stopBar
  if (p.polarity = 1 ∨ p.polarity = -1) ∧ 500 ≤ p.halfWidth ∧ p.halfWidth ≤ 1200 ∧ 300 ≤ p.overhang
      ∧ p.overhang ≤ 1500 ∧ 1 ≤ p.slew ∧ p.slew ≤ 30000 then
    some { mode := mode, polarity := p.polarity, halfWidth := p.halfWidth, overhang := p.overhang, slew := p.slew,
           stopBar := bar }
  else none

/-- GUIDE_SET (R28), less the check of R25. -/
def guideSet (p : GuideSetParams) (s : State) : Answer :=
  match guideSettings? p with
  | none => refuse .param s
  | some t => done { s with guide.settings := t }

/-- STEER_TABLE_SET (R30), less the check of R25. Another number of values than 9 is PARAM here, at the owner: the model's
choice, since R30 names no such case, and a packet with such an area gets LENGTH by R186 before it (log entry 67). -/
def steerTableSet (values : List Nat) (s : State) : Answer :=
  match table? 9 values with
  | none => refuse .param s
  | some t =>
    if values.all (· ≤ 30000) && values.headD 0 == 0 && eachToNext (fun a b => a ≤ b) values then
      done { s with guide.steerTable := some t }
    else refuse .param s

/-- A row table entry whose fields lie in their ranges (R31). -/
def rowEntry? (p : RowParams) : Option RowEntry := do
  let marker ← flag? p.marker
  if p.d ≤ 8000 ∧ p.v ≤ 799 ∧ 1 ≤ p.scale ∧ p.scale ≤ 4000 ∧ p.c ≤ 1279 ∧ 1 ≤ p.w ∧ p.w ≤ 15 then
    some { d := p.d, v := p.v, scale := p.scale, c := p.c, w := p.w, marker := marker }
  else none

/-- The row table a ROW_TABLE_SET carries, when it is valid (R31). -/
def rowTable? (rows : List RowParams) : Option (List RowEntry) := do
  let entries ← rows.mapM rowEntry?
  if 2 ≤ entries.length ∧ entries.length ≤ 32 ∧ eachToNext (fun a b => decide (a.d < b.d ∧ b.v < a.v)) entries then
    some entries
  else none

/-- ROW_TABLE_SET (R31), less the check of R25. A parameter length that does not match the count is PARAM here, at
the owner. A packet with such an area does not come so far: R186 makes its check 5 first (log entry 67). -/
def rowTableSet (rows : SizedList RowParams) (s : State) : Answer :=
  if rows.length ≠ rowTableLength rows.entries then refuse .param s
  else
    match rowTable? rows.entries with
    | none => refuse .param s
    | some t => done { s with guide.rowTable := t }

/-- Whether the bands of a BAND_TABLE_SET are valid (R32). -/
def bandsOk (bands : List GuideBand) : Bool :=
  1 ≤ bands.length && bands.length ≤ 4 && bands.all (fun b => 1 ≤ b.limit && b.limit ≤ 10000)
    && eachToNext (fun a b => decide (a.limit < b.limit)) bands

/-- BAND_TABLE_SET (R32), less the check of R25. -/
def bandTableSet (bands : List GuideBand) (s : State) : Answer :=
  if bandsOk bands then done { s with guide.bandTable := bands } else refuse .param s

/-! ### The computation (R34 to R39, R46) -/

/-- The magnitude of the target curvature for a steering magnitude (R34). -/
def curvatureMagnitude (t : Vector Nat 9) (a : Nat) : Int :=
  if 7200 ≤ a then (t.toList.getD 8 0 : Nat)
  else
    let i := a / 900
    let k0 : Int := (t.toList.getD i 0 : Nat)
    let k1 : Int := (t.toList.getD (i + 1) 0 : Nat)
    k0 + nearestDiv ((k1 - k0) * ((a : Int) - 900 * (i : Int))) 900

/-- The target curvature for a steering angle (R34). -/
def targetCurvature (g : Guide) (theta : Int) : Int :=
  match g.steerTable with
  | none => 0
  | some t => theta.sign * g.settings.polarity * curvatureMagnitude t theta.natAbs

/-- The drawn curvature after one computation (R35). -/
def drawnCurvature (g : Guide) (target : Int) : Int :=
  let moved := match g.kappaDraw with
    | none => target
    | some k =>
      if (target - k).natAbs ≤ g.settings.slew then target
      else if k < target then k + g.settings.slew
      else k - g.settings.slew
  clampInt (-30000) 30000 moved

/-- The lateral offset of the path at a distance (R37). -/
def lateralOffset (kappa : Int) (d overhang : Nat) : Int :=
  clampInt (-8000) 8000 (nearestDiv (kappa * (d : Int) * ((d : Int) + 2 * (overhang : Int))) 200000000)

/-- The image column of a lateral position at a row table entry (R38). -/
def imageColumn (e : RowEntry) (mirror : Bool) (lat : Int) : Int :=
  (e.c : Int) + (if mirror then -1 else 1) * nearestDiv ((e.scale : Int) * lat) 1000

/-- The columns of the left and the right line at an entry, for a lateral offset (R38). -/
def entryColumns (g : Guide) (mirror : Bool) (e : RowEntry) (y : Int) : Columns :=
  ⟨imageColumn e mirror (-(g.settings.halfWidth : Int) + y), imageColumn e mirror ((g.settings.halfWidth : Int) + y)⟩

/-- A line's centre column at row v of the segment between two entries (R42). -/
def columnAt (v0 v1 : Nat) (x0 x1 v : Int) : Int := x0 + nearestDiv ((x1 - x0) * ((v0 : Int) - v)) ((v0 : Int) - (v1 : Int))

/-- The smallest distance in mm of the codes below 255 (R46, R148). -/
def nearestObstacle (distances : Vector Nat 4) : Option Nat :=
  ((distances.toList.filter (· < 255)).min?).map (10 * ·)

/-- Where the stop bar stands for an obstacle at d (R46), over the entries and their columns. -/
def stopBarAt (d : Nat) : List RowEntry → List Columns → Option StopBar
  | e0 :: e1 :: rest, c0 :: c1 :: cols =>
    if d ≤ e0.d then some ⟨e0.v, c0⟩
    else if d ≤ e1.d then
      let row : Int := (e0.v : Int) + nearestDiv (((e1.v : Int) - (e0.v : Int)) * ((d : Int) - (e0.d : Int))) ((e1.d : Int) - (e0.d : Int))
      some ⟨row, ⟨columnAt e0.v e1.v c0.left c1.left row, columnAt e0.v e1.v c0.right c1.right row⟩⟩
    else stopBarAt d (e1 :: rest) (c1 :: cols)
  | _, _ => none

/-- The geometry record of one computation (R39). -/
def computeRecord (g : Guide) (v : Vehicle) (mirror : Bool) (width height : Nat) : GeometryRecord :=
  let mode := g.effectiveMode
  let target := targetCurvature g (if v.fresh then v.steering else 0)
  let drawn := drawnCurvature g target
  let dynamic := if mode.hasDynamic then
      g.rowTable.map fun e => entryColumns g mirror e (lateralOffset drawn e.d g.settings.overhang)
    else []
  let static := if mode.hasStatic then g.rowTable.map fun e => entryColumns g mirror e 0 else []
  let bar := if g.settings.stopBar ∧ mode ≠ .off ∧ v.fresh then
      match nearestObstacle v.distances with
      | none => none
      | some d => stopBarAt d g.rowTable (if mode.hasDynamic then dynamic else static)
    else none
  { width := width, height := height, mode := mode, kappaT := target, kappaDraw := drawn, dynamic := dynamic,
    static := static, stopBar := bar }

/-- The state after a computation for a camera frame of a size (R34, R39), less the render request of R40. -/
def computeGuide (width height : Nat) (s : State) : State :=
  let r := computeRecord s.guide s.vehicle s.takeover.camera.mirror width height
  { s with guide.record := some r, guide.kappaDraw := some r.kappaDraw }

/-! ### The drawing (R41 to R47) -/

/-- The colour of the band to which a distance belongs (R32). -/
def bandColour (bands : List GuideBand) (d : Nat) : Option Argb :=
  (bands.find? fun b => decide (d < b.limit)).map (·.colour)

/-- The static lines' colour (R44). -/
def halfAlpha (c : Argb) : Argb := { c with a := BitVec.ofNat 8 (c.a.toNat / 2) }

/-- The run of a line of width w about its centre column on a row (R42). -/
def lineRun (w : Nat) (x v : Int) (c : Argb) : DrawOp := .rect (x - ((w - 1) / 2 : Nat)) v w 1 c

/-- One segment of a line: a run on each row above the next entry's row, up to this entry's (R42, R43). -/
def segmentOps (bands : List GuideBand) (height : Nat) (faded : Bool) (e0 e1 : RowEntry) (x0 x1 : Int) : List DrawOp :=
  match bandColour bands e0.d with
  | none => []
  | some c =>
    if height ≤ e0.v then []
    else
      (List.range (e0.v - e1.v)).map fun n =>
        let v : Int := (e1.v : Int) + 1 + (n : Int)
        lineRun e0.w (columnAt e0.v e1.v x0 x1 v) v (if faded then halfAlpha c else c)

/-- A line: its segments from entry 0 on (R42). An entry with no column in the record draws nothing (log entry 14). -/
def lineOps (bands : List GuideBand) (height : Nat) (faded : Bool) : List RowEntry → List Int → List DrawOp
  | e0 :: e1 :: rest, x0 :: x1 :: xs =>
    segmentOps bands height faded e0 e1 x0 x1 ++ lineOps bands height faded (e1 :: rest) (x1 :: xs)
  | _, _ => []

/-- A bar over the columns between two, both included, on h rows that end at a row. -/
def barOp (cols : Columns) (bottom : Int) (h : Nat) (c : Argb) : DrawOp :=
  .rect (min cols.left cols.right) (bottom - h + 1) (max cols.left cols.right - min cols.left cols.right + 1) h c

/-- The markers in entry order (R45). -/
def markerOps (bands : List GuideBand) (height : Nat) : List RowEntry → List Columns → List DrawOp
  | e :: rest, c :: cols =>
    (match bandColour bands e.d with
      | some colour => if e.marker ∧ e.v < height then [barOp c e.v e.w colour] else []
      | none => []) ++ markerOps bands height rest cols
  | _, _ => []

/-- The stop bar (R47). -/
def stopBarOps (bands : List GuideBand) : Option StopBar → List DrawOp
  | none => []
  | some b =>
    match bands with
    | [] => []
    | band :: _ => [barOp b.columns b.row 4 band.colour]

/-- All that a GUIDE render draws over transparency (R41). -/
def guideOps (g : Guide) (r : GeometryRecord) : List DrawOp :=
  if r.mode = .off then []
  else
    let line (faded : Bool) (xs : List Int) := lineOps g.bandTable r.height faded g.rowTable xs
    (if r.mode.hasStatic then line true (r.static.map (·.left)) ++ line true (r.static.map (·.right)) else [])
      ++ (if r.mode.hasDynamic then line false (r.dynamic.map (·.left)) ++ line false (r.dynamic.map (·.right)) else [])
      ++ markerOps g.bandTable r.height g.rowTable (if r.mode.hasDynamic then r.dynamic else r.static)
      ++ stopBarOps g.bandTable r.stopBar

/-- The size a GUIDE render draws at (R41); with no record the manual gives none (Config.emptyGuideWidth). -/
def guideSize (g : Guide) : Nat × Nat :=
  match g.record with
  | some r => (r.width, r.height)
  | none => (max 16 (min 1280 Config.emptyGuideWidth), max 16 (min 800 Config.emptyGuideHeight))

end Sys2Proof.Machine
end

