-- ==== Sys2Proof/Machine/Flags.lean ====
section
/-! DEFINITION. The attention flags (R190) and their raising (R191). -/

namespace Sys2Proof.Machine

/-- The twelve attention flags, in the order of R190. -/
inductive Flag where
  | takeover | cameraView | reverseMismatch | steeringStale | linkError | panelLink | audioUnderflow | chimeDropped
  | storeMounted | storeDone | storeFailed | profileError
  deriving DecidableEq, Repr

/-- A flag's number (R190). -/
def Flag.number : Flag → Nat
  | .takeover => 0
  | .cameraView => 1
  | .reverseMismatch => 2
  | .steeringStale => 3
  | .linkError => 4
  | .panelLink => 5
  | .audioUnderflow => 6
  | .chimeDropped => 7
  | .storeMounted => 8
  | .storeDone => 9
  | .storeFailed => 10
  | .profileError => 11

def Flag.bit (f : Flag) : BitVec 16 := 1#16 <<< f.number

/-- Whether a flag is raised, and whether its mask bit is set. -/
def State.raised (s : State) (f : Flag) : Bool := s.attention.flags.getLsbD f.number
def State.unmasked (s : State) (f : Flag) : Bool := s.attention.mask.getLsbD f.number

/-- An owner raises a flag (R191): a clear flag becomes raised and, when unmasked, the whole flag set is handed to the
Uplink Transmitter as a FLAGS notice; a raised flag stays as it is and sends nothing. -/
def raiseFlag (f : Flag) (s : State) : State :=
  if s.raised f then s
  else
    let s' := { s with attention.flags := s.attention.flags ||| f.bit }
    if s.unmasked f then handNotice (.flags s'.attention.flags) s' else s'

/-- Flags cleared (R192, R164): no notice is sent. -/
def clearFlags (fs : BitVec 16) (s : State) : State := { s with attention.flags := s.attention.flags &&& ~~~fs }

end Sys2Proof.Machine
end

