-- ==== Sys2Proof/Machine/Store.lean ====
section
/-! DEFINITION. The Asset Store Controller (chapter 8): the array, the selection of operations, pins, transactions,
aborts, and its commands. What an operation's completion does stands in Machine/StoreEvents.lean. -/

namespace Sys2Proof.Machine

/-! ### The array -/

/-- An erased page: every byte FFh, both marks clear (R153). -/
def erasedPage : Page :=
  { main := List.replicate Config.pageBytes 0xFF#8, factory := 0xFF#8, runtimeBad := false, header := none, commit := none }

/-- The number of a page in the array. -/
def pageNumber (b : Fin 256) (page : Nat) : Nat := b.val * Config.pagesPerBlock + page % Config.pagesPerBlock

/-- A page's main bytes are 4096 (section 4.2), whatever they hold. -/
def fullPage (p : Page) : Page :=
  { p with main := (p.main ++ List.replicate Config.pageBytes 0xFF#8).take Config.pageBytes }

/-- What a page holds. -/
def ArrayPage.content : ArrayPage → Page
  | .holds p => p
  | .unknown n => fullPage (Config.unknownPage n)

/-- The content of a page; a page not listed is erased. -/
def readPage (a : List (Nat × ArrayPage)) (b : Fin 256) (page : Nat) : Page :=
  match a.find? (fun e => e.1 == pageNumber b page) with
  | some e => e.2.content
  | none => erasedPage

/-- A page's entry replaced, entries kept in rising order. -/
def putPage (a : List (Nat × ArrayPage)) (n : Nat) (p : ArrayPage) : List (Nat × ArrayPage) :=
  a.filter (fun e => e.1 < n) ++ ((n, p) :: a.filter (fun e => n < e.1))

/-- Known words written to a page; erased words are not listed. -/
def writePage (a : List (Nat × ArrayPage)) (b : Fin 256) (page : Nat) (p : Page) : List (Nat × ArrayPage) :=
  if p = erasedPage then a.filter (fun e => e.1 != pageNumber b page) else putPage a (pageNumber b page) (.holds p)

/-- A block returned to the erased state (R154). -/
def eraseBlock (a : List (Nat × ArrayPage)) (b : Fin 256) : List (Nat × ArrayPage) :=
  a.filter (fun e => e.1 / Config.pagesPerBlock != b.val)

/-- A page left in a state the manual does not give: a fresh free value (R154, R173). -/
def losePage (b : Fin 256) (page : Nat) (st : Store) : Store :=
  { st with array := putPage st.array (pageNumber b page) (.unknown st.freeCount), freeCount := st.freeCount + 1 }

/-- Every page of a block left in an unknown state (R154). -/
def loseBlock (b : Fin 256) (st : Store) : Store :=
  (List.range Config.pagesPerBlock).foldl (fun st page => losePage b page st) st

/-- The runtime bad mark of page 0's spare area written, the other bytes left as they are (R157). -/
def putMark (b : Fin 256) (mark : Bool) (st : Store) : Store :=
  { st with array := putPage st.array (pageNumber b 0) (.holds { readPage st.array b 0 with runtimeBad := mark }) }

/-- A bad-mark write that verified: the runtime bad mark is set (R157). -/
def setBadMark (b : Fin 256) (st : Store) : Store := putMark b true st

/-- A bad-mark write that failed all its passes: what the mark then reads as is a free value (R157; log entry 66). -/
def loseBadMark (b : Fin 256) (st : Store) : Store :=
  { putMark b (Config.unknownMark st.freeCount) st with freeCount := st.freeCount + 1 }

/-! ### Sets of blocks (R158) -/

def State.blockSet (s : State) (b : Fin 256) : BlockSet := s.store.sets[b]

def setBlock (c : BlockSet) (b : Fin 256) (s : State) : State := { s with store.sets := s.store.sets.set b c }

def setBlocks (c : BlockSet) (bs : List (Fin 256)) (s : State) : State := bs.foldl (fun s b => setBlock c b s) s

/-- The supply hold (R170). -/
def supplyHold (s : State) : Bool := s.vehicle.supply ≠ .normal

/-- The blocks of a background erase (R156): the oldest erase-list block of each bank. -/
def eraseChoice : List (Fin 256) → List (Fin 256)
  | [] => []
  | b :: bs => b :: (eraseChoice bs).filter (fun c => c.val % Config.banks ≠ b.val % Config.banks)

/-! ### The transaction's programs (R163, R166) -/

/-- Page p uses page buffer p mod 2 (R163). -/
def Transaction.buffer (t : Transaction) (p : Nat) : TxBuffer := if p % 2 = 0 then t.buffer0 else t.buffer1

def Transaction.setBuffer (t : Transaction) (p : Nat) (b : TxBuffer) : Transaction :=
  if p % 2 = 0 then { t with buffer0 := b } else { t with buffer1 := b }

/-- The last page (R163). -/
def Transaction.lastPage (t : Transaction) : Nat := ceilDiv t.length Config.pageBytes - 1

def AssetKind.code : AssetKind → Nat
  | .glyphSet => 0
  | .chimePcm => 1
  | .profile => 2

def assetKind? : Nat → Option AssetKind
  | 0 => some .glyphSet
  | 1 => some .chimePcm
  | 2 => some .profile
  | _ => none

/-- What the program of page p writes (R166, R167): the buffer's bytes, the block header on page 0 of a block, the
commit record on the commit program. -/
def Transaction.programPage (t : Transaction) (p : Nat) : Page :=
  { main := (t.buffer p).bytes, factory := 0xFF#8, runtimeBad := false,
    header := if p % Config.pagesPerBlock = 0 then
        some { assetId := t.id, kind := t.kind.code, generation := t.generation, sequence := p / Config.pagesPerBlock,
               blockCount := t.reserved.length, length := t.length }
      else none,
    commit := if t.state = .finishing ∧ p = t.lastPage then some (~~~ t.crc) else none }

/-- The block that page p of the transaction is written to. -/
def Transaction.pageBlock (t : Transaction) (p : Nat) : Fin 256 := t.reserved.getD (p / Config.pagesPerBlock) 0

/-! ### Selection (R156) -/

/-- The free array selects one operation when work waits: the oldest read; else, under no supply hold, the first
entry of the program queue; else a background erase. Before READY it performs the mount's reads only (R155). -/
def storeSelect (s : State) : State :=
  if s.store.op ≠ .idle ∨ s.store.state = .unmounted then s
  else
    match s.store.reads with
    | r :: rest => { s with store.op := .read r, store.reads := rest }
    | [] =>
      if s.store.state ≠ .ready ∨ supplyHold s then s
      else
        match s.store.txQueue with
        | p :: rest =>
          let t := s.store.transaction
          { s with
            store.op := .program (t.pageBlock p) (p % Config.pagesPerBlock) (t.programPage p)
              (decide (t.state = .finishing ∧ p = t.lastPage)) true,
            store.txQueue := rest,
            store.transaction := t.setBuffer p { t.buffer p with state := .programming p } }
        | [] =>
          match s.store.badMarks with
          | b :: rest => { s with store.op := .badMark b, store.badMarks := rest }
          | [] =>
            match s.store.eraseList with
            | [] => s
            | bs => { s with store.op := .erase (eraseChoice bs) }

/-- A page read issued (R162): it waits in read order, and the controller looks for work (R156). -/
def issueRead (r : Reader) (b : Fin 256) (page : Nat) (s : State) : State :=
  storeSelect { s with store.reads := s.store.reads ++ [⟨r, b, page % Config.pagesPerBlock⟩] }

/-- A fresh token for a read. -/
def takeToken (s : State) : Nat × State := (s.store.nextToken, { s with store.nextToken := s.store.nextToken + 1 })

/-- Blocks join the erase list in the order given (R158), and the controller looks for work once all of one event have
joined (R156; log entry 60). -/
def joinErase (bs : List (Fin 256)) (s : State) : State :=
  storeSelect (setBlocks .eraseList bs { s with store.eraseList := s.store.eraseList ++ bs })

/-- A block joins the bad set in service and has its bad-mark write queued (R157). -/
def makeBad (b : Fin 256) (s : State) : State :=
  storeSelect (setBlock .bad b { s with store.badMarks := s.store.badMarks ++ [b] })

/-! ### Directory, pins (R161) -/

def State.asset? (s : State) (id : Nat) : Option AssetRecord := s.store.directory.find? (fun r => r.id == id)

/-- The block list of a generation, current or retired. -/
def State.generationBlocks (s : State) (id gen : Nat) : List (Fin 256) :=
  match s.store.directory.find? (fun r => r.id == id && r.generation == gen) with
  | some r => r.blocks
  | none =>
    match s.store.retired.find? (fun r => r.id == id && r.generation == gen) with
    | some r => r.blocks
    | none => []

/-- A read of page p of a generation (R162): page p mod 64 of the block at position floor(p / 64). -/
def issueAssetRead (r : Reader) (id gen p : Nat) (s : State) : State :=
  issueRead r ((s.generationBlocks id gen).getD (p / Config.pagesPerBlock) 0) p s

/-- A pin taken on the current generation of an id. -/
def pinAsset (id : Nat) (s : State) : State :=
  { s with store.directory := s.store.directory.map fun r => if r.id = id then { r with pins := r.pins + 1 } else r }

/-- A pin released on the generation it was taken on: a retired generation whose last pin goes leaves the retired
list, and its blocks join the erase list. -/
def unpinAsset (id gen : Nat) (s : State) : State :=
  if s.store.directory.any (fun r => r.id == id && r.generation == gen) then
    { s with store.directory := s.store.directory.map fun r =>
        if r.id = id ∧ r.generation = gen then { r with pins := r.pins - 1 } else r }
  else
    match s.store.retired.find? (fun r => r.id == id && r.generation == gen) with
    | none => s
    | some e =>
      if e.pins ≤ 1 then
        joinErase e.blocks { s with store.retired := s.store.retired.filter fun r => !(r.id == id && r.generation == gen) }
      else
        { s with store.retired := s.store.retired.map fun r =>
            if r.id = id ∧ r.generation = gen then { r with pins := r.pins - 1 } else r }

/-! ### Transaction failure and aborts (R168, R170, R171) -/

/-- A program of the transaction in flight runs on, its result to be ignored (R168). -/
def ArrayOp.disowned : ArrayOp → ArrayOp
  | .program b p c k _ => .program b p c k false
  | o => o

/-- The transaction fails (R168). Its id, kind, length, generation, received count and CRC stay (log entry 59). -/
def failTransaction (cause : FailCause) (s : State) : State :=
  let reserved := s.store.transaction.reserved
  let s1 := { s with
    store.op := s.store.op.disowned, store.txQueue := [],
    store.transaction := { s.store.transaction with
      state := .none, reserved := [], buffer0 := .reset, buffer1 := .reset, outcome := .failed cause } }
  let s2 := joinErase reserved s1
  if cause = .reset then s2 else raiseFlag .storeFailed s2

/-- A program or erase in flight is aborted (R170): the array stays busy until the abort completion; a transaction's
program fails the transaction, a bad-mark write stays at its place in the queue, an erase's blocks stay listed. -/
def abortOperation (cause : FailCause) (s : State) : State :=
  let counted := { s with store.aborting := true, store.counters.opAborted := bump s.store.counters.opAborted }
  if s.store.aborting then s
  else
    match s.store.op with
    | .program _ _ _ _ live => if live then failTransaction cause counted else counted
    | .badMark b => { counted with store.badMarks := b :: counted.store.badMarks }
    | .erase _ => counted
    | .idle => s
    | .read _ => s

/-! ### Commands -/

def State.storeReady (s : State) : Bool := s.store.state = .ready

/-- The free blocks in scan order from the allocation cursor (R164). -/
def freeFromCursor (s : State) : List (Fin 256) :=
  ((List.range 256).map fun i => (Fin.ofNat 256 (s.store.cursor + i))).filter fun b => s.blockSet b = .free

/-- Blocks an asset of a length needs (R164). -/
def blocksFor (length : Nat) : Nat := ceilDiv length Config.blockBytes

/-- Whether ASSET_BEGIN's id, kind and length are valid (R164 check 3). -/
def beginParamsOk (id kind length : Nat) : Bool :=
  1 ≤ id && id ≤ 1023 && kind ≤ 2 && ((kind == 2) == (id == 1)) && 1 ≤ length && length ≤ Config.maxAssetBytes

/-- ASSET_BEGIN (R164). -/
def assetBegin (id kind length : Nat) (s : State) : Answer :=
  if s.store.transaction.state ≠ .none then refuse .busy s
  else if !s.storeReady then refuse .notReady s
  else
    match assetKind? kind with
    | none => refuse .param s
    | some k =>
      if !beginParamsOk id kind length then refuse .param s
      else
        let n := blocksFor length
        let chosen := (freeFromCursor s).take n
        if (freeFromCursor s).length < n then refuse .noSpace s
        else
          let gen := s.store.nextGeneration
          let cursor := match chosen.getLast? with
            | some b => (b.val + 1) % 256
            | none => s.store.cursor
          let s1 := setBlocks .reserved chosen { s with
            store.cursor := cursor, store.nextGeneration := gen + 1,
            store.transaction := { Transaction.reset with
              state := .opened, id := id, kind := k, length := length, generation := gen, reserved := chosen } }
          report (u32 gen ++ listBytes (fun b : Fin 256 => u8 b.val) chosen)
            (clearFlags (Flag.bit .storeDone ||| Flag.bit .storeFailed) s1)

/-- Whether a page buffer holds bytes still to be programmed (R165 check 5). -/
def TxBuffer.busy (b : TxBuffer) : Bool :=
  match b.state with
  | .queued _ => true
  | .programming _ => true
  | _ => false

/-- Bytes copied into the buffer of page p; a full page other than the last one is queued (R165). -/
def fillPage (p : Nat) (bytes : List Byte) (s : State) : State :=
  let t := s.store.transaction
  let held := (t.buffer p).bytes ++ bytes
  if held.length = Config.pageBytes ∧ p ≠ t.lastPage then
    storeSelect { s with store.transaction := t.setBuffer p ⟨.queued p, held⟩, store.txQueue := s.store.txQueue ++ [p] }
  else { s with store.transaction := t.setBuffer p ⟨.filling p, held⟩ }

/-- A refusal of ASSET_DATA or ASSET_END that reports the expected offset (R185). -/
def refuseExpecting (st : Status) (s : State) : Answer := ⟨st, u32 s.store.transaction.received, s, .nothing⟩

/-- ASSET_DATA (R165). -/
def assetData (offset : Nat) (bytes : List Byte) (s : State) : Answer :=
  let t := s.store.transaction
  if !s.storeReady then refuse .notReady s
  else if t.state = .none then refuse .param s
  else if t.state = .finishing then refuse .busy s
  else if bytes.length = 0 ∨ 1024 < bytes.length then refuse .param s
  else if offset ≠ t.received then refuseExpecting .param s
  else if t.length < t.received + bytes.length then refuse .param s
  else
    let p := t.received / Config.pageBytes
    let q := (t.received + bytes.length - 1) / Config.pageBytes
    if (t.buffer p).busy ∨ (t.buffer q).busy then refuseExpecting .busy s
    else
      let room := Config.pageBytes - t.received % Config.pageBytes
      let s1 := { s with store.transaction := { t with
        received := t.received + bytes.length, crc := crc32Update t.crc bytes } }
      let s2 := fillPage p (bytes.take room) s1
      let s3 := if q = p then s2 else fillPage q (bytes.drop room) s2
      report (u32 (t.received + bytes.length)) s3

/-- ASSET_END (R167): ACCEPTED; a CRC mismatch fails the transaction, a match queues the commit program. -/
def assetEnd (crc : BitVec 32) (s : State) : Answer :=
  let t := s.store.transaction
  if !s.storeReady then refuse .notReady s
  else if t.state = .none then refuse .param s
  else if t.state = .finishing then refuse .busy s
  else if t.received < t.length then refuseExpecting .param s
  else
    let s1 := { s with store.transaction := { t with state := .finishing } }
    let s2 :=
      if crc ≠ ~~~ t.crc then failTransaction .crc s1
      else
        let p := t.lastPage
        let held := (t.buffer p).bytes
        let padded := held ++ List.replicate (Config.pageBytes - held.length) 0xFF#8
        storeSelect { s1 with
          store.transaction := s1.store.transaction.setBuffer p ⟨.queued p, padded⟩, store.txQueue := s.store.txQueue ++ [p] }
    ⟨.accepted, [], s2, .nothing⟩

/-- ASSET_DELETE (R169). -/
def assetDelete (id : Nat) (s : State) : Answer :=
  if id = 0 ∨ 1023 < id then refuse .param s
  else if !s.storeReady then refuse .notReady s
  else
    match s.asset? id with
    | none => refuse .notFound s
    | some r =>
      if 0 < r.pins then refuse .inUse s
      else done (joinErase r.blocks { s with store.directory := s.store.directory.filter fun q => q.id != id })

def blockListBytes (bs : List (Fin 256)) : List Byte := listBytes (fun b : Fin 256 => u8 b.val) bs

/-- A directory record (R161) as result data: kind, generation, length, CRC, block list, pin count. -/
def AssetRecord.bytes (r : AssetRecord) : List Byte :=
  u8 r.kind.code ++ u32 r.generation ++ u32 r.length ++ u32 r.crc.toNat ++ blockListBytes r.blocks ++ u8 r.pins

/-- A retired-list entry as STORE_STATUS reports it (R172). -/
def RetiredEntry.bytes (r : RetiredEntry) : List Byte :=
  u16 r.id ++ u32 r.generation ++ blockListBytes r.blocks ++ u8 r.pins

/-- A retired generation of an id as ASSET_INFO reports it: its number and its pin count (R172). -/
def RetiredEntry.pinBytes (r : RetiredEntry) : List Byte := u32 r.generation ++ u8 r.pins

/-- ASSET_INFO (R172). -/
def assetInfo (id : Nat) (s : State) : Answer :=
  if id = 0 ∨ 1023 < id then refuse .param s
  else if !s.storeReady then refuse .notReady s
  else
    match s.asset? id with
    | none => refuse .notFound s
    | some r =>
      let writing := s.store.transaction.state ≠ .none ∧ s.store.transaction.id = id
      report (r.bytes ++ listBytes RetiredEntry.pinBytes (s.store.retired.filter fun e => e.id == id)
        ++ [boolByte (decide writing)]) s

def StoreState.code : StoreState → Nat
  | .unmounted => 0
  | .mounting => 1
  | .ready => 2

/-- The operation in flight, numbered as R172 lists them. -/
def ArrayOp.code : ArrayOp → Nat
  | .idle => 0
  | .read _ => 1
  | .program .. => 2
  | .badMark _ => 3
  | .erase _ => 4

def TransactionState.code : TransactionState → Nat
  | .none => 0
  | .opened => 1
  | .finishing => 2

def FailCause.code : FailCause → Nat
  | .program => 0
  | .crc => 1
  | .supply => 2
  | .abort => 3
  | .reset => 4

def TransactionOutcome.bytes : TransactionOutcome → List Byte
  | .none => u8 0 ++ u8 0
  | .done => u8 1 ++ u8 0
  | .failed c => u8 2 ++ u8 c.code

/-- A transaction page buffer as result data: its state, then its page in 2 bytes, 0 for FREE (log entry 13). -/
def TxBufferState.bytes : TxBufferState → List Byte
  | .free => u8 0 ++ u16 0
  | .filling p => u8 1 ++ u16 p
  | .queued p => u8 2 ++ u16 p
  | .programming p => u8 3 ++ u16 p

def Transaction.bytes (t : Transaction) : List Byte :=
  u8 t.state.code ++ u16 t.id ++ u8 t.kind.code ++ u32 t.length ++ u32 t.generation ++ blockListBytes t.reserved
    ++ u32 t.received ++ u32 (~~~ t.crc).toNat ++ t.buffer0.state.bytes ++ t.buffer1.state.bytes ++ t.outcome.bytes

/-- The number of blocks in a set (R158). -/
def State.countSet (s : State) (c : BlockSet) : Nat := s.store.sets.toList.countP (fun x => decide (x = c))

def StoreCounters.bytes (c : StoreCounters) : List Byte :=
  u32 c.readFail ++ u32 c.programRetry ++ u32 c.programFail ++ u32 c.eraseFail ++ u32 c.opAborted ++ u32 c.mountDiscard

/-- STORE_STATUS (R172). The number of waiting reads, whose range the manual does not give, takes 2 bytes (log entry 13);
the erase list can hold all 256 blocks, so its count takes 2 bytes by R185. -/
def storeStatus (s : State) : Answer :=
  report (u8 s.store.state.code ++ [boolByte (supplyHold s)] ++ u8 s.store.op.code ++ [boolByte s.store.aborting]
    ++ u16 (s.countSet .bad) ++ u16 (s.countSet .free) ++ u16 (s.countSet .reserved) ++ u16 (s.countSet .current)
    ++ u16 (s.countSet .retired) ++ u16 (s.countSet .eraseList) ++ u16 (s.countSet .unclassified)
    ++ u16 s.store.eraseList.length ++ s.store.eraseList.flatMap (fun b : Fin 256 => u8 b.val)
    ++ listBytes RetiredEntry.bytes s.store.retired ++ s.store.transaction.bytes ++ u8 s.store.cursor
    ++ u32 s.store.nextGeneration ++ u16 s.store.reads.length ++ s.store.counters.bytes) s

/-- STORE_ABORT (R171). -/
def storeAbort (s : State) : Answer :=
  if !s.storeReady then refuse .notReady s
  else if s.store.aborting then done s
  else
    let s1 := abortOperation .abort s
    if s1.store.transaction.state ≠ .none then done (failTransaction .abort s1) else done s1

end Sys2Proof.Machine
end

