-- ==== Sys2Proof/Machine/Zones.lean ====
section
/-! DEFINITION. The Zone Mixers (chapter 6): film FIFOs, ducking, the mix, and ZONE_SET and VOLUME_TABLE_SET. -/

namespace Sys2Proof.Machine

/-! ### Demands (R125, R126) -/

/-- Whether the takeover duck demand reaches a zone: SEAT_L and SEAT_R only (R24, R125). -/
def takeoverDemandOn (s : State) : Zone → Bool
  | .cabin => false
  | _ => s.takeover.duckDemand

/-- A demand begins on a zone: ACTIVE, hold timer stopped (R125). -/
def demandBegins (z : Zone) (s : State) : State :=
  s.setZone z { s.zone z with demand := .active, holdTimer := none }

/-- A demand has ended on a zone: when it was the last one, ACTIVE goes to HOLD, or to NONE with a hold time of 0. -/
def demandEnds (z : Zone) (s : State) : State :=
  let r := s.zone z
  if r.voiceDemand ∨ takeoverDemandOn s z ∨ r.demand ≠ .active then s
  else if r.settings.hold = 0 then s.setZone z { r with demand := .none }
  else s.setZone z { r with demand := .hold, holdTimer := some r.settings.hold }

/-- A voice with the duck flag comes to hold a zone (R125). -/
def voiceDemandBegins (z : Zone) (s : State) : State :=
  demandBegins z (s.setZone z { s.zone z with voiceDemand := true })

/-- A voice with the duck flag stops holding a zone (R125). -/
def voiceDemandEnds (z : Zone) (s : State) : State :=
  demandEnds z (s.setZone z { s.zone z with voiceDemand := false })

/-- The takeover duck demand applied (R24). -/
def applyTakeoverDemand (s : State) : State :=
  demandBegins .seatR (demandBegins .seatL { s with takeover.duckDemand := true })

/-- The takeover duck demand withdrawn if it was applied (R24, R12). -/
def withdrawTakeoverDemand (s : State) : State :=
  if s.takeover.duckDemand then demandEnds .seatR (demandEnds .seatL { s with takeover.duckDemand := false }) else s

/-- The hold timer's expiry in HOLD (R126). -/
def holdExpires (z : Zone) (s : State) : State :=
  let r := s.zone z
  if r.demand = .hold then s.setZone z { r with demand := .none, holdTimer := none } else s

/-! ### The duck gain (R127, R128) -/

/-- The duck target (section 6.4). -/
def ZoneRecord.target (r : ZoneRecord) : Nat :=
  match r.demand with
  | .none => 32768
  | _ => r.settings.duckLevel

/-- The step of the duck gain (R127). -/
def ZoneSettings.duckStep (t : ZoneSettings) : Nat := ceilDiv (32768 - t.duckLevel) t.ramp

/-- The duck gain after one block event (R127). -/
def ZoneRecord.steppedGain (r : ZoneRecord) : Nat :=
  let step := r.settings.duckStep
  if r.target < r.gain then max r.target (r.gain - step)
  else if r.gain < r.target then min r.target (r.gain + step)
  else r.gain

/-! ### The film FIFO (R119 to R121) -/

/-- One frame placed in a film FIFO (R119); PLAYING is entered when the level reaches 1024 in PRIMING. -/
def placeFrame (r : ZoneRecord) (f : StereoFrame) : ZoneRecord :=
  if Config.fifoFrames ≤ r.fifo.length then { r with overflow := bump r.overflow }
  else
    let fifo := r.fifo ++ [f]
    { r with fifo := fifo,
             fifoState := if r.fifoState = .priming ∧ Config.restartLevel ≤ fifo.length then .playing else r.fifoState }

/-- A packet's frames placed one at a time, in order (R119). -/
def placeFrames (z : Zone) (fs : List StereoFrame) (s : State) : State := s.setZone z (fs.foldl placeFrame (s.zone z))

/-- A film FIFO emptied, without counting, and back in PRIMING (R121). -/
def emptyFifo (z : Zone) (s : State) : State := s.setZone z { s.zone z with fifo := [], fifoState := .priming }

/-- The 48 film frames of a block (R120), and the zone after taking them. -/
def takeFilm (r : ZoneRecord) : List StereoFrame × ZoneRecord :=
  match r.fifoState with
  | .priming => (List.replicate Config.blockFrames ⟨0, 0⟩, r)
  | .playing =>
    if Config.blockFrames ≤ r.fifo.length then (r.fifo.take Config.blockFrames, { r with fifo := r.fifo.drop Config.blockFrames })
    else
      (r.fifo ++ List.replicate (Config.blockFrames - r.fifo.length) ⟨0, 0⟩,
        { r with fifo := [], fifoState := .priming, underflow := bump r.underflow })

/-- Whether a block finds a PLAYING FIFO short (R120). -/
def ZoneRecord.underflows (r : ZoneRecord) : Bool := r.fifoState = .playing ∧ r.fifo.length < Config.blockFrames

/-! ### The mix (R129, R130) -/

/-- A Q15 gain applied to a sample, rounded half up (R129). -/
def q15 (x : Int) (gain : Nat) : Int := floorDiv (x * gain + 16384) 32768

/-- What a zone mixes with (R129): the block's gains, mute, and the level and follows-volume of the holding voice. -/
structure MixGains where
  vol : Nat
  duck : Nat
  mute : Bool
  level : Nat
  follows : Bool

/-- The film part of an output sample (R129 steps 1 to 3). -/
def filmPart (g : MixGains) (film : Int) : Int := if g.mute then 0 else q15 (q15 film g.vol) g.duck

/-- The chime part of an output sample (R129 steps 4 and 5). -/
def chimePart (g : MixGains) (chime : Int) : Int :=
  let c := q15 chime g.level
  if g.follows then q15 c g.vol else c

/-- An output sample saturated to 16 bits (R129 step 6). -/
def saturate16 (x : Int) : Int := clampInt (-32768) 32767 x

/-- 1 for a sum that saturates (R130). -/
def saturates (x : Int) : Nat := if x < -32768 ∨ 32767 < x then 1 else 0

/-- One output frame (R129). -/
def mixFrame (g : MixGains) (f : StereoFrame) (chime : Int) : StereoFrame :=
  ⟨saturate16 (filmPart g f.left + chimePart g chime), saturate16 (filmPart g f.right + chimePart g chime)⟩

/-- The saturated channels of one frame (R130). -/
def frameSaturations (g : MixGains) (f : StereoFrame) (chime : Int) : Nat :=
  saturates (filmPart g f.left + chimePart g chime) + saturates (filmPart g f.right + chimePart g chime)

/-- The voice that holds a zone (R139). -/
def holder (s : State) (z : Zone) : Option (Fin 4) :=
  (List.finRange 4).find? fun v => (s.voice v).state ≠ .idle && (s.voice v).zones.has z

/-- The 48 chime samples of a zone's block (R118 step 4). -/
def chimeBlock (s : State) (z : Zone) : List Int :=
  match holder s z with
  | some v => (s.voice v).block
  | none => List.replicate Config.blockFrames 0

/-- The volume gain of a zone (R122). -/
def volumeGain (s : State) (z : Zone) : Nat := s.audio.volumeTable.toList.getD (s.zone z).settings.volume 0

/-- A zone's mix gains at a block: the stepped duck gain, the volume gain, and the holding voice's settings. -/
def mixGains (s : State) (z : Zone) : MixGains :=
  let r := s.zone z
  { vol := volumeGain s z, duck := r.steppedGain, mute := r.settings.mute,
    level := match holder s z with | some v => (s.voice v).level | none => 0,
    follows := match holder s z with | some v => (s.voice v).follows | none => false }

/-- A zone after its block event, less the attention flag (R118, R120, R127, R129, R130). -/
def zoneAfterBlock (s : State) (z : Zone) : ZoneRecord :=
  let g := mixGains s z
  let (film, r) := takeFilm (s.zone z)
  let pairs := film.zip (chimeBlock s z)
  { r with
    gain := g.duck,
    output := pairs.map fun p => mixFrame g p.1 p.2,
    saturate := bumpBy r.saturate (pairs.map fun p => frameSaturations g p.1 p.2).sum }

/-- A Zone Mixer's block event (R118). -/
def zoneBlock (z : Zone) (s : State) : State :=
  let s' := s.setZone z (zoneAfterBlock s z)
  if (s.zone z).underflows then raiseFlag .audioUnderflow s' else s'

/-! ### Commands and status -/

def FifoState.code : FifoState → Nat
  | .priming => 0
  | .playing => 1

def DemandState.code : DemandState → Nat
  | .none => 0
  | .active => 1
  | .hold => 2

/-- The zone status (R131). That the takeover demand's byte is 1 for applied, and the bytes of mute and voice demand 1 for
on and yes, is the model's choice (log entry 26). -/
def zoneStatus (s : State) (z : Zone) : List Byte :=
  let r := s.zone z
  let t := r.settings
  u8 t.volume ++ [boolByte t.mute] ++ u16 t.duckLevel ++ u8 t.ramp ++ u16 t.hold ++ u16 (volumeGain s z)
    ++ u8 r.fifoState.code ++ u16 r.fifo.length ++ u8 r.demand.code ++ [boolByte (takeoverDemandOn s z)]
    ++ [boolByte r.voiceDemand] ++ u16 r.gain ++ u16 (r.holdTimer.getD 0)

/-- The settings a ZONE_SET with APPLY carries, when they are valid (R123). -/
def zoneSettings? (z : Zone) (p : ZoneParams) : Option ZoneSettings := do
  let mute ← flag? p.mute
  if p.volume ≤ 40 ∧ p.duckLevel ≤ 32768 ∧ 1 ≤ p.ramp ∧ p.ramp ≤ 100 ∧ p.hold ≤ 1000 ∧ ¬(z = .cabin ∧ mute = true) then
    some { volume := p.volume, mute := mute, duckLevel := p.duckLevel, ramp := p.ramp, hold := p.hold }
  else none

/-- A zone's settings replaced, with the duck gain clamped at once (R123, R128). -/
def applyZoneSettings (z : Zone) (t : ZoneSettings) (s : State) : State :=
  s.setZone z { s.zone z with settings := t, gain := max t.duckLevel (s.zone z).gain }

/-- ZONE_SET (R123): option 0 is APPLY, 1 is READ. -/
def zoneSet (zone option : Nat) (p : ZoneParams) (s : State) : Answer :=
  match zone? zone with
  | none => refuse .param s
  | some z =>
    if option = 1 then report (zoneStatus s z) s
    else if option ≠ 0 then refuse .param s
    else
      match zoneSettings? z p with
      | none => refuse .param s
      | some t => report (zoneStatus (applyZoneSettings z t s) z) (applyZoneSettings z t s)

/-- VOLUME_TABLE_SET (R122). Another number of values than 41 is PARAM here, at the owner. A packet with such an area does
not come so far: R186 makes its check 5 first (log entry 67). -/
def volumeTableSet (values : List Nat) (s : State) : Answer :=
  match table? 41 values with
  | none => refuse .param s
  | some t =>
    if values.all (· ≤ 32768) && values.headD 0 == 0 && eachToNext (fun a b => a ≤ b) values then
      done { s with audio.volumeTable := t }
    else refuse .param s

end Sys2Proof.Machine
end

