-- ==== Sys2Proof/Machine/Chimes.lean ====
section
/-! DEFINITION. The Chime Engine (chapter 7): catalogue, requests, queue, dispatch, voices, playback, and the proximity
function. -/

namespace Sys2Proof.Machine

/-! ### Catalogue and assets (R133, R134) -/

def State.chimeEntry (s : State) (id : Fin 32) : Option ChimeEntry := s.chime.catalogue[id]

/-- The asset of an id, when it is usable as a chime (R134). -/
def usableAsset (id : Nat) (s : State) : Option AssetRecord :=
  match s.asset? id with
  | none => none
  | some r => if r.kind = .chimePcm ∧ 2 ≤ r.length then some r else none

/-- The asset a chime would play now: its entry is defined and its asset usable (R134, R141 step 1). -/
def chimeAsset (id : Fin 32) (s : State) : Option AssetRecord :=
  match s.chimeEntry id with
  | none => none
  | some e => usableAsset e.asset s

def countChime (f : ChimeCounters → ChimeCounters) (s : State) : State := { s with chime.counters := f s.chime.counters }

/-- A drop or a displacement: CHIME_DROPPED counted and raised (R138, R142). -/
def chimeDropped (s : State) : State :=
  raiseFlag .chimeDropped (countChime (fun c => { c with dropped := bump c.dropped }) s)

def setProximity (p : ProximityState) (s : State) : State := { s with chime.proximity := p }

/-! ### Voices (R139, R144, R145) -/

def Voice.busy (r : Voice) : Bool := r.state ≠ .idle

/-- Whether a voice holds a zone of a set (R139). -/
def Voice.meets (r : Voice) (z : ZoneSet) : Bool := r.busy && !(r.zones.inter z).isEmpty

def Voice.buffer (r : Voice) (one : Bool) : PageBuffer := if one then r.buffer1 else r.buffer0

def Voice.setBuffer (r : Voice) (one : Bool) (b : PageBuffer) : Voice :=
  if one then { r with buffer1 := b } else { r with buffer0 := b }

/-- The page a buffer holds or awaits. -/
def PageBuffer.page? : PageBuffer → Option Nat
  | .empty => none
  | .reading p _ => some p
  | .ready p _ => some p

/-- The sample count of a voice's asset (R134). -/
def Voice.samples (r : Voice) : Nat := r.length / 2

/-- The pages of a voice's asset in play order (R144): those that hold a sample, 2048 to a page (R134). A page of the store
that holds only the odd byte which is not played is none of them, the model's inference (log entry 80). -/
def Voice.pages (r : Voice) : Nat := ceilDiv r.samples (Config.pageBytes / 2)

/-- The page after a page in play order, if any (R144). -/
def Voice.nextPage (r : Voice) (p : Nat) : Option Nat :=
  if p + 1 < r.pages then some (p + 1) else if 1 < r.repeats then some 0 else none

/-- A buffer set to READING a page, with one read issued, or EMPTY when nothing is to be read (R144). -/
def fillBuffer (v : Fin 4) (one : Bool) (page : Option Nat) (s : State) : State :=
  match page with
  | none => s.setVoice v ((s.voice v).setBuffer one .empty)
  | some p =>
    let (token, s1) := takeToken s
    let r := s1.voice v
    issueAssetRead (.voice v token) r.asset r.generation p (s1.setVoice v (r.setBuffer one (.reading p token)))

/-- A consumed buffer is refilled with the page that follows the other buffer's (R144). -/
def refillBuffer (v : Fin 4) (one : Bool) (s : State) : State :=
  let r := s.voice v
  fillBuffer v one (((r.buffer (!one)).page?).bind r.nextPage) s

/-- The proximity function's state follows its voice's end (R149). -/
def proximityVoiceGone (r : Voice) (s : State) : State :=
  if r.proximity ∧ (s.chime.proximity = .sounding ∨ s.chime.proximity = .tailing) then setProximity .quiet s else s

/-- The zones of a set told that their voice demand has begun, or ended (R125). -/
def beginDemands (z : ZoneSet) (s : State) : State :=
  zones.foldl (fun s k => if z.has k then voiceDemandBegins k s else s) s

def endDemands (z : ZoneSet) (s : State) : State :=
  zones.foldl (fun s k => if z.has k then voiceDemandEnds k s else s) s

/-- A voice becomes IDLE: zones, demands, pin and buffers are released (R145), less the dispatch that follows. -/
def endVoice (v : Fin 4) (s : State) : State :=
  let r := s.voice v
  if r.busy then
    let s1 := s.setVoice v .reset
    unpinAsset r.asset r.generation (if r.duck then endDemands r.zones s1 else s1)
  else s

/-! ### The queue (R138) -/

/-- A queue entry put in its place: by priority, highest first, then by arrival number. -/
def insertEntry (e : QueueEntry) : List QueueEntry → List QueueEntry
  | [] => [e]
  | x :: xs =>
    if x.priority < e.priority ∨ (x.priority = e.priority ∧ e.arrival < x.arrival) then e :: x :: xs
    else x :: insertEntry e xs

/-- Zones added to the queue entry of an id (R137 step 2). -/
def widenEntry (id : Fin 32) (z : ZoneSet) (q : List QueueEntry) : List QueueEntry :=
  q.map fun e => if e.id = id then { e with zones := e.zones.union z } else e

def State.queued? (s : State) (id : Fin 32) : Option QueueEntry := s.chime.queue.find? fun e => e.id == id

def setQueue (q : List QueueEntry) (s : State) : State := { s with chime.queue := q }

/-- A queue entry removed, with the state of the function that may have made it (R149). -/
def removeEntry (e : QueueEntry) (s : State) : State :=
  let s1 := setQueue (s.chime.queue.filter fun x => x.id ≠ e.id) s
  if e.proximity ∧ s.chime.proximity = .requested then setProximity .quiet s1 else s1

/-- An entry enters the queue: in its place, displacing the last-ordered lowest, or refused (R138). -/
def enqueue (e : QueueEntry) (s : State) : Option State :=
  let marked := fun t => if e.proximity then setProximity .requested t else t
  if s.chime.queue.length < Config.chimeQueueEntries then
    some (marked (setQueue (insertEntry e s.chime.queue) s))
  else
    match s.chime.queue.getLast? with
    | none => none
    | some l =>
      if l.priority < e.priority then
        let s1 := chimeDropped (removeEntry l s)
        some (marked (setQueue (insertEntry e s1.chime.queue) s1))
      else none

/-! ### Silencing and starting (R141 to R143) -/

/-- A voice silenced at a start: it becomes IDLE and is requeued or dropped (R142). A drop counts CHIME_DROPPED and raises
its flag (R142, R190); that of a stopping voice is not counted (R146) but raises the flag as every dropped voice does
(R190; log entry 72). -/
def silenceVoice (v : Fin 4) (s : State) : State :=
  let r := s.voice v
  let s1 := endVoice v s
  let dropped :=
    let s2 := proximityVoiceGone r s1
    if r.stopping then raiseFlag .chimeDropped s2 else chimeDropped s2
  if r.repeats = 255 ∧ !r.stopping ∧ !r.tailing then
    match s1.queued? r.id with
    | some e =>
      let s2 := setQueue (widenEntry r.id r.zones s1.chime.queue) s1
      if e.proximity then s2 else proximityVoiceGone r s2
    | none =>
      if s1.chime.queue.length < Config.chimeQueueEntries then
        let e : QueueEntry := { id := r.id, zones := r.zones, priority := r.priority, repeats := 255,
                                proximity := r.proximity, arrival := r.arrival }
        let s2 := setQueue (insertEntry e s1.chime.queue) s1
        if r.proximity ∧ s.chime.proximity = .sounding then setProximity .requested s2 else s2
      else dropped
  else dropped

/-- The voice of lowest priority that is not IDLE, the lowest start number among equals (R141 step 3). -/
def victim (s : State) : Option (Fin 4) :=
  (List.finRange 4).foldl (fun best v =>
    if (s.voice v).busy then
      match best with
      | none => some v
      | some b =>
        if (s.voice v).priority < (s.voice b).priority
            ∨ ((s.voice v).priority = (s.voice b).priority ∧ (s.voice v).start < (s.voice b).start) then some v
        else best
    else best) none

/-- Step 2 of the start test: each zone is free or held below the priority (R141). -/
def zonesPass (p : Nat) (z : ZoneSet) (s : State) : Bool :=
  zones.all fun k => !z.has k || (match holder s k with
    | none => true
    | some v => decide ((s.voice v).priority < p))

/-- Step 3 of the start test: a voice is obtainable (R141). -/
def voicePass (p : Nat) (z : ZoneSet) (s : State) : Bool :=
  (List.finRange 4).any (fun v => !(s.voice v).busy) || (List.finRange 4).any (fun v => (s.voice v).meets z)
    || (match victim s with
      | none => false
      | some v => decide ((s.voice v).priority < p))

/-- The start test of an entry (R141). -/
def startTest (e : QueueEntry) (s : State) : Bool :=
  (chimeAsset e.id s).isSome && zonesPass e.priority e.zones s && voicePass e.priority e.zones s

/-- Every voice in the way of a start is silenced, in order of voice number, then the victim if need be (R141). -/
def clearTheWay (z : ZoneSet) (s : State) : State :=
  let s1 := (List.finRange 4).foldl (fun s v => if (s.voice v).meets z then silenceVoice v s else s) s
  if (List.finRange 4).any (fun v => !(s1.voice v).busy) then s1
  else
    match victim s1 with
    | none => s1
    | some v => silenceVoice v s1

/-- A voice starts an entry (R143, R144). -/
def beginVoice (v : Fin 4) (e : QueueEntry) (c : ChimeEntry) (a : AssetRecord) (s : State) : State :=
  let r : Voice := { Voice.reset with
    state := .loading, id := e.id, zones := e.zones, priority := e.priority, level := c.level, duck := c.duck,
    follows := c.follows, repeats := e.repeats, proximity := e.proximity, start := s.chime.nextStart, arrival := e.arrival,
    asset := a.id, generation := a.generation, length := a.length }
  let s1 := pinAsset a.id ({ s with chime.nextStart := s.chime.nextStart + 1 }.setVoice v r)
  let s2 := if e.proximity then setProximity .sounding s1 else s1
  let s3 := fillBuffer v true (r.nextPage 0) (fillBuffer v false (some 0) s2)
  if c.duck then beginDemands e.zones s3 else s3

/-- An entry that passed the start test starts: the way is cleared, the entry leaves the queue, and the lowest IDLE
voice starts it (R141). -/
def startEntry (e : QueueEntry) (s : State) : State :=
  let s1 := clearTheWay e.zones s
  let s2 := setQueue (s1.chime.queue.filter fun x => x.id ≠ e.id) s1
  match (List.finRange 4).find? (fun v => !(s2.voice v).busy), s2.chimeEntry e.id, chimeAsset e.id s2 with
  | some v, some c, some a => beginVoice v e c a s2
  | _, _, _ => s2

/-- The first entry that can start, after the entries with no usable asset have been removed and counted (R141). -/
def purgeEntry (s : State) (e : QueueEntry) : State :=
  if (chimeAsset e.id s).isNone then
    countChime (fun c => { c with undefined := bump c.undefined }) (removeEntry e s)
  else s

/-- One examination of the queue from its head (R140): a start, or nothing. Entries that come before the one that
starts, and whose asset is not usable, are removed. -/
def examine : List QueueEntry → State → State × Bool
  | [], s => (s, false)
  | e :: rest, s =>
    if (chimeAsset e.id s).isNone then examine rest (purgeEntry s e)
    else if startTest e s then (startEntry e s, true)
    else examine rest s

/-- Dispatch (R140), for at most a number of starts. -/
def dispatchFor : Nat → State → State
  | 0, s => s
  | n + 1, s =>
    match examine s.chime.queue s with
    | (s', true) => dispatchFor n s'
    | (s', false) => s'

/-- Dispatch (R140). Each start silences voices of lower priority only, so its starts are far fewer than this bound. -/
def dispatch (s : State) : State := dispatchFor 4096 s

/-- Dispatch after an event's work, when a voice has become IDLE by it or the queue has changed (R140). -/
def dispatchAfter (before s : State) : State :=
  if s.chime.queue = before.chime.queue ∧ (List.finRange 4).all (fun v => (s.voice v).busy == (before.voice v).busy) then s
  else dispatch s

/-! ### Requests (R135 to R137) -/

/-- How a taken request was settled (R137). -/
inductive Settled where
  | absorbed | merged | started | queued | refused
  deriving DecidableEq, Repr

/-- The zones of a request that no voice of the same chime covers (R137 step 1). -/
def uncovered (id : Fin 32) (z : ZoneSet) (s : State) : ZoneSet :=
  (List.finRange 4).foldl (fun z v =>
    let r := s.voice v
    if r.busy && r.id == id && !r.stopping then z.minus r.zones else z) z

/-- A taken request settled (R137); every taken request takes the next arrival number (log entry 17). -/
def settleRequest (id : Fin 32) (z : ZoneSet) (c : ChimeEntry) (proximity : Bool) (s : State) : Settled × State :=
  let arrival := s.chime.nextArrival
  let s0 := { s with chime.nextArrival := arrival + 1 }
  let left := uncovered id z s0
  let e : QueueEntry := { id := id, zones := left, priority := c.priority, repeats := if proximity then 255 else c.repeats,
                          proximity := proximity, arrival := arrival }
  let merged := countChime (fun c => { c with merged := bump c.merged })
  if left.isEmpty then (.absorbed, merged s0)
  else if (s0.queued? id).isSome then
    (.merged, dispatch (merged (setQueue (widenEntry id left s0.chime.queue) s0)))
  else if startTest e s0 then (.started, dispatch (startEntry e s0))
  else
    match enqueue e s0 with
    | some s1 => (.queued, dispatch s1)
    | none => (.refused, dispatch s0)

/-- A request of the Menu Engine, the Takeover Controller or the proximity function (R136): zones of its own, or the
entry's mask. -/
def internalRequest (id : Fin 32) (z : Option ZoneSet) (proximity : Bool) (s : State) : State :=
  match s.chimeEntry id with
  | none => countChime (fun c => { c with undefined := bump c.undefined }) s
  | some c =>
    if !s.storeReady then countChime (fun k => { k with notReady := bump k.notReady }) s
    else
      match usableAsset c.asset s with
      | none => countChime (fun k => { k with undefined := bump k.undefined }) s
      | some _ =>
        match settleRequest id (z.getD c.zones) c proximity s with
        | (.refused, s1) => countChime (fun k => { k with refused := bump k.refused }) s1
        | (_, s1) => s1

/-- A request by a chime id of the settings, where 255 requests nothing (R9, R111). -/
def requestById (id : Nat) (z : Option ZoneSet) (s : State) : State :=
  match fin? 32 id with
  | none => s
  | some i => internalRequest i z false s

/-- CHIME_PLAY (R136, R137). -/
def chimePlay (id mask : Nat) (s : State) : Answer :=
  match fin? 32 id, zoneSet? mask with
  | some i, some m =>
    match s.chimeEntry i with
    | none => refuse .notFound s
    | some c =>
      let z := if m.isEmpty then c.zones else m.inter c.zones
      if z.isEmpty then refuse .param s
      else if !s.storeReady then refuse .notReady s
      else
        match usableAsset c.asset s with
        | none => refuse .notFound s
        | some _ =>
          match settleRequest i z c false s with
          | (.refused, s1) => ⟨.busy, [], s1, .nothing⟩
          | (_, s1) => done s1
  | _, _ => refuse .param s

/-! ### The proximity function (R147 to R150) -/

/-- Whether the function is enabled (R148). -/
def proximityEnabled (s : State) : Bool :=
  s.chime.proximityId.isSome && s.vehicle.reverseAsserted && s.vehicle.fresh

/-- The band d_min belongs to, when it is in band (R148). -/
def proximityBand (s : State) : Option ProximityBand :=
  match nearestObstacle s.vehicle.distances with
  | none => none
  | some d => s.chime.proximityBands.find? fun b => decide (d < b.limit)

/-- The function requests its chime when d_min is in band; its state is QUIET unless the request stands (R149). -/
def proximityRequest (s : State) : State :=
  match s.chime.proximityId, proximityBand s with
  | some i, some _ => internalRequest i none true (setProximity .quiet s)
  | _, _ => setProximity .quiet s

/-- The function's stop: its entry is removed and its voice ended, at this event (R150). -/
def proximityStop (s : State) : State :=
  let s1 := setQueue (s.chime.queue.filter fun e => !e.proximity) s
  let s2 := (List.finRange 4).foldl (fun s v => if (s.voice v).busy && (s.voice v).proximity then endVoice v s else s) s1
  dispatchAfter s (setProximity .off s2)

/-- The function's conditions evaluated where they may have changed (R149, R150). -/
def proximityEvaluate (s : State) : State :=
  if proximityEnabled s then (if s.chime.proximity = .off then proximityRequest s else s)
  else if s.chime.proximity = .off then s
  else proximityStop s

/-- The voices of the function marked tailing, or unmarked; one in GAP ends at once when marked (R149). -/
def markTailing (on : Bool) (s : State) : State :=
  dispatchAfter s ((List.finRange 4).foldl (fun s v =>
    let r := s.voice v
    if r.busy && r.proximity then
      if on && r.state == .gap then proximityVoiceGone r (endVoice v s) else s.setVoice v { r with tailing := on }
    else s) s)

/-- An accepted VEHICLE packet at a function that was enabled before it (R149). -/
def proximityPacket (s : State) : State :=
  match s.chime.proximity, proximityBand s with
  | .quiet, some _ => proximityRequest s
  | .requested, none => dispatch (setProximity .quiet (setQueue (s.chime.queue.filter fun e => !e.proximity) s))
  | .sounding, none => markTailing true (setProximity .tailing s)
  | .tailing, some _ => markTailing false (setProximity .sounding s)
  | _, _ => s

/-- Whether the bands of a PROXIMITY_SET are valid (R147). -/
def proximityBandsOk (bands : List ProximityBand) : Bool :=
  bands.all (fun b => 10 ≤ b.limit && b.limit ≤ 2550 && b.gap ≤ 5000)
    && eachToNext (fun a b => decide (a.limit < b.limit)) bands && bands.length ≤ 5

/-- PROXIMITY_SET (R147). -/
def proximitySet (id : Nat) (bands : List ProximityBand) (s : State) : Answer :=
  if (31 < id ∧ id ≠ 255) ∨ (id ≠ 255 ∧ bands.length = 0) ∨ !proximityBandsOk bands then refuse .param s
  else
    let s1 := proximityStop s
    done (proximityEvaluate { s1 with chime.proximityId := fin? 32 id, chime.proximityBands := bands })

/-- CHIME_STOP (R146, R150). -/
def chimeStop (id : Nat) (s : State) : Answer :=
  if 31 < id ∧ id ≠ 255 then refuse .param s
  else
    let names := fun i : Fin 32 => id = 255 || id = i.val
    let s1 := setQueue (s.chime.queue.filter fun e => !names e.id) s
    let s2 := (List.finRange 4).foldl (fun s v =>
      let r := s.voice v
      if r.busy && names r.id then s.setVoice v { r with stopping := true } else s) s1
    let suspends : Bool := s.chime.proximity ≠ .off && (match s.chime.proximityId with | none => false | some i => names i)
    done (dispatchAfter s (if suspends then setProximity .suspended s2 else s2))

/-! ### Playback (R143, R145) -/

/-- A voice block being made: the samples so far, newest first, whether one was missed, whether the play has ended. -/
structure BlockRun where
  samples : List Int
  short : Bool
  ended : Bool
  deriving DecidableEq, Repr

/-- The lower-numbered READY buffer that holds a page, and its bytes. -/
def Voice.readyPage (r : Voice) (p : Nat) : Option (Bool × List Byte) :=
  match r.buffer0, r.buffer1 with
  | .ready q bytes, b1 =>
    if q = p then some (false, bytes)
    else match b1 with
      | .ready q1 bytes1 => if q1 = p then some (true, bytes1) else none
      | _ => none
  | _, .ready q bytes => if q = p then some (true, bytes) else none
  | _, _ => none

/-- The samples of one store page (R134). -/
def samplesPerPage : Nat := 2048

/-- One sample of a voice block (R143, R144). -/
def playSample (v : Fin 4) (run : BlockRun) (s : State) : BlockRun × State :=
  let r := s.voice v
  if run.ended then ({ run with samples := 0 :: run.samples }, s)
  else
    match r.readyPage (r.position / samplesPerPage) with
    | none => ({ run with samples := 0 :: run.samples, short := true }, s)
    | some (one, bytes) =>
      let k := r.position % samplesPerPage
      let x := sample16 (bytes.getD (2 * k) 0) (bytes.getD (2 * k + 1) 0)
      let next := r.position + 1
      let s1 := s.setVoice v { r with position := next }
      let ends : Bool := next = r.samples
      let s2 := if next % samplesPerPage = 0 ∨ ends then refillBuffer v one s1 else s1
      (⟨x :: run.samples, run.short, ends⟩, s2)

/-- The samples of a voice block, one after another. -/
def playSamples (v : Fin 4) : Nat → BlockRun → State → BlockRun × State
  | 0, run, s => (run, s)
  | n + 1, run, s => playSamples v n (playSample v run s).1 (playSample v run s).2

/-- The gap a voice waits: its entry's, or for a proximity voice the gap of the band d_min belongs to (R145, R149). -/
def gapOf (r : Voice) (s : State) : Nat :=
  if r.proximity then
    match proximityBand s with
    | some b => b.gap
    | none => 0
  else
    match s.chimeEntry r.id with
    | some c => c.gap
    | none => 0

/-- A voice enters GAP; a gap of 0 expires at once (R145). -/
def enterGap (v : Fin 4) (repeats : Nat) (s : State) : State :=
  let r := s.voice v
  let gap := gapOf r s
  if gap = 0 then s.setVoice v { r with repeats := repeats, state := .playing, position := 0 }
  else s.setVoice v { r with repeats := repeats, state := .gap, gapTimer := some gap }

/-- A voice ends at the end of its play, by a failed read or by its stopping, and dispatch runs (R145). -/
def finishVoice (v : Fin 4) (s : State) : State := dispatch (proximityVoiceGone (s.voice v) (endVoice v s))

/-- The end of a play (R145). -/
def endPlay (v : Fin 4) (s : State) : State :=
  let r := s.voice v
  if r.tailing then finishVoice v s
  else if r.repeats = 255 then enterGap v 255 s
  else if r.repeats ≤ 1 then finishVoice v s
  else enterGap v (r.repeats - 1) s

/-- A voice's block of samples in PLAYING (R143). -/
def playBlock (v : Fin 4) (s : State) : State :=
  let (run, s1) := playSamples v Config.blockFrames ⟨[], false, false⟩ s
  let s2 := s1.setVoice v { s1.voice v with block := run.samples.reverse }
  let s3 := if run.short then countChime (fun c => { c with underrun := bump c.underrun }) s2 else s2
  if run.ended then endPlay v s3 else s3

/-- A voice block event (R139). -/
def voiceBlock (v : Fin 4) (s : State) : State :=
  let r := s.voice v
  match r.state with
  | .idle => s
  | .loading =>
    if r.stopping then finishVoice v s else s.setVoice v { r with block := List.replicate Config.blockFrames 0 }
  | .gap =>
    if r.stopping then finishVoice v s else s.setVoice v { r with block := List.replicate Config.blockFrames 0 }
  | .playing => if r.stopping then finishVoice v s else playBlock v s

/-- The gap timer's expiry (R145). -/
def gapExpires (v : Fin 4) (s : State) : State :=
  let r := s.voice v
  if r.state = .gap ∧ r.gapTimer.isSome then s.setVoice v { r with state := .playing, position := 0, gapTimer := none } else s

/-- The buffer of a voice that awaits a read. -/
def Voice.awaits (r : Voice) (token : Nat) : Option (Bool × Nat) :=
  match r.buffer0, r.buffer1 with
  | .reading p t, b1 =>
    if t = token then some (false, p)
    else match b1 with
      | .reading p1 t1 => if t1 = token then some (true, p1) else none
      | _ => none
  | _, .reading p t => if t = token then some (true, p) else none
  | _, _ => none

/-- The completion of a voice's page read (R143 to R145); a read no buffer awaits is discarded. -/
def voicePageRead (v : Fin 4) (token : Nat) (content : Option (List Byte)) (s : State) : State :=
  let r := s.voice v
  match r.awaits token with
  | none => s
  | some (one, p) =>
    match content with
    | none => finishVoice v (countChime (fun c => { c with readFail := bump c.readFail }) s)
    | some bytes =>
      let r1 := r.setBuffer one (.ready p bytes)
      s.setVoice v (if r.state = .loading ∧ p = 0 then { r1 with state := .playing } else r1)

/-! ### CHIME_DEFINE and the status (R133, R151) -/

/-- The entry a DEFINE carries, when it is valid (R133). -/
def chimeParams? (p : ChimeParams) : Option ChimeEntry := do
  let z ← zoneSet? p.zones
  let duck ← flag? p.duck
  let follows ← flag? p.follows
  if 2 ≤ p.asset ∧ p.asset ≤ 1023 ∧ p.level ≤ 32768 ∧ p.priority ≤ 7 ∧ !z.isEmpty ∧ 1 ≤ p.repeats ∧ p.repeats ≤ 255
      ∧ p.gap ≤ 5000 then
    some { asset := p.asset, level := p.level, priority := p.priority, zones := z, repeats := p.repeats, gap := p.gap,
           duck := duck, follows := follows }
  else none

/-- Whether a chime is queued or sounding (R133). -/
def chimeInUse (id : Fin 32) (s : State) : Bool :=
  (s.queued? id).isSome || (List.finRange 4).any fun v => (s.voice v).busy && (s.voice v).id == id

def ChimeEntry.bytes (e : ChimeEntry) : List Byte :=
  u16 e.asset ++ u16 e.level ++ u8 e.priority ++ [e.zones.byte] ++ u8 e.repeats ++ u16 e.gap ++ [boolByte e.duck]
    ++ [boolByte e.follows]

def QueueEntry.bytes (e : QueueEntry) : List Byte :=
  u8 e.id.val ++ [e.zones.byte] ++ u8 e.priority ++ u8 e.repeats ++ [boolByte e.proximity] ++ u32 e.arrival

def VoiceState.code : VoiceState → Nat
  | .idle => 0
  | .loading => 1
  | .playing => 2
  | .gap => 3

/-- A voice's page buffer as result data: its state, then its page in 2 bytes, 0 for EMPTY (log entry 13). -/
def PageBuffer.bytes : PageBuffer → List Byte
  | .empty => u8 0 ++ u16 0
  | .reading p _ => u8 1 ++ u16 p
  | .ready p _ => u8 2 ++ u16 p

def Voice.bytes (r : Voice) : List Byte :=
  u8 r.state.code ++ u8 r.id.val ++ [r.zones.byte] ++ u8 r.priority ++ u8 r.repeats ++ [boolByte r.proximity]
    ++ [boolByte r.tailing] ++ [boolByte r.stopping] ++ u32 r.position ++ r.buffer0.bytes ++ r.buffer1.bytes

def ProximityState.code : ProximityState → Nat
  | .off => 0
  | .quiet => 1
  | .requested => 2
  | .sounding => 3
  | .tailing => 4
  | .suspended => 5

def proximityIdByte : Option (Fin 32) → List Byte
  | none => u8 255
  | some i => u8 i.val

/-- The status a READ returns after the entry (R151). That the four voices stand one after another without the count that
R185 gives a list is the model's choice (log entry 13): R151 has an item for each voice, and their number is fixed. -/
def chimeStatus (s : State) : List Byte :=
  listBytes QueueEntry.bytes s.chime.queue ++ s.chime.voices.toList.flatMap Voice.bytes ++ u8 s.chime.proximity.code
    ++ proximityIdByte s.chime.proximityId
    ++ listBytes (fun b : ProximityBand => u16 b.limit ++ u16 b.gap) s.chime.proximityBands
    ++ optionBytes u16 (nearestObstacle s.vehicle.distances)

def setChimeEntry (id : Fin 32) (e : Option ChimeEntry) (s : State) : State :=
  { s with chime.catalogue := s.chime.catalogue.set id e }

/-- CHIME_DEFINE (R133): option 0 is DEFINE, 1 REMOVE, 2 READ. -/
def chimeDefine (id option : Nat) (p : Option ChimeParams) (s : State) : Answer :=
  match fin? 32 id with
  | none => refuse .param s
  | some i =>
    if option = 2 then report (optionBytes ChimeEntry.bytes (s.chimeEntry i) ++ chimeStatus s) s
    else if option = 1 then
      if chimeInUse i s then refuse .inUse s else done (setChimeEntry i none s)
    else if option = 0 then
      match p.bind chimeParams? with
      | none => refuse .param s
      | some e => if chimeInUse i s then refuse .inUse s else done (setChimeEntry i (some e) s)
    else refuse .param s

end Sys2Proof.Machine
end

