-- ==== Sys2Proof/Machine/Raster.lean ====
section
/-! DEFINITION. The Raster Engine and the glyph cache (sections 5.1 to 5.4, 5.7): requests, renders, plane swaps, what
each plane's render draws, and glyph cache loads. -/

namespace Sys2Proof.Machine

/-! ### Places in the frame memory (R93, R99) -/

def Plane.index : Plane → Nat
  | .guide => 0
  | .takeover => 1
  | .menuL => 2
  | .menuR => 3

/-- The first byte of a plane's buffer 0 or 1 (section 4.1). -/
def planeBuffer (p : Plane) (one : Bool) : Nat :=
  Config.planeBase + (2 * p.index + (if one then 1 else 0)) * Config.planeBufferBytes

/-- Where a plane pixel lies in a buffer drawn at a width (R93). -/
def planePixelOffset (width x y : Nat) : Nat := (y * width + x) * 4

/-- The first byte of a text glyph and of an icon in the glyph cache (R99). -/
def glyphAddress (code : Nat) : Nat := Config.glyphBase + code * Config.glyphBytes
def iconAddress (code : Nat) : Nat := Config.glyphBase + Config.iconOffset + (code - 224) * Config.iconBytes

/-! ### What a drawing operation sets (R41, R103) -/

/-- Whether a pixel lies in a box. -/
def inBox (x y w h px py : Int) : Bool := x ≤ px && px < x + w && y ≤ py && py < y + h

/-- An ARGB pixel in the frame memory: alpha, red, green, blue (R93, R99). -/
def readArgbAt (m : List Host.Cell) (a : Nat) : Argb :=
  ⟨Memory.read m a, Memory.read m (a + 1), Memory.read m (a + 2), Memory.read m (a + 3)⟩

/-- Whether a text glyph has ink at a column and a row of its 16 × 24 (R99). -/
def glyphInk (m : List Host.Cell) (code col row : Nat) : Bool :=
  (Memory.read m (glyphAddress code + row * 2 + col / 8)).getMsbD (col % 8)

/-- The colour an operation sets a pixel to, or none where it leaves the pixel as it is. -/
def DrawOp.colourAt (m : List Host.Cell) (px py : Int) : DrawOp → Option Argb
  | .rect x y w h c => if inBox x y w h px py then some c else none
  | .glyph x y code c =>
    if inBox x y 16 24 px py && glyphInk m code (px - x).toNat (py - y).toNat then some c else none
  | .icon x y code =>
    if inBox x y 48 48 px py then
      let c := readArgbAt m (iconAddress code + ((py - y).toNat * 48 + (px - x).toNat) * 4)
      if c.a = 0 then none else some c
    else none
  | .box x y w h c =>
    if inBox x y w h px py && (py == y || py == y + h - 1 || px == x || px == x + w - 1) then some c else none

/-- A plane pixel after all of a render's operations: the last one that sets it, over transparency (R41, R116). -/
def planePixel (m : List Host.Cell) (ops : List DrawOp) (px py : Int) : Argb :=
  (ops.reverse.findSome? (DrawOp.colourAt m px py)).getD ⟨0, 0, 0, 0⟩

/-- The bytes of a drawn plane buffer (R93). -/
def planeBytes (m : List Host.Cell) (width height : Nat) (ops : List DrawOp) : List Byte :=
  (List.range height).flatMap fun y => (List.range width).flatMap fun x => argbBytes (planePixel m ops x y)

/-! ### Text, icons and the takeover graphic (R103, R104) -/

/-- A text glyph, or its fallback box. -/
def glyphOp (loaded : Bool) (x y : Int) (code : Nat) (c : Argb) : DrawOp :=
  if loaded then .glyph x y code c else .box x y 16 24 c

/-- An icon, or its fallback box in the text colour. -/
def iconOp (loaded : Bool) (x y : Int) (code : Nat) (text : Argb) : DrawOp :=
  if loaded then .icon x y code else .box x y 48 48 text

/-- Text glyphs side by side, 16 pixels apart. -/
def textOps (loaded : Bool) (x y : Int) (codes : List Nat) (c : Argb) : List DrawOp :=
  codes.mapIdx fun n code => glyphOp loaded (x + 16 * n) y code c

def black : Argb := ⟨255, 0, 0, 0⟩
def white : Argb := ⟨255, 255, 255, 255⟩
def grey : Argb := ⟨255, 96, 96, 96⟩

/-- The message a TAKEOVER render draws (R104). -/
def takeoverMessage (t : Takeover) : Option Message :=
  match t.phase, t.view with
  | .idle, _ => none
  | _, .live => none
  | _, .waiting => some t.settings.starting
  | _, .lost => some t.settings.unavailable
  | _, .frozen => some t.settings.unavailable

/-- All that a TAKEOVER render draws (R104). -/
def takeoverOps (loaded : Bool) (t : Takeover) (w h : Nat) : List DrawOp :=
  match takeoverMessage t with
  | none => []
  | some m =>
    if loaded then
      [.rect 0 0 w h black, .icon (floorDiv ((w : Int) - 48) 2) (floorDiv h 2 - 56) m.icon]
        ++ textOps true (floorDiv ((w : Int) - 16 * m.text.length) 2) (floorDiv h 2 + 8) m.text white
    else [.rect 0 0 w h grey]

/-! ### Menu planes (R116) -/

/-- The top entry of a seat's page stack, and its current page id (section 5.6). -/
def SeatContext.top (c : SeatContext) : StackEntry := c.above.getLastD c.root
def SeatContext.currentPage (c : SeatContext) : Fin 16 := c.top.page

/-- One row of a menu: an icon if any, then the text, in a colour. -/
def menuRowOps (loaded : Bool) (t : MenuSettings) (row : Nat) (icon : Option Nat) (codes : List Nat) (c : Argb) : List DrawOp :=
  let begins : Int := (t.y : Int) + row * t.rowHeight
  let textTop := begins + floorDiv ((t.rowHeight : Int) - 24) 2
  match icon with
  | none => textOps loaded (t.x + 8) textTop codes c
  | some code =>
    iconOp loaded (t.x + 8) (begins + floorDiv ((t.rowHeight : Int) - 48) 2) code t.text
      :: textOps loaded (t.x + 64) textTop codes c

/-- The items of a page, item k on row k + 1 (R116). -/
def menuItemOps (loaded : Bool) (t : MenuSettings) (items : List Item) : List DrawOp :=
  (items.mapIdx fun k i =>
    menuRowOps loaded t (k + 1) i.icon i.label (if i.enabled then t.text else t.disabled)).flatten

/-- All that a menu render draws over transparency (R116). -/
def menuOps (loaded : Bool) (c : SeatContext) (pages : Vector (Option MenuPage) 16) : List DrawOp :=
  if c.isOpen then
    match pages[c.currentPage] with
    | none => []
    | some p =>
      let t := c.settings
      [.rect t.x t.y t.width ((p.items.length + 1) * t.rowHeight : Nat) t.background,
       .rect t.x ((t.y : Int) + (c.highlight + 1) * t.rowHeight) t.width t.rowHeight t.highlight]
        ++ menuRowOps loaded t 0 none p.title t.text ++ menuItemOps loaded t p.items
  else []

/-! ### Requests and renders (R94 to R97) -/

/-- What a render of a plane draws, as read at its start (R95). -/
def renderOf (p : Plane) (s : State) : Render :=
  let loaded : Bool := s.raster.cache = .loaded
  match p with
  | .guide =>
    { plane := .guide, width := (guideSize s.guide).1, height := (guideSize s.guide).2,
      ops := match s.guide.record with
        | none => []
        | some r => guideOps s.guide r,
      usesCache := loaded }
  | .takeover =>
    { plane := .takeover, width := s.panels.front.width, height := s.panels.front.height,
      ops := takeoverOps loaded s.takeover s.panels.front.width s.panels.front.height, usesCache := loaded }
  | .menuL =>
    { plane := .menuL, width := s.panels.left.width, height := s.panels.left.height,
      ops := menuOps loaded s.menu.left s.menu.pages, usesCache := loaded }
  | .menuR =>
    { plane := .menuR, width := s.panels.right.width, height := s.panels.right.height,
      ops := menuOps loaded s.menu.right s.menu.pages, usesCache := loaded }

/-- The plane an idle engine takes (R95). -/
def nextPlane (r : Raster) : Option Plane :=
  if r.guide.requested then some .guide
  else if r.takeover.requested then some .takeover
  else if r.menuL.requested ∧ r.menuR.requested then
    match r.lastSeat with
    | .left => some .menuR
    | .right => some .menuL
  else if r.menuL.requested then some .menuL
  else if r.menuR.requested then some .menuR
  else none

/-- The last served seat after a plane is taken (R95). -/
def servedSeat (last : Seat) : Plane → Seat
  | .menuL => .left
  | .menuR => .right
  | .guide => last
  | .takeover => last

/-- A plane taken: its flag cleared, its back buffer DRAWING, its render in flight (R95). -/
def startRender (p : Plane) (s : State) : State :=
  let r := renderOf p s
  let s1 := s.setPlane p { s.plane p with requested := false, back := .drawing }
  { s1 with raster.inFlight := some r, raster.lastSeat := servedSeat s.raster.lastSeat p }

/-- The engine, when it is idle, takes the next requested plane (R95). -/
def engineTake (s : State) : State :=
  match s.raster.inFlight with
  | some _ => s
  | none =>
    match nextPlane s.raster with
    | none => s
    | some p => startRender p s

/-- Requests for planes that one rule makes together (R94): their flags are set, and then an idle engine takes one, the
model's choice (log entry 15). -/
def requestRenders (ps : List Plane) (s : State) : State :=
  engineTake (ps.foldl (fun s p => s.setPlane p { s.plane p with requested := true }) s)

/-- A plane swapped at a frame start of its panel (R97). -/
def swapPlane (p : Plane) (s : State) : State :=
  let r := s.plane p
  match r.back with
  | .done => s.setPlane p { r with frontOne := !r.frontOne, back := .idle }
  | .drawing => s
  | .idle => s

/-- The drawn size of a plane's front buffer (R93). -/
def PlaneRecord.frontSize (r : PlaneRecord) : Option DrawnSize := if r.frontOne then r.drawn1 else r.drawn0

/-- A plane whose back buffer has been drawn at a size (R96). -/
def PlaneRecord.completed (r : PlaneRecord) (d : DrawnSize) : PlaneRecord :=
  if r.frontOne then { r with drawn0 := some d, back := .done } else { r with drawn1 := some d, back := .done }

/-- Whether an operation is a fallback box (R103). -/
def DrawOp.isBox : DrawOp → Bool
  | .box .. => true
  | _ => false

/-- A page read of a glyph cache load issued (R101). -/
def issueGlyphRead (page : Nat) (l : GlyphLoad) (s : State) : State :=
  let (token, s1) := takeToken s
  issueAssetRead (.glyph token) s.raster.glyphSet l.generation page
    { s1 with raster.load := some { l with page := page, token := some token } }

/-- A load whose first page read waits for the render just completed issues it (R101). -/
def resumeGlyphLoad (s : State) : State :=
  match s.raster.load with
  | none => s
  | some l => if l.token = none then issueGlyphRead l.page l s else s

/-- A render's completion (R96). What the back buffer holds before it is not given (R96, R98). That all its bytes are written
at the completion, so that a render which a reset ends leaves the frame memory unchanged, is the model's choice (log entry
74). -/
def completeRender (r : Render) (s : State) : State :=
  let base := planeBuffer r.plane (!(s.plane r.plane).frontOne)
  let s1 := { s with
    mem := Memory.writeBlock s.mem base (planeBytes s.mem r.width r.height r.ops),
    raster.inFlight := none,
    raster.fallbackGlyph := bumpBy s.raster.fallbackGlyph (r.ops.countP DrawOp.isBox) }
  let s2 := s1.setPlane r.plane ((s1.plane r.plane).completed ⟨r.width, r.height⟩)
  engineTake (resumeGlyphLoad s2)

/-! ### The glyph cache (R100 to R102) -/

/-- The planes redrawn when the cache leaves LOADING, or becomes EMPTY at a refused start (R102). -/
def glyphPlanes (s : State) : List Plane := [.menuL, .menuR] ++ (if s.takeover.phase = .idle then [] else [.takeover])

/-- A load in progress ends and its pin is released (R101, R102). -/
def dropGlyphLoad (s : State) : State :=
  match s.raster.load with
  | none => s
  | some l => unpinAsset s.raster.glyphSet l.generation { s with raster.load := none }

/-- The asset a load of a glyph set reads, when it may be read (R101). -/
def glyphAsset (id : Nat) (s : State) : Option AssetRecord :=
  match s.asset? id with
  | none => none
  | some r => if s.storeReady ∧ r.kind = .glyphSet ∧ r.length = Config.glyphSetBytes then some r else none

/-- Whether a render that began with the cache LOADED is in flight (R101). -/
def cacheInUse (s : State) : Bool :=
  match s.raster.inFlight with
  | some r => r.usesCache
  | none => false

/-- The start of a load (R101). -/
def startGlyphLoad (id : Nat) (s : State) : State :=
  let s0 := dropGlyphLoad s
  let s1 := { s0 with raster.glyphSet := id }
  match glyphAsset id s1 with
  | none =>
    requestRenders (glyphPlanes s1) { s1 with raster.cache := .empty, raster.glyphLoadFail := bump s1.raster.glyphLoadFail }
  | some r =>
    let l : GlyphLoad := { generation := r.generation, page := 0, token := none }
    let s2 := pinAsset id { s1 with raster.cache := .loading, raster.load := some l }
    if cacheInUse s2 then s2 else issueGlyphRead 0 l s2

/-- The effect of MENU_SET's glyph set id on the cache (R101). -/
def setGlyphSet (id : Nat) (s : State) : State :=
  if id = 0 then
    let s1 := dropGlyphLoad s
    let s2 := { s1 with raster.glyphSet := 0, raster.cache := .empty }
    if s.raster.cache = .empty then s2 else requestRenders (glyphPlanes s2) s2
  else if id ≠ s.raster.glyphSet ∨ s.raster.cache = .empty then startGlyphLoad id s
  else s

/-- A commit of a new generation of an asset reported to the cache (R101). -/
def glyphCommitted (id : Nat) (s : State) : State :=
  if id = s.raster.glyphSet ∧ s.raster.cache ≠ .empty then startGlyphLoad id s else s

/-- A load ends, the cache in a state (R102). -/
def endGlyphLoad (c : CacheState) (s : State) : State :=
  let s1 := dropGlyphLoad s
  requestRenders (glyphPlanes s1) { s1 with raster.cache := c }

/-- The bytes of a page that belong to the glyph set (R99). -/
def glyphPageBytes (page : Nat) (bytes : List Byte) : List Byte := bytes.take (Config.glyphSetBytes - page * Config.pageBytes)

/-- The completion of a glyph page read (R101, R102); a read of an ended load is discarded. -/
def glyphPageRead (token : Nat) (content : Option (List Byte)) (s : State) : State :=
  match s.raster.load with
  | none => s
  | some l =>
    if l.token ≠ some token then s
    else
      match content with
      | none => endGlyphLoad .empty { s with raster.glyphLoadFail := bump s.raster.glyphLoadFail }
      | some bytes =>
        let s1 := { s with mem := Memory.writeBlock s.mem (Config.glyphBase + l.page * Config.pageBytes) (glyphPageBytes l.page bytes) }
        if l.page + 1 < Config.glyphSetPages then issueGlyphRead (l.page + 1) l s1 else endGlyphLoad .loaded s1

/-! ### The guide computation's request (R40) -/

/-- A GUIDE render requested when the view is LIVE and the effective mode is not NONE (R40). -/
def requestGuide (s : State) : State :=
  if s.takeover.view = .live ∧ s.guide.effectiveMode ≠ .off then requestRenders [.guide] s else s

/-- An admitted FRAME of the camera tag while the phase is not IDLE (R34, R40). -/
def guideFrame (width height : Nat) (s : State) : State :=
  if s.takeover.phase = .idle then s else requestGuide (computeGuide width height s)

end Sys2Proof.Machine
end

