-- ==== Sys2Proof/Machine/Packets.lean ====
section
/-! DEFINITION. The packet layouts of R184 and the checks of an arrived packet (R176). -/

namespace Sys2Proof.Machine

/-- The packet kinds of R184. -/
inductive PacketKind where
  | frame | line | fend | audio | vehicle | ctrl | reply | notice | key
  deriving DecidableEq, Repr

def PacketKind.code : PacketKind → Nat
  | .frame => 1
  | .line => 2
  | .fend => 3
  | .audio => 4
  | .vehicle => 5
  | .ctrl => 6
  | .reply => 8
  | .notice => 9
  | .key => 10

def kind? : Nat → Option PacketKind
  | 1 => some .frame
  | 2 => some .line
  | 3 => some .fend
  | 4 => some .audio
  | 5 => some .vehicle
  | 6 => some .ctrl
  | 8 => some .reply
  | 9 => some .notice
  | 10 => some .key
  | _ => none

/-- The kinds a receiving link may carry (R184). -/
def allowedOn : Link → PacketKind → Bool
  | .downlink, .frame | .downlink, .line | .downlink, .fend | .downlink, .audio | .downlink, .vehicle
  | .downlink, .ctrl => true
  | .camera, .frame | .camera, .line | .camera, .fend => true
  | .left, .key | .right, .key => true
  | _, _ => false

/-- A packet that its link checks let through: header byte 1, fields A, B and C, the payload, and whether the
payload check passed. -/
structure Packet where
  kind : PacketKind
  mark : Byte
  a : Nat
  b : Nat
  c : Byte
  payload : List Byte
  good : Bool
  deriving DecidableEq, Repr

/-- The first check of R176 that fails, of those that discard the packet. -/
inductive Discard where
  | runt | hdrErr | kindViolation
  deriving DecidableEq, Repr

inductive Arrival where
  | discarded (d : Discard)
  | accepted (p : Packet)
  deriving DecidableEq, Repr

/-- The payload of a body and whether its check passes (R176): empty; 1 to 4 bytes, which fail; or a payload and the
4 bytes of its CRC. -/
def payloadCheck (body : List Byte) : List Byte × Bool :=
  if body.length = 0 then ([], true)
  else if body.length < 5 then ([], false)
  else
    let payload := body.take (body.length - 4)
    (payload, decide (body.drop (body.length - 4) = beBytes 4 (crc32 payload).toNat))

/-- The checks of R176 on an arrived packet. -/
def checkPacket (l : Link) (bytes : List Byte) : Arrival :=
  match bytes with
  | h0 :: h1 :: h2 :: h3 :: h4 :: h5 :: h6 :: h7 :: body =>
    if h0.toNat % 16 ≠ 0 ∨ h7 ≠ crc8 [h0, h1, h2, h3, h4, h5, h6] then .discarded .hdrErr
    else
      match kind? (h0.toNat / 16) with
      | none => .discarded .kindViolation
      | some k =>
        if allowedOn l k then
          .accepted { kind := k, mark := h1, a := beNat [h2, h3], b := beNat [h4, h5], c := h6,
                      payload := (payloadCheck body).1, good := (payloadCheck body).2 }
        else .discarded .kindViolation
  | _ => .discarded .runt

/-- A packet's bytes (R184): the header with its CRC, the payload, and the payload's CRC when it is not empty. -/
def packetBytes (k : PacketKind) (mark : Byte) (a b : Nat) (c : Byte) (payload : List Byte) : List Byte :=
  let header := [BitVec.ofNat 8 (k.code * 16), mark] ++ beBytes 2 a ++ beBytes 2 b ++ [c]
  header ++ [crc8 header] ++ payload ++ (if payload = [] then [] else beBytes 4 (crc32 payload).toNat)

/-- The status codes of R184. -/
def Status.code : Status → Nat
  | .ok => 0
  | .accepted => 1
  | .badCrc => 2
  | .unknown => 3
  | .param => 4
  | .length => 5
  | .busy => 6
  | .inUse => 7
  | .noSpace => 8
  | .notReady => 9
  | .notFound => 10
  | .failed => 11
  | .locked => 12

/-- An uplink packet as sent (R179, R184, R187, R191, R113). -/
def UplinkBody.bytes : UplinkBody → List Byte
  | .reply mark status code data => packetBytes .reply mark status.code 0 code data
  | .flags fs => packetBytes .notice 0 0 0 1 (beBytes 2 fs.toNat)
  | .select seat page item code =>
    packetBytes .notice 0 0 0 2
      [(match seat with | .left => 0#8 | .right => 1#8), BitVec.ofNat 8 page, BitVec.ofNat 8 item, BitVec.ofNat 8 code]

end Sys2Proof.Machine
end

