-- ==== Sys2Proof/Machine/Streams.lean ====
section
/-! DEFINITION. The Tag Table and the Ring Manager (chapter 3): admission, frames in progress, line staging, the
writer and reader rules, and TAG_SET, TAG_CLEAR, TAG_READ and RING_SET. -/

namespace Sys2Proof.Machine

/-! ### Pixel formats and places (R49, R62) -/

def PixelFormat.bytesPerPixel : PixelFormat → Nat
  | .rgb565 => 2
  | .rgb888 => 3
  | .ycbcr422 => 2

/-- The bytes that are taken or dropped together: a pixel, or a pair for YCBCR422 (R56). -/
def PixelFormat.unitBytes : PixelFormat → Nat
  | .rgb565 => 2
  | .rgb888 => 3
  | .ycbcr422 => 4

/-- Where a buffer of a ring begins (R62). -/
def bufferBase (r : Ring) (k : Nat) : Nat := r.base + k * r.stride

/-- Where pixel x of a line lies in a buffer (R62). -/
def pixelOffset (f : PixelFormat) (width line x : Nat) : Nat := (line * width + x) * f.bytesPerPixel

/-! ### Buffers and holds (R64, R67, R68) -/

def Ring.modify (r : Ring) (k : Nat) (f : Buffer → Buffer) : Ring := { r with buffers := r.buffers.modify k f }

def Ring.buffer? (r : Ring) (k : Nat) : Option Buffer := r.buffers[k]?

/-- A buffer whose holder releases it: FREE when no hold is left and it is not the latest (R68). -/
def Ring.release (r : Ring) (k : Nat) : Ring :=
  r.modify k fun b =>
    if b.holds ≤ 1 ∧ r.latest ≠ some k then { b with holds := b.holds - 1, state := .free }
    else { b with holds := b.holds - 1 }

/-- A buffer that a reader takes up (R67). -/
def Ring.hold (r : Ring) (k : Nat) : Ring := r.modify k fun b => { b with holds := b.holds + 1, heldSinceFilled := true }

def releaseHold (h : Hold) (s : State) : State := s.setRing h.ring ((s.ring h.ring).release h.buffer)

def takeHold (h : Hold) (s : State) : State := s.setRing h.ring ((s.ring h.ring).hold h.buffer)

/-- A reader of a ring takes up the ring's latest at a frame start (R67): what it holds after, and the state. -/
def pickUp (ring : Fin 8) (held : Option Hold) (s : State) : Option Hold × State :=
  match (s.ring ring).latest with
  | none => (held, s)
  | some k =>
    let h : Hold := ⟨ring, k⟩
    if held = some h then (held, s)
    else
      match held with
      | none => (some h, takeHold h s)
      | some old => (some h, takeHold h (releaseHold old s))

/-! ### The camera tag and the camera ring (R8) -/

/-- Whether a tag is the camera tag. -/
def isCameraTag (s : State) (t : Nat) : Bool := s.takeover.camera.tag ≠ 0 ∧ s.takeover.camera.tag = t

/-- The camera ring: the ring named by the camera tag's descriptor while it is present. -/
def cameraRing (s : State) : Option (Fin 8) :=
  if s.takeover.camera.tag = 0 then none
  else
    match fin? 32 s.takeover.camera.tag with
    | none => none
    | some t =>
      match (s.tag t).descriptor with
      | some (.video d) => some d.ring
      | _ => none

/-! ### Admission (R54) -/

inductive AdmissionFail where
  | null | absent | kind | source
  deriving DecidableEq, Repr

/-- The first check of R54 that fails, or the tag and its descriptor. -/
def admission (rx : VideoRx) (audioPacket : Bool) (tag : Nat) (s : State) : Except AdmissionFail (Fin 32 × Descriptor) :=
  if tag = 0 then .error .null
  else
    match fin? 32 tag with
    | none => .error .absent
    | some t =>
      match (s.tag t).descriptor with
      | none => .error .absent
      | some (.audio d) =>
        if !audioPacket then .error .kind
        else if rx ≠ .downlink then .error .source
        else .ok (t, .audio d)
      | some (.video d) =>
        if audioPacket then .error .kind
        else if d.source ≠ rx then .error .source
        else .ok (t, .video d)

def countFail (f : AdmissionFail) (c : AdmissionCounters) : AdmissionCounters :=
  match f with
  | .null => { c with null := bump c.null }
  | .absent => { c with absent := bump c.absent }
  | .kind => { c with kind := bump c.kind }
  | .source => { c with source := bump c.source }

def countPort (rx : VideoRx) (f : AdmissionCounters → AdmissionCounters) (s : State) : State :=
  s.setPort rx { s.port rx with counters := f (s.port rx).counters }

def countTag (t : Fin 32) (f : TagCounters → TagCounters) (s : State) : State :=
  s.setTag t { s.tag t with counters := f (s.tag t).counters }

/-- TRAIL, counted once for a packet with trailing bytes (R178). -/
def countTrail (l : Link) (s : State) : State := s.setLink l { s.link l with trail := bump (s.link l).trail }

/-! ### Frames in progress (R55 to R60) -/

/-- The staged lines of a tag's frame in progress removed (R58). -/
def dropStaged (t : Fin 32) (rx : VideoRx) (s : State) : State :=
  s.setPort rx { s.port rx with staging := (s.port rx).staging.filter fun l => !(l.tag == t && l.live) }

/-- The staged lines of a tag's completed frame are no longer those of a frame in progress (R58). -/
def settleStaged (t : Fin 32) (rx : VideoRx) (s : State) : State :=
  s.setPort rx { s.port rx with staging := (s.port rx).staging.map fun l => if l.tag = t then { l with live := false } else l }

/-- A FILLING buffer goes FREE at the end of a frame that is not shown (R59, R60). -/
def freeBuffer (c : FrameContext) (s : State) : State :=
  match c.buffer with
  | none => s
  | some k => s.setRing c.ring ((s.ring c.ring).modify k fun b => { b with state := .free })

/-- A tag's frame in progress leaves it: its staged lines go, its buffer goes FREE, and it is counted. -/
def discardFrame (t : Fin 32) (c : FrameContext) (f : TagCounters → TagCounters) (s : State) : State :=
  let s1 := freeBuffer c (dropStaged t c.link s)
  countTag t f (s1.setTag t { s1.tag t with frame := none })

/-- A frame in progress abandoned, if there is one (R60). -/
def abandonFrame (t : Fin 32) (s : State) : State :=
  match (s.tag t).frame with
  | none => s
  | some c => discardFrame t c (fun k => { k with frameAbandoned := bump k.frameAbandoned }) s

/-- A link going DOWN abandons the frames of every tag whose context names it (R60). -/
def abandonLink (rx : VideoRx) (s : State) : State :=
  (List.finRange 32).foldl (fun s t =>
    match (s.tag t).frame with
    | some c => if c.link = rx then abandonFrame t s else s
    | none => s) s

/-- The metadata a buffer takes when the writer takes it (R65). -/
def Buffer.taken (number : Nat) (d : VideoDescriptor) (b : Buffer) : Buffer :=
  { b with state := .filling, heldSinceFilled := false, number := number, width := d.width, height := d.height,
           format := d.format, damaged := 0 }

/-- The buffer the writer takes at a FRAME (R65), whether it is the overwritten latest. -/
def writerChoice (r : Ring) : Option (Nat × Bool) :=
  match r.buffers.findIdx? (fun b => b.state == .free) with
  | some k => some (k, false)
  | none =>
    match r.latest with
    | none => none
    | some k =>
      match r.buffer? k with
      | some b => if b.holds = 0 then some (k, true) else none
      | none => none

/-- A new frame context loaded, with a buffer by the writer rule or skipped (R55, R65). -/
def loadFrame (t : Fin 32) (rx : VideoRx) (number : Nat) (d : VideoDescriptor) (s : State) : State :=
  let ctx (k : Option Nat) : FrameContext :=
    { number := number, width := d.width, height := d.height, format := d.format, ring := d.ring, damage := d.damage,
      link := rx, buffer := k, marks := List.replicate d.height .unseen }
  let r := s.ring d.ring
  match writerChoice r with
  | none => s.setTag t { s.tag t with frame := some (ctx none) }
  | some (k, overwrites) =>
    let r' := r.modify k (Buffer.taken number d)
    let s1 := s.setRing d.ring (if overwrites then { r' with latest := none } else r')
    let s2 := s1.setTag t { s1.tag t with frame := some (ctx (some k)) }
    if overwrites then countTag t (fun c => { c with frameOverwrite := bump c.frameOverwrite }) s2 else s2

/-- An admitted FRAME, less the guide computation (R55). -/
def beginFrame (t : Fin 32) (rx : VideoRx) (number : Nat) (d : VideoDescriptor) (s : State) : State :=
  countTag t (fun c => { c with frameIn := bump c.frameIn }) (loadFrame t rx number d (abandonFrame t s))

/-- A line's mark changed toward damage only (R57). -/
def LineMark.toward (m new : LineMark) : LineMark :=
  match m, new with
  | .unseen, n => n
  | .written, .damaged => .damaged
  | m, _ => m

def markLine (t : Fin 32) (line : Nat) (m : LineMark) (s : State) : State :=
  match (s.tag t).frame with
  | none => s
  | some c => s.setTag t { s.tag t with frame := some { c with marks := c.marks.modify line (·.toward m) } }

/-- The bytes of a LINE's payload to be written: whole pixels or pairs, clipped to the width (R56 step 6). -/
def linePixels (c : FrameContext) (column : Nat) (payload : List Byte) : List Byte :=
  let whole := payload.length / c.format.unitBytes * c.format.unitBytes
  (payload.take whole).take ((c.width - column) * c.format.bytesPerPixel)

/-- Whether a LINE's payload has bytes beyond its last whole pixel or pair (R56). -/
def hasTrail (c : FrameContext) (payload : List Byte) : Bool := payload.length % c.format.unitBytes ≠ 0

/-- Pixels of a line handed to staging (R58): a free slot, or OVERFLOW and a damaged line. -/
def stageLine (t : Fin 32) (rx : VideoRx) (line address : Nat) (bytes : List Byte) (s : State) : State :=
  if (s.port rx).staging.length < Config.stagingSlots then
    markLine t line .written
      (s.setPort rx { s.port rx with staging := (s.port rx).staging ++ [⟨t, true, address, bytes⟩] })
  else
    markLine t line .damaged (countPort rx (fun c => { c with overflow := bump c.overflow }) s)

/-- An admitted LINE (R56). -/
def lineArrives (t : Fin 32) (rx : VideoRx) (p : Packet) (s : State) : State :=
  match (s.tag t).frame with
  | none => countPort rx (fun c => { c with orphan := bump c.orphan }) s
  | some c =>
    match c.buffer with
    | none => s
    | some k =>
      if c.height ≤ p.a ∨ c.width ≤ p.b ∨ (c.format = .ycbcr422 ∧ p.b % 2 = 1) then
        countPort rx (fun c => { c with limit := bump c.limit }) s
      else if !p.good then markLine t p.a .damaged s
      else
        let s1 := if hasTrail c p.payload then countTrail rx.link s else s
        let bytes := linePixels c p.b p.payload
        if bytes = [] then s1
        else stageLine t rx p.a (bufferBase (s.ring c.ring) k + pixelOffset c.format c.width p.a p.b) bytes s1

/-- The damaged line count at the FEND (R57). -/
def damagedLines (c : FrameContext) : Nat := c.marks.countP (fun m => decide (m ≠ .written))

/-- The previous latest when a newer buffer becomes the latest (R66): FREE when unheld. -/
def Ring.retire (r : Ring) (k : Nat) : Ring := r.modify k fun b => if b.holds = 0 then { b with state := .free } else b

/-- Whether the previous latest is freed without any layer having held it (R66). -/
def Ring.unshown (r : Ring) : Bool :=
  match r.latest with
  | none => false
  | some j =>
    match r.buffer? j with
    | some b => b.holds = 0 ∧ b.heldSinceFilled = false
    | none => false

/-- The latest moved to a completed buffer (R66). -/
def Ring.complete (r : Ring) (k damaged : Nat) : Ring :=
  let r1 := match r.latest with
    | none => r
    | some j => r.retire j
  { r1.modify k (fun b => { b with state := .complete, damaged := damaged }) with latest := some k }

/-- How a FEND judges the frame in progress (R59). -/
inductive FendCase where
  | orphan
  | mismatch (c : FrameContext)
  | skipped (c : FrameContext)
  | damaged (c : FrameContext)
  | complete (c : FrameContext) (k : Nat)

def fendCase (t : Fin 32) (number : Nat) (s : State) : FendCase :=
  match (s.tag t).frame with
  | none => .orphan
  | some c =>
    if number ≠ c.number then .mismatch c
    else
      match c.buffer with
      | none => .skipped c
      | some k => if c.damage < damagedLines c then .damaged c else .complete c k

/-- An admitted FEND, less the handing-over of a good camera frame (R59). -/
def endFrame (t : Fin 32) (rx : VideoRx) (number : Nat) (s : State) : State :=
  match fendCase t number s with
  | .orphan => countPort rx (fun c => { c with orphan := bump c.orphan }) s
  | .mismatch c => discardFrame t c (fun k => { k with mismatch := bump k.mismatch }) s
  | .skipped c => discardFrame t c (fun k => { k with frameSkip := bump k.frameSkip }) s
  | .damaged c => discardFrame t c (fun k => { k with frameDamaged := bump k.frameDamaged }) s
  | .complete c k =>
    let r := s.ring c.ring
    let s1 := settleStaged t c.link s
    let s2 := s1.setTag t { s1.tag t with frame := none }
    let s3 := s2.setRing c.ring (r.complete k (damagedLines c))
    countTag t (fun n => { n with
      frameDone := bump n.frameDone,
      frameUnshown := if r.unshown then bump n.frameUnshown else n.frameUnshown }) s3

/-- The write of the oldest staged line of a receiver (R58). -/
def writeStaged (rx : VideoRx) (l : StagedLine) (rest : List StagedLine) (s : State) : State :=
  { s with mem := Memory.writeBlock s.mem l.address l.bytes }.setPort rx { s.port rx with staging := rest }

/-! ### Audio streams (R61) -/

/-- The sample frames of an AUDIO payload: whole frames, mono placed on both channels (R61, R119). -/
def sampleFrames (stereo : Bool) : List Byte → List StereoFrame
  | b0 :: b1 :: b2 :: b3 :: rest =>
    if stereo then ⟨sample16 b0 b1, sample16 b2 b3⟩ :: sampleFrames stereo rest
    else ⟨sample16 b0 b1, sample16 b0 b1⟩ :: ⟨sample16 b2 b3, sample16 b2 b3⟩ :: sampleFrames stereo rest
  | [b0, b1, _] => if stereo then [] else [⟨sample16 b0 b1, sample16 b0 b1⟩]
  | [b0, b1] => if stereo then [] else [⟨sample16 b0 b1, sample16 b0 b1⟩]
  | _ => []

/-- Bytes of one sample frame (R61). -/
def AudioDescriptor.frameBytes (d : AudioDescriptor) : Nat := if d.stereo then 4 else 2

/-- The frames an AUDIO packet hands over: its samples, or as many silent frames when its payload failed (R61). -/
def audioFrames (d : AudioDescriptor) (p : Packet) : List StereoFrame :=
  if p.good then sampleFrames d.stereo p.payload
  else List.replicate (p.payload.length / d.frameBytes) ⟨0, 0⟩

/-- An admitted AUDIO packet (R61). -/
def audioArrives (t : Fin 32) (d : AudioDescriptor) (p : Packet) (s : State) : State :=
  let s1 := if p.payload.length % d.frameBytes ≠ 0 then countTrail .downlink s else s
  let s2 := countTag t (fun c => { c with audioIn := bump c.audioIn }) s1
  let s3 := if d.seatL then placeFrames .seatL (audioFrames d p) s2 else s2
  if d.seatR then placeFrames .seatR (audioFrames d p) s3 else s3

/-! ### Commands -/

/-- A ring is claimed by a tag (R50): its VIDEO descriptor names the ring, or its frame in progress does. -/
def claims (s : State) (n : Fin 8) (t : Fin 32) : Bool :=
  (match (s.tag t).descriptor with
    | some (.video d) => d.ring == n
    | _ => false) ||
  (match (s.tag t).frame with
    | some c => c.ring == n
    | none => false)

def pixelFormat? : Nat → Option PixelFormat
  | 0 => some .rgb565
  | 1 => some .rgb888
  | 2 => some .ycbcr422
  | _ => none

def PixelFormat.code : PixelFormat → Nat
  | .rgb565 => 0
  | .rgb888 => 1
  | .ycbcr422 => 2

/-- A present AUDIO descriptor. -/
def audioDescriptor? (r : TagRecord) : Option AudioDescriptor :=
  match r.descriptor with
  | some (.audio d) => some d
  | _ => none

/-- Whether another present AUDIO tag feeds a zone of a mask (R50). -/
def zonesShared (s : State) (t : Fin 32) (d : AudioDescriptor) : Bool :=
  (List.finRange 32).any fun u =>
    u ≠ t && (match audioDescriptor? (s.tag u) with
      | some e => (d.seatL && e.seatL) || (d.seatR && e.seatR)
      | none => false)

/-- The AUDIO descriptor a TAG_SET carries, when it is valid (R50). -/
def audioParams? (t : Fin 32) (p : TagSetParams) (s : State) : Option Descriptor :=
  match zoneSet? p.zones with
  | none => none
  | some z =>
    let d : AudioDescriptor := { stereo := p.channels = 2, seatL := z.seatL, seatR := z.seatR }
    if p.source = 0 ∧ (p.channels = 1 ∨ p.channels = 2) ∧ !z.isEmpty ∧ !z.cabin ∧ !zonesShared s t d
        ∧ !isCameraTag s t then
      some (.audio d)
    else none

/-- The VIDEO descriptor a TAG_SET carries, when it is valid (R50). -/
def videoParams? (t : Fin 32) (p : TagSetParams) (s : State) : Option Descriptor := do
  let format ← pixelFormat? p.format
  let ring ← fin? 8 p.ring
  let source ← (if p.source = 0 then some VideoRx.downlink else if p.source = 1 then some VideoRx.camera else none)
  let r := s.ring ring
  if 16 ≤ p.width ∧ p.width ≤ 1280 ∧ 16 ≤ p.height ∧ p.height ≤ 800 ∧ p.damage ≤ 255
      ∧ ¬(format = .ycbcr422 ∧ p.width % 2 = 1)
      ∧ r.buffers ≠ [] ∧ p.width * p.height * format.bytesPerPixel ≤ r.stride
      ∧ (List.finRange 32).all (fun u => u == t || !claims s ring u)
      ∧ (isCameraTag s t ↔ source = .camera) then
    some (.video { source := source, width := p.width, height := p.height, format := format, ring := ring, damage := p.damage })
  else none

/-- The descriptor a TAG_SET stores, when nothing of R50 refuses it. -/
def tagParams? (p : TagSetParams) (s : State) : Option (Fin 32 × Descriptor) :=
  match fin? 32 p.tag with
  | none => none
  | some t =>
    if t.val = 0 then none
    else if p.kind = 0 then (videoParams? t p s).map fun d => (t, d)
    else if p.kind = 1 then (audioParams? t p s).map fun d => (t, d)
    else none

/-- Whether a TAG_SET changes a present VIDEO descriptor's kind or source (R51). -/
def changesVideo (old : Option Descriptor) (new : Descriptor) : Bool :=
  match old, new with
  | some (.video a), .video b => a.source ≠ b.source
  | some (.video _), .audio _ => true
  | _, _ => false

/-- The zones an AUDIO descriptor fed that a new descriptor, or none, leaves out (R51, R52). -/
def leftOut (old : Option Descriptor) (new : Option Descriptor) : List Zone :=
  match old with
  | some (.audio a) =>
    let b : AudioDescriptor := match new with
      | some (.audio b) => b
      | _ => ⟨false, false, false⟩
    (if a.seatL && !b.seatL then [Zone.seatL] else []) ++ (if a.seatR && !b.seatR then [Zone.seatR] else [])
  | _ => []

/-- TAG_SET (R50, R51). -/
def tagSet (p : TagSetParams) (s : State) : Answer :=
  match tagParams? p s with
  | none => refuse .param s
  | some (t, d) =>
    let old := (s.tag t).descriptor
    let s1 := if changesVideo old d then abandonFrame t s else s
    let s2 := s1.setTag t { s1.tag t with descriptor := some d }
    done ((leftOut old (some d)).foldl (fun s z => emptyFifo z s) s2)

/-- TAG_CLEAR (R52). -/
def tagClear (tag : Nat) (s : State) : Answer :=
  match fin? 32 tag with
  | none => refuse .param s
  | some t =>
    if t.val = 0 then refuse .param s
    else if (s.tag t).descriptor = none then done s
    else
      let old := (s.tag t).descriptor
      let s1 := abandonFrame t s
      let s2 := s1.setTag t { s1.tag t with descriptor := none }
      done ((leftOut old none).foldl (fun s z => emptyFifo z s) s2)

/-- A stream descriptor as result data (R53, R185). R185 gives 0 for the fields absent for a kind. That a tag without a
descriptor is reported in the same 12 bytes, all 0, is the model's choice (log entry 13). -/
def descriptorBytes : Option Descriptor → List Byte
  | none => List.replicate 12 0#8
  | some (.video d) =>
    u8 1 ++ u8 0 ++ u8 (match d.source with | .downlink => 0 | .camera => 1) ++ u16 d.width ++ u16 d.height
      ++ u8 d.format.code ++ u8 d.ring.val ++ u8 d.damage ++ u8 0 ++ u8 0
  | some (.audio d) =>
    u8 1 ++ u8 1 ++ u8 0 ++ u16 0 ++ u16 0 ++ u8 0 ++ u8 0 ++ u8 0 ++ u8 (if d.stereo then 2 else 1)
      ++ [ZoneSet.byte ⟨d.seatL, d.seatR, false⟩]

def TagCounters.bytes (c : TagCounters) : List Byte :=
  u32 c.frameIn ++ u32 c.frameDone ++ u32 c.mismatch ++ u32 c.frameSkip ++ u32 c.frameDamaged ++ u32 c.frameAbandoned
    ++ u32 c.frameOverwrite ++ u32 c.frameUnshown ++ u32 c.audioIn

/-- The frame state as result data (R53): NONE alone, else the code, number, buffer and lines of the frame in progress.
A SKIPPED frame is one in progress without a buffer, so its buffer is reported as none (log entry 13). -/
def frameStateBytes : Option FrameContext → List Byte
  | none => u8 0
  | some c =>
    u8 (if c.buffer.isSome then 1 else 2) ++ u16 c.number ++ optionBytes u8 c.buffer
      ++ u16 (c.marks.countP (fun m => decide (m = .written))) ++ u16 (c.marks.countP (fun m => decide (m = .damaged)))

def BufferState.code : BufferState → Nat
  | .free => 0
  | .filling => 1
  | .complete => 2

/-- A ring as TAG_READ reports it (R53): the latest index, and each buffer's state, hold count, frame number and frame
metadata. The metadata are the width, the height and the format: the damaged line count, which R65 keeps beside them, is
left out of the report. The buffers after the latest have no list count of their own, since the buffer count that R53 puts
first gives their number. Both are the model's choice (log entry 13). -/
def ringBytes (r : Ring) : List Byte :=
  u8 r.buffers.length ++ optionBytes u8 r.latest ++ r.buffers.flatMap fun b =>
    u8 b.state.code ++ u8 b.holds ++ u16 b.number ++ u16 b.width ++ u16 b.height ++ u8 b.format.code

/-- TAG_READ (R53). For a tag without a ring that has buffers the ring's part is left out, with no presence byte in its
place, which is the model's choice (log entry 13). -/
def tagRead (tag : Nat) (s : State) : Answer :=
  match fin? 32 tag with
  | none => refuse .param s
  | some t =>
    if t.val = 0 then refuse .param s
    else
      let r := s.tag t
      let ring := match r.descriptor with
        | some (.video d) => if (s.ring d.ring).buffers = [] then [] else ringBytes (s.ring d.ring)
        | _ => []
      report (descriptorBytes r.descriptor ++ frameStateBytes r.frame ++ r.counters.bytes ++ ring) s

/-- Whether a run of bytes meets another ring that has buffers (R63). -/
def overlapsRing (s : State) (n : Fin 8) (base size : Nat) : Bool :=
  (List.finRange 8).any fun m =>
    let r := s.ring m
    m ≠ n && r.buffers ≠ [] && base < r.base + r.buffers.length * r.stride && r.base < base + size

/-- Whether RING_SET's values are valid (R63 check 3). -/
def ringParamsOk (n : Fin 8) (p : RingSetParams) (s : State) : Bool :=
  p.count = 0 ∨
    (2 ≤ p.count ∧ p.count ≤ 4 ∧ p.base % 4096 = 0 ∧ p.stride % 4096 = 0 ∧ 4096 ≤ p.stride
      ∧ p.base + p.count * p.stride ≤ Config.ringRegionBytes ∧ overlapsRing s n p.base (p.count * p.stride) = false)

/-- RING_SET (R63), less the check of R25. -/
def ringSet (p : RingSetParams) (s : State) : Answer :=
  match fin? 8 p.ring with
  | none => refuse .param s
  | some n =>
    if (List.finRange 32).any (claims s n) ∨ (s.ring n).buffers.any (fun b => decide (0 < b.holds)) then refuse .inUse s
    else if !ringParamsOk n p s then refuse .param s
    else
      done (s.setRing n { base := p.base, stride := p.stride, latest := none,
                          buffers := List.replicate p.count .reset })

end Sys2Proof.Machine
end

