-- ==== Sys2Proof/Machine/Compose.lean ====
section
/-! DEFINITION. Composition (section 4.6, R79, R81): scaling, sample conversion, blending, and a whole output frame. -/

namespace Sys2Proof.Machine

/-- A colour with its per-pixel alpha (R89). -/
structure Sample where
  r : Nat
  g : Nat
  b : Nat
  p : Nat
  deriving DecidableEq, Repr

/-! ### Scaling (R88) -/

/-- Nearest-sample scaling of one coordinate: floor((x − win) × src / size). -/
def scaleCoord (x win : Int) (src size : Nat) : Nat := (floorDiv ((x - win) * (src : Int)) (size : Int)).toNat

/-- The source column, mirrored by the camera mirror. -/
def sourceColumn (x win : Int) (src size : Nat) (mirror : Bool) : Nat :=
  if mirror then src - 1 - scaleCoord x win src size else scaleCoord x win src size

/-! ### Sample conversion (R89) -/

/-- A 5-bit channel as 8 bits. -/
def expand5 (v : Nat) : Nat := (v * 255 + 15) / 31

/-- A 6-bit channel as 8 bits. -/
def expand6 (v : Nat) : Nat := (v * 255 + 31) / 63

/-- An RGB565 word (R49, R89). -/
def rgb565Sample (word : Nat) : Sample := ⟨expand5 (word / 2048), expand6 (word / 32 % 64), expand5 (word % 32), 255⟩

/-- A result of the YCBCR422 conversion: floor-divided by 256 and clamped to 0..255. -/
def yuvChannel (x : Int) : Nat := (clampInt 0 255 (floorDiv x 256)).toNat

/-- The YCBCR422 conversion of a luma and its pair's Cb and Cr. -/
def yuvSample (y cb cr : Nat) : Sample :=
  let l : Int := 298 * ((y : Int) - 16)
  let u : Int := (cb : Int) - 128
  let v : Int := (cr : Int) - 128
  ⟨yuvChannel (l + 409 * v + 128), yuvChannel (l - 100 * u - 208 * v + 128), yuvChannel (l + 516 * u + 128), 255⟩

/-- The sample of a picture at a source column and row (R49, R62, R89). -/
def pictureSample (m : List Host.Cell) (base width : Nat) (f : PixelFormat) (col row : Nat) : Sample :=
  let byte (n : Nat) : Nat := (Memory.read m n).toNat
  match f with
  | .rgb565 =>
    let a := base + pixelOffset .rgb565 width row col
    rgb565Sample (byte a * 256 + byte (a + 1))
  | .rgb888 =>
    let a := base + pixelOffset .rgb888 width row col
    ⟨byte a, byte (a + 1), byte (a + 2), 255⟩
  | .ycbcr422 =>
    let a := base + pixelOffset .ycbcr422 width row (col - col % 2)
    yuvSample (byte (a + 2 * (col % 2))) (byte (a + 1)) (byte (a + 3))

/-- The sample of a plane at a source column and row (R89, R93). -/
def planeSample (m : List Host.Cell) (base width col row : Nat) : Sample :=
  let c := readArgbAt m (base + planePixelOffset width col row)
  ⟨c.r.toNat, c.g.toNat, c.b.toNat, c.a.toNat⟩

/-- A surface's sample at a panel pixel inside its window. -/
def surfaceSample (m : List Host.Cell) (u : Surface) (x y : Int) : Sample :=
  match u.source with
  | .fill c => ⟨c.r.toNat, c.g.toNat, c.b.toNat, 255⟩
  | .picture base width height f =>
    pictureSample m base width f (sourceColumn x u.x width u.w u.mirror) (scaleCoord y u.y height u.h)
  | .plane base width height =>
    planeSample m base width (sourceColumn x u.x width u.w u.mirror) (scaleCoord y u.y height u.h)

/-! ### Blending (R90) -/

/-- The effective alpha of a sample under a global alpha. -/
def effectiveAlpha (global p : Nat) : Nat := (global * p + 127) / 255

/-- One channel blended. -/
def blendChannel (a l b : Nat) : Nat := (a * l + (255 - a) * b + 127) / 255

/-- A sample blended over the colour at the pixel. -/
def blendSample (global : Nat) (l : Sample) (b : Rgb) : Rgb :=
  let a := effectiveAlpha global l.p
  ⟨BitVec.ofNat 8 (blendChannel a l.r b.r.toNat), BitVec.ofNat 8 (blendChannel a l.g b.g.toNat),
    BitVec.ofNat 8 (blendChannel a l.b b.b.toNat)⟩

/-- A surface's contribution at a panel pixel. -/
def composeSurface (m : List Host.Cell) (x y : Int) (under : Rgb) (u : Surface) : Rgb :=
  if inBox u.x u.y u.w u.h x y then blendSample u.alpha (surfaceSample m u x y) under else under

/-! ### The takeover composition's view conditions (R22, R23) -/

/-- Whether a surface is composed in a camera view. -/
def Shows.inView (v : View) : Shows → Bool
  | .always => true
  | .inLive => v = .live
  | .outOfLive => v ≠ .live

/-- The view a frame is composed in: the camera view as it stands, also where it has changed since the frame start, so
that a camera layer holding nothing leaves its window black from the moment the view enters LIVE (R23). After the phase
has returned to IDLE it is the view of the frame start: the model's choice (log entry 83). -/
def FrameInProgress.viewIn (f : FrameInProgress) (t : Takeover) : View := if t.phase = .idle then f.view else t.view

/-- A frame with the surfaces that the view lets through. -/
def FrameInProgress.shown (f : FrameInProgress) (t : Takeover) : FrameInProgress :=
  { f with surfaces := f.surfaces.filter fun u => u.shows.inView (f.viewIn t) }

/-! ### Frames (R79, R81, R87) -/

/-- A composed pixel: the surfaces from bottom to top over the background (R87 steps 1 to 3). -/
def composedPixel (m : List Host.Cell) (f : FrameInProgress) (x y : Int) : Rgb :=
  f.surfaces.foldl (composeSurface m x y) f.background

/-- An output pixel: black in a blank or a blanked frame, the mirrors applied last (R79, R81, R87 steps 4 and 5). -/
def outputPixel (m : List Host.Cell) (f : FrameInProgress) (x y : Nat) : Rgb :=
  if f.blank ∨ f.blanked then ⟨0, 0, 0⟩
  else
    composedPixel m f ((if f.mirrorX then f.width - 1 - x else x : Nat) : Int) ((if f.mirrorY then f.height - 1 - y else y : Nat) : Int)

/-- The frame memory as a reader sees it: staged lines of completed frames written (R58). R58 orders the lines of one
receiver. Where lines of both wait for the same bytes, the downlink's are written first and the camera's over them: the
model's choice (log entry 79). -/
def settledMemory (s : State) : List Host.Cell :=
  ((s.streams.downlink.staging ++ s.streams.camera.staging).filter (fun l => !l.live)).foldl
    (fun m l => Memory.writeBlock m l.address l.bytes) s.mem

/-- The rows of an output frame, row 0 first (R90). -/
def outputRows (m : List Host.Cell) (f : FrameInProgress) : List (List Rgb) :=
  (List.range f.height).map fun y => (List.range f.width).map fun x => outputPixel m f x y

end Sys2Proof.Machine
end

