-- ==== Sys2Proof/Machine/Panels.lean ====
section
/-! DEFINITION. The Panel Composers (chapter 4): the power machine, backlight, frame starts and ends, layer lists, and
the panel commands; and the takeover composition (R22, R23) that FRONT frame starts fix. -/

namespace Sys2Proof.Machine

/-! ### Backlight (R80) -/

/-- A backlight message on the panel link while it is UP, and the output backlight it carries. -/
def sendBacklight (p : Panel) (level : Nat) (s : State) : State :=
  let s1 := s.setPanel p { s.panel p with outBacklight := level }
  if (s.link p.link).state = .up then emit (.backlight p level) s1 else s1

/-- The record's level replaced; a change while ACTIVE is sent (R80). -/
def setLevel (p : Panel) (level : Nat) (s : State) : State :=
  let r := s.panel p
  let s1 := s.setPanel p { r with level := level }
  if r.power = .active ∧ r.level ≠ level then sendBacklight p level s1 else s1

/-! ### Readers (R67, R68, R77, R86) -/

/-- What a layer id of a panel holds. -/
def PanelRecord.hold (r : PanelRecord) (id : Fin 6) : Option Hold := r.holds[id]

def setHold (p : Panel) (id : Fin 6) (h : Option Hold) (s : State) : State :=
  s.setPanel p { s.panel p with holds := (s.panel p).holds.set id h }

/-- A layer id releases the buffer it holds, if any (R68). -/
def dropHold (p : Panel) (id : Fin 6) (s : State) : State :=
  match (s.panel p).hold id with
  | none => s
  | some h => setHold p id none (releaseHold h s)

/-- The camera layer releases the buffer it holds, if any (R23). -/
def dropCameraHold (s : State) : State :=
  match s.takeover.cameraHold with
  | none => s
  | some h => releaseHold h { s with takeover.cameraHold := none }

/-- Every reader of a panel releases its buffer (R77). -/
def releaseReaders (p : Panel) (s : State) : State :=
  let s1 := (List.finRange 6).foldl (fun s id => dropHold p id s) s
  match p with
  | .front => dropCameraHold s1
  | .left => s1
  | .right => s1

/-- Whether an active list has a layer of an id that reads a ring. -/
def readsRing (ls : List Layer) (id : Fin 6) (n : Fin 8) : Bool := ls.any fun l => l.id == id && l.source == .ring n

/-- Step 1 of R86 for one layer id. -/
def releaseStale (p : Panel) (id : Fin 6) (s : State) : State :=
  match (s.panel p).hold id with
  | none => s
  | some h => if readsRing (s.panel p).activeList id h.ring then s else dropHold p id s

/-- Step 2 of R86 for one layer. -/
def pickUpLayer (p : Panel) (l : Layer) (s : State) : State :=
  match l.source with
  | .ring n => setHold p l.id (pickUp n ((s.panel p).hold l.id) s).1 (pickUp n ((s.panel p).hold l.id) s).2
  | .menu => s
  | .fill _ => s

/-- The camera layer at a FRONT frame start (R23): it follows the camera ring during an engagement, and releases its
buffer otherwise. -/
def cameraLayerStart (s : State) : State :=
  if s.takeover.phase = .idle then dropCameraHold s
  else
    match cameraRing s with
    | none => dropCameraHold s
    | some n =>
      let got := pickUp n s.takeover.cameraHold s
      { got.2 with takeover.cameraHold := got.1 }

/-! ### What a frame start fixes (R86, R87, R22) -/

/-- A held buffer as a surface's source (R88). -/
def heldPicture (s : State) (h : Hold) : Option SurfaceSource :=
  ((s.ring h.ring).buffer? h.buffer).map fun b =>
    .picture (bufferBase (s.ring h.ring) h.buffer) b.width b.height b.format

/-- A plane's front buffer as a surface's source, when it is drawn (R88, R93). -/
def frontPlane (s : State) (p : Plane) : Option SurfaceSource :=
  ((s.plane p).frontSize).map fun d => .plane (planeBuffer p (s.plane p).frontOne) d.width d.height

/-- What a layer shows in a frame, if anything (R87 step 2, R117). -/
def layerSource (s : State) (p : Panel) (l : Layer) : Option SurfaceSource :=
  match l.source with
  | .fill c => some (.fill c)
  | .ring _ =>
    match (s.panel p).hold l.id with
    | none => none
    | some h => heldPicture s h
  | .menu =>
    match p with
    | .front => none
    | .left => if s.menu.left.isOpen then frontPlane s .menuL else none
    | .right => if s.menu.right.isOpen then frontPlane s .menuR else none

/-- A visible layer as a surface. -/
def layerSurface (s : State) (p : Panel) (l : Layer) : Option Surface :=
  if l.visible then
    (layerSource s p l).map fun src => { x := l.x, y := l.y, w := l.w, h := l.h, alpha := l.alpha, mirror := false, source := src, shows := .always }
  else none

/-- Whether two windows, each clipped to a panel, share a pixel (R22). -/
def windowsMeet (width height : Nat) (x1 y1 w1 h1 x2 y2 w2 h2 : Int) : Bool :=
  let left := max 0 (max x1 x2)
  let right := min (width : Int) (min (x1 + w1) (x2 + w2))
  let top := max 0 (max y1 y2)
  let bottom := min (height : Int) (min (y1 + h1) (y2 + h2))
  left < right && top < bottom

/-- Whether a FRONT layer stays in view during takeover (R22 order 5). -/
def staysInTakeover (s : State) (l : Layer) : Bool :=
  let c := s.takeover.camera
  l.persist && !windowsMeet s.panels.front.width s.panels.front.height l.x l.y l.w l.h c.x c.y c.w c.h

/-- A surface in the camera window, with the camera mirror, composed while the view is LIVE (R22, R88). -/
def cameraSurface (s : State) (src : SurfaceSource) : Surface :=
  let c := s.takeover.camera
  { x := c.x, y := c.y, w := c.w, h := c.h, alpha := 255, mirror := c.mirror, source := src, shows := .inLive }

/-- The takeover graphic over the whole panel, composed while the view is not LIVE (R22). -/
def graphicSurface (s : State) (src : SurfaceSource) : Surface :=
  { x := 0, y := 0, w := s.panels.front.width, h := s.panels.front.height, alpha := 255, mirror := false, source := src,
    shows := .outOfLive }

/-- The takeover composition over black, from bottom to top, each surface with the views it is composed in (R22). The
guide mode cannot change while the phase is not IDLE (R25). -/
def takeoverSurfaces (s : State) : List Surface :=
  let camera := (s.takeover.cameraHold.bind (heldPicture s)).map (cameraSurface s)
  let guide := if s.guide.effectiveMode = .off then none else (frontPlane s .guide).map (cameraSurface s)
  let graphic := (frontPlane s .takeover).map (graphicSurface s)
  camera.toList ++ guide.toList ++ graphic.toList
    ++ (s.panels.front.activeList.filter (staysInTakeover s)).filterMap (layerSurface s .front)

/-- Whether a panel's frames are the takeover composition. -/
def takeoverFrames (s : State) : Panel → Bool
  | .front => s.takeover.phase ≠ .idle
  | .left => false
  | .right => false

/-- The frame that begins, with all that its start fixed (R86, R87), and the view it starts in. -/
def frameOf (p : Panel) (s : State) : FrameInProgress :=
  let r := s.panel p
  let takeover := takeoverFrames s p
  { blank := r.power ≠ .active, blanked := !takeover && r.blanked, width := r.width, height := r.height,
    mirrorX := r.mirrorX, mirrorY := r.mirrorY, background := if takeover then ⟨0, 0, 0⟩ else r.background,
    view := s.takeover.view, surfaces := if takeover then takeoverSurfaces s else r.activeList.filterMap (layerSurface s p) }

/-- The planes a panel owns (R86). -/
def ownedPlanes : Panel → List Plane
  | .front => [.guide, .takeover]
  | .left => [.menuL]
  | .right => [.menuR]

/-- The active list loaded (R85), the releases, the pick-ups and the plane swaps (R86). -/
def settleReaders (p : Panel) (s : State) : State :=
  let s1 := s.setPanel p { s.panel p with activeList := (s.panel p).pendingList }
  let s2 := (List.finRange 6).foldl (fun s id => releaseStale p id s) s1
  let s3 := (s2.panel p).activeList.foldl (fun s l => pickUpLayer p l s) s2
  let s4 := match p with
    | .front => cameraLayerStart s3
    | .left => s3
    | .right => s3
  (ownedPlanes p).foldl (fun s q => swapPlane q s) s4

/-- A frame start (R73, R85 to R87, R97). -/
def frameStart (p : Panel) (s : State) : State :=
  let s1 := settleReaders p s
  s1.setPanel p { s1.panel p with frame := some (frameOf p s1) }

/-! ### The power machine (R72 to R78) -/

/-- A panel enters WAKING, with its first frame start (R74). -/
def enterWaking (p : Panel) (s : State) : State :=
  frameStart p (s.setPanel p { s.panel p with power := .waking, transition := .none, blankEnded := 0 })

/-- A panel enters SLEEP: no frame, its readers hold nothing (R73, R77). -/
def enterSleep (p : Panel) (s : State) : State :=
  releaseReaders p (s.setPanel p { s.panel p with power := .sleep, transition := .none, frame := none })

/-- The effect of a wake on the power state (R74, R78). -/
def wakeEffect (p : Panel) (s : State) : State :=
  let r := s.panel p
  match r.power with
  | .off => s
  | .sleep => enterWaking p s
  | .waking => s.setPanel p { r with transition := .none }
  | .active => s
  | .dozing => s.setPanel p { r with transition := .wake }

/-- The effect of a sleep on the power state (R75, R21). -/
def sleepEffect (p : Panel) (s : State) : State :=
  let r := s.panel p
  match r.power with
  | .off => s
  | .sleep => s
  | .waking => s.setPanel p { r with transition := .sleep }
  | .active => sendBacklight p 0 (s.setPanel p { r with power := .dozing, blankEnded := 0 })
  | .dozing => s.setPanel p { r with transition := .none }

/-- FRONT is brought to its requested state at the return to IDLE (R21). -/
def frontToRequested (s : State) : State := if s.panels.front.requestActive then s else sleepEffect .front s

/-- A panel whose link leaves UP (R72, R77); the frame in progress is cut off. -/
def panelOff (p : Panel) (s : State) : State :=
  raiseFlag .panelLink (releaseReaders p (s.setPanel p { s.panel p with
    power := .off, transition := .none, blankEnded := 0, outBacklight := 0, frame := none }))

/-- A panel whose link reaches UP (R72, R78, R20). -/
def panelUp (p : Panel) (s : State) : State :=
  let s1 := sendBacklight p 0 (s.setPanel p { s.panel p with power := .sleep, transition := .none, blankEnded := 0 })
  if (s.panel p).requestActive ∨ takeoverFrames s p then enterWaking p s1 else s1

/-- The power rules at the end of a frame (R76). -/
def powerRules (p : Panel) (f : FrameInProgress) (s : State) : State :=
  let r := s.panel p
  let ended := if f.blank then r.blankEnded + 1 else r.blankEnded
  match r.power with
  | .off => s
  | .sleep => s
  | .active => s
  | .waking =>
    if ended < 3 then s.setPanel p { r with blankEnded := ended }
    else if r.transition = .sleep then
      s.setPanel p { r with power := .dozing, blankEnded := 0, transition := .none }
    else sendBacklight p r.level (s.setPanel p { r with power := .active, blankEnded := ended, transition := .none })
  | .dozing =>
    if ended < 2 then s.setPanel p { r with blankEnded := ended }
    else
      let s1 := enterSleep p (s.setPanel p { r with blankEnded := ended })
      if r.transition = .wake then enterWaking p s1 else s1

/-- Whether a panel produces frames (R73). -/
def producing (s : State) (p : Panel) : Bool :=
  match (s.panel p).power with
  | .off | .sleep => false
  | .waking | .active | .dozing => true

/-- Whether DOZING ends here: the panel then sleeps, or wakes with a frame start of its own (R76). -/
def dozeEnds (r : PanelRecord) (f : FrameInProgress) : Bool :=
  r.power = .dozing ∧ 2 ≤ (if f.blank then r.blankEnded + 1 else r.blankEnded)

/-- The end of a frame (R73, R76, R90): the frame has been output, the power rules act, the next frame starts. The whole
frame is composed in the view that stands here (log entries 10 and 83). -/
def endOfFrame (p : Panel) (s : State) : State :=
  match (s.panel p).frame with
  | none => s
  | some f =>
    let s1 := emit (.frame p (outputRows (settledMemory s) (f.shown s.takeover))) s
    let s2 := powerRules p f s1
    if dozeEnds (s.panel p) f then s2 else if producing s2 p then frameStart p s2 else s2

/-! ### Layer lists (R82 to R84) -/

inductive Placement where
  | keep | top | bottom
  | above (m : Nat)
  deriving DecidableEq, Repr

def placement? (n arg : Nat) : Option Placement :=
  match n with
  | 0 => some .keep
  | 1 => some .top
  | 2 => some .bottom
  | 3 => some (.above arg)
  | _ => none

/-- The source a LAYER_SET names for a panel (R82); a fill colour is carried by FILL alone (log entry 16). -/
def layerSource? (p : Panel) (n arg : Nat) (fill : Optional Rgb) : Option LayerSource :=
  match n, fill with
  | 0, .absent => (fin? 8 arg).map .ring
  | 1, .absent => if p = .front then none else some .menu
  | 2, .present c => some (.fill c)
  | _, _ => none

/-- A list with a layer put directly above the layer with an id, or on top when that is missing. -/
def insertAbove (m : Nat) (l : Layer) : List Layer → List Layer
  | [] => [l]
  | x :: xs => if x.id.val = m then x :: l :: xs else x :: insertAbove m l xs

/-- The pending list after LAYER_SET (R83). -/
def placeLayer (ls : List Layer) (l : Layer) (pl : Placement) : List Layer :=
  let others := ls.filter fun x => x.id ≠ l.id
  match pl with
  | .keep => if ls.any (fun x => x.id == l.id) then ls.map fun x => if x.id = l.id then l else x else ls ++ [l]
  | .top => others ++ [l]
  | .bottom => l :: others
  | .above m => insertAbove m l others

/-- The layer record a LAYER_SET carries, when its fields are valid for the panel (R82). -/
def layerRecord? (p : Panel) (q : LayerSetParams) : Option Layer := do
  let id ← fin? 6 q.layer
  let src ← layerSource? p q.source q.sourceArg q.fill
  let visible ← flag? q.visible
  let persist ← flag? q.persist
  if -1280 ≤ q.x ∧ q.x ≤ 1279 ∧ -800 ≤ q.y ∧ q.y ≤ 799 ∧ 1 ≤ q.w ∧ q.w ≤ 2560 ∧ 1 ≤ q.h ∧ q.h ≤ 1600
      ∧ q.alpha ≤ 255 ∧ ¬(persist = true ∧ p ≠ .front) then
    some { id := id, source := src, x := q.x, y := q.y, w := q.w, h := q.h, alpha := q.alpha, visible := visible,
           persist := persist }
  else none

/-- Whether another layer of a list names the same ring (R82). -/
def ringShown (ls : List Layer) (l : Layer) : Bool :=
  match l.source with
  | .ring _ => ls.any fun x => x.id ≠ l.id && x.source == l.source
  | .menu => false
  | .fill _ => false

/-- Whether a placement names a layer that may be named (R82). -/
def placementOk (ls : List Layer) (l : Layer) : Placement → Bool
  | .above m => m ≠ l.id.val && ls.any (fun x => x.id.val == m)
  | .keep => true
  | .top => true
  | .bottom => true

/-- LAYER_SET (R82, R83). -/
def layerSet (q : LayerSetParams) (s : State) : Answer :=
  match panel? q.panel with
  | none => refuse .param s
  | some p =>
    let ls := (s.panel p).pendingList
    match layerRecord? p q, placement? q.placement q.placementArg with
    | some l, some pl =>
      if ringShown ls l ∨ !placementOk ls l pl then refuse .param s
      else done (s.setPanel p { s.panel p with pendingList := placeLayer ls l pl })
    | _, _ => refuse .param s

/-- LAYER_CLEAR (R84). -/
def layerClear (panel layer : Nat) (s : State) : Answer :=
  match panel? panel with
  | none => refuse .param s
  | some p =>
    if layer = 255 then done (s.setPanel p { s.panel p with pendingList := [] })
    else if 5 < layer then refuse .param s
    else done (s.setPanel p { s.panel p with pendingList := (s.panel p).pendingList.filter fun l => l.id.val ≠ layer })

/-! ### The other panel commands -/

/-- The planes to be drawn again when a panel changes size (R71). -/
def resizedPlanes (s : State) : Panel → List Plane
  | .front => if s.takeover.phase = .idle then [] else [.takeover]
  | .left => [.menuL]
  | .right => [.menuR]

/-- PANEL_SET (R71). -/
def panelSet (q : PanelSetParams) (s : State) : Answer :=
  match panel? q.panel, flag? q.mirrorX, flag? q.mirrorY with
  | some p, some mx, some my =>
    if 16 ≤ q.width ∧ q.width ≤ 1280 ∧ 16 ≤ q.height ∧ q.height ≤ 800 ∧ 30 ≤ q.rate ∧ q.rate ≤ 60 then
      let r := s.panel p
      let resized : Bool := q.width ≠ r.width ∨ q.height ≠ r.height
      if (resized ∨ q.rate ≠ r.rate) ∧ producing s p then refuse .busy s
      else
        let s1 := s.setPanel p { r with width := q.width, height := q.height, rate := q.rate, mirrorX := mx, mirrorY := my,
                                        background := q.background }
        done (if resized then requestRenders (resizedPlanes s1 p) s1 else s1)
    else refuse .param s
  | _, _, _ => refuse .param s

/-- PANEL_WAKE (R74). -/
def panelWake (panel : Nat) (s : State) : Answer :=
  match panel? panel with
  | none => refuse .param s
  | some p => done (wakeEffect p (s.setPanel p { s.panel p with requestActive := true }))

/-- PANEL_SLEEP (R75). -/
def panelSleep (panel : Nat) (s : State) : Answer :=
  match panel? panel with
  | none => refuse .param s
  | some p =>
    let s1 := s.setPanel p { s.panel p with requestActive := false }
    done (if takeoverFrames s p then s1 else sleepEffect p s1)

/-- PANEL_BLANK and PANEL_SHOW (R79). -/
def panelBlank (panel : Nat) (blanked : Bool) (s : State) : Answer :=
  match panel? panel with
  | none => refuse .param s
  | some p => done (s.setPanel p { s.panel p with blanked := blanked })

/-- PANEL_LEVEL (R80). -/
def panelLevel (panel level : Nat) (s : State) : Answer :=
  match panel? panel with
  | none => refuse .param s
  | some p => if 100 < level then refuse .param s else done (setLevel p level s)

def PowerState.code : PowerState → Nat
  | .off => 0
  | .sleep => 1
  | .waking => 2
  | .active => 3
  | .dozing => 4

def Transition.code : Transition → Nat
  | .none => 0
  | .wake => 1
  | .sleep => 2

def LinkState.code : LinkState → Nat
  | .down => 0
  | .training => 1
  | .up => 2

/-- A layer source: its name and its argument, then the fill colour or none (R185). -/
def LayerSource.bytes : LayerSource → List Byte
  | .ring n => u8 0 ++ u8 n.val ++ u8 0
  | .menu => u8 1 ++ u8 0 ++ u8 0
  | .fill c => u8 2 ++ u8 0 ++ u8 1 ++ rgbBytes c

def Layer.bytes (l : Layer) : List Byte :=
  u8 l.id.val ++ l.source.bytes ++ i16 l.x ++ i16 l.y ++ u16 l.w ++ u16 l.h ++ u8 l.alpha ++ [boolByte l.visible]
    ++ [boolByte l.persist]

/-- The panel record as result data (section 4.1); the pending transition has one byte, 0, 1 or 2 for none, wake, sleep
(log entry 13). -/
def PanelRecord.bytes (r : PanelRecord) : List Byte :=
  u16 r.width ++ u16 r.height ++ u8 r.rate ++ [boolByte r.mirrorX] ++ [boolByte r.mirrorY] ++ rgbBytes r.background
    ++ u8 r.level ++ [boolByte r.blanked] ++ [boolByte (!r.requestActive)] ++ u8 r.power.code ++ u8 r.transition.code
    ++ u8 r.blankEnded ++ u8 r.outBacklight

/-- The buffers the RING layers of the active list hold (R91), in the list's order. That they stand one after another
without a list count of their own is the model's choice (log entry 13). -/
def heldBytes (r : PanelRecord) : List Byte :=
  r.activeList.flatMap fun l =>
    match l.source with
    | .ring _ => optionBytes (fun h : Hold => u8 h.buffer) (r.hold l.id)
    | .menu => []
    | .fill _ => []

/-- PANEL_READ (R91). -/
def panelRead (panel : Nat) (s : State) : Answer :=
  match panel? panel with
  | none => refuse .param s
  | some p =>
    let r := s.panel p
    report (r.bytes ++ u8 (s.link p.link).state.code ++ listBytes Layer.bytes r.pendingList
      ++ listBytes Layer.bytes r.activeList ++ heldBytes r
      ++ (if p = .front then optionBytes (fun h : Hold => u8 h.buffer) s.takeover.cameraHold else [])) s

end Sys2Proof.Machine
end

