-- ==== Sys2Proof/Machine/Menu.lean ====
section
/-! DEFINITION. The Menu Engine (sections 5.5 to 5.7): pages, seat contexts, keys, and the menu commands. -/

namespace Sys2Proof.Machine

/-! ### Pages and highlights (R105) -/

def itemEnabled (items : List Item) (i : Nat) : Bool :=
  match items[i]? with
  | some x => x.enabled
  | none => false

/-- The lowest-numbered enabled item above an index, and the highest-numbered one below it. -/
def enabledAbove (items : List Item) (h : Nat) : Option Nat :=
  (List.range items.length).find? fun i => h < i && itemEnabled items i
def enabledBelow (items : List Item) (h : Nat) : Option Nat :=
  (List.range items.length).reverse.find? fun i => i < h && itemEnabled items i

/-- A highlight settled against a page's items (R105). -/
def settle (items : List Item) (h : Nat) : Nat :=
  if itemEnabled items h then h
  else
    match enabledAbove items h with
    | some i => i
    | none => (enabledBelow items h).getD 0

/-- The items of a page id; an absent page has none. -/
def State.items (s : State) (n : Fin 16) : List Item :=
  match s.page n with
  | some p => p.items
  | none => []

def menuAction? (n arg : Nat) : Option Action :=
  match n with
  | 0 => (fin? 16 arg).map .subpage
  | 1 => if arg ≤ 255 then some (.report arg) else none
  | 2 => some .volumeUp
  | 3 => some .volumeDown
  | 4 => some .brightnessUp
  | 5 => some .brightnessDown
  | 6 => some .back
  | 7 => some .close
  | _ => none

/-- A title or label: at most 24 codes of at most 223 (R105). -/
def textOk (codes : List Nat) : Bool := codes.length ≤ 24 && codes.all (· ≤ 223)

def icon? : Optional Nat → Option (Option Nat)
  | .absent => some none
  | .present c => if 224 ≤ c ∧ c ≤ 255 then some (some c) else none
  | .badPresence => none

/-- An item whose fields are valid (R106). -/
def item? (p : ItemParams) : Option Item := do
  let icon ← icon? p.icon
  let enabled ← flag? p.enabled
  let action ← menuAction? p.action p.actionArg
  if textOk p.label then some { label := p.label, icon := icon, enabled := enabled, action := action } else none

/-- The page a PAGE_SET carries, when it is valid (R106). -/
def menuPage? (title : List Nat) (items : List ItemParams) : Option MenuPage := do
  let is ← items.mapM item?
  if textOk title ∧ 1 ≤ is.length ∧ is.length ≤ 12 then some { title := title, items := is } else none

/-! ### Seat contexts (R110) -/

/-- The number of entries of a page stack (section 5.6). -/
def SeatContext.depth (c : SeatContext) : Nat := c.above.length + 1

def SeatContext.stack (c : SeatContext) : List StackEntry := c.root :: c.above

/-- The inactivity timer started, or stopped for a time of 0 (R110). -/
def SeatContext.restartTimer (c : SeatContext) : SeatContext :=
  { c with timer := if c.settings.inactivity = 0 then none else some (c.settings.inactivity * 1000) }

/-- The highlight saved in the top entry. -/
def SeatContext.saveTop (c : SeatContext) : SeatContext :=
  match c.above.getLast? with
  | none => { c with root := { c.root with saved := c.highlight } }
  | some e => { c with above := c.above.dropLast ++ [{ e with saved := c.highlight }] }

/-- A seat's menu plane requested (R94). -/
def requestMenu (k : Seat) (s : State) : State := requestRenders [k.plane] s

/-- A seat context replaced and its plane requested. -/
def changeSeat (k : Seat) (c : SeatContext) (s : State) : State := requestMenu k (s.setSeat k c)

/-- The context of a menu that opens on its root page (R110). -/
def SeatContext.opened (c : SeatContext) (items : List Item) : SeatContext :=
  { c with root := ⟨c.settings.root, 0⟩, above := [], highlight := settle items 0, isOpen := true }.restartTimer

/-- The context of a menu that closes (R110). -/
def SeatContext.closed (c : SeatContext) : SeatContext :=
  { c with root := ⟨c.settings.root, 0⟩, above := [], highlight := 0, isOpen := false, timer := none }

def openMenu (k : Seat) (s : State) : State :=
  changeSeat k ((s.seat k).opened (s.items (s.seat k).settings.root)) s

def closeMenu (k : Seat) (s : State) : State := changeSeat k (s.seat k).closed s

/-- The inactivity timer's expiry (R110). -/
def inactivityExpires (k : Seat) (s : State) : State :=
  if (s.seat k).isOpen ∧ (s.seat k).timer.isSome then closeMenu k s else s

/-! ### Keys (R111 to R114) -/

/-- What a key or an action did: clicked or bumped, and the state it left. -/
structure KeyResult where
  clicks : Bool
  state : State

/-- The highlight moved to an item, or a bump when there is none (R112). -/
def moveHighlight (k : Seat) (target : Option Nat) (s : State) : KeyResult :=
  match target with
  | none => ⟨false, s⟩
  | some i => ⟨true, changeSeat k { s.seat k with highlight := i } s⟩

/-- The pop of BACK (R113). -/
def popPage (k : Seat) (s : State) : State :=
  let c := s.seat k
  if c.above = [] then closeMenu k s
  else
    let c1 := { c with above := c.above.dropLast }
    changeSeat k { c1 with highlight := settle (s.items c1.currentPage) c1.top.saved } s

/-- The push of SUBPAGE (R113). -/
def pushPage (k : Seat) (n : Fin 16) (s : State) : KeyResult :=
  let c := s.seat k
  if (s.page n).isNone ∨ 4 ≤ c.depth then ⟨false, s⟩
  else
    let c1 := c.saveTop
    ⟨true, changeSeat k { c1 with above := c1.above ++ [⟨n, 0⟩], highlight := settle (s.items n) 0 } s⟩

/-- The volume of a zone replaced alone (R114, R124). -/
def setVolume (z : Zone) (v : Nat) (s : State) : State :=
  let r := s.zone z
  s.setZone z { r with settings := { r.settings with volume := v } }

def volumeStep (k : Seat) (up : Bool) (s : State) : KeyResult :=
  let v := (s.zone k.zone).settings.volume
  if up then (if 40 ≤ v then ⟨false, s⟩ else ⟨true, setVolume k.zone (v + 1) s⟩)
  else if v = 0 then ⟨false, s⟩ else ⟨true, setVolume k.zone (v - 1) s⟩

def brightnessStep (k : Seat) (up : Bool) (s : State) : KeyResult :=
  let l := (s.panel k.panel).level
  if up then (if 100 ≤ l then ⟨false, s⟩ else ⟨true, setLevel k.panel (min 100 (l + 10)) s⟩)
  else if l = 0 then ⟨false, s⟩ else ⟨true, setLevel k.panel (l - 10) s⟩

/-- An item's action performed (R113, R114). -/
def performAction (k : Seat) (a : Action) (s : State) : KeyResult :=
  match a with
  | .subpage n => pushPage k n s
  | .report code =>
    ⟨true, handNotice (.select k (s.seat k).currentPage.val (s.seat k).highlight code) s⟩
  | .volumeUp => volumeStep k true s
  | .volumeDown => volumeStep k false s
  | .brightnessUp => brightnessStep k true s
  | .brightnessDown => brightnessStep k false s
  | .back => ⟨true, popPage k s⟩
  | .close => ⟨true, closeMenu k s⟩

/-- SELECT on an open menu (R113). -/
def selectItem (k : Seat) (s : State) : KeyResult :=
  match (s.items (s.seat k).currentPage)[(s.seat k).highlight]? with
  | none => ⟨false, s⟩
  | some i => if i.enabled then performAction k i.action s else ⟨false, s⟩

/-- The MENU key (R112). -/
def menuKey (k : Seat) (s : State) : KeyResult :=
  let c := s.seat k
  if c.isOpen then ⟨true, closeMenu k s⟩
  else if (s.page c.settings.root).isNone then ⟨false, s⟩
  else ⟨true, openMenu k s⟩

/-- A key that acts (R112 to R114). -/
def keyEffect (k : Seat) (code : Nat) (s : State) : KeyResult :=
  let c := s.seat k
  match code with
  | 1 => moveHighlight k (enabledBelow (s.items c.currentPage) c.highlight) s
  | 2 => moveHighlight k (enabledAbove (s.items c.currentPage) c.highlight) s
  | 3 => selectItem k s
  | 4 => ⟨true, popPage k s⟩
  | 5 => menuKey k s
  | 6 => volumeStep k true s
  | _ => volumeStep k false s

/-- The inactivity timer restarted while the menu is open (R110, R111). The context holds whether it runs or is stopped
(section 5.6), so a restart that changes this requests the plane (R94), as a change of its own (log entry 68). -/
def touchTimer (k : Seat) (s : State) : State :=
  let c := s.seat k
  if c.isOpen then
    if c.restartTimer.timer.isSome = c.timer.isSome then s.setSeat k c.restartTimer else changeSeat k c.restartTimer s
  else s

/-- The click or bump chime requested for the seat's zone alone (R111, R135). -/
def keyChime (k : Seat) (clicks : Bool) (s : State) : State :=
  let t := (s.seat k).settings
  requestById (if clicks then t.clickChime else t.bumpChime) (some (ZoneSet.single k.zone)) s

/-- A KEY packet's key at a seat's context (R111). What the key does comes before its chime, so a SELECT notice goes
before a FLAGS notice of CHIME_DROPPED that the click brings about (log entry 61). -/
def keyArrives (k : Seat) (code : Nat) (s : State) : State :=
  let c := s.seat k
  if c.locked then s.setSeat k { c with keyLocked := bump c.keyLocked }
  else if code < 1 ∨ 7 < code then s.setSeat k { c with keyUnknown := bump c.keyUnknown }
  else if !c.isOpen ∧ code ≤ 4 then s
  else
    let r := keyEffect k code s
    keyChime k r.clicks (touchTimer k r.state)

/-! ### Page commands (R106 to R108) -/

/-- The seats in their order. -/
def seats : List Seat := [.left, .right]

/-- A seat's highlight settled when its current page is a page just set (R106). -/
def settleSeat (n : Fin 16) (k : Seat) (s : State) : State :=
  let c := s.seat k
  if c.currentPage = n then s.setSeat k { c with highlight := settle (s.items n) c.highlight } else s

/-- The seats that show a page settle their highlights. The planes of the open ones are requested (R106), and so is that
of a closed one whose context the settling changed (R94). -/
def pageChanged (n : Fin 16) (s : State) : State :=
  let s1 := seats.foldl (fun s k => settleSeat n k s) s
  let asked := seats.filter fun k =>
    ((s.seat k).isOpen && (s.seat k).currentPage == n) || (s1.seat k != s.seat k)
  if asked = [] then s1 else requestRenders (asked.map (·.plane)) s1

/-- PAGE_SET (R106). A parameter length that does not match the counts is PARAM here, at the owner. A packet with such an
area does not come so far: R186 makes its check 5 first (log entry 67). -/
def pageSet (page : Nat) (title : List Nat) (items : SizedList ItemParams) (s : State) : Answer :=
  if items.length ≠ pageLength title items.entries then refuse .param s
  else
    match fin? 16 page, menuPage? title items.entries with
    | some n, some p => done (pageChanged n (s.setPage n (some p)))
    | _, _ => refuse .param s

/-- ITEM_SET (R107). -/
def itemSet (page item : Nat) (p : ItemParams) (s : State) : Answer :=
  match fin? 16 page, item? p with
  | some n, some i =>
    match s.page n with
    | none => refuse .notFound s
    | some q =>
      if q.items.length ≤ item then refuse .param s
      else done (pageChanged n (s.setPage n (some { q with items := q.items.set item i })))
  | _, _ => refuse .param s

/-- A seat context after a page of its stack has gone absent (R108). -/
def SeatContext.withoutPage (c : SeatContext) (n : Fin 16) (items : Fin 16 → List Item) : SeatContext :=
  if c.root.page = n then (if c.isOpen then c.closed else { c with highlight := 0 })
  else if c.above.any (fun e => e.page == n) then
    let c1 := { c with above := c.above.takeWhile fun e => e.page != n }
    { c1 with highlight := settle (items c1.currentPage) c1.top.saved }
  else c

/-- PAGE_CLEAR (R108). -/
def pageClear (page : Nat) (s : State) : Answer :=
  match fin? 16 page with
  | none => refuse .param s
  | some n =>
    if (s.page n).isNone then done s
    else
      let s1 := s.setPage n none
      let changed := seats.filter fun k => (s1.seat k).withoutPage n s1.items ≠ s1.seat k
      let s2 := seats.foldl (fun s k => s.setSeat k ((s.seat k).withoutPage n s.items)) s1
      done (if changed = [] then s2 else requestRenders (changed.map (·.plane)) s2)

/-! ### Seat commands (R109, R115) -/

/-- The settings a MENU_SET carries, when they are valid (R109). -/
def menuSettings? (p : MenuSetParams) : Option MenuSettings := do
  let root ← fin? 16 p.root
  if p.x ≤ 1279 ∧ p.y ≤ 799 ∧ 64 ≤ p.width ∧ p.width ≤ 1280 ∧ 24 ≤ p.rowHeight ∧ p.rowHeight ≤ 96
      ∧ (p.clickChime ≤ 31 ∨ p.clickChime = 255) ∧ (p.bumpChime ≤ 31 ∨ p.bumpChime = 255) ∧ p.inactivity ≤ 60
      ∧ p.glyphSet ≤ 1023 then
    some { root := root, x := p.x, y := p.y, width := p.width, rowHeight := p.rowHeight, background := p.background,
           text := p.text, disabled := p.disabled, highlight := p.highlight, clickChime := p.clickChime,
           bumpChime := p.bumpChime, inactivity := p.inactivity }
  else none

/-- A seat's settings replaced; a closed menu's root entry takes a new page at once (R109), its highlight then 0
(log entry 27). -/
def SeatContext.withSettings (c : SeatContext) (t : MenuSettings) : SeatContext :=
  if c.isOpen ∨ c.root.page = t.root then { c with settings := t }
  else { c with settings := t, root := { c.root with page := t.root }, highlight := 0 }

/-- MENU_SET (R109, R101). The glyph set id is dealt with first, with the requests that R102 makes for it, and the seat's own
request follows. An idle engine takes a plane at each of the two, so that the seat's plane may be drawn twice: the model's
choice (log entry 29). -/
def menuSet (p : MenuSetParams) (s : State) : Answer :=
  match seat? p.seat, menuSettings? p with
  | some k, some t => done (requestMenu k (setGlyphSet p.glyphSet (s.setSeat k ((s.seat k).withSettings t))))
  | _, _ => refuse .param s

/-- MENU_OPEN (R115). -/
def menuOpen (seat : Nat) (s : State) : Answer :=
  match seat? seat with
  | none => refuse .param s
  | some k =>
    let c := s.seat k
    if c.isOpen ∨ c.locked then done s
    else if (s.page c.settings.root).isNone then refuse .notFound s
    else done (openMenu k s)

/-- MENU_CLOSE (R115). -/
def menuClose (seat : Nat) (s : State) : Answer :=
  match seat? seat with
  | none => refuse .param s
  | some k => done (if (s.seat k).isOpen then closeMenu k s else s)

/-- MENU_LOCK (R115); a change of the flag is a change of the seat context, so it requests the plane (R94). -/
def menuLock (seat locked : Nat) (s : State) : Answer :=
  match seat? seat, flag? locked with
  | some k, some on =>
    if on = (s.seat k).locked then done s
    else
      let c := { s.seat k with locked := on }
      done (if on && c.isOpen then closeMenu k (s.setSeat k c) else changeSeat k c s)
  | _, _ => refuse .param s

end Sys2Proof.Machine
end

