-- ==== Sys2Proof/Machine/LinkCore.lean ====
section
/-! DEFINITION. A link's arrival at UP and its leaving of UP (R174, R181), less what the camera view does of it. -/

namespace Sys2Proof.Machine

/-- A REPLY, not a NOTICE. -/
def isReply (p : UplinkPacket) : Bool :=
  match p.body with
  | .reply .. => true
  | _ => false

/-- The moment a soft reset takes effect: every packet that waits in the FIFO is removed, to be answered FAILED (R197). -/
def softResetBegins (s : State) : State :=
  { s with control.softReset := .failing s.control.fifo, control.fifo := [] }

/-- A waiting reply has been appended or dropped: a soft reset arranged with it takes effect (R197). -/
def waitingLeft (s : State) : State := if s.control.softReset = .arranged then softResetBegins s else s

/-- The uplink queue emptied, each reply and each notice counted; a waiting reply is dropped with them (R181, R197). -/
def emptyUplink (s : State) : State :=
  let packets := s.uplink.queue ++ s.uplink.waiting.toList
  let replies := packets.countP isReply
  let r := s.links.uplink
  let s1 := { s with
    uplink := .reset,
    links.uplink := { r with replyDrop := bumpBy r.replyDrop replies, uplinkDrop := bumpBy r.uplinkDrop (packets.countP fun p => !isReply p) } }
  if s.uplink.waiting.isSome then waitingLeft s1 else s1

/-- The effects of a change out of UP on a link's neighbours, and the flag it raises (R174). -/
def leavingEffects (l : Link) (s : State) : State :=
  match l with
  | .downlink => raiseFlag .linkError (abandonLink .downlink s)
  | .uplink => raiseFlag .linkError (emptyUplink s)
  | .camera => raiseFlag .linkError (abandonLink .camera s)
  | .front => panelOff .front s
  | .left => panelOff .left s
  | .right => panelOff .right s

/-- A link put in DOWN and at once in TRAINING, by a loss of lock or a retrain (R174). -/
def putDown (l : Link) (s : State) : State :=
  let r := s.link l
  if r.state = .up then
    leavingEffects l (s.setLink l { r with state := .training, assembler := .off, linkDown := bump r.linkDown })
  else s.setLink l { r with state := .training }

/-- What an arrival at UP brings about (R72, R174, R175, R179). -/
def reachingEffects (l : Link) (s : State) : State :=
  match l with
  | .downlink => s.setLink .downlink { s.link .downlink with assembler := .resync }
  | .uplink => emit (.uplink [0#8]) s
  | .camera => s.setLink .camera { s.link .camera with assembler := .resync }
  | .front => panelUp .front s
  | .left => panelUp .left (s.setLink .left { s.link .left with assembler := .resync })
  | .right => panelUp .right (s.setLink .right { s.link .right with assembler := .resync })

/-- A TRAINING link reports lock (R174). -/
def reachUp (l : Link) (s : State) : State :=
  if (s.link l).state = .training then reachingEffects l (s.setLink l { s.link l with state := .up }) else s

end Sys2Proof.Machine
end

