-- ==== Sys2Proof/Machine/Takeover.lean ====
section
/-! DEFINITION. The Takeover Controller (sections 1.3 to 1.8): the phase, the camera view, and its commands. -/

namespace Sys2Proof.Machine

/-! ### The camera view (R14 to R19) -/

/-- The watchdog period of a watchdog code, in ms (section 1.3). -/
def watchdogPeriod (code : Nat) : Nat := [100, 150, 200, 250, 300, 400, 500, 1000].getD code 1000

/-- The view enters LOST (R17 to R19). -/
def enterLost (cause : LostCause) (s : State) : State :=
  let s1 := { s with takeover.view := .lost, takeover.cause := cause, takeover.rejoins := 0,
                     takeover.startTimer := none, takeover.watchdogTimer := none }
  let s2 := requestRenders [.takeover] (raiseFlag .cameraView s1)
  if s.takeover.settings.retrain then putDown .camera s2 else s2

/-- The watchdog restarted with its period (R16). -/
def restartWatchdog (s : State) : State :=
  { s with takeover.watchdogTimer := some (watchdogPeriod s.takeover.settings.watchdogCode) }

/-- The view goes from LIVE to FROZEN (R16, R19). -/
def enterFrozen (s : State) : State :=
  requestRenders [.takeover] (raiseFlag .cameraView (restartWatchdog
    { s with takeover.view := .frozen, takeover.repeats := 3, takeover.rejoins := 0 }))

/-- The view goes from WAITING to LIVE (R15, R40). -/
def firstLive (s : State) : State :=
  requestGuide (restartWatchdog { s with takeover.view := .live, takeover.startTimer := none, takeover.repeats := 0 })

/-- The view returns from LOST or FROZEN to LIVE (R17, R19, R40). -/
def rejoinLive (s : State) : State :=
  requestGuide (raiseFlag .cameraView (restartWatchdog
    { s with takeover.view := .live, takeover.cause := .none, takeover.repeats := 0, takeover.rejoins := 0 }))

/-- The rejoin count after a good frame in LOST or FROZEN, and the return to LIVE at 2 (R17). -/
def countRejoin (isRepeat : Bool) (s : State) : State :=
  if isRepeat then { s with takeover.rejoins := 0 }
  else if s.takeover.rejoins + 1 < 2 then { s with takeover.rejoins := s.takeover.rejoins + 1 }
  else rejoinLive s

/-- The repeat count after a good frame in LIVE, and FROZEN at 3 (R16). -/
def countRepeat (isRepeat : Bool) (s : State) : State :=
  if !isRepeat then restartWatchdog { s with takeover.repeats := 0 }
  else if s.takeover.repeats + 1 < 3 then restartWatchdog { s with takeover.repeats := s.takeover.repeats + 1 }
  else enterFrozen s

/-- A good camera frame while the phase is not IDLE (R14 to R17). -/
def goodFrame (number : Nat) (s : State) : State :=
  let isRepeat : Bool := s.takeover.lastGood = some number
  let s1 := { s with takeover.lastGood := some number }
  match s.takeover.view with
  | .waiting => firstLive s1
  | .live => countRepeat isRepeat s1
  | .lost => countRejoin isRepeat s1
  | .frozen => countRejoin isRepeat (restartWatchdog s1)

/-- The start timer's expiry in WAITING (R15). -/
def startExpires (s : State) : State :=
  if s.takeover.startTimer.isSome ∧ s.takeover.view = .waiting ∧ s.takeover.phase ≠ .idle then enterLost .startTimeout s else s

/-- The watchdog's expiry in LIVE or FROZEN (R16, R17). -/
def watchdogExpires (s : State) : State :=
  if s.takeover.watchdogTimer.isSome ∧ s.takeover.phase ≠ .idle then
    match s.takeover.view with
    | .live => enterLost .watchdog s
    | .frozen => enterLost .watchdog s
    | .waiting => s
    | .lost => s
  else s

/-- The camera link's DOWN at the view (R15 to R17). -/
def viewLinkDown (s : State) : State :=
  if s.takeover.phase = .idle then s
  else
    match s.takeover.view with
    | .live => enterLost .linkDown s
    | .frozen => enterLost .linkDown s
    | .waiting => s
    | .lost => s

/-! ### The phase (R9 to R13) -/

/-- The start of an engagement (R9, R36). R9 gives its actions no order. Where FRONT sleeps and the TAKEOVER plane waits in
a back buffer, the order of two of them shows: the wake comes first, whose frame start swaps that plane in (R97), and the
render request after it (R95). That order is the model's choice (log entry 76). -/
def engage (s : State) : State :=
  let t := s.takeover
  let s1 := { s with
    takeover.phase := .engaged, takeover.view := .waiting, takeover.cause := .none, takeover.lastGood := none,
    takeover.repeats := 0, takeover.rejoins := 0, takeover.lingerTimer := none, takeover.watchdogTimer := none,
    takeover.startTimer := some t.settings.startTimeout, guide.kappaDraw := none, guide.record := none }
  let s2 := requestById t.settings.engageChime none s1
  let s3 := if t.settings.duckRear then applyTakeoverDemand s2 else s2
  raiseFlag .takeover (requestRenders [.takeover] (wakeEffect .front s3))

/-- The return to IDLE with its exit actions (R12). -/
def exitTakeover (s : State) : State :=
  let s1 := { s with
    takeover.phase := .idle, takeover.lingerTimer := none, takeover.startTimer := none, takeover.watchdogTimer := none,
    takeover.view := .waiting, takeover.cause := .none }
  raiseFlag .takeover (frontToRequested (withdrawTakeoverDemand s1))

/-- Whether a fresh record's speed is above the exit speed (R10, R11). -/
def overExitSpeed (s : State) : Bool := s.vehicle.fresh && decide (s.takeover.settings.exitSpeed < s.vehicle.speed)

/-- The entry into LINGER, or through it into IDLE at the same event (R10). -/
def enterLinger (s : State) : State :=
  let s1 := { s with takeover.phase := .linger, takeover.lingerTimer := some s.takeover.settings.linger }
  if s.takeover.settings.linger = 0 ∨ overExitSpeed s then exitTakeover s1 else s1

/-- The return from LINGER to ENGAGED (R11). -/
def reengage (s : State) : State := { s with takeover.phase := .engaged, takeover.lingerTimer := none }

/-- Reverse asserted handed to the Takeover Controller (R5, R9 to R11). -/
def takeoverReverse (asserted : Bool) (s : State) : State :=
  match s.takeover.phase, asserted with
  | .idle, true => engage s
  | .idle, false => s
  | .engaged, true => s
  | .engaged, false => enterLinger s
  | .linger, true => reengage s
  | .linger, false => s

/-- The linger timer's expiry in LINGER (R11). -/
def lingerExpires (s : State) : State :=
  if s.takeover.phase = .linger ∧ s.takeover.lingerTimer.isSome then exitTakeover s else s

/-- The exit-speed test of LINGER (R1, R11). -/
def exitSpeedTest (s : State) : State := if s.takeover.phase = .linger ∧ overExitSpeed s then exitTakeover s else s

/-- TAKEOVER_DISMISS (R13). -/
def takeoverDismiss (s : State) : Answer :=
  match s.takeover.phase with
  | .linger => done (exitTakeover s)
  | .engaged => refuse .locked s
  | .idle => done s

/-! ### CAMERA_SET and TAKEOVER_SET (R7, R8) -/

/-- The descriptor of a tag number, if present. -/
def descriptorOf (tag : Nat) (s : State) : Option Descriptor :=
  match fin? 32 tag with
  | none => none
  | some t => (s.tag t).descriptor

/-- The settings a CAMERA_SET carries, when each lies in its range (R8). -/
def cameraParams? (p : CameraSetParams) : Option CameraSettings := do
  let mirror ← flag? p.mirror
  if p.tag ≤ 31 ∧ p.x ≤ 1279 ∧ p.y ≤ 799 ∧ 1 ≤ p.w ∧ p.w ≤ 1280 ∧ 1 ≤ p.h ∧ p.h ≤ 800 then
    some { tag := p.tag, x := p.x, y := p.y, w := p.w, h := p.h, mirror := mirror }
  else none

/-- Whether a descriptor is a VIDEO descriptor with source CAMERA. -/
def isCameraVideo : Descriptor → Bool
  | .video d => d.source = .camera
  | .audio _ => false

/-- CAMERA_SET (R8), less the check of R25. -/
def cameraSet (p : CameraSetParams) (s : State) : Answer :=
  match cameraParams? p with
  | none => refuse .param s
  | some c =>
    if c.tag ≠ s.takeover.camera.tag ∧ s.takeover.camera.tag ≠ 0 ∧ (descriptorOf s.takeover.camera.tag s).isSome then
      refuse .inUse s
    else
      match descriptorOf c.tag s with
      | some d =>
        if c.tag ≠ 0 ∧ !isCameraVideo d then refuse .param s else done { s with takeover.camera := c }
      | none => done { s with takeover.camera := c }

/-- A message whose icon and text are valid (R7). -/
def messageOk (m : Message) : Bool := 224 ≤ m.icon && m.icon ≤ 255 && m.text.length ≤ 24 && m.text.all (· ≤ 223)

/-- The settings a TAKEOVER_SET carries, when they are valid (R7). -/
def takeoverSettings? (p : TakeoverSetParams) : Option TakeoverSettings := do
  let duck ← flag? p.duckRear
  let retrain ← flag? p.watchdogAction
  if 100 ≤ p.freshness ∧ p.freshness ≤ 1000 ∧ 10 ≤ p.debounce ∧ p.debounce ≤ 200 ∧ 100 ≤ p.startTimeout
      ∧ p.startTimeout ≤ 3000 ∧ p.watchdogCode ≤ 7 ∧ p.linger ≤ 10000 ∧ p.exitSpeed ≤ 3000
      ∧ (p.engageChime ≤ 31 ∨ p.engageChime = 255) ∧ messageOk p.starting ∧ messageOk p.unavailable then
    some { freshness := p.freshness, debounce := p.debounce, startTimeout := p.startTimeout,
           watchdogCode := p.watchdogCode, retrain := retrain, linger := p.linger, exitSpeed := p.exitSpeed,
           engageChime := p.engageChime, duckRear := duck, starting := p.starting, unavailable := p.unavailable }
  else none

/-! ### TAKEOVER_READ (R26) -/

def Phase.code : Phase → Nat
  | .idle => 0
  | .engaged => 1
  | .linger => 2

def View.code : View → Nat
  | .waiting => 0
  | .live => 1
  | .lost => 2
  | .frozen => 3

def LostCause.code : LostCause → Nat
  | .none => 0
  | .startTimeout => 1
  | .watchdog => 2
  | .linkDown => 3

def Mismatch.code : Mismatch → Nat
  | .agree => 0
  | .disagree => 1
  | .reported => 2

def Gear.code : Gear → Nat
  | .park => 0
  | .reverse => 1
  | .neutral => 2
  | .drive => 3
  | .unknown => 4

def Supply.code : Supply → Nat
  | .normal => 0
  | .low => 1
  | .cranking => 2

/-- The status a TAKEOVER_READ reports (R26). -/
def takeoverStatus (s : State) : List Byte :=
  let t := s.takeover
  let v := s.vehicle
  u8 t.phase.code ++ u8 t.view.code ++ u8 t.cause.code ++ [boolByte v.reverseAsserted] ++ [boolByte v.debounced]
    ++ u8 v.mismatch.code ++ [boolByte v.fresh] ++ u16 v.age ++ u8 v.gear.code ++ u8 v.supply.code ++ i16 v.steering
    ++ u16 v.speed ++ v.distances.toList.flatMap u8 ++ optionBytes u16 t.lastGood ++ u8 t.repeats ++ u8 t.rejoins
    ++ u16 (if t.phase = .linger then t.lingerTimer.getD 0 else 0) ++ [boolByte t.duckDemand]

/-- TAKEOVER_READ (R26). -/
def takeoverRead (s : State) : Answer := report (takeoverStatus s) s

end Sys2Proof.Machine
end

