-- ==== Sys2Proof/Machine/Vehicle.lean ====
section
/-! DEFINITION. The Vehicle State Monitor (sections 1.1 and 1.2): the record, the debounced REVERSE pin, reverse
asserted, the mismatch monitor; and TAKEOVER_SET, whose times act on the monitor's running timers. -/

namespace Sys2Proof.Machine

/-! ### Reverse asserted and the mismatch monitor (R5, R6) -/

/-- Reverse asserted, as it is to be evaluated (R5). -/
def Vehicle.reversing (v : Vehicle) : Bool := v.debounced || (v.fresh && v.gear == .reverse)

/-- Reverse asserted evaluated again, a change handed to the Takeover Controller and then to the proximity function
(R5); that order is the model's (log entry 62). -/
def evaluateReverse (s : State) : State :=
  let now := s.vehicle.reversing
  if now = s.vehicle.reverseAsserted then s
  else proximityEvaluate (takeoverReverse now { s with vehicle.reverseAsserted := now })

/-- Whether the two sources disagree (R6). -/
def Vehicle.disagrees (v : Vehicle) : Bool :=
  v.fresh && (if v.debounced then v.gear == .park || v.gear == .neutral || v.gear == .drive else v.gear == .reverse)

/-- The mismatch monitor moved (R6). -/
def updateMismatch (s : State) : State :=
  match s.vehicle.mismatch, s.vehicle.disagrees with
  | .agree, true => { s with vehicle.mismatch := .disagree, vehicle.mismatchTimer := some 0 }
  | .agree, false => s
  | .disagree, true => s
  | .disagree, false => { s with vehicle.mismatch := .agree, vehicle.mismatchTimer := none }
  | .reported, true => s
  | .reported, false => { s with vehicle.mismatch := .agree, vehicle.mismatchTimer := none }

/-- The mismatch timer's expiry in DISAGREE (R6). -/
def mismatchExpires (s : State) : State :=
  if s.vehicle.mismatch = .disagree ∧ s.vehicle.mismatchTimer.isSome then
    raiseFlag .reverseMismatch { s with vehicle.mismatch := .reported, vehicle.mismatchTimer := none }
  else s

/-! ### Freshness (R2) and the REVERSE pin (R4) -/

/-- RECORD_STALE's effect on a fresh record (R2). The clock makes the event when the age reaches the freshness time
(Machine/Tick.lean), TAKEOVER_SET when it brings that time down to the age; log entry 20 has it in any other place. -/
def recordStales (s : State) : State :=
  if s.vehicle.fresh then
    let age := max s.vehicle.age s.takeover.settings.freshness
    proximityEvaluate (updateMismatch (evaluateReverse
      (raiseFlag .steeringStale { s with vehicle.fresh := false, vehicle.age := age })))
  else s

/-- The debounce timer reaches the debounce time: the debounced level takes the raw level (R4). -/
def debounceExpires (s : State) : State :=
  if s.vehicle.debounceTimer.isSome then
    updateMismatch (evaluateReverse { s with vehicle.debounced := s.vehicle.pinRaw, vehicle.debounceTimer := none })
  else s

/-- A change of the raw pin level (R4); a level that is the present one is no change. -/
def pinChanges (level : Bool) (s : State) : State :=
  if level = s.vehicle.pinRaw then s else { s with vehicle.pinRaw := level, vehicle.debounceTimer := some 0 }

/-- TAKEOVER_SET (R7), less the check of R25: a new freshness time may make the record stale at once, a new debounce
time may end the debounce at once (R2, R4). Where one command does both, the record goes stale first (log entry 63). -/
def takeoverSet (p : TakeoverSetParams) (s : State) : Answer :=
  match takeoverSettings? p with
  | none => refuse .param s
  | some t =>
    let s1 := { s with takeover.settings := t }
    let s2 := if s1.vehicle.fresh ∧ t.freshness ≤ s1.vehicle.age then recordStales s1 else s1
    let s3 := match s2.vehicle.debounceTimer with
      | none => s2
      | some elapsed => if t.debounce ≤ elapsed then debounceExpires s2 else s2
    done s3

/-! ### VEHICLE packets (R1) -/

def gearOf : Nat → Gear
  | 0 => .park
  | 1 => .reverse
  | 2 => .neutral
  | 3 => .drive
  | _ => .unknown

def supplyOf : Nat → Supply
  | 0 => .normal
  | 1 => .low
  | 2 => .cranking
  | _ => .low

/-- The record with the values of a payload of 10 bytes; any other payload leaves it (R1). -/
def Vehicle.withReport (v : Vehicle) (payload : List Byte) : Vehicle :=
  match payload with
  | [b0, b1, b2, b3, b4, b5, b6, b7, b8, b9] =>
    { v with gear := gearOf b0.toNat, supply := supplyOf b1.toNat, steering := clampInt (-7800) 7800 (signedOf 2 (beNat [b2, b3])),
             speed := beNat [b4, b5], distances := #v[b6.toNat, b7.toNat, b8.toNat, b9.toNat], age := 0, fresh := true }
  | _ => v

/-- What a report does through the supply hold (R170): CRANKING aborts a program or erase, an end lets work begin. -/
def supplyChanges (old : Supply) (s : State) : State :=
  if s.vehicle.supply = .cranking ∧ old ≠ .cranking then abortOperation .supply s
  else if s.vehicle.supply = .normal ∧ old ≠ .normal then storeSelect s
  else s

/-- An accepted VEHICLE packet (R1). A supply hold that the packet ends lets waiting work begin (R170) before the chime
reads that the packet's own reverse and proximity evaluation brings about are issued (log entry 73). -/
def vehicleReport (payload : List Byte) (s : State) : State :=
  let enabled : Bool := s.chime.proximity ≠ .off
  let s1 := supplyChanges s.vehicle.supply { s with vehicle := s.vehicle.withReport payload }
  let s2 := exitSpeedTest (updateMismatch (evaluateReverse s1))
  if enabled && s2.chime.proximity != .off then proximityPacket s2 else proximityEvaluate s2

/-- A VEHICLE packet handed over (R1, R178). -/
def vehicleArrives (p : Packet) (s : State) : State :=
  if !p.good then s
  else if p.payload.length ≠ 10 then { s with links.downlink.length := bump s.links.downlink.length }
  else vehicleReport p.payload s

end Sys2Proof.Machine
end

