-- ==== Sys2Proof/Machine/Receive.lean ====
section
/-! DEFINITION. The receivers (section 9.2) and the packets they hand over: assembly, the checks of R176, and the work
of each packet's owner. -/

namespace Sys2Proof.Machine

/-- A receiver that takes a packet's bytes: its link UP, its assembler ASSEMBLING (R175). -/
def receiving (s : State) (l : Link) : Bool := (s.link l).state = .up ∧ (s.link l).assembler = .assembling

/-- The packet that arrives with some bytes on a link, when it is of a kind and can arrive (R175, R176). -/
def arrives? (l : Link) (k : PacketKind) (bytes : List Byte) (s : State) : Option Packet :=
  if receiving s l ∧ bytes.length ≤ Config.maxPacketBytes then
    match checkPacket l bytes with
    | .accepted p => if p.kind = k then some p else none
    | .discarded _ => none
  else none

/-- PAY_ERR counted for a packet whose payload check failed (R176). -/
def countPayload (l : Link) (p : Packet) (s : State) : State :=
  if p.good then s else s.setLink l { s.link l with payErr := bump (s.link l).payErr }

/-- A packet of a kind that arrives, handed to its owner's work (R176, R178); other bytes change nothing. -/
def receive (l : Link) (k : PacketKind) (bytes : List Byte) (work : Packet → State → State) (s : State) : State :=
  match arrives? l k bytes s with
  | none => s
  | some p => work p (countPayload l p s)

/-- An admitted video packet's work, or the count of the check of R54 that fails. -/
def admitVideo (rx : VideoRx) (p : Packet) (work : Fin 32 → VideoDescriptor → State → State) (s : State) : State :=
  match admission rx false p.mark.toNat s with
  | .error f => countPort rx (countFail f) s
  | .ok (t, .video d) => work t d s
  | .ok (_, .audio _) => s

/-- A FRAME (R54, R55, R34). -/
def frameArrives (rx : VideoRx) (p : Packet) (s : State) : State :=
  admitVideo rx p (fun t d s =>
    let s1 := beginFrame t rx p.a d s
    if isCameraTag s t.val then guideFrame d.width d.height s1 else s1) s

/-- A LINE (R54, R56). -/
def videoLine (rx : VideoRx) (p : Packet) (s : State) : State :=
  admitVideo rx p (fun t _ s => lineArrives t rx p s) s

/-- Whether a FEND is a good camera frame of an engagement (R14): it leaves the buffer of a frame of the camera tag COMPLETE
as the latest of the camera ring. A frame of that tag which completes in another ring, begun before a TAG_SET, is none
(R59 hands on what R14 defines; log entry 64). -/
def isGoodFrame (t : Fin 32) (number : Nat) (s : State) : Bool :=
  isCameraTag s t.val && s.takeover.phase != .idle && (match fendCase t number s with
    | .complete c _ => cameraRing s == some c.ring
    | _ => false)

/-- A FEND (R54, R59, R14). -/
def fendArrives (rx : VideoRx) (p : Packet) (s : State) : State :=
  admitVideo rx p (fun t _ s =>
    let s1 := endFrame t rx p.a s
    if isGoodFrame t p.a s then goodFrame p.a s1 else s1) s

/-- An AUDIO packet (R54, R61). -/
def soundArrives (p : Packet) (s : State) : State :=
  match admission .downlink true p.mark.toNat s with
  | .error f => countPort .downlink (countFail f) s
  | .ok (t, .audio d) => audioArrives t d p s
  | .ok (_, .video _) => s

/-- A CTRL packet enters the control FIFO, or is discarded and counted (R186). -/
def controlArrives (p : Packet) (s : State) : State :=
  if s.control.fifo.length < Config.controlFifoPackets then
    { s with control.fifo := s.control.fifo ++ [{ mark := p.mark, code := p.c, params := p.payload, good := p.good }] }
  else { s with control.ctrlOverflow := bump s.control.ctrlOverflow }

/-- A KEY packet: its key code is field A, its payload is not examined (R178, R184). -/
def keyPacketArrives (k : Seat) (p : Packet) (s : State) : State := keyArrives k p.a s

/-- The write completion of a receiver's oldest staged line (R58), when its bytes lie in the frame memory. -/
def lineWritten (rx : VideoRx) (s : State) : Except Nat State :=
  match (s.port rx).staging with
  | [] => .ok s
  | l :: rest =>
    if l.address + l.bytes.length ≤ Config.frameMemoryBytes then .ok (writeStaged rx l rest s) else .error l.address

/-! ### Assembly (R175) -/

/-- A byte with the end flag in RESYNC or DISCARDING. -/
def endFlag (l : Link) (s : State) : State :=
  let r := s.link l
  if r.state ≠ .up then s
  else
    match r.assembler with
    | .resync => s.setLink l { r with assembler := .assembling, resync := bump r.resync }
    | .discarding => s.setLink l { r with assembler := .assembling }
    | .assembling => s
    | .off => s

/-- The 3852nd byte without the end flag in ASSEMBLING. -/
def overlong (l : Link) (s : State) : State :=
  let r := s.link l
  if receiving s l then s.setLink l { r with assembler := .discarding, overlong := bump r.overlong } else s

/-- The counter of a packet that its checks discard (R176). -/
def countDiscard (d : Discard) (r : LinkRecord) : LinkRecord :=
  match d with
  | .runt => { r with runt := bump r.runt }
  | .hdrErr => { r with hdrErr := bump r.hdrErr }
  | .kindViolation => { r with kindViolation := bump r.kindViolation }

/-- An arrived packet that its checks discard (R176). -/
def discardPacket (l : Link) (bytes : List Byte) (s : State) : State :=
  if receiving s l ∧ bytes ≠ [] ∧ bytes.length ≤ Config.maxPacketBytes then
    match checkPacket l bytes with
    | .accepted _ => s
    | .discarded d => s.setLink l (countDiscard d (s.link l))
  else s

end Sys2Proof.Machine
end

