-- ==== Sys2Proof/Machine/Profile.lean ====
section
/-! DEFINITION. The start-up profile's reading and its ends (R193, R194). The taking of an entry stands in
Machine/Control.lean. -/

namespace Sys2Proof.Machine

/-- The asset id of the start-up profile. -/
def profileId : Nat := 1

/-- A profile application ends: its pin is released and the phase becomes RUNNING (R194). -/
def endProfile (o : ProfileOutcome) (s : State) : State :=
  match s.control.profile with
  | none => s
  | some p =>
    unpinAsset profileId p.generation { s with control.profile := none, control.outcome := o, control.phase := .running }

/-- The profile is cut short (R194). -/
def cutShort (s : State) : State := raiseFlag .profileError (endProfile .cutShort s)

/-- The length L of the next entry, once its 2 bytes have been read. -/
def ProfileRun.entryLength (p : ProfileRun) : Option Nat :=
  match p.bytes with
  | b1 :: b0 :: _ => some (beNat [b1, b0])
  | _ => none

/-- Whether an entry of length L cuts the profile short (R194 step 1). -/
def ProfileRun.cuts (p : ProfileRun) (l : Nat) : Bool :=
  l < 8 || Config.maxPacketBytes < l || p.length < p.offset + 2 + l

/-- Whether the next entry can be taken: its bytes have been read, or it cuts the profile short. -/
def ProfileRun.ready (p : ProfileRun) : Bool :=
  match p.entryLength with
  | none => p.length < p.offset + 2
  | some l => p.cuts l || 2 + l ≤ p.bytes.length

/-- The next page of the profile read when the next entry still lacks bytes, one read outstanding at a time (R194). -/
def profileFetch (s : State) : State :=
  match s.control.profile with
  | none => s
  | some p =>
    if p.ready ∨ p.token.isSome then s
    else
      let (token, s1) := takeToken s
      issueAssetRead (.profile token) profileId p.generation p.nextPage
        { s1 with control.profile := some { p with token := some token } }

/-- The interpreter enters PROFILE, and RUNNING at once when there is no asset 1 (R193). -/
def profileStart (s : State) : State :=
  match s.asset? profileId with
  | none => { s with control.phase := .running, control.profile := none, control.profileTurn := true }
  | some r =>
    let run : ProfileRun := { generation := r.generation, length := r.length, offset := 0, bytes := [], nextPage := 0, token := none }
    profileFetch (pinAsset profileId { s with
      control.phase := .profile, control.profile := some run, control.profileTurn := true })

/-- The completion of a profile page read (R194); a read of an ended profile is discarded. -/
def profilePageRead (token : Nat) (content : Option (List Byte)) (s : State) : State :=
  match s.control.profile with
  | none => s
  | some p =>
    if p.token ≠ some token then s
    else
      match content with
      | none => cutShort s
      | some bytes =>
        let fresh := bytes.take (p.length - p.nextPage * Config.pageBytes)
        profileFetch { s with control.profile := some { p with
          bytes := p.bytes ++ fresh, nextPage := p.nextPage + 1, token := none } }

end Sys2Proof.Machine
end

