-- ==== Sys2Proof/Machine/StoreEvents.lean ====
section
/-! DEFINITION. What the array reports to the Asset Store Controller (chapter 8): its first readiness, the mount, and
the completions of reads, programs, erases and aborts. -/

namespace Sys2Proof.Machine

/-- The array is free again, and the controller selects (R156). -/
def finishOp (s : State) : State := storeSelect { s with store.op := .idle, store.aborting := false }

/-! ### The mount (R159, R160) -/

/-- The array is ready for its first operation: MOUNTING, and a page 0 read of every block is issued (R155, R159). -/
def arrayReady (s : State) : State :=
  if s.store.state = .unmounted then
    storeSelect { s with
      store.state := .mounting,
      store.mount := { Mount.reset with headersLeft := Config.storeBlocks },
      store.reads := (List.finRange 256).map fun b => ⟨.mountHeader, b, 0⟩ }
  else s

/-- A valid asset header (R159). -/
def headerValid (h : BlockHeader) : Bool :=
  1 ≤ h.assetId && h.assetId ≤ 1023 && h.kind ≤ 2 && ((h.kind == 2) == (h.assetId == 1)) && 1 ≤ h.blockCount
    && h.blockCount ≤ 64 && h.sequence < h.blockCount && (h.blockCount - 1) * Config.blockBytes < h.length
    && h.length ≤ h.blockCount * Config.blockBytes && 1 ≤ h.generation

/-- The class of a block by its header read (R159). -/
inductive HeaderClass where
  | bad | free | discard
  | asset (h : BlockHeader)
  deriving DecidableEq, Repr

def classify (content : Option Page) : HeaderClass :=
  match content with
  | none => .discard
  | some p =>
    if p.factory ≠ 0xFF#8 then .bad
    else if p.runtimeBad then .bad
    else
      match p.header with
      | none => .free
      | some h => if headerValid h then .asset h else .discard

/-- A block put on the erase list in block order (R160). -/
def insertBlock (b : Fin 256) : List (Fin 256) → List (Fin 256)
  | [] => [b]
  | c :: cs => if b < c then b :: c :: cs else c :: insertBlock b cs

/-- A block the mount discards (R160). -/
def mountDiscard (b : Fin 256) (s : State) : State :=
  setBlock .eraseList b { s with
    store.eraseList := insertBlock b s.store.eraseList, store.counters.mountDiscard := bump s.store.counters.mountDiscard }

/-- The generation a header speaks of, in the next generation (R160). That the next generation rises at each valid header
read, and not once at the end of the mount, is the model's choice (log entry 81). -/
def sawGeneration (h : BlockHeader) (s : State) : State :=
  { s with store.nextGeneration := max s.store.nextGeneration (h.generation + 1) }

/-- A block classified by its header read (R159). -/
def placeHeader (b : Fin 256) (content : Option Page) (s : State) : State :=
  match classify content with
  | .bad => setBlock .bad b s
  | .free => setBlock .free b s
  | .discard => mountDiscard b s
  | .asset h =>
    let commit := match content with
      | some p => p.commit
      | none => none
    sawGeneration h { s with store.mount.blocks := s.store.mount.blocks ++ [⟨b, h, commit⟩] }

/-- The groups of asset blocks by asset id and generation (R160). -/
def mountGroups (bs : List MountBlock) : List (List MountBlock) :=
  ((bs.map fun b => (b.header.assetId, b.header.generation)).eraseDups).map fun k =>
    bs.filter fun b => b.header.assetId == k.1 && b.header.generation == k.2

/-- The block of a group with a sequence index. -/
def groupBlock (g : List MountBlock) (i : Nat) : Option MountBlock := g.find? fun b => b.header.sequence == i

/-- Whether a group is whole (R160). -/
def wholeGroup (g : List MountBlock) : Bool :=
  match g with
  | [] => false
  | h :: _ =>
    g.all (fun b => b.header.kind == h.header.kind && b.header.blockCount == h.header.blockCount
      && b.header.length == h.header.length)
    && g.length == h.header.blockCount && (List.range h.header.blockCount).all fun i => (groupBlock g i).isSome

/-- The commit page of a whole group: its block and its page (R160). -/
def commitPage (g : List MountBlock) : Option (MountBlock × Nat) :=
  match g with
  | [] => none
  | h :: _ =>
    (groupBlock g (h.header.blockCount - 1)).map fun b =>
      (b, (h.header.length - 1) / Config.pageBytes % Config.pagesPerBlock)

/-- The commit record of a whole group, if its commit page carries the mark (R160). -/
def groupCommit (commits : List (Fin 256 × BitVec 32)) (g : List MountBlock) : Option (BitVec 32) :=
  match commitPage g with
  | none => none
  | some (b, page) =>
    if page = 0 then b.commit else (commits.find? fun e => e.1 == b.block).map (·.2)

/-- The directory record of a complete group (R160). -/
def groupRecord (m : Mount) (g : List MountBlock) : Option AssetRecord :=
  match g with
  | [] => none
  | h :: _ =>
    if wholeGroup g then
      match groupCommit m.commits g, assetKind? h.header.kind with
      | some crc, some kind =>
        some { id := h.header.assetId, kind := kind, generation := h.header.generation, length := h.header.length, crc := crc,
               blocks := (List.range h.header.blockCount).filterMap fun i => (groupBlock g i).map (·.block), pins := 0 }
      | _, _ => none
    else none

/-- The current generations: for each asset id, the complete group of the highest generation (R160). -/
def currentRecords (m : Mount) : List AssetRecord :=
  let complete := (mountGroups m.blocks).filterMap (groupRecord m)
  complete.filter fun r => complete.all fun q => q.id != r.id || q.generation ≤ r.generation

/-- The end of the mount (R160, R193). -/
def mountEnd (s : State) : State :=
  let records := currentRecords s.store.mount
  let kept := records.flatMap (·.blocks)
  let s1 := s.store.mount.blocks.foldl (fun s b => if kept.contains b.block then setBlock .current b.block s else mountDiscard b.block s) s
  profileStart (raiseFlag .storeMounted { s1 with
    store.state := .ready, store.directory := records, store.cursor := 0, store.mount := .reset })

/-- The commit pages that must be read (R160). -/
def commitReads (bs : List MountBlock) : List ReadRequest :=
  ((mountGroups bs).filter wholeGroup).filterMap fun g =>
    match commitPage g with
    | none => none
    | some (b, page) => if page = 0 then none else some ⟨.mountCommit, b.block, page⟩

/-- The last header read leads to the commit page reads, or to the mount's end when there are none. -/
def headersRead (s : State) : State :=
  let reads := commitReads s.store.mount.blocks
  if reads = [] then mountEnd s
  else { s with store.reads := s.store.reads ++ reads, store.mount.commitsLeft := reads.length }

/-- Any valid header read counts for the next generation, that of a bad block too (R160). -/
def noteGeneration (content : Option Page) (s : State) : State :=
  match content.bind (·.header) with
  | some h => if headerValid h then sawGeneration h s else s
  | none => s

/-- The completion of a header read (R159, R160). -/
def headerRead (b : Fin 256) (content : Option Page) (s : State) : State :=
  let s1 := noteGeneration content
    (placeHeader b content { s with store.mount.headersLeft := s.store.mount.headersLeft - 1 })
  if s1.store.mount.headersLeft = 0 then headersRead s1 else s1

/-- The completion of a commit page read (R160). -/
def commitRead (b : Fin 256) (content : Option Page) (s : State) : State :=
  let commits := match content with
    | none => s.store.mount.commits
    | some p =>
      match p.commit with
      | none => s.store.mount.commits
      | some crc => s.store.mount.commits ++ [(b, crc)]
  let s1 := { s with store.mount.commitsLeft := s.store.mount.commitsLeft - 1, store.mount.commits := commits }
  if s1.store.mount.commitsLeft = 0 then mountEnd s1 else s1

/-! ### Reads (R154, R162) -/

/-- A read's result handed to the reader that issued it (R162). -/
def handRead (r : ReadRequest) (content : Option Page) (s : State) : State :=
  let bytes := content.map (·.main)
  match r.reader with
  | .mountHeader => headerRead r.block content s
  | .mountCommit => commitRead r.block content s
  | .voice v token => voicePageRead v token bytes s
  | .glyph token => glyphPageRead token bytes s
  | .profile token => profilePageRead token bytes s

/-- The completion of a page read (R154). The result goes to its reader first, and only then does the free array select
(R156): a read that the reader issues upon it, a glyph load's or the profile's next page, goes ahead of a waiting program
or erase. The spec gives the two no order, and this one is the model's choice (log entry 78). -/
def readCompletes (failed : Bool) (s : State) : State :=
  match s.store.op with
  | .read r =>
    if failed then
      finishOp (handRead r none { s with store.counters.readFail := bump s.store.counters.readFail })
    else finishOp (handRead r (some (readPage s.store.array r.block r.page)) s)
  | _ => s

/-! ### Programs (R154, R157, R166, R167) -/

/-- The counters of a program's passes (R154): the pass that verified, from 0, or none of 8. R154 gives no moment for the
count of a repeated pass; that all of a program's enter PROGRAM_RETRY at once, at its completion, is the model's choice
(log entry 77). -/
def countPasses (verified : Option (Fin 8)) (c : StoreCounters) : StoreCounters :=
  match verified with
  | some k => { c with programRetry := bumpBy c.programRetry k.val }
  | none => { c with programRetry := bumpBy c.programRetry 7, programFail := bump c.programFail }

/-- The previous current generation of an id goes to the erase list, or to the retired list with its pins (R167). That it
joins the retired list at its end is the model's choice (log entry 82). -/
def retirePrevious (id : Nat) (s : State) : State :=
  match s.asset? id with
  | none => s
  | some r =>
    if r.pins = 0 then joinErase r.blocks s
    else
      setBlocks .retired r.blocks { s with
        store.retired := s.store.retired ++ [{ id := r.id, generation := r.generation, blocks := r.blocks, pins := r.pins }] }

/-- The generation commits (R167). The transaction keeps the rest of its record (log entry 59). -/
def commitGeneration (s : State) : State :=
  let t := s.store.transaction
  let r : AssetRecord := { id := t.id, kind := t.kind, generation := t.generation, length := t.length, crc := ~~~ t.crc,
                           blocks := t.reserved, pins := 0 }
  let s1 := retirePrevious t.id s
  let s2 := setBlocks .current t.reserved { s1 with
    store.directory := s1.store.directory.filter (fun q => q.id != t.id) ++ [r],
    store.transaction := { t with state := .none, reserved := [], buffer0 := .reset, buffer1 := .reset, outcome := .done } }
  glyphCommitted t.id (raiseFlag .storeDone s2)

/-- A program of the transaction has failed (R166). -/
def programFails (b : Fin 256) (s : State) : State :=
  let t := s.store.transaction
  failTransaction .program (makeBad b { s with
    store.transaction := { t with reserved := t.reserved.filter fun c => c != b } })

/-- A verified program of the transaction: its buffer goes FREE, and a commit program commits (R166, R167). -/
def programVerified (b : Fin 256) (page : Nat) (commit : Bool) (s : State) : State :=
  let t := s.store.transaction
  let free (x : TxBuffer) : TxBuffer := match x.state with
    | .programming p => if t.pageBlock p = b ∧ p % Config.pagesPerBlock = page then .reset else x
    | _ => x
  let s1 := { s with store.transaction := { t with buffer0 := free t.buffer0, buffer1 := free t.buffer1 } }
  if commit then commitGeneration s1 else s1

/-- The completion of a page program or a bad-mark write (R154, R157, R166). Its repeated passes are counted here (log entry
77), and what follows a commit, a load of the new generation among it, comes before the free array selects (log entry 78):
both are the model's choice. -/
def programCompletes (verified : Option (Fin 8)) (s : State) : State :=
  if s.store.aborting then s
  else
    match s.store.op with
    | .program b page content commit live =>
      let s1 := { s with store.counters := countPasses verified s.store.counters }
      match verified with
      | some _ =>
        let s2 := { s1 with store.array := writePage s1.store.array b page content }
        finishOp (if live then programVerified b page commit s2 else s2)
      | none =>
        let s2 := { s1 with store := losePage b page s1.store }
        finishOp (if live then programFails b s2 else s2)
    | .badMark b =>
      let s1 := { s with store.counters := countPasses verified s.store.counters }
      match verified with
      | some _ => finishOp { s1 with store := setBadMark b s1.store }
      | none => finishOp { s1 with store := loseBadMark b s1.store }
    | _ => s

/-! ### Erases and aborts (R154, R157, R158) -/

/-- One block's result of an erase (R158): free, or bad with its bad-mark write queued. -/
def blockErased (failed : Bool) (b : Fin 256) (s : State) : State :=
  let s1 := { s with store.eraseList := s.store.eraseList.filter fun c => c != b }
  if failed then
    makeBad b { s1 with store := loseBlock b { s1.store with counters.eraseFail := bump s1.store.counters.eraseFail } }
  else setBlock .free b { s1 with store.array := eraseBlock s1.store.array b }

/-- The completion of an erase (R154, R158). Where several of its blocks fail, they become bad in the erase's own order, and
their bad-mark writes wait in that order: R156 orders those of blocks that become bad at different times, and the order
within one erase is the model's choice (log entry 75). -/
def eraseCompletes (failedBlocks : List (Fin 256)) (s : State) : State :=
  if s.store.aborting then s
  else
    match s.store.op with
    | .erase bs => finishOp (bs.foldl (fun s b => blockErased (failedBlocks.contains b) b s) s)
    | _ => s

/-- What an operation that did not run to its end leaves in the array: pages in a state the manual does not give (R154).
A bad-mark write that did not complete leaves its page as it was: R157 writes no other byte, and has the mount go by the
block's header then; it only takes a free value's number, for its passes (log entry 57). -/
def ArrayOp.leave (o : ArrayOp) (st : Store) : Store :=
  match o with
  | .program b page _ _ _ => losePage b page st
  | .badMark _ => { st with freeCount := st.freeCount + 1 }
  | .erase bs => bs.foldl (fun st b => loseBlock b st) st
  | .read _ => st
  | .idle => st

/-- The repeated passes that an operation aborted now had made: a free value for a program (R154). -/
def abortedRetries (s : State) : Nat :=
  match s.store.op with
  | .program .. => (Config.abortedRetries s.store.freeCount).val
  | .badMark _ => (Config.abortedRetries s.store.freeCount).val
  | .erase _ => 0
  | .read _ => 0
  | .idle => 0

/-- The abort completion (R154): the repeated passes made are counted, and the pages hold what the operation left. -/
def abortCompletes (s : State) : State :=
  if s.store.aborting then
    let counters := { s.store.counters with programRetry := bumpBy s.store.counters.programRetry (abortedRetries s) }
    finishOp { s with store := s.store.op.leave { s.store with counters := counters } }
  else s

end Sys2Proof.Machine
end

