-- ==== Sys2Proof/Machine/Uplink.lean ====
section
/-! DEFINITION. Link events and the uplink (chapter 9): loss of lock and retrain with what the camera view does of
them, send completions, and a waiting reply's append. -/

namespace Sys2Proof.Machine

/-- A link put DOWN, then the camera view's answer to the camera link's leaving UP (R174, R15 to R17). -/
def linkDrops (l : Link) (s : State) : State :=
  let s1 := putDown l s
  match l with
  | .camera => if (s.link .camera).state = .up then viewLinkDown s1 else s1
  | _ => s1

/-- A loss of lock: it takes an UP link DOWN, and changes nothing in TRAINING (R174). -/
def lossOfLock (l : Link) (s : State) : State := if (s.link l).state = .up then linkDrops l s else s

/-- A retrain of a link (R174, R182). -/
def retrain (l : Link) (s : State) : State := linkDrops l s

/-- The waiting reply appended to the queue, which frees the interpreter; a soft reset arranged with it takes effect
(R180, R197). -/
def appendWaiting (s : State) : State :=
  match s.uplink.waiting with
  | none => s
  | some p => waitingLeft { s with uplink := { queue := s.uplink.queue ++ [p], waiting := none } }

/-- The send completion of the packet at the head of the queue (R179, R180, R182). The packet's bytes stand in the trace
whole here, and a packet that R181 removes while it is being sent puts out none of them: the model's choice, since no
rule says how many bytes of it have gone out (log entry 84). -/
def sendCompletes (s : State) : State :=
  if s.links.uplink.state = .up then
    match s.uplink.queue with
    | [] => s
    | p :: rest =>
      let s1 := appendWaiting (emit (.uplink p.body.bytes) { s with uplink.queue := rest })
      if p.retrains then retrain .uplink s1 else s1
  else s

/-- A waiting reply is appended: at the send completion that makes room for it, or into room that there is (R180). -/
def waitingAppends (s : State) : State :=
  if s.uplink.waiting.isSome then
    if s.uplink.queue.length < Config.uplinkPackets then appendWaiting s else sendCompletes s
  else s

end Sys2Proof.Machine
end

