-- ==== Sys2Proof/Machine/Control.lean ====
section
/-! DEFINITION. The Control Interpreter, the Attention Unit's commands, start-up and resets (chapter 10). -/

namespace Sys2Proof.Machine

/-! ### Counters (R189) -/

/-- The counters a link has, in the order of section 9.2. -/
def linkCounters (l : Link) (r : LinkRecord) : List Nat :=
  let receiver := [r.resync, r.overlong, r.runt, r.hdrErr, r.kindViolation, r.payErr]
  match l with
  | .downlink => r.linkDown :: receiver ++ [r.trail, r.length]
  | .uplink => [r.linkDown, r.replyDrop, r.uplinkDrop]
  | .camera => r.linkDown :: receiver ++ [r.trail]
  | .front => [r.linkDown]
  | .left => r.linkDown :: receiver
  | .right => r.linkDown :: receiver

/-- The six links in the order of R182. -/
def links : List Link := [.downlink, .uplink, .camera, .front, .left, .right]

def LinkRecord.cleared (r : LinkRecord) : LinkRecord := { LinkRecord.reset with state := r.state, assembler := r.assembler }

def Links.cleared (k : Links) : Links :=
  { downlink := k.downlink.cleared, uplink := k.uplink.cleared, camera := k.camera.cleared, front := k.front.cleared,
    left := k.left.cleared, right := k.right.cleared }

def AdmissionCounters.bytes (c : AdmissionCounters) : List Byte :=
  [c.null, c.absent, c.kind, c.source, c.limit, c.orphan, c.overflow].flatMap u32

def ChimeCounters.bytes (c : ChimeCounters) : List Byte :=
  [c.merged, c.dropped, c.refused, c.undefined, c.notReady, c.underrun, c.readFail].flatMap u32

/-- The groups of COUNTERS_READ (R189). -/
inductive CounterGroup where
  | links | streams | graphics | audio | chimes | store | control
  deriving DecidableEq, Repr

def counterGroup? : Nat → Option CounterGroup
  | 0 => some .links
  | 1 => some .streams
  | 2 => some .graphics
  | 3 => some .audio
  | 4 => some .chimes
  | 5 => some .store
  | 6 => some .control
  | _ => none

/-- A group's items (R189). -/
def groupBytes (g : CounterGroup) (s : State) : List Byte :=
  match g with
  | .links => links.flatMap fun l => u8 (s.link l).state.code ++ (linkCounters l (s.link l)).flatMap u32
  | .streams =>
    s.streams.downlink.counters.bytes ++ s.streams.camera.counters.bytes
      ++ (s.streams.tags.toList.drop 1).flatMap fun r => r.counters.bytes
  | .graphics =>
    [s.raster.fallbackGlyph, s.raster.glyphLoadFail, s.menu.left.keyLocked, s.menu.left.keyUnknown,
      s.menu.right.keyLocked, s.menu.right.keyUnknown].flatMap u32
  | .audio =>
    [s.audio.seatL.overflow, s.audio.seatL.underflow, s.audio.seatR.overflow, s.audio.seatR.underflow,
      s.audio.seatL.saturate, s.audio.seatR.saturate, s.audio.cabin.saturate].flatMap u32
  | .chimes => s.chime.counters.bytes
  | .store => s.store.counters.bytes
  | .control => [s.control.ctrlOverflow, s.control.profileReject].flatMap u32

def ZoneRecord.cleared (r : ZoneRecord) : ZoneRecord := { r with overflow := 0, underflow := 0, saturate := 0 }
def SeatContext.cleared (c : SeatContext) : SeatContext := { c with keyLocked := 0, keyUnknown := 0 }

/-- A group's counters set to 0 (R189). -/
def clearGroup (g : CounterGroup) (s : State) : State :=
  match g with
  | .links => { s with links := s.links.cleared }
  | .streams =>
    { s with
      streams.downlink.counters := .zero, streams.camera.counters := .zero,
      streams.tags := s.streams.tags.map fun r => { r with counters := .zero } }
  | .graphics =>
    { s with
      raster.fallbackGlyph := 0, raster.glyphLoadFail := 0, menu.left := s.menu.left.cleared, menu.right := s.menu.right.cleared }
  | .audio =>
    { s with audio.seatL := s.audio.seatL.cleared, audio.seatR := s.audio.seatR.cleared, audio.cabin := s.audio.cabin.cleared }
  | .chimes => { s with chime.counters := .zero }
  | .store => { s with store.counters := .zero }
  | .control => { s with control.ctrlOverflow := 0, control.profileReject := 0 }

/-- COUNTERS_READ (R189). -/
def countersRead (group clear : Nat) (s : State) : Answer :=
  match counterGroup? group, flag? clear with
  | some g, some c => report (groupBytes g s) (if c then clearGroup g s else s)
  | _, _ => refuse .param s

/-! ### IDENTIFY, attention and links (R182, R189, R192) -/

def StartPhase.code : StartPhase → Nat
  | .starting => 0
  | .profile => 1
  | .running => 2

def ProfileOutcome.code : ProfileOutcome → Nat
  | .none => 0
  | .complete => 1
  | .cutShort => 2

/-- What IDENTIFY reports (R189). -/
def identification (s : State) : List Byte :=
  u16 Config.vendorCode ++ u16 Config.partCode ++ u8 Config.revision ++ u16 Config.storeBlocks ++ u8 Config.pagesPerBlock
    ++ u16 Config.pageBytes ++ u8 Config.spareBytes ++ u8 Config.banks ++ u8 s.control.phase.code
    ++ u8 s.control.outcome.code ++ u16 s.control.executed

/-- IDENTIFY (R189). -/
def identify (s : State) : Answer := report (identification s) s

/-- The bits that name no flag (R192). -/
def flagsValid (f : BitVec 16) : Bool := f &&& 0xF000#16 = 0#16

/-- ATTENTION_ACK (R192). -/
def attentionAck (f : BitVec 16) (s : State) : Answer :=
  if flagsValid f then
    let s1 := clearFlags f s
    report (u16 s1.attention.flags.toNat ++ u16 s1.attention.mask.toNat) s1
  else refuse .param s

/-- NOTICE_MASK_SET (R192). -/
def noticeMaskSet (m : BitVec 16) (s : State) : Answer :=
  if flagsValid m then
    let tells : Bool := m &&& ~~~ s.attention.mask &&& s.attention.flags ≠ 0#16
    ⟨.ok, [], { s with attention.mask := m }, if tells then .flagsNotice else .nothing⟩
  else refuse .param s

/-- LINK_RETRAIN (R182): the uplink, while UP, waits for the reply's send completion. -/
def linkRetrain (link : Nat) (s : State) : Answer :=
  match link? link with
  | none => refuse .param s
  | some .uplink => if s.links.uplink.state = .up then ⟨.ok, [], s, .retrainUplink⟩ else done (retrain .uplink s)
  | some l => done (retrain l s)

/-- SOFT_RESET (R197), after its common checks. -/
def softReset (s : State) : Answer := ⟨.ok, [], s, .softReset⟩

/-! ### The common checks (R186, R25) -/

/-- A command performed by its owner. -/
def perform (c : Command) (s : State) : Answer :=
  match c with
  | .tagSet p => tagSet p s
  | .tagClear t => tagClear t s
  | .tagRead t => tagRead t s
  | .ringSet p => ringSet p s
  | .panelSet p => panelSet p s
  | .panelWake p => panelWake p s
  | .panelSleep p => panelSleep p s
  | .panelBlank p => panelBlank p true s
  | .panelShow p => panelBlank p false s
  | .panelLevel p l => panelLevel p l s
  | .layerSet p => layerSet p s
  | .layerClear p l => layerClear p l s
  | .panelRead p => panelRead p s
  | .cameraSet p => cameraSet p s
  | .takeoverSet p => takeoverSet p s
  | .takeoverDismiss => takeoverDismiss s
  | .takeoverRead => takeoverRead s
  | .guideSet p => guideSet p s
  | .steerTableSet vs => steerTableSet vs s
  | .rowTableSet rows => rowTableSet rows s
  | .bandTableSet bands => bandTableSet bands s
  | .menuSet p => menuSet p s
  | .pageSet n title items => pageSet n title items s
  | .pageClear n => pageClear n s
  | .itemSet n i p => itemSet n i p s
  | .menuOpen k => menuOpen k s
  | .menuClose k => menuClose k s
  | .menuLock k l => menuLock k l s
  | .zoneSet z o p => zoneSet z o p s
  | .volumeTableSet vs => volumeTableSet vs s
  | .chimeDefine n o p => chimeDefine n o p s
  | .chimePlay n z => chimePlay n z s
  | .chimeStop n => chimeStop n s
  | .proximitySet n bands => proximitySet n bands s
  | .assetBegin n k l => assetBegin n k l s
  | .assetData o bs => assetData o bs s
  | .assetEnd c => assetEnd c s
  | .assetDelete n => assetDelete n s
  | .assetInfo n => assetInfo n s
  | .storeStatus => storeStatus s
  | .storeAbort => storeAbort s
  | .linkRetrain l => linkRetrain l s
  | .countersRead g c => countersRead g c s
  | .attentionAck f => attentionAck f s
  | .noticeMaskSet m => noticeMaskSet m s
  | .identify => identify s
  | .softReset => softReset s

/-- The commands answered in STARTING and PROFILE (R186 check 3, R188). -/
def answeredEarly (code : Nat) : Bool := [18, 23, 75, 81, 84].contains code

/-- Whether R25 refuses a command, by its code and its first parameter byte, which names a tag or a ring. -/
def lockedOut (code : Nat) (first : Option Nat) (s : State) : Bool :=
  s.takeover.phase ≠ .idle &&
    (match code with
      | 1 => s.takeover.camera.tag ≠ 0 && first == some s.takeover.camera.tag
      | 2 => s.takeover.camera.tag ≠ 0 && first == some s.takeover.camera.tag
      | 4 => (cameraRing s).isSome && first == (cameraRing s).map (·.val)
      | 20 => true
      | 21 => true
      | 22 => s.takeover.phase == .engaged
      | 30 => true
      | 31 => true
      | 32 => true
      | 33 => true
      | 85 => true
      | _ => false)

/-- The first of checks 3 and 4 of R186 that fails. -/
def earlyRefusal (inProfile : Bool) (code : Nat) (first : Option Nat) (s : State) : Option Status :=
  if !inProfile && s.control.phase != .running && !answeredEarly code then some .notReady
  else if lockedOut code first s then some .locked
  else none

/-- A taken packet answered (R186): its five checks in their order, then its owner, with the owner's own checks. An area of
a wrong length is LENGTH whatever the command (R185), before its owner sees it (log entry 67). -/
def answerPacket (inProfile : Bool) (p : ControlPacket) (s : State) : Answer :=
  if !p.good then refuse .badCrc s
  else
    match readCommand p.code.toNat with
    | none => refuse .unknown s
    | some r =>
      match earlyRefusal inProfile p.code.toNat (p.params.head?.map (·.toNat)) s with
      | some st => refuse st s
      | none =>
        match decodeParams r p.params with
        | none => refuse .length s
        | some c => perform c s

/-- A command answered: checks 3 and 4 of R186, then its owner. -/
def answerCommand (c : Command) (s : State) : Answer :=
  match earlyRefusal false c.code (c.params.head?.map (·.toNat)) s with
  | some st => refuse st s
  | none => perform c s

/-! ### Taking a command (R186, R187, R195) -/

/-- The interpreter is free: no reply of its own waits, and no soft reset is on its way (R186, R197). -/
def interpreterFree (s : State) : Bool := s.uplink.waiting.isNone && s.control.softReset == .none

/-- The reply packet of an answer (R187). -/
def replyOf (mark code : Byte) (a : Answer) : UplinkPacket :=
  { body := .reply mark a.status code a.data, retrains := a.after = .retrainUplink }

/-- An answer's reply handed over, and what follows it (R187, R192, R197). The notices that the command's own execution
handed over, a FLAGS notice of a flag it raised among them, are in the answer's state already and so go before the reply
(log entry 69). -/
def handAnswer (mark code : Byte) (a : Answer) : State :=
  let s := handReply (replyOf mark code a) a.state
  match a.after with
  | .nothing => s
  | .retrainUplink => s
  | .flagsNotice => handNotice (.flags s.attention.flags) s
  | .softReset => if s.uplink.waiting.isSome then { s with control.softReset := .arranged } else softResetBegins s

/-- Whether the next profile entry can be taken (R194). -/
def entryWaits (s : State) : Bool :=
  s.control.phase == .profile && (match s.control.profile with
    | some p => p.ready
    | none => false)

/-- COMMAND_TAKE: the free interpreter takes the oldest packet of the FIFO, in PROFILE when it is its turn (R186, R195).
A taking hands the turn to the profile also where no entry waited (log entry 70). -/
def takeCommand (s : State) : State :=
  match s.control.fifo with
  | [] => s
  | p :: rest =>
    if interpreterFree s && !(entryWaits s && s.control.profileTurn) then
      let s1 := { s with control.fifo := rest, control.profileTurn := true }
      handAnswer p.mark p.code (answerPacket false p s1)
    else s

/-- A command that the free interpreter takes, whatever the FIFO holds (log entry 18). -/
def runCommand (mark : Byte) (c : Command) (s : State) : State :=
  if interpreterFree s then handAnswer mark (BitVec.ofNat 8 c.code) (answerCommand c s) else s

/-! ### Profile entries (R194) -/

/-- A rejected entry: PROFILE_REJECT counted, PROFILE_ERROR raised. -/
def rejectEntry (s : State) : State :=
  raiseFlag .profileError { s with control.profileReject := bump s.control.profileReject }

/-- The codes of the commands that a profile may not carry (R194 step 3). -/
def bannedInProfile (code : Nat) : Bool := [70, 71, 72, 73, 76, 85].contains code

/-- What follows a profile entry's answer as its reply is suppressed (R194 step 4). -/
def suppressReply (a : Answer) : State :=
  match a.after with
  | .nothing => a.state
  | .retrainUplink => retrain .uplink a.state
  | .flagsNotice => handNotice (.flags a.state.attention.flags) a.state
  | .softReset => a.state

/-- An entry's packet checked and executed (R194 steps 2 to 4). -/
def runEntry (packet : List Byte) (s : State) : State :=
  match checkPacket .downlink packet with
  | .discarded _ => rejectEntry s
  | .accepted p =>
    if p.kind ≠ .ctrl ∨ !p.good ∨ bannedInProfile p.c.toNat then rejectEntry s
    else
      let a := answerPacket true { mark := p.mark, code := p.c, params := p.payload, good := true } s
      let s1 := suppressReply a
      if a.status = .ok then { s1 with control.executed := min 65535 (s1.control.executed + 1) } else rejectEntry s1

/-- The reading position moved past an entry of length L. -/
def skipEntry (l : Nat) (s : State) : State :=
  match s.control.profile with
  | none => s
  | some p => { s with control.profile := some { p with offset := p.offset + 2 + l, bytes := p.bytes.drop (2 + l) } }

/-- After an entry: the profile is complete, or its next bytes are fetched (R194). -/
def afterEntry (s : State) : State :=
  match s.control.profile with
  | none => s
  | some p => if p.offset = p.length then endProfile .complete s else profileFetch s

/-- PROFILE_ENTRY: the free interpreter takes the next entry, when it is its turn (R194, R195). A taking hands the turn
to the control FIFO also where it is empty (log entry 70). -/
def takeEntry (s : State) : State :=
  if interpreterFree s && entryWaits s && (s.control.fifo.isEmpty || s.control.profileTurn) then
    match s.control.profile with
    | none => s
    | some p =>
      match p.entryLength with
      | none => cutShort s
      | some l =>
        if p.cuts l then cutShort s
        else
          afterEntry (runEntry ((p.bytes.drop 2).take l) (skipEntry l { s with control.profileTurn := false }))
  else s

/-! ### Resets (R193, R197) -/

/-- A panel after a soft reset: size, rate, the power state, the output backlight and the frame in progress are kept,
the blank frames ended begin again (R92). A composed frame that is kept reads the places it was begun with until its end,
so that a plane buffer which the reset makes a back buffer (R98), or a ring buffer that it frees, shows what is drawn or
written there before that end: the model's choice (log entry 34). -/
def PanelRecord.softReset (r : PanelRecord) : PanelRecord :=
  { PanelRecord.reset with
    width := r.width, height := r.height, rate := r.rate, power := r.power, outBacklight := r.outBacklight,
    frame := r.frame }

/-- A panel's soft reset, its power state brought to the requested SLEEP (R92, R75). -/
def softResetPanel (p : Panel) (s : State) : State := sleepEffect p (s.setPanel p (s.panel p).softReset)

/-- A zone after a soft reset; its output block plays on (R132). -/
def ZoneRecord.softReset (r : ZoneRecord) : ZoneRecord := { ZoneRecord.reset with output := r.output }

/-- The holders' pins released (R173), in the order voices 0 to 3, glyph load, profile: the order in which the blocks of
retired generations join the erase list (log entry 71). -/
def releasePins (s : State) : State :=
  let s1 := (List.finRange 4).foldl (fun s v =>
    if (s.voice v).busy then unpinAsset (s.voice v).asset (s.voice v).generation s else s) s
  let s2 := dropGlyphLoad s1
  match s2.control.profile with
  | none => s2
  | some p => unpinAsset profileId p.generation s2

/-- The Asset Store Controller's soft reset (R173). A transaction in NONE keeps its record (log entry 58). The failed
transaction's blocks join the erase list before the retired generations' blocks, and a free array selects at the first
of these joins (log entry 71). -/
def softResetStore (s : State) : State :=
  let s1 := if s.store.transaction.state = .none then s else failTransaction .reset s
  let s2 := releasePins s1
  { s2 with store.counters := .zero }

/-- Every block at the values its chapter gives for a soft reset (R197); the stored supply becomes NORMAL, which ends a
hold and lets waiting work begin (R3, R156, R170). -/
def softResetBlocks (s : State) : State :=
  let s1 := softResetStore s
  let s2 := { s1 with
    vehicle := .reset s.vehicle.pinRaw, takeover := .reset, guide := .reset, streams := .reset, raster := .reset,
    menu := .reset, chime := .reset,
    audio := { volumeTable := defaultVolumeTable, seatL := s.audio.seatL.softReset, seatR := s.audio.seatR.softReset,
               cabin := s.audio.cabin.softReset },
    links := s.links.cleared, attention := .reset,
    control := { Control.reset with fifo := s.control.fifo } }
  softResetPanel .right (softResetPanel .left (softResetPanel .front (supplyChanges s.vehicle.supply s2)))

/-- The soft reset's last two steps: the blocks, then the profile again (R197). -/
def softResetEnds (s : State) : State := profileStart (softResetBlocks s)

/-- The FAILED reply of a packet discarded by a soft reset (R197). -/
def failedReply (p : ControlPacket) : UplinkPacket := { body := .reply p.mark .failed p.code [], retrains := false }

/-- The packets that waited are answered FAILED, as far as the uplink queue has room, and then the reset is made (R197). -/
def failPackets : List ControlPacket → State → State
  | [], s => softResetEnds s
  | p :: rest, s =>
    let s1 := handReply (failedReply p) s
    if s1.uplink.waiting.isSome then { s1 with control.softReset := .failing rest } else failPackets rest s1

/-- SOFT_RESET_EFFECT (R197): the FAILED replies, from the reset's taking effect on and again once one that waited is
appended or dropped, then the blocks and the profile. -/
def softResetEffect (s : State) : State :=
  if s.uplink.waiting.isSome then s
  else
    match s.control.softReset with
    | .none => s
    | .arranged => s
    | .failing rest => failPackets rest s

/-- A full reset (R193): every block, over what the array's operation left. -/
def fullReset (s : State) : State :=
  let st := s.store.op.leave s.store
  State.resetOver s.vehicle.pinRaw s.mem st.array st.nextToken st.freeCount s.pending s.out

end Sys2Proof.Machine
end

