-- ==== Sys2Proof/Machine/Commands.lean ====
section
/-! DEFINITION. The meanings of the control commands: one definition per row of the table. Each is the free interpreter's
taking of the command (R186): its common checks, its owner's work, and its reply. -/

namespace Sys2Proof.Machine

/-- SOFT_RESET (R197). -/
def execSoftReset (mark : Byte) (s : State) : Host.Outcome State Fault Refusal :=
  .next (runCommand mark .softReset s)

/-- TAG_SET (R50). -/
def execTagSet (mark : Byte) (p : TagSetParams) (s : State) : Host.Outcome State Fault Refusal :=
  .next (runCommand mark (.tagSet p) s)

/-- TAG_CLEAR (R52). -/
def execTagClear (mark : Byte) (tag : Nat) (s : State) : Host.Outcome State Fault Refusal :=
  .next (runCommand mark (.tagClear tag) s)

/-- TAG_READ (R53). -/
def execTagRead (mark : Byte) (tag : Nat) (s : State) : Host.Outcome State Fault Refusal :=
  .next (runCommand mark (.tagRead tag) s)

/-- RING_SET (R63). -/
def execRingSet (mark : Byte) (p : RingSetParams) (s : State) : Host.Outcome State Fault Refusal :=
  .next (runCommand mark (.ringSet p) s)

/-- PANEL_SET (R71). -/
def execPanelSet (mark : Byte) (p : PanelSetParams) (s : State) : Host.Outcome State Fault Refusal :=
  .next (runCommand mark (.panelSet p) s)

/-- PANEL_WAKE (R74). -/
def execPanelWake (mark : Byte) (panel : Nat) (s : State) : Host.Outcome State Fault Refusal :=
  .next (runCommand mark (.panelWake panel) s)

/-- PANEL_SLEEP (R75). -/
def execPanelSleep (mark : Byte) (panel : Nat) (s : State) : Host.Outcome State Fault Refusal :=
  .next (runCommand mark (.panelSleep panel) s)

/-- PANEL_BLANK (R79). -/
def execPanelBlank (mark : Byte) (panel : Nat) (s : State) : Host.Outcome State Fault Refusal :=
  .next (runCommand mark (.panelBlank panel) s)

/-- PANEL_SHOW (R79). -/
def execPanelShow (mark : Byte) (panel : Nat) (s : State) : Host.Outcome State Fault Refusal :=
  .next (runCommand mark (.panelShow panel) s)

/-- PANEL_LEVEL (R80). -/
def execPanelLevel (mark : Byte) (panel level : Nat) (s : State) : Host.Outcome State Fault Refusal :=
  .next (runCommand mark (.panelLevel panel level) s)

/-- LAYER_SET (R82). -/
def execLayerSet (mark : Byte) (p : LayerSetParams) (s : State) : Host.Outcome State Fault Refusal :=
  .next (runCommand mark (.layerSet p) s)

/-- LAYER_CLEAR (R84). -/
def execLayerClear (mark : Byte) (panel layer : Nat) (s : State) : Host.Outcome State Fault Refusal :=
  .next (runCommand mark (.layerClear panel layer) s)

/-- PANEL_READ (R91). -/
def execPanelRead (mark : Byte) (panel : Nat) (s : State) : Host.Outcome State Fault Refusal :=
  .next (runCommand mark (.panelRead panel) s)

/-- CAMERA_SET (R8). -/
def execCameraSet (mark : Byte) (p : CameraSetParams) (s : State) : Host.Outcome State Fault Refusal :=
  .next (runCommand mark (.cameraSet p) s)

/-- TAKEOVER_SET (R7). -/
def execTakeoverSet (mark : Byte) (p : TakeoverSetParams) (s : State) : Host.Outcome State Fault Refusal :=
  .next (runCommand mark (.takeoverSet p) s)

/-- TAKEOVER_DISMISS (R13). -/
def execTakeoverDismiss (mark : Byte) (s : State) : Host.Outcome State Fault Refusal :=
  .next (runCommand mark .takeoverDismiss s)

/-- TAKEOVER_READ (R26). -/
def execTakeoverRead (mark : Byte) (s : State) : Host.Outcome State Fault Refusal :=
  .next (runCommand mark .takeoverRead s)

/-- GUIDE_SET (R28). -/
def execGuideSet (mark : Byte) (p : GuideSetParams) (s : State) : Host.Outcome State Fault Refusal :=
  .next (runCommand mark (.guideSet p) s)

/-- STEER_TABLE_SET (R30). -/
def execSteerTableSet (mark : Byte) (values : List Nat) (s : State) : Host.Outcome State Fault Refusal :=
  .next (runCommand mark (.steerTableSet values) s)

/-- ROW_TABLE_SET (R31). -/
def execRowTableSet (mark : Byte) (rows : SizedList RowParams) (s : State) : Host.Outcome State Fault Refusal :=
  .next (runCommand mark (.rowTableSet rows) s)

/-- BAND_TABLE_SET (R32). -/
def execBandTableSet (mark : Byte) (bands : List GuideBand) (s : State) : Host.Outcome State Fault Refusal :=
  .next (runCommand mark (.bandTableSet bands) s)

/-- MENU_SET (R109). -/
def execMenuSet (mark : Byte) (p : MenuSetParams) (s : State) : Host.Outcome State Fault Refusal :=
  .next (runCommand mark (.menuSet p) s)

/-- PAGE_SET (R106). -/
def execPageSet (mark : Byte) (page : Nat) (title : List Nat) (items : SizedList ItemParams) (s : State) :
    Host.Outcome State Fault Refusal :=
  .next (runCommand mark (.pageSet page title items) s)

/-- PAGE_CLEAR (R108). -/
def execPageClear (mark : Byte) (page : Nat) (s : State) : Host.Outcome State Fault Refusal :=
  .next (runCommand mark (.pageClear page) s)

/-- ITEM_SET (R107). -/
def execItemSet (mark : Byte) (page item : Nat) (p : ItemParams) (s : State) : Host.Outcome State Fault Refusal :=
  .next (runCommand mark (.itemSet page item p) s)

/-- MENU_OPEN (R115). -/
def execMenuOpen (mark : Byte) (seat : Nat) (s : State) : Host.Outcome State Fault Refusal :=
  .next (runCommand mark (.menuOpen seat) s)

/-- MENU_CLOSE (R115). -/
def execMenuClose (mark : Byte) (seat : Nat) (s : State) : Host.Outcome State Fault Refusal :=
  .next (runCommand mark (.menuClose seat) s)

/-- MENU_LOCK (R115). -/
def execMenuLock (mark : Byte) (seat locked : Nat) (s : State) : Host.Outcome State Fault Refusal :=
  .next (runCommand mark (.menuLock seat locked) s)

/-- ZONE_SET with APPLY (R123). -/
def execZoneSet (mark : Byte) (zone : Nat) (p : ZoneParams) (s : State) : Host.Outcome State Fault Refusal :=
  .next (runCommand mark (.zoneSet zone 0 p) s)

/-- ZONE_SET with READ (R123, R131). -/
def execZoneSetRead (mark : Byte) (zone : Nat) (p : ZoneParams) (s : State) : Host.Outcome State Fault Refusal :=
  .next (runCommand mark (.zoneSet zone 1 p) s)

/-- VOLUME_TABLE_SET (R122). -/
def execVolumeTableSet (mark : Byte) (values : List Nat) (s : State) : Host.Outcome State Fault Refusal :=
  .next (runCommand mark (.volumeTableSet values) s)

/-- CHIME_DEFINE with DEFINE (R133). -/
def execChimeDefine (mark : Byte) (id : Nat) (p : ChimeParams) (s : State) : Host.Outcome State Fault Refusal :=
  .next (runCommand mark (.chimeDefine id 0 (some p)) s)

/-- CHIME_DEFINE with REMOVE (R133). -/
def execChimeDefineRemove (mark : Byte) (id : Nat) (s : State) : Host.Outcome State Fault Refusal :=
  .next (runCommand mark (.chimeDefine id 1 none) s)

/-- CHIME_DEFINE with READ (R133, R151). -/
def execChimeDefineRead (mark : Byte) (id : Nat) (s : State) : Host.Outcome State Fault Refusal :=
  .next (runCommand mark (.chimeDefine id 2 none) s)

/-- CHIME_PLAY (R136). -/
def execChimePlay (mark : Byte) (id zones : Nat) (s : State) : Host.Outcome State Fault Refusal :=
  .next (runCommand mark (.chimePlay id zones) s)

/-- CHIME_STOP (R146). -/
def execChimeStop (mark : Byte) (id : Nat) (s : State) : Host.Outcome State Fault Refusal :=
  .next (runCommand mark (.chimeStop id) s)

/-- PROXIMITY_SET (R147). -/
def execProximitySet (mark : Byte) (id : Nat) (bands : List ProximityBand) (s : State) : Host.Outcome State Fault Refusal :=
  .next (runCommand mark (.proximitySet id bands) s)

/-- ASSET_BEGIN (R164). -/
def execAssetBegin (mark : Byte) (id kind length : Nat) (s : State) : Host.Outcome State Fault Refusal :=
  .next (runCommand mark (.assetBegin id kind length) s)

/-- ASSET_DATA (R165). -/
def execAssetData (mark : Byte) (offset : Nat) (bytes : List Byte) (s : State) : Host.Outcome State Fault Refusal :=
  .next (runCommand mark (.assetData offset bytes) s)

/-- ASSET_END (R167). -/
def execAssetEnd (mark : Byte) (crc : BitVec 32) (s : State) : Host.Outcome State Fault Refusal :=
  .next (runCommand mark (.assetEnd crc) s)

/-- ASSET_DELETE (R169). -/
def execAssetDelete (mark : Byte) (id : Nat) (s : State) : Host.Outcome State Fault Refusal :=
  .next (runCommand mark (.assetDelete id) s)

/-- ASSET_INFO (R172). -/
def execAssetInfo (mark : Byte) (id : Nat) (s : State) : Host.Outcome State Fault Refusal :=
  .next (runCommand mark (.assetInfo id) s)

/-- STORE_STATUS (R172). -/
def execStoreStatus (mark : Byte) (s : State) : Host.Outcome State Fault Refusal :=
  .next (runCommand mark .storeStatus s)

/-- STORE_ABORT (R171). -/
def execStoreAbort (mark : Byte) (s : State) : Host.Outcome State Fault Refusal :=
  .next (runCommand mark .storeAbort s)

/-- LINK_RETRAIN (R182). -/
def execLinkRetrain (mark : Byte) (link : Nat) (s : State) : Host.Outcome State Fault Refusal :=
  .next (runCommand mark (.linkRetrain link) s)

/-- COUNTERS_READ (R189). -/
def execCountersRead (mark : Byte) (group clear : Nat) (s : State) : Host.Outcome State Fault Refusal :=
  .next (runCommand mark (.countersRead group clear) s)

/-- ATTENTION_ACK (R192). -/
def execAttentionAck (mark : Byte) (flags : BitVec 16) (s : State) : Host.Outcome State Fault Refusal :=
  .next (runCommand mark (.attentionAck flags) s)

/-- NOTICE_MASK_SET (R192). -/
def execNoticeMaskSet (mark : Byte) (mask : BitVec 16) (s : State) : Host.Outcome State Fault Refusal :=
  .next (runCommand mark (.noticeMaskSet mask) s)

/-- IDENTIFY (R189). -/
def execIdentify (mark : Byte) (s : State) : Host.Outcome State Fault Refusal :=
  .next (runCommand mark .identify s)

end Sys2Proof.Machine
end

