-- ==== Sys2Proof/Machine/Events.lean ====
section
/-! DEFINITION. The meanings of the events: one definition per row of the table that is no control command. Each takes
the state without the command at the front of the queue. -/

namespace Sys2Proof.Machine

/-- FULL_RESET (R193). -/
def execFullReset (s : State) : Host.Outcome State Fault Refusal := .next (fullReset s)

/-- SOFT_RESET_EFFECT (R197). -/
def execSoftResetEffect (s : State) : Host.Outcome State Fault Refusal := .next (softResetEffect s)

/-- REVERSE_PIN_CHANGE (R4). -/
def execReversePinChange (level : Bool) (s : State) : Host.Outcome State Fault Refusal := .next (pinChanges level s)

/-- DEBOUNCE_EXPIRY (R4). -/
def execDebounceExpiry (s : State) : Host.Outcome State Fault Refusal := .next (debounceExpires s)

/-- VEHICLE_PACKET (R1, R176). -/
def execVehiclePacket (bytes : List Byte) (s : State) : Host.Outcome State Fault Refusal :=
  .next (receive .downlink .vehicle bytes vehicleArrives s)

/-- RECORD_STALE (R2). -/
def execRecordStale (s : State) : Host.Outcome State Fault Refusal := .next (recordStales s)

/-- MISMATCH_TIMER_EXPIRY (R6). -/
def execMismatchTimerExpiry (s : State) : Host.Outcome State Fault Refusal := .next (mismatchExpires s)

/-- START_TIMER_EXPIRY (R15). -/
def execStartTimerExpiry (s : State) : Host.Outcome State Fault Refusal := .next (startExpires s)

/-- WATCHDOG_EXPIRY (R16, R17). -/
def execWatchdogExpiry (s : State) : Host.Outcome State Fault Refusal := .next (watchdogExpires s)

/-- LINGER_TIMER_EXPIRY (R11). -/
def execLingerTimerExpiry (s : State) : Host.Outcome State Fault Refusal := .next (lingerExpires s)

/-- LINK_LOCK (R174). -/
def execLinkLock (link : Link) (s : State) : Host.Outcome State Fault Refusal := .next (reachUp link s)

/-- LINK_LOSS_OF_LOCK (R174). -/
def execLinkLossOfLock (link : Link) (s : State) : Host.Outcome State Fault Refusal := .next (lossOfLock link s)

/-- FRAME_PACKET (R55). -/
def execFramePacket (rx : VideoRx) (bytes : List Byte) (s : State) : Host.Outcome State Fault Refusal :=
  .next (receive rx.link .frame bytes (frameArrives rx) s)

/-- LINE_PACKET (R56). -/
def execLinePacket (rx : VideoRx) (bytes : List Byte) (s : State) : Host.Outcome State Fault Refusal :=
  .next (receive rx.link .line bytes (videoLine rx) s)

/-- FEND_PACKET (R59). -/
def execFendPacket (rx : VideoRx) (bytes : List Byte) (s : State) : Host.Outcome State Fault Refusal :=
  .next (receive rx.link .fend bytes (fendArrives rx) s)

/-- AUDIO_PACKET (R61). -/
def execAudioPacket (bytes : List Byte) (s : State) : Host.Outcome State Fault Refusal :=
  .next (receive .downlink .audio bytes soundArrives s)

/-- CTRL_PACKET (R186). -/
def execCtrlPacket (bytes : List Byte) (s : State) : Host.Outcome State Fault Refusal :=
  .next (receive .downlink .ctrl bytes controlArrives s)

/-- KEY_PACKET (R111). -/
def execKeyPacket (seat : Seat) (bytes : List Byte) (s : State) : Host.Outcome State Fault Refusal :=
  .next (receive seat.panel.link .key bytes (keyPacketArrives seat) s)

/-- LINE_WRITE_COMPLETION (R58). -/
def execLineWriteCompletion (rx : VideoRx) (s : State) : Host.Outcome State Fault Refusal :=
  match lineWritten rx s with
  | .ok t => .next t
  | .error a => .fault (.frameMemoryRange a)

/-- END_OF_FRAME (R73, R76). -/
def execEndOfFrame (panel : Panel) (s : State) : Host.Outcome State Fault Refusal := .next (endOfFrame panel s)

/-- RENDER_COMPLETION (R96). -/
def execRenderCompletion (s : State) : Host.Outcome State Fault Refusal :=
  match s.raster.inFlight with
  | none => .next s
  | some r => .next (completeRender r s)

/-- ZONE_BLOCK_EVENT (R118). -/
def execZoneBlockEvent (zone : Zone) (s : State) : Host.Outcome State Fault Refusal := .next (zoneBlock zone s)

/-- VOICE_BLOCK_EVENT (R139). -/
def execVoiceBlockEvent (voice : Fin 4) (s : State) : Host.Outcome State Fault Refusal := .next (voiceBlock voice s)

/-- GAP_TIMER_EXPIRY (R145). -/
def execGapTimerExpiry (voice : Fin 4) (s : State) : Host.Outcome State Fault Refusal := .next (gapExpires voice s)

/-- HOLD_TIMER_EXPIRY (R126). -/
def execHoldTimerExpiry (zone : Zone) (s : State) : Host.Outcome State Fault Refusal := .next (holdExpires zone s)

/-- INACTIVITY_TIMER_EXPIRY (R110). -/
def execInactivityTimerExpiry (seat : Seat) (s : State) : Host.Outcome State Fault Refusal :=
  .next (inactivityExpires seat s)

/-- ARRAY_READY (R155). -/
def execArrayReady (s : State) : Host.Outcome State Fault Refusal := .next (arrayReady s)

/-- PAGE_READ_COMPLETION (R154, R162). -/
def execPageReadCompletion (failed : Bool) (s : State) : Host.Outcome State Fault Refusal :=
  .next (readCompletes failed s)

/-- PAGE_PROGRAM_COMPLETION (R154, R166). -/
def execPageProgramCompletion (verifiedPass : Option (Fin 8)) (s : State) : Host.Outcome State Fault Refusal :=
  .next (programCompletes verifiedPass s)

/-- ERASE_COMPLETION (R158). -/
def execEraseCompletion (failedBlocks : List (Fin 256)) (s : State) : Host.Outcome State Fault Refusal :=
  .next (eraseCompletes failedBlocks s)

/-- ABORT_COMPLETION (R154). -/
def execAbortCompletion (s : State) : Host.Outcome State Fault Refusal := .next (abortCompletes s)

/-- COMMAND_TAKE (R186). -/
def execCommandTake (s : State) : Host.Outcome State Fault Refusal := .next (takeCommand s)

/-- WAITING_REPLY_APPEND (R180). -/
def execWaitingReplyAppend (s : State) : Host.Outcome State Fault Refusal := .next (waitingAppends s)

/-- SEND_COMPLETION (R179). -/
def execSendCompletion (s : State) : Host.Outcome State Fault Refusal := .next (sendCompletes s)

/-- PROFILE_ENTRY (R194). -/
def execProfileEntry (s : State) : Host.Outcome State Fault Refusal := .next (takeEntry s)

/-- RESYNC_END_FLAG (R175). -/
def execResyncEndFlag (link : Link) (s : State) : Host.Outcome State Fault Refusal := .next (endFlag link s)

/-- OVERLONG_PACKET (R175). -/
def execOverlongPacket (link : Link) (s : State) : Host.Outcome State Fault Refusal := .next (overlong link s)

/-- ARRIVED_PACKET_DISCARDED (R176). -/
def execArrivedPacketDiscarded (link : Link) (bytes : List Byte) (s : State) : Host.Outcome State Fault Refusal :=
  .next (discardPacket link bytes s)

end Sys2Proof.Machine
end

