-- ==== Sys2Proof/Machine/Dispatch.lean ====
section
/-! DEFINITION. One arm per row of the table: a direct call of its meaning. -/

namespace Sys2Proof.Machine

def exec (i : Instr) (s : State) : Host.Outcome State Fault Refusal :=
  match i with
  | .fullReset => Sys2Proof.Machine.execFullReset s
  | .softReset mark => Sys2Proof.Machine.execSoftReset mark s
  | .softResetEffect => Sys2Proof.Machine.execSoftResetEffect s
  | .reversePinChange level => Sys2Proof.Machine.execReversePinChange level s
  | .debounceExpiry => Sys2Proof.Machine.execDebounceExpiry s
  | .vehiclePacket bytes => Sys2Proof.Machine.execVehiclePacket bytes s
  | .recordStale => Sys2Proof.Machine.execRecordStale s
  | .mismatchTimerExpiry => Sys2Proof.Machine.execMismatchTimerExpiry s
  | .startTimerExpiry => Sys2Proof.Machine.execStartTimerExpiry s
  | .watchdogExpiry => Sys2Proof.Machine.execWatchdogExpiry s
  | .lingerTimerExpiry => Sys2Proof.Machine.execLingerTimerExpiry s
  | .linkLock link => Sys2Proof.Machine.execLinkLock link s
  | .linkLossOfLock link => Sys2Proof.Machine.execLinkLossOfLock link s
  | .framePacket rx bytes => Sys2Proof.Machine.execFramePacket rx bytes s
  | .linePacket rx bytes => Sys2Proof.Machine.execLinePacket rx bytes s
  | .fendPacket rx bytes => Sys2Proof.Machine.execFendPacket rx bytes s
  | .audioPacket bytes => Sys2Proof.Machine.execAudioPacket bytes s
  | .ctrlPacket bytes => Sys2Proof.Machine.execCtrlPacket bytes s
  | .keyPacket seat bytes => Sys2Proof.Machine.execKeyPacket seat bytes s
  | .lineWriteCompletion rx => Sys2Proof.Machine.execLineWriteCompletion rx s
  | .endOfFrame panel => Sys2Proof.Machine.execEndOfFrame panel s
  | .renderCompletion => Sys2Proof.Machine.execRenderCompletion s
  | .zoneBlockEvent zone => Sys2Proof.Machine.execZoneBlockEvent zone s
  | .voiceBlockEvent voice => Sys2Proof.Machine.execVoiceBlockEvent voice s
  | .gapTimerExpiry voice => Sys2Proof.Machine.execGapTimerExpiry voice s
  | .holdTimerExpiry zone => Sys2Proof.Machine.execHoldTimerExpiry zone s
  | .inactivityTimerExpiry seat => Sys2Proof.Machine.execInactivityTimerExpiry seat s
  | .arrayReady => Sys2Proof.Machine.execArrayReady s
  | .pageReadCompletion failed => Sys2Proof.Machine.execPageReadCompletion failed s
  | .pageProgramCompletion verifiedPass => Sys2Proof.Machine.execPageProgramCompletion verifiedPass s
  | .eraseCompletion failedBlocks => Sys2Proof.Machine.execEraseCompletion failedBlocks s
  | .abortCompletion => Sys2Proof.Machine.execAbortCompletion s
  | .commandTake => Sys2Proof.Machine.execCommandTake s
  | .waitingReplyAppend => Sys2Proof.Machine.execWaitingReplyAppend s
  | .sendCompletion => Sys2Proof.Machine.execSendCompletion s
  | .profileEntry => Sys2Proof.Machine.execProfileEntry s
  | .tagSet mark p => Sys2Proof.Machine.execTagSet mark p s
  | .tagClear mark tag => Sys2Proof.Machine.execTagClear mark tag s
  | .tagRead mark tag => Sys2Proof.Machine.execTagRead mark tag s
  | .ringSet mark p => Sys2Proof.Machine.execRingSet mark p s
  | .panelSet mark p => Sys2Proof.Machine.execPanelSet mark p s
  | .panelWake mark panel => Sys2Proof.Machine.execPanelWake mark panel s
  | .panelSleep mark panel => Sys2Proof.Machine.execPanelSleep mark panel s
  | .panelBlank mark panel => Sys2Proof.Machine.execPanelBlank mark panel s
  | .panelShow mark panel => Sys2Proof.Machine.execPanelShow mark panel s
  | .panelLevel mark panel level => Sys2Proof.Machine.execPanelLevel mark panel level s
  | .layerSet mark p => Sys2Proof.Machine.execLayerSet mark p s
  | .layerClear mark panel layer => Sys2Proof.Machine.execLayerClear mark panel layer s
  | .panelRead mark panel => Sys2Proof.Machine.execPanelRead mark panel s
  | .cameraSet mark p => Sys2Proof.Machine.execCameraSet mark p s
  | .takeoverSet mark p => Sys2Proof.Machine.execTakeoverSet mark p s
  | .takeoverDismiss mark => Sys2Proof.Machine.execTakeoverDismiss mark s
  | .takeoverRead mark => Sys2Proof.Machine.execTakeoverRead mark s
  | .guideSet mark p => Sys2Proof.Machine.execGuideSet mark p s
  | .steerTableSet mark values => Sys2Proof.Machine.execSteerTableSet mark values s
  | .rowTableSet mark rows => Sys2Proof.Machine.execRowTableSet mark rows s
  | .bandTableSet mark bands => Sys2Proof.Machine.execBandTableSet mark bands s
  | .menuSet mark p => Sys2Proof.Machine.execMenuSet mark p s
  | .pageSet mark page title items => Sys2Proof.Machine.execPageSet mark page title items s
  | .pageClear mark page => Sys2Proof.Machine.execPageClear mark page s
  | .itemSet mark page item p => Sys2Proof.Machine.execItemSet mark page item p s
  | .menuOpen mark seat => Sys2Proof.Machine.execMenuOpen mark seat s
  | .menuClose mark seat => Sys2Proof.Machine.execMenuClose mark seat s
  | .menuLock mark seat locked => Sys2Proof.Machine.execMenuLock mark seat locked s
  | .zoneSet mark zone p => Sys2Proof.Machine.execZoneSet mark zone p s
  | .zoneSetRead mark zone p => Sys2Proof.Machine.execZoneSetRead mark zone p s
  | .volumeTableSet mark values => Sys2Proof.Machine.execVolumeTableSet mark values s
  | .chimeDefine mark id p => Sys2Proof.Machine.execChimeDefine mark id p s
  | .chimeDefineRemove mark id => Sys2Proof.Machine.execChimeDefineRemove mark id s
  | .chimeDefineRead mark id => Sys2Proof.Machine.execChimeDefineRead mark id s
  | .chimePlay mark id zones => Sys2Proof.Machine.execChimePlay mark id zones s
  | .chimeStop mark id => Sys2Proof.Machine.execChimeStop mark id s
  | .proximitySet mark id bands => Sys2Proof.Machine.execProximitySet mark id bands s
  | .assetBegin mark id kind length => Sys2Proof.Machine.execAssetBegin mark id kind length s
  | .assetData mark offset bytes => Sys2Proof.Machine.execAssetData mark offset bytes s
  | .assetEnd mark crc => Sys2Proof.Machine.execAssetEnd mark crc s
  | .assetDelete mark id => Sys2Proof.Machine.execAssetDelete mark id s
  | .assetInfo mark id => Sys2Proof.Machine.execAssetInfo mark id s
  | .storeStatus mark => Sys2Proof.Machine.execStoreStatus mark s
  | .storeAbort mark => Sys2Proof.Machine.execStoreAbort mark s
  | .linkRetrain mark link => Sys2Proof.Machine.execLinkRetrain mark link s
  | .countersRead mark group clear => Sys2Proof.Machine.execCountersRead mark group clear s
  | .attentionAck mark flags => Sys2Proof.Machine.execAttentionAck mark flags s
  | .noticeMaskSet mark mask => Sys2Proof.Machine.execNoticeMaskSet mark mask s
  | .identify mark => Sys2Proof.Machine.execIdentify mark s
  | .resyncEndFlag link => Sys2Proof.Machine.execResyncEndFlag link s
  | .overlongPacket link => Sys2Proof.Machine.execOverlongPacket link s
  | .arrivedPacketDiscarded link bytes => Sys2Proof.Machine.execArrivedPacketDiscarded link bytes s

end Sys2Proof.Machine
end

