-- ==== Sys2Proof/Machine/Tick.lean ====
section
/-! DEFINITION. What the part does with no command waiting (log entry 19): the work that waits on nothing from outside,
and otherwise one millisecond of the Time Base. All of it is done within the one step, so nothing from outside comes
between a timer's reaching its time and what its expiry does. -/

namespace Sys2Proof.Machine

/-- A timer that holds the milliseconds left, after one millisecond. -/
def countDown (t : Option Nat) : Option Nat := t.map (· - 1)

/-- A timer that holds the milliseconds elapsed, after one millisecond. -/
def countUp (t : Option Nat) : Option Nat := t.map (· + 1)

def SeatContext.tick (c : SeatContext) : SeatContext := { c with timer := countDown c.timer }
def ZoneRecord.tick (r : ZoneRecord) : ZoneRecord := { r with holdTimer := countDown r.holdTimer }
def Voice.tick (r : Voice) : Voice := { r with gapTimer := countDown r.gapTimer }

/-- Every timer, and the age of the vehicle record, one millisecond on (R2: the age saturates at 65535). -/
def advanceTimers (s : State) : State :=
  { s with
    vehicle.age := min 65535 (s.vehicle.age + 1), vehicle.debounceTimer := countUp s.vehicle.debounceTimer,
    vehicle.mismatchTimer := countUp s.vehicle.mismatchTimer, takeover.startTimer := countDown s.takeover.startTimer,
    takeover.watchdogTimer := countDown s.takeover.watchdogTimer, takeover.lingerTimer := countDown s.takeover.lingerTimer,
    menu.left := s.menu.left.tick, menu.right := s.menu.right.tick, audio.seatL := s.audio.seatL.tick,
    audio.seatR := s.audio.seatR.tick, audio.cabin := s.audio.cabin.tick, chime.voices := s.chime.voices.map Voice.tick }

/-- An elapsed timer that has reached a time. -/
def reached (t : Option Nat) (time : Nat) : Bool :=
  match t with
  | some n => time ≤ n
  | none => false

/-- What an event does, when it is due as the state stands when its turn comes. -/
def whenDue (due : Bool) (event : State → State) (s : State) : State := if due then event s else s

/-- The record goes stale once its age has reached the freshness time (R2). -/
def expireRecord (s : State) : State :=
  whenDue (s.vehicle.fresh && decide (s.takeover.settings.freshness ≤ s.vehicle.age)) recordStales s

/-- The debounce ends once its timer has reached the debounce time (R4). -/
def expireDebounce (s : State) : State :=
  whenDue (reached s.vehicle.debounceTimer s.takeover.settings.debounce) debounceExpires s

/-- The mismatch is reported once its timer has reached 1000 ms (R6). -/
def expireMismatch (s : State) : State := whenDue (reached s.vehicle.mismatchTimer Config.mismatchTime) mismatchExpires s

/-- The start timer's expiry (R15). -/
def expireStart (s : State) : State := whenDue (s.takeover.startTimer == some 0) startExpires s

/-- The watchdog's expiry (R16, R17). -/
def expireWatchdog (s : State) : State := whenDue (s.takeover.watchdogTimer == some 0) watchdogExpires s

/-- The linger timer's expiry (R11). -/
def expireLinger (s : State) : State := whenDue (s.takeover.lingerTimer == some 0) lingerExpires s

/-- The expiries of the vehicle's and the takeover's times, in an order that is the model's (log entry 19). -/
def expireVehicle (s : State) : State :=
  expireLinger (expireWatchdog (expireStart (expireMismatch (expireDebounce (expireRecord s)))))

/-- The expiry of a seat's inactivity timer (R110). -/
def expireSeat (s : State) (k : Seat) : State := whenDue ((s.seat k).timer == some 0) (inactivityExpires k) s

/-- A voice's block event, then the expiry of its gap timer (R139, R145). -/
def voiceTime (s : State) (v : Fin 4) : State :=
  let s1 := voiceBlock v s
  whenDue ((s1.voice v).gapTimer == some 0) (gapExpires v) s1

/-- The expiry of a zone's hold timer, then the zone's block event (R118, R126). -/
def zoneTime (s : State) (z : Zone) : State :=
  zoneBlock z (whenDue ((s.zone z).holdTimer == some 0) (holdExpires z) s)

/-- One millisecond of the Time Base: the timers advance, those that reach their time expire, and the block events of
the millisecond come, in an order that is the model's (log entry 19). -/
def tick (s : State) : State :=
  zones.foldl zoneTime (([0, 1, 2, 3] : List (Fin 4)).foldl voiceTime (seats.foldl expireSeat
    (expireVehicle (advanceTimers s))))

/-- Whether a soft reset that has taken effect can go on (R197). -/
def softResetDue (s : State) : Bool :=
  s.uplink.waiting.isNone && (match s.control.softReset with
    | .none => false
    | .arranged => false
    | .failing _ => true)

/-- The empty queue's step: a soft reset under way, then the interpreter's next taking, then the clock. -/
def idle (s : State) : State :=
  if softResetDue s then softResetEffect s
  else if interpreterFree s && entryWaits s && (s.control.fifo.isEmpty || s.control.profileTurn) then takeEntry s
  else if interpreterFree s && !s.control.fifo.isEmpty then takeCommand s
  else tick s

end Sys2Proof.Machine
end

