-- ==== Sys2Proof/WellFormed.lean ====
section
/-! DEFINITION. Which commands and events can come from outside the part: a control command's items in the ranges their
encodings carry (R185), a packet no longer than the largest (R175). The owners' own checks of an item are not here: a
well-formed command may still be answered PARAM. -/

namespace Sys2Proof

/-- A number of 1, 2 or 4 bytes (R185). -/
def fits8 (n : Nat) : Bool := n < 256
def fits16 (n : Nat) : Bool := n < 65536
def fits32 (n : Nat) : Bool := n < 4294967296

/-- A signed number of 1 or 2 bytes. -/
def fitsI8 (x : Int) : Bool := -128 ≤ x && x < 128
def fitsI16 (x : Int) : Bool := -32768 ≤ x && x < 32768

/-- A list that its count byte can number, each entry in range. -/
def fitsList {α : Type} (f : α → Bool) (xs : List α) : Bool := xs.length < 256 && xs.all f

/-- A value behind a presence byte. -/
def fitsOptional {α : Type} (f : α → Bool) : Optional α → Bool
  | .absent => true
  | .present x => f x
  | .badPresence => true

def TagSetParams.encodable (p : TagSetParams) : Bool :=
  fits8 p.tag && fits8 p.kind && fits8 p.source && fits16 p.width && fits16 p.height && fits8 p.format && fits8 p.ring
    && fits8 p.damage && fits8 p.channels && fits8 p.zones

def RingSetParams.encodable (p : RingSetParams) : Bool :=
  fits8 p.ring && fits32 p.base && fits8 p.count && fits32 p.stride

def PanelSetParams.encodable (p : PanelSetParams) : Bool :=
  fits8 p.panel && fits16 p.width && fits16 p.height && fits8 p.rate && fits8 p.mirrorX && fits8 p.mirrorY

def LayerSetParams.encodable (p : LayerSetParams) : Bool :=
  fits8 p.panel && fits8 p.layer && fits8 p.source && fits8 p.sourceArg && fitsI16 p.x && fitsI16 p.y && fits16 p.w
    && fits16 p.h && fits8 p.alpha && fits8 p.visible && fits8 p.persist && fits8 p.placement && fits8 p.placementArg

def CameraSetParams.encodable (p : CameraSetParams) : Bool :=
  fits8 p.tag && fits16 p.x && fits16 p.y && fits16 p.w && fits16 p.h && fits8 p.mirror

def Message.encodable (m : Message) : Bool := fits8 m.icon && fitsList fits8 m.text

def TakeoverSetParams.encodable (p : TakeoverSetParams) : Bool :=
  fits16 p.freshness && fits8 p.debounce && fits16 p.startTimeout && fits8 p.watchdogCode && fits8 p.watchdogAction
    && fits16 p.linger && fits16 p.exitSpeed && fits8 p.engageChime && fits8 p.duckRear && p.starting.encodable
    && p.unavailable.encodable

def GuideSetParams.encodable (p : GuideSetParams) : Bool :=
  fits8 p.mode && fitsI8 p.polarity && fits16 p.halfWidth && fits16 p.overhang && fits16 p.slew && fits8 p.stopBar

def RowParams.encodable (r : RowParams) : Bool :=
  fits16 r.d && fits16 r.v && fits16 r.scale && fits16 r.c && fits8 r.w && fits8 r.marker

def MenuSetParams.encodable (p : MenuSetParams) : Bool :=
  fits8 p.seat && fits8 p.root && fits16 p.x && fits16 p.y && fits16 p.width && fits8 p.rowHeight && fits8 p.clickChime
    && fits8 p.bumpChime && fits8 p.inactivity && fits16 p.glyphSet

def ItemParams.encodable (i : ItemParams) : Bool :=
  fitsList fits8 i.label && fitsOptional fits8 i.icon && fits8 i.enabled && fits8 i.action && fits8 i.actionArg

def ZoneParams.encodable (p : ZoneParams) : Bool :=
  fits8 p.volume && fits8 p.mute && fits16 p.duckLevel && fits8 p.ramp && fits16 p.hold

def ChimeParams.encodable (p : ChimeParams) : Bool :=
  fits16 p.asset && fits16 p.level && fits8 p.priority && fits8 p.zones && fits8 p.repeats && fits16 p.gap && fits8 p.duck
    && fits8 p.follows

/-- The items of a command lie in the ranges their encodings carry (R185). CHIME_DEFINE carries an entry exactly with
option DEFINE (log entry 12); the steering table has 9 entries, the volume table 41. The parameter length that a row table or
a page gives is that of its counts. -/
def Command.encodable : Command → Bool
  | .tagSet p => p.encodable
  | .tagClear t => fits8 t
  | .tagRead t => fits8 t
  | .ringSet p => p.encodable
  | .panelSet p => p.encodable
  | .panelWake p => fits8 p
  | .panelSleep p => fits8 p
  | .panelBlank p => fits8 p
  | .panelShow p => fits8 p
  | .panelLevel p l => fits8 p && fits8 l
  | .layerSet p => p.encodable
  | .layerClear p l => fits8 p && fits8 l
  | .panelRead p => fits8 p
  | .cameraSet p => p.encodable
  | .takeoverSet p => p.encodable
  | .takeoverDismiss => true
  | .takeoverRead => true
  | .guideSet p => p.encodable
  | .steerTableSet vs => vs.length == 9 && vs.all fits16
  | .rowTableSet rows => rows.length == Machine.rowTableLength rows.entries && fitsList RowParams.encodable rows.entries
  | .bandTableSet bands => fitsList (fun b => fits16 b.limit) bands
  | .menuSet p => p.encodable
  | .pageSet n title items => items.length == Machine.pageLength title items.entries && fits8 n && fitsList fits8 title
    && fitsList ItemParams.encodable items.entries
  | .pageClear n => fits8 n
  | .itemSet n i p => fits8 n && fits8 i && p.encodable
  | .menuOpen k => fits8 k
  | .menuClose k => fits8 k
  | .menuLock k l => fits8 k && fits8 l
  | .zoneSet z o p => fits8 z && fits8 o && p.encodable
  | .volumeTableSet vs => vs.length == 41 && vs.all fits16
  | .chimeDefine n o p => fits8 n && fits8 o && (match p with | some e => o == 0 && e.encodable | none => o != 0)
  | .chimePlay n z => fits8 n && fits8 z
  | .chimeStop n => fits8 n
  | .proximitySet n bands => fits8 n && fitsList (fun b => fits16 b.limit && fits16 b.gap) bands
  | .assetBegin n k l => fits16 n && fits8 k && fits32 l
  | .assetData o bs => fits32 o && fits16 bs.length
  | .assetEnd _ => true
  | .assetDelete n => fits16 n
  | .assetInfo n => fits16 n
  | .storeStatus => true
  | .storeAbort => true
  | .linkRetrain l => fits8 l
  | .countersRead g c => fits8 g && fits8 c
  | .attentionAck _ => true
  | .noticeMaskSet _ => true
  | .identify => true
  | .softReset => true

/-- The bytes of an arrived packet: no longer than the largest (R175). -/
def fitsPacket (bytes : List Byte) : Bool := bytes.length ≤ Config.maxPacketBytes

/-- The command of a control command's row, if the row is one. -/
def Instr.command? : Instr → Option Command
  | .softReset _ => some .softReset
  | .tagSet _ p => some (.tagSet p)
  | .tagClear _ t => some (.tagClear t)
  | .tagRead _ t => some (.tagRead t)
  | .ringSet _ p => some (.ringSet p)
  | .panelSet _ p => some (.panelSet p)
  | .panelWake _ p => some (.panelWake p)
  | .panelSleep _ p => some (.panelSleep p)
  | .panelBlank _ p => some (.panelBlank p)
  | .panelShow _ p => some (.panelShow p)
  | .panelLevel _ p l => some (.panelLevel p l)
  | .layerSet _ p => some (.layerSet p)
  | .layerClear _ p l => some (.layerClear p l)
  | .panelRead _ p => some (.panelRead p)
  | .cameraSet _ p => some (.cameraSet p)
  | .takeoverSet _ p => some (.takeoverSet p)
  | .takeoverDismiss _ => some .takeoverDismiss
  | .takeoverRead _ => some .takeoverRead
  | .guideSet _ p => some (.guideSet p)
  | .steerTableSet _ vs => some (.steerTableSet vs)
  | .rowTableSet _ rows => some (.rowTableSet rows)
  | .bandTableSet _ bands => some (.bandTableSet bands)
  | .menuSet _ p => some (.menuSet p)
  | .pageSet _ n title items => some (.pageSet n title items)
  | .pageClear _ n => some (.pageClear n)
  | .itemSet _ n i p => some (.itemSet n i p)
  | .menuOpen _ k => some (.menuOpen k)
  | .menuClose _ k => some (.menuClose k)
  | .menuLock _ k l => some (.menuLock k l)
  | .zoneSet _ z p => some (.zoneSet z 0 p)
  | .zoneSetRead _ z p => some (.zoneSet z 1 p)
  | .volumeTableSet _ vs => some (.volumeTableSet vs)
  | .chimeDefine _ n p => some (.chimeDefine n 0 (some p))
  | .chimeDefineRemove _ n => some (.chimeDefine n 1 none)
  | .chimeDefineRead _ n => some (.chimeDefine n 2 none)
  | .chimePlay _ n z => some (.chimePlay n z)
  | .chimeStop _ n => some (.chimeStop n)
  | .proximitySet _ n bands => some (.proximitySet n bands)
  | .assetBegin _ n k l => some (.assetBegin n k l)
  | .assetData _ o bs => some (.assetData o bs)
  | .assetEnd _ c => some (.assetEnd c)
  | .assetDelete _ n => some (.assetDelete n)
  | .assetInfo _ n => some (.assetInfo n)
  | .storeStatus _ => some .storeStatus
  | .storeAbort _ => some .storeAbort
  | .linkRetrain _ l => some (.linkRetrain l)
  | .countersRead _ g c => some (.countersRead g c)
  | .attentionAck _ f => some (.attentionAck f)
  | .noticeMaskSet _ m => some (.noticeMaskSet m)
  | .identify _ => some .identify
  | .fullReset | .softResetEffect | .reversePinChange _ | .debounceExpiry | .vehiclePacket _ | .recordStale
  | .mismatchTimerExpiry | .startTimerExpiry | .watchdogExpiry | .lingerTimerExpiry | .linkLock _ | .linkLossOfLock _
  | .framePacket _ _ | .linePacket _ _ | .fendPacket _ _ | .audioPacket _ | .ctrlPacket _ | .keyPacket _ _
  | .lineWriteCompletion _ | .endOfFrame _ | .renderCompletion | .zoneBlockEvent _ | .voiceBlockEvent _
  | .gapTimerExpiry _ | .holdTimerExpiry _ | .inactivityTimerExpiry _ | .arrayReady | .pageReadCompletion _
  | .pageProgramCompletion _ | .eraseCompletion _ | .abortCompletion | .commandTake | .waitingReplyAppend | .sendCompletion
  | .profileEntry | .resyncEndFlag _ | .overlongPacket _ | .arrivedPacketDiscarded _ _ => none

/-- A command or event that can come from outside: a control command that its encoding carries, a packet no longer than
the largest. -/
def Instr.wellFormed (i : Instr) : Bool :=
  match i.command? with
  | some c => c.encodable
  | none =>
    match i with
    | .vehiclePacket bs => fitsPacket bs
    | .framePacket _ bs => fitsPacket bs
    | .linePacket _ bs => fitsPacket bs
    | .fendPacket _ bs => fitsPacket bs
    | .audioPacket bs => fitsPacket bs
    | .ctrlPacket bs => fitsPacket bs
    | .keyPacket _ bs => fitsPacket bs
    | .arrivedPacketDiscarded _ bs => fitsPacket bs
    | _ => true

end Sys2Proof
end

