-- ==== Sys2Proof/Safety.lean ====
section
/-! DEFINITION. What a safe run is, in the terms the statements use: the states in which a command is taken, a command's
reply, and the conditions that every step keeps. -/

namespace Sys2Proof.Machine

/-- The interpreter is free and in RUNNING (R186). -/
structure Running (s : State) : Prop where
  free : interpreterFree s = true
  running : s.control.phase = .running

/-- The interpreter is free, in RUNNING, and no takeover locks a command (R186, R25). -/
structure Open (s : State) : Prop where
  free : interpreterFree s = true
  running : s.control.phase = .running
  idle : s.takeover.phase = .idle

/-- A command's reply handed over (R187, R180), after the notices that the command's own effects left in the state (log
entry 69). -/
def replied (mark : Byte) (code : Nat) (st : Status) (data : List Byte) (s : State) : State :=
  handReply { body := .reply mark st (BitVec.ofNat 8 code) data, retrains := false } s

/-- A step stops safely: with a next state, never with a fault or a refusal. -/
def Completes (o : Host.Outcome State Fault Refusal) : Prop := ∃ t, o = .next t

/-- The frame memory is in its canonical form. -/
def MemoryCanonical (s : State) : Prop := Memory.wf s.mem

/-- The places of the queues that the manual bounds: the control FIFO (R186), the uplink queue (R180). -/
def QueuesBounded (s : State) : Prop :=
  s.control.fifo.length ≤ Config.controlFifoPackets ∧ s.uplink.queue.length ≤ Config.uplinkPackets

/-- A ring that keeps the law of R64: a FREE buffer is neither held nor the latest, the latest is COMPLETE, and no
FILLING buffer is held. -/
def RingLawful (r : Ring) : Prop :=
  (∀ k b, r.buffers[k]? = some b → b.state = .free → b.holds = 0 ∧ r.latest ≠ some k) ∧
  (∀ k, r.latest = some k → ∃ b, r.buffers[k]? = some b ∧ b.state = .complete) ∧
  (∀ b ∈ r.buffers, b.state = .filling → b.holds = 0)

/-- What each reader of the rings holds: the layer ids of the panels (R67), and the camera layer (R23). -/
def heldBuffers (s : State) : List Hold :=
  ([Panel.front, .left, .right].flatMap fun p => (List.finRange 6).filterMap fun id => (s.panel p).hold id)
    ++ s.takeover.cameraHold.toList

/-- The law of R64 over the Ring Manager: every ring keeps it, a buffer is FILLING while one tag's frame in progress fills
it and at no other time, no two frames fill one buffer, and a buffer's hold count is the number of readers that hold it. -/
structure RingsLawful (s : State) : Prop where
  rings : ∀ n, RingLawful (s.ring n)
  filling : ∀ n k b, (s.ring n).buffers[k]? = some b →
    (b.state = .filling ↔ ∃ t c, (s.tag t).frame = some c ∧ c.ring = n ∧ c.buffer = some k)
  frames : ∀ t c k, (s.tag t).frame = some c → c.buffer = some k → k < (s.ring c.ring).buffers.length
  alone : ∀ t u c d k, (s.tag t).frame = some c → (s.tag u).frame = some d → c.ring = d.ring → c.buffer = some k →
    d.buffer = some k → t = u
  readers : ∀ h ∈ heldBuffers s, h.buffer < (s.ring h.ring).buffers.length
  holds : ∀ n k b, (s.ring n).buffers[k]? = some b → b.holds = (heldBuffers s).count { ring := n, buffer := k }

/-- The conservation of R70 for a tag. -/
def FramesBalanced (t : Fin 32) (s : State) : Prop :=
  let c := (s.tag t).counters
  c.frameIn = c.frameDone + c.frameDamaged + c.mismatch + c.frameAbandoned + c.frameSkip
    + (if (s.tag t).frame.isSome then 1 else 0)

/-- The law of R117 and R105 for the menus: a present page has 1 to 12 items, a seat's stack holds 1 to 4 entries, and
its highlight is below the item count of its current page whenever that page is present. -/
def MenusLawful (s : State) : Prop :=
  (∀ n p, s.page n = some p → 1 ≤ p.items.length ∧ p.items.length ≤ 12) ∧
  ∀ k, (s.seat k).depth ≤ 4 ∧
    ∀ p, s.page (s.seat k).currentPage = some p → (s.seat k).highlight < p.items.length

/-- A chime queue that keeps the law of R138: at most 8 entries, no two of one chime id, in order of priority, highest
first, and among equal priorities of arrival number, lowest first. -/
def QueueLawful (q : List QueueEntry) : Prop :=
  q.length ≤ Config.chimeQueueEntries ∧ (q.map (·.id)).Nodup ∧
  q.Pairwise fun a b => b.priority < a.priority ∨ (a.priority = b.priority ∧ a.arrival ≤ b.arrival)

end Sys2Proof.Machine
end

