-- ==== Sys2Proof/Certificates/Slice0/Obligations.lean ====
section
/-! DEFINITION. The statements for the provers. -/

open Sys2Proof Sys2Proof.Machine

/-- A step is the front command's meaning on the state without that command. With no command waiting it does what waits on
nothing from outside, or else one millisecond of the Time Base: that the empty queue's step is the clock, and the order of
what a millisecond brings about, is the model's choice (log entry 19). -/
def Obligations.StepRunsTheFrontCommand : Prop :=
  (∀ (c : Instr) (rest : List Instr) (s : State),
    step { s with pending := c :: rest } = exec c { s with pending := rest }) ∧
  (∀ (s : State), s.pending = [] →
    (∀ rest, s.control.softReset = .failing rest → s.uplink.waiting = none → step s = exec .softResetEffect s) ∧
    (interpreterFree s = true → entryWaits s = true → s.control.fifo = [] ∨ s.control.profileTurn = true →
      step s = exec .profileEntry s) ∧
    (interpreterFree s = true → s.control.fifo ≠ [] → entryWaits s = false ∨ s.control.profileTurn = false →
      step s = exec .commandTake s) ∧
    (interpreterFree s = true → entryWaits s = false → s.control.fifo = [] → step s = .next (tick s)) ∧
    (interpreterFree s = false → s.uplink.waiting ≠ none ∨ (∀ rest, s.control.softReset ≠ .failing rest) →
      step s = .next (tick s))) ∧
  (∀ (s : State),
    let down := fun (t : Option Nat) => t.map (· - 1)
    let up := fun (t : Option Nat) => t.map (· + 1)
    let later : State := { s with
      vehicle := { s.vehicle with
        age := min 65535 (s.vehicle.age + 1), debounceTimer := up s.vehicle.debounceTimer,
        mismatchTimer := up s.vehicle.mismatchTimer },
      takeover := { s.takeover with
        startTimer := down s.takeover.startTimer, watchdogTimer := down s.takeover.watchdogTimer,
        lingerTimer := down s.takeover.lingerTimer },
      menu := { s.menu with
        left := { s.menu.left with timer := down s.menu.left.timer },
        right := { s.menu.right with timer := down s.menu.right.timer } },
      audio := { s.audio with
        seatL := { s.audio.seatL with holdTimer := down s.audio.seatL.holdTimer },
        seatR := { s.audio.seatR with holdTimer := down s.audio.seatR.holdTimer },
        cabin := { s.audio.cabin with holdTimer := down s.audio.cabin.holdTimer } },
      chime := { s.chime with voices := s.chime.voices.map fun r => { r with gapTimer := down r.gapTimer } } }
    let vehicleDone := expireLinger (expireWatchdog (expireStart (expireMismatch (expireDebounce (expireRecord later)))))
    let seatsDone := expireSeat (expireSeat vehicleDone .left) .right
    let voicesDone := voiceTime (voiceTime (voiceTime (voiceTime seatsDone 0) 1) 2) 3;
    tick s = zoneTime (zoneTime (zoneTime voicesDone .seatL) .seatR) .cabin) ∧
  (∀ (s : State),
    (s.vehicle.fresh = true → s.takeover.settings.freshness ≤ s.vehicle.age →
      exec .recordStale s = .next (expireRecord s)) ∧
    (s.vehicle.fresh = false ∨ s.vehicle.age < s.takeover.settings.freshness → expireRecord s = s) ∧
    (∀ n, s.vehicle.debounceTimer = some n → s.takeover.settings.debounce ≤ n →
      exec .debounceExpiry s = .next (expireDebounce s)) ∧
    ((∀ n, s.vehicle.debounceTimer = some n → n < s.takeover.settings.debounce) → expireDebounce s = s) ∧
    (∀ n, s.vehicle.mismatchTimer = some n → 1000 ≤ n → exec .mismatchTimerExpiry s = .next (expireMismatch s)) ∧
    ((∀ n, s.vehicle.mismatchTimer = some n → n < 1000) → expireMismatch s = s) ∧
    (s.takeover.startTimer = some 0 → exec .startTimerExpiry s = .next (expireStart s)) ∧
    (s.takeover.startTimer ≠ some 0 → expireStart s = s) ∧
    (s.takeover.watchdogTimer = some 0 → exec .watchdogExpiry s = .next (expireWatchdog s)) ∧
    (s.takeover.watchdogTimer ≠ some 0 → expireWatchdog s = s) ∧
    (s.takeover.lingerTimer = some 0 → exec .lingerTimerExpiry s = .next (expireLinger s)) ∧
    (s.takeover.lingerTimer ≠ some 0 → expireLinger s = s) ∧
    (∀ k : Seat, ((s.seat k).timer = some 0 → exec (.inactivityTimerExpiry k) s = .next (expireSeat s k)) ∧
      ((s.seat k).timer ≠ some 0 → expireSeat s k = s)) ∧
    (∀ v : Fin 4, ∃ t, exec (.voiceBlockEvent v) s = .next t ∧
      ((t.voice v).gapTimer = some 0 → exec (.gapTimerExpiry v) t = .next (voiceTime s v)) ∧
      ((t.voice v).gapTimer ≠ some 0 → voiceTime s v = t)) ∧
    (∀ z : Zone,
      ((s.zone z).holdTimer = some 0 → ∃ t, exec (.holdTimerExpiry z) s = .next t ∧
        exec (.zoneBlockEvent z) t = .next (zoneTime s z)) ∧
      ((s.zone z).holdTimer ≠ some 0 → exec (.zoneBlockEvent z) s = .next (zoneTime s z))))

/-- R1, through the packet layouts of R184: the record, and after it the supply's effects of R170, the evaluations of R5 and
R6, R11's exit-speed test and then the proximity function. That the function goes through its packet rules (R149) where it
was not OFF before the packet and is not OFF by then, and through its evaluation (R148) otherwise, is the model's choice
(log entry 46, an inference). That a supply hold which the packet ends lets work begin before those evaluations is the
model's choice too (log entry 73). -/
def Obligations.VehicleReportStored : Prop :=
  ∀ (mark c : Byte) (a b : Nat) (b0 b1 b2 b3 b4 b5 b6 b7 b8 b9 : Byte) (payload crc : List Byte) (s : State),
    s.links.downlink.state = .up → s.links.downlink.assembler = .assembling → a < 65536 → b < 65536 →
    (let report := [b0, b1, b2, b3, b4, b5, b6, b7, b8, b9]
      let supply : Supply := if b1 = 0 then .normal else if b1 = 2 then .cranking else .low
      let read : State := { s with vehicle := { s.vehicle with
        gear := if b0 = 0 then .park else if b0 = 1 then .reverse else if b0 = 2 then .neutral
          else if b0 = 3 then .drive else .unknown,
        supply := supply, steering := max (-7800) (min 7800 (b2 ++ b3).toInt), speed := (b4 ++ b5).toNat,
        distances := #v[b6.toNat, b7.toNat, b8.toNat, b9.toNat], age := 0, fresh := true } }
      let supplied := if supply = .cranking ∧ s.vehicle.supply ≠ .cranking then abortOperation .supply read
        else if supply = .normal ∧ s.vehicle.supply ≠ .normal then storeSelect read else read
      let judged := exitSpeedTest (updateMismatch (evaluateReverse supplied));
      exec (.vehiclePacket (packetBytes .vehicle mark a b c report)) s =
        .next (if s.chime.proximity ≠ .off ∧ judged.chime.proximity ≠ .off then proximityPacket judged
          else proximityEvaluate judged)) ∧
    (let report := [b0, b1, b2, b3, b4, b5, b6, b7, b8, b9];
      ∃ t, exec (.vehiclePacket (packetBytes .vehicle mark a b c report)) s = .next t ∧
        t.vehicle.gear = (if b0 = 0 then .park else if b0 = 1 then .reverse else if b0 = 2 then .neutral
          else if b0 = 3 then .drive else .unknown) ∧
        t.vehicle.supply = (if b1 = 0 then .normal else if b1 = 2 then .cranking else .low) ∧
        t.vehicle.steering = max (-7800) (min 7800 (b2 ++ b3).toInt) ∧
        t.vehicle.speed = (b4 ++ b5).toNat ∧
        t.vehicle.distances = #v[b6.toNat, b7.toNat, b8.toNat, b9.toNat] ∧
        t.vehicle.age = 0 ∧ t.vehicle.fresh = true ∧
        t.vehicle.pinRaw = s.vehicle.pinRaw ∧ t.vehicle.debounced = s.vehicle.debounced ∧
        t.vehicle.debounceTimer = s.vehicle.debounceTimer ∧
        t.vehicle.reverseAsserted = (s.vehicle.debounced || decide (b0 = 1))) ∧
    (payload.length ≤ 3840 → payload.length ≠ 10 →
      exec (.vehiclePacket (packetBytes .vehicle mark a b c payload)) s = .next { s with
        links.downlink.length := bump s.links.downlink.length }) ∧
    (payload.length ≤ 3840 → payload ≠ [] → crc.length = 4 → crc ≠ beBytes 4 (crc32 payload).toNat →
      exec (.vehiclePacket ((packetBytes .vehicle mark a b c payload).take (8 + payload.length) ++ crc)) s =
        .next { s with links.downlink.payErr := bump s.links.downlink.payErr })

/-- R2, with R6's table for a record no longer fresh, and R4's debounced level. Log entry 20 (the model's choice) decides
three clauses: that RECORD_STALE brings the age to the freshness time, that a pin change to the level it has changes
nothing, and that DEBOUNCE_EXPIRY acts whenever its timer runs, whatever the time, and changes nothing with the timer
stopped. -/
def Obligations.StaleRecordAndReversePin : Prop :=
  (∀ (s : State),
    (s.vehicle.fresh = true → ∃ t, exec .recordStale s = .next t ∧ t.vehicle.fresh = false ∧
      t.vehicle.gear = s.vehicle.gear ∧ t.vehicle.supply = s.vehicle.supply ∧
      t.vehicle.steering = s.vehicle.steering ∧ t.vehicle.speed = s.vehicle.speed ∧
      t.vehicle.distances = s.vehicle.distances ∧ t.vehicle.age = max s.vehicle.age s.takeover.settings.freshness ∧
      t.vehicle.reverseAsserted = s.vehicle.debounced ∧ t.vehicle.mismatch = .agree ∧
      (s.vehicle.mismatch ≠ .agree ∨ s.vehicle.mismatchTimer = none → t.vehicle.mismatchTimer = none) ∧
      t.raised .steeringStale = true) ∧
    (s.vehicle.fresh = false → exec .recordStale s = .next s)) ∧
    (∀ (level : Bool) (s : State),
    (level ≠ s.vehicle.pinRaw → exec (.reversePinChange level) s = .next { s with
      vehicle.pinRaw := level, vehicle.debounceTimer := some 0 }) ∧
    (level = s.vehicle.pinRaw → exec (.reversePinChange level) s = .next s) ∧
    (s.vehicle.debounceTimer.isSome = true → exec .debounceExpiry s = .next (updateMismatch (evaluateReverse { s with
      vehicle.debounced := s.vehicle.pinRaw, vehicle.debounceTimer := none }))) ∧
    (s.vehicle.debounceTimer = none → exec .debounceExpiry s = .next s))

/-- R5's handing over and the phase table of R9 to R11. R9's list of actions, with FRONT's wake by R20 and R36's record
taken away, and R12's, with FRONT's return by R21 and R24's end of the duck demand. That the Takeover Controller takes
the new value before the proximity function does is the model's choice (log entry 62), and so is that FRONT's wake, with its
frame start, comes before the TAKEOVER render request (log entry 76); that the counts and the last good number stay at the
return to IDLE is its inference (log entry 49). -/
def Obligations.ReverseMovesThePhase : Prop :=
  (∀ (s : State),
    let now := s.vehicle.debounced || (s.vehicle.fresh && decide (s.vehicle.gear = .reverse));
    (now = s.vehicle.reverseAsserted → evaluateReverse s = s) ∧
    (now ≠ s.vehicle.reverseAsserted → evaluateReverse s =
      proximityEvaluate (takeoverReverse now { s with vehicle.reverseAsserted := now })) ∧
    (s.takeover.phase = .idle → takeoverReverse true s = engage s ∧ takeoverReverse false s = s) ∧
    (s.takeover.phase = .linger → takeoverReverse false s = s ∧
      takeoverReverse true s = { s with takeover.phase := .engaged, takeover.lingerTimer := none }) ∧
    (s.takeover.phase = .engaged → takeoverReverse true s = s ∧
      (let t := { s with takeover.phase := .linger, takeover.lingerTimer := some s.takeover.settings.linger };
        (s.takeover.settings.linger = 0 ∨ (s.vehicle.fresh = true ∧ s.takeover.settings.exitSpeed < s.vehicle.speed) →
          takeoverReverse false s = exitTakeover t) ∧
        (s.takeover.settings.linger ≠ 0 ∧ (s.vehicle.fresh = false ∨ s.vehicle.speed ≤ s.takeover.settings.exitSpeed) →
          takeoverReverse false s = t)))) ∧
    (∀ (s : State),
    ((engage s).takeover = { s.takeover with
        phase := .engaged, view := .waiting, cause := .none, lastGood := none, repeats := 0, rejoins := 0,
        lingerTimer := none, watchdogTimer := none, startTimer := some s.takeover.settings.startTimeout,
        duckDemand := s.takeover.settings.duckRear || s.takeover.duckDemand,
        cameraHold := (engage s).takeover.cameraHold } ∧
      (s.panels.front.power ≠ .sleep → (engage s).takeover.cameraHold = s.takeover.cameraHold) ∧
      (engage s).guide.kappaDraw = none ∧ (engage s).guide.record = none ∧ (engage s).raised .takeover = true ∧
      (engage s).vehicle = s.vehicle ∧ (engage s).mem = s.mem) ∧
    ((exitTakeover s).takeover = { s.takeover with
        phase := .idle, view := .waiting, cause := .none, lingerTimer := none, startTimer := none,
        watchdogTimer := none, duckDemand := false } ∧
      (exitTakeover s).raised .takeover = true ∧ (exitTakeover s).vehicle = s.vehicle ∧
      (exitTakeover s).guide = s.guide ∧ (exitTakeover s).mem = s.mem)) ∧
    (∀ (s : State),
    let x := s.takeover
    let r := s.panels.front
    let engaged : State := { s with
      takeover := { x with
        phase := .engaged, view := .waiting, cause := .none, lastGood := none, repeats := 0, rejoins := 0,
        lingerTimer := none, watchdogTimer := none, startTimer := some x.settings.startTimeout },
      guide.kappaDraw := none, guide.record := none }
    let asked := requestById x.settings.engageChime none engaged
    let ducked := if x.settings.duckRear then applyTakeoverDemand asked else asked
    let woken := match r.power with
      | .off => ducked
      | .sleep =>
        frameStart .front (ducked.setPanel .front { r with power := .waking, transition := .none, blankEnded := 0 })
      | .waking => ducked.setPanel .front { r with transition := .none }
      | .active => ducked
      | .dozing => ducked.setPanel .front { r with transition := .wake }
    let home : State := { s with takeover := { x with
      phase := .idle, view := .waiting, cause := .none, lingerTimer := none, startTimer := none,
      watchdogTimer := none } }
    let freed := withdrawTakeoverDemand home
    let returned := match r.power with
      | .off => freed
      | .sleep => freed
      | .waking => freed.setPanel .front { r with transition := .sleep }
      | .active =>
        let dozing := freed.setPanel .front { r with power := .dozing, blankEnded := 0, outBacklight := 0 }
        if s.links.front.state = .up then { dozing with out := .backlight .front 0 :: s.out } else dozing
      | .dozing => freed.setPanel .front { r with transition := .none };
    engage s = raiseFlag .takeover (requestRenders [.takeover] woken) ∧
    (x.settings.engageChime = 255 → asked = engaged) ∧
    (∀ i : Fin 32, x.settings.engageChime = i.val → asked = internalRequest i none false engaged) ∧
    (r.requestActive = true → exitTakeover s = raiseFlag .takeover freed) ∧
    (r.requestActive = false → exitTakeover s = raiseFlag .takeover returned) ∧
    (engage s).panels.front.requestActive = r.requestActive ∧
    (exitTakeover s).panels.front.requestActive = r.requestActive)

/-- R6. -/
def Obligations.MismatchMonitorTable : Prop :=
  ∀ (s : State) (pin : Bool),
    (s.vehicle.disagrees = true ↔ s.vehicle.fresh = true ∧
      ((s.vehicle.debounced = true ∧ (s.vehicle.gear = .park ∨ s.vehicle.gear = .neutral ∨ s.vehicle.gear = .drive)) ∨
        (s.vehicle.debounced = false ∧ s.vehicle.gear = .reverse))) ∧
    (s.vehicle.disagrees = true → s.vehicle.mismatch = .agree → updateMismatch s = { s with
      vehicle.mismatch := .disagree, vehicle.mismatchTimer := some 0 }) ∧
    (s.vehicle.disagrees = true → s.vehicle.mismatch ≠ .agree → updateMismatch s = s) ∧
    (s.vehicle.disagrees = false → s.vehicle.mismatch = .agree → updateMismatch s = s) ∧
    (s.vehicle.disagrees = false → s.vehicle.mismatch ≠ .agree → updateMismatch s = { s with
      vehicle.mismatch := .agree, vehicle.mismatchTimer := none }) ∧
    (s.vehicle.mismatch = .disagree → s.vehicle.mismatchTimer.isSome = true →
      exec .mismatchTimerExpiry s = .next (raiseFlag .reverseMismatch { s with
        vehicle.mismatch := .reported, vehicle.mismatchTimer := none })) ∧
    (s.vehicle.mismatch ≠ .disagree → exec .mismatchTimerExpiry s = .next s) ∧
    Config.mismatchTime = 1000 ∧
    (updateMismatch s).vehicle.reverseAsserted = s.vehicle.reverseAsserted ∧
    (Vehicle.reset pin).mismatch = .agree ∧ (Vehicle.reset pin).mismatchTimer = none

/-- R7 and R8 in the phase IDLE, with the record and the debounce that new times end at once (R2, R4). That the record
goes stale before the debounce ends, where one TAKEOVER_SET brings both about, is the model's choice (log entry 63), and
so is that a FLAGS notice the command brings about goes before its reply (log entry 69). -/
def Obligations.TakeoverAndCameraSettings : Prop :=
  ∀ (mark : Byte) (p : TakeoverSetParams) (q : CameraSetParams) (s : State), Open s →
    (∀ t, takeoverSettings? p = some t → (s.vehicle.fresh = false ∨ s.vehicle.age < t.freshness) →
      (∀ n, s.vehicle.debounceTimer = some n → n < t.debounce) →
      exec (.takeoverSet mark p) s = .next (replied mark 21 .ok [] { s with takeover.settings := t })) ∧
    (∀ t, takeoverSettings? p = some t → s.vehicle.fresh = true → t.freshness ≤ s.vehicle.age →
      (∀ n, s.vehicle.debounceTimer = some n → n < t.debounce) →
      exec (.takeoverSet mark p) s =
        .next (replied mark 21 .ok [] (recordStales { s with takeover.settings := t }))) ∧
    (∀ t n, takeoverSettings? p = some t → (s.vehicle.fresh = false ∨ s.vehicle.age < t.freshness) →
      s.vehicle.debounceTimer = some n → t.debounce ≤ n →
      exec (.takeoverSet mark p) s =
        .next (replied mark 21 .ok [] (debounceExpires { s with takeover.settings := t }))) ∧
    (∀ t n, takeoverSettings? p = some t → s.vehicle.fresh = true → t.freshness ≤ s.vehicle.age →
      s.vehicle.debounceTimer = some n → t.debounce ≤ n →
      exec (.takeoverSet mark p) s =
        .next (replied mark 21 .ok [] (debounceExpires (recordStales { s with takeover.settings := t })))) ∧
    (takeoverSettings? p = none → exec (.takeoverSet mark p) s = .next (replied mark 21 .param [] s)) ∧
    ((takeoverSettings? p).isSome = true ↔
      100 ≤ p.freshness ∧ p.freshness ≤ 1000 ∧ 10 ≤ p.debounce ∧ p.debounce ≤ 200 ∧ 100 ≤ p.startTimeout ∧
      p.startTimeout ≤ 3000 ∧ p.watchdogCode ≤ 7 ∧ p.watchdogAction ≤ 1 ∧ p.linger ≤ 10000 ∧ p.exitSpeed ≤ 3000 ∧
      (p.engageChime ≤ 31 ∨ p.engageChime = 255) ∧ p.duckRear ≤ 1 ∧
      (224 ≤ p.starting.icon ∧ p.starting.icon ≤ 255 ∧ p.starting.text.length ≤ 24 ∧ ∀ g ∈ p.starting.text, g ≤ 223) ∧
      (224 ≤ p.unavailable.icon ∧ p.unavailable.icon ≤ 255 ∧ p.unavailable.text.length ≤ 24 ∧
        ∀ g ∈ p.unavailable.text, g ≤ 223)) ∧
    (∀ t, takeoverSettings? p = some t → t = {
      freshness := p.freshness, debounce := p.debounce, startTimeout := p.startTimeout, watchdogCode := p.watchdogCode,
      retrain := decide (p.watchdogAction = 1), linger := p.linger, exitSpeed := p.exitSpeed,
      engageChime := p.engageChime, duckRear := decide (p.duckRear = 1), starting := p.starting,
      unavailable := p.unavailable }) ∧
    (∀ c, cameraParams? q = some c →
      c = { tag := q.tag, x := q.x, y := q.y, w := q.w, h := q.h, mirror := decide (q.mirror = 1) }) ∧
    (cameraParams? q = none → exec (.cameraSet mark q) s = .next (replied mark 20 .param [] s)) ∧
    (∀ c, cameraParams? q = some c → c.tag ≠ s.takeover.camera.tag → s.takeover.camera.tag ≠ 0 →
      (descriptorOf s.takeover.camera.tag s).isSome = true →
      exec (.cameraSet mark q) s = .next (replied mark 20 .inUse [] s)) ∧
    (∀ c d, cameraParams? q = some c →
      (c.tag = s.takeover.camera.tag ∨ s.takeover.camera.tag = 0 ∨ descriptorOf s.takeover.camera.tag s = none) →
      c.tag ≠ 0 → descriptorOf c.tag s = some d → (∀ v, d = .video v → v.source ≠ .camera) →
      exec (.cameraSet mark q) s = .next (replied mark 20 .param [] s)) ∧
    (∀ c, cameraParams? q = some c →
      (c.tag = s.takeover.camera.tag ∨ s.takeover.camera.tag = 0 ∨ descriptorOf s.takeover.camera.tag s = none) →
      (c.tag = 0 ∨ ∀ d, descriptorOf c.tag s = some d → ∃ v, d = .video v ∧ v.source = .camera) →
      exec (.cameraSet mark q) s = .next (replied mark 20 .ok [] { s with takeover.camera := c })) ∧
    ((cameraParams? q).isSome = true ↔ q.tag ≤ 31 ∧ q.x ≤ 1279 ∧ q.y ≤ 799 ∧ 1 ≤ q.w ∧ q.w ≤ 1280 ∧ 1 ≤ q.h ∧
      q.h ≤ 800 ∧ q.mirror ≤ 1)

/-- R13's table. R11's timer and speed events. That a FLAGS notice which the command brings about goes before its reply
is the model's choice (log entry 69). -/
def Obligations.DismissAndLingerExits : Prop :=
  (∀ (mark : Byte) (s : State), Running s →
    (s.takeover.phase = .linger →
      exec (.takeoverDismiss mark) s = .next (replied mark 22 .ok [] (exitTakeover s))) ∧
    (s.takeover.phase = .engaged → exec (.takeoverDismiss mark) s = .next (replied mark 22 .locked [] s)) ∧
    (s.takeover.phase = .idle → exec (.takeoverDismiss mark) s = .next (replied mark 22 .ok [] s))) ∧
    (∀ (s : State),
    (s.takeover.phase = .linger → s.takeover.lingerTimer.isSome = true →
      exec .lingerTimerExpiry s = .next (exitTakeover s)) ∧
    (s.takeover.phase ≠ .linger → exec .lingerTimerExpiry s = .next s) ∧
    (s.takeover.phase = .linger → s.vehicle.fresh = true → s.takeover.settings.exitSpeed < s.vehicle.speed →
      exitSpeedTest s = exitTakeover s) ∧
    (s.takeover.phase ≠ .linger ∨ s.vehicle.fresh = false ∨ s.vehicle.speed ≤ s.takeover.settings.exitSpeed →
      exitSpeedTest s = s))

/-- R15 to R19 for the events that lose the picture. R19's request of the TAKEOVER plane is made with the view already
LOST, and the camera link's RETRAIN follows it. The rules give no order between the two: that CAMERA_VIEW's flag and its
notice, and the request, come before the link's LINK_ERROR and its drop at the same event is the model's choice (log entry
48, an inference, and log entry 21). -/
def Obligations.CameraViewTimers : Prop :=
  ∀ (s : State), (s.takeover.phase = .idle → viewLinkDown s = s) ∧ (s.takeover.phase ≠ .idle →
    (∀ cause, let t := enterLost cause s
      let lost := { s.takeover with
        view := .lost, cause := cause, rejoins := 0, startTimer := none, watchdogTimer := none }
      let asked := requestRenders [.takeover] (raiseFlag .cameraView { s with takeover := lost });
      t.takeover = lost ∧ t.raised .cameraView = true ∧
      (s.takeover.settings.retrain = false → t = asked) ∧
      (s.takeover.settings.retrain = true → t = putDown .camera asked ∧ t.raster = asked.raster) ∧
      (s.takeover.settings.retrain = true → s.links.camera.state = .up → t.links.camera.state = .training)) ∧
    (s.takeover.view = .waiting → s.takeover.startTimer.isSome = true →
      exec .startTimerExpiry s = .next (enterLost .startTimeout s)) ∧
    (s.takeover.view ≠ .waiting → exec .startTimerExpiry s = .next s) ∧
    (s.takeover.view = .live ∨ s.takeover.view = .frozen → s.takeover.watchdogTimer.isSome = true →
      exec .watchdogExpiry s = .next (enterLost .watchdog s)) ∧
    (s.takeover.view = .waiting ∨ s.takeover.view = .lost → exec .watchdogExpiry s = .next s) ∧
    (s.takeover.view = .live ∨ s.takeover.view = .frozen → viewLinkDown s = enterLost .linkDown s) ∧
    (s.takeover.view = .waiting ∨ s.takeover.view = .lost → viewLinkDown s = s))

/-- R14 to R17 for the frames that the Ring Manager hands over, with R19's request of the TAKEOVER plane at the entry to
FROZEN, R40's request of the GUIDE plane at each entry to LIVE, and the watchdog period of each code (section 1.3). -/
def Obligations.GoodCameraFrames : Prop :=
  (∀ code, code ≤ 7 → some (watchdogPeriod code) = [100, 150, 200, 250, 300, 400, 500, 1000][code]?) ∧
  ∀ (s : State) (n : Nat),
    let period := some (watchdogPeriod s.takeover.settings.watchdogCode)
    let seen := { s.takeover with lastGood := some n }
    let guide := fun (u : State) =>
      if u.guide.rowTable ≠ [] ∧ u.guide.bandTable ≠ [] ∧ u.guide.settings.mode ≠ .off
        then requestRenders [.guide] u else u
    let t := goodFrame n s;
    (s.takeover.view = .waiting →
      let live := { seen with view := .live, startTimer := none, repeats := 0, watchdogTimer := period };
      t.takeover = live ∧ t = guide { s with takeover := live }) ∧
    (s.takeover.view = .live → s.takeover.lastGood ≠ some n →
      t = { s with takeover := { seen with repeats := 0, watchdogTimer := period } }) ∧
    (s.takeover.view = .live → s.takeover.lastGood = some n → s.takeover.repeats < 2 →
      t = { s with takeover := { seen with repeats := s.takeover.repeats + 1, watchdogTimer := period } }) ∧
    (s.takeover.view = .live → s.takeover.lastGood = some n → 2 ≤ s.takeover.repeats →
      let frozen := { seen with view := .frozen, repeats := 3, rejoins := 0, watchdogTimer := period };
      t.takeover = frozen ∧ t.raised .cameraView = true ∧
      t = requestRenders [.takeover] (raiseFlag .cameraView { s with takeover := frozen })) ∧
    (s.takeover.view = .lost → s.takeover.lastGood = some n → t = { s with takeover := { seen with rejoins := 0 } }) ∧
    (s.takeover.view = .frozen → s.takeover.lastGood = some n →
      t = { s with takeover := { seen with rejoins := 0, watchdogTimer := period } }) ∧
    (s.takeover.view = .lost → s.takeover.lastGood ≠ some n → s.takeover.rejoins = 0 →
      t = { s with takeover := { seen with rejoins := 1 } }) ∧
    (s.takeover.view = .frozen → s.takeover.lastGood ≠ some n → s.takeover.rejoins = 0 →
      t = { s with takeover := { seen with rejoins := 1, watchdogTimer := period } }) ∧
    (s.takeover.view = .lost ∨ s.takeover.view = .frozen → s.takeover.lastGood ≠ some n → 1 ≤ s.takeover.rejoins →
      let live := { seen with view := .live, cause := .none, repeats := 0, rejoins := 0, watchdogTimer := period };
      t.takeover = live ∧ t.raised .cameraView = true ∧
      t = guide (raiseFlag .cameraView { s with takeover := live }))

/-- R25: the commands of its list, and the others performed as in IDLE, a TAG_SET or TAG_CLEAR of another tag and a
RING_SET of another ring among them. -/
def Obligations.LockedDuringTakeover : Prop :=
  ∀ (mark : Byte) (s : State), Running s →
    (s.takeover.phase ≠ .idle →
      (∀ p, exec (.cameraSet mark p) s = .next (replied mark 20 .locked [] s)) ∧
      (∀ p, exec (.takeoverSet mark p) s = .next (replied mark 21 .locked [] s)) ∧
      (∀ p, exec (.guideSet mark p) s = .next (replied mark 30 .locked [] s)) ∧
      (∀ vs, exec (.steerTableSet mark vs) s = .next (replied mark 31 .locked [] s)) ∧
      (∀ rows, exec (.rowTableSet mark rows) s = .next (replied mark 32 .locked [] s)) ∧
      (∀ bands, exec (.bandTableSet mark bands) s = .next (replied mark 33 .locked [] s)) ∧
      exec (.softReset mark) s = .next (replied mark 85 .locked [] s) ∧
      (∀ p, p.tag = s.takeover.camera.tag → 1 ≤ p.tag → p.tag ≤ 31 →
        exec (.tagSet mark p) s = .next (replied mark 1 .locked [] s)) ∧
      (∀ tag, tag = s.takeover.camera.tag → 1 ≤ tag → tag ≤ 31 →
        exec (.tagClear mark tag) s = .next (replied mark 2 .locked [] s)) ∧
      (∀ p r, cameraRing s = some r → p.ring = r.val →
        exec (.ringSet mark p) s = .next (replied mark 4 .locked [] s)) ∧
      (s.takeover.phase = .engaged → exec (.takeoverDismiss mark) s = .next (replied mark 22 .locked [] s)) ∧
      (∀ p, p.tag ≤ 255 → p.tag ≠ s.takeover.camera.tag ∨ s.takeover.camera.tag = 0 →
        exec (.tagSet mark p) s = .next (handAnswer mark 1#8 (tagSet p s))) ∧
      (∀ tag, tag ≤ 255 → tag ≠ s.takeover.camera.tag ∨ s.takeover.camera.tag = 0 →
        exec (.tagClear mark tag) s = .next (handAnswer mark 2#8 (tagClear tag s))) ∧
      (∀ p, p.ring ≤ 255 → (∀ r, cameraRing s = some r → p.ring ≠ r.val) →
        exec (.ringSet mark p) s = .next (handAnswer mark 4#8 (ringSet p s)))) ∧
    (∀ c : Command, s.takeover.phase = .idle →
      runCommand mark c s = handAnswer mark (BitVec.ofNat 8 c.code) (perform c s)) ∧
    (∀ c : Command, c.code ∉ [1, 2, 4, 20, 21, 22, 30, 31, 32, 33, 85] →
      runCommand mark c s = handAnswer mark (BitVec.ofNat 8 c.code) (perform c s))

/-- R28 and R30 to R32 in the phase IDLE. A parameter length that the count of a row table does not give is PARAM at the
owner, whose check R186 makes after its own (log entry 67, an inference). That STEER_TABLE_SET with another number of values
than nine is PARAM at the owner is the model's choice: R30 names no such case, and a packet with such an area gets LENGTH by
R186 before its owner judges it (log entry 67). -/
def Obligations.GuideSettingsAndTables : Prop :=
  ∀ (mark : Byte) (p : GuideSetParams) (values : List Nat) (length : Nat) (rows : List RowParams) (bands : List GuideBand) (s : State),
    Open s →
    (∀ t, guideSettings? p = some t →
      exec (.guideSet mark p) s = .next (replied mark 30 .ok [] { s with guide.settings := t })) ∧
    (guideSettings? p = none → exec (.guideSet mark p) s = .next (replied mark 30 .param [] s)) ∧
    ((guideSettings? p).isSome = true ↔ p.mode ≤ 3 ∧ (p.polarity = 1 ∨ p.polarity = -1) ∧ 500 ≤ p.halfWidth ∧
      p.halfWidth ≤ 1200 ∧ 300 ≤ p.overhang ∧ p.overhang ≤ 1500 ∧ 1 ≤ p.slew ∧ p.slew ≤ 30000 ∧ p.stopBar ≤ 1) ∧
    (∀ t, guideSettings? p = some t → t = {
        mode := t.mode, polarity := p.polarity, halfWidth := p.halfWidth, overhang := p.overhang, slew := p.slew,
        stopBar := decide (p.stopBar = 1) } ∧
      p.mode = (match t.mode with | .off => 0 | .static => 1 | .dynamic => 2 | .both => 3)) ∧
    (∀ (e : RowParams) (r : RowEntry), rowEntry? e = some r ↔
      r = { d := e.d, v := e.v, scale := e.scale, c := e.c, w := e.w, marker := decide (e.marker = 1) } ∧
        e.d ≤ 8000 ∧ e.v ≤ 799 ∧ 1 ≤ e.scale ∧ e.scale ≤ 4000 ∧ e.c ≤ 1279 ∧ 1 ≤ e.w ∧ e.w ≤ 15 ∧ e.marker ≤ 1) ∧
    (∀ t : Vector Nat 9, values = t.toList → (∀ x ∈ values, x ≤ 30000) → values.head? = some 0 →
      values.Pairwise (· ≤ ·) →
      exec (.steerTableSet mark values) s = .next (replied mark 31 .ok [] { s with guide.steerTable := some t })) ∧
    (¬ (values.length = 9 ∧ (∀ x ∈ values, x ≤ 30000) ∧ values.head? = some 0 ∧ values.Pairwise (· ≤ ·)) →
      exec (.steerTableSet mark values) s = .next (replied mark 31 .param [] s)) ∧
    (∀ t, length = 1 + 10 * rows.length → rows.mapM rowEntry? = some t → 2 ≤ t.length → t.length ≤ 32 →
      t.Pairwise (fun a b => a.d < b.d ∧ b.v < a.v) →
      exec (.rowTableSet mark ⟨length, rows⟩) s = .next (replied mark 32 .ok [] { s with guide.rowTable := t })) ∧
    (length ≠ 1 + 10 * rows.length ∨ (∀ t, rows.mapM rowEntry? = some t →
        t.length < 2 ∨ 32 < t.length ∨ ¬ t.Pairwise (fun a b => a.d < b.d ∧ b.v < a.v)) →
      exec (.rowTableSet mark ⟨length, rows⟩) s = .next (replied mark 32 .param [] s)) ∧
    (1 ≤ bands.length → bands.length ≤ 4 → (∀ b ∈ bands, 1 ≤ b.limit ∧ b.limit ≤ 10000) →
      bands.Pairwise (fun a b => a.limit < b.limit) →
      exec (.bandTableSet mark bands) s = .next (replied mark 33 .ok [] { s with guide.bandTable := bands })) ∧
    (bands.length = 0 ∨ 4 < bands.length ∨ (∃ b ∈ bands, b.limit = 0 ∨ 10000 < b.limit) ∨
        ¬ bands.Pairwise (fun a b => a.limit < b.limit) →
      exec (.bandTableSet mark bands) s = .next (replied mark 33 .param [] s))

/-- R34's target curvature over tables valid by R30. R35. -/
def Obligations.CurvatureTargetAndSlew : Prop :=
  (∀ (g : Guide) (t : Vector Nat 9) (theta : Int) (a b : Nat), t.toList.Pairwise (· ≤ ·) → (∀ x ∈ t.toList, x ≤ 30000) →
    t.toList.head? = some 0 →
    (∀ i : Fin 9, curvatureMagnitude t (900 * i.val) = (t[i] : Nat)) ∧
    (∀ (i : Fin 8) (x : Nat), x < 900 → curvatureMagnitude t (900 * i.val + x) =
      (t[i.val] : Nat) + (2 * ((((t[i.val + 1] : Nat) : Int) - (t[i.val] : Nat)) * x) + 900) / 1800) ∧
    (7200 ≤ a → curvatureMagnitude t a = (t[8] : Nat)) ∧
    (a ≤ b → curvatureMagnitude t a ≤ curvatureMagnitude t b) ∧
    0 ≤ curvatureMagnitude t a ∧ curvatureMagnitude t a ≤ 30000 ∧
    (g.steerTable = some t → targetCurvature g theta =
      (if theta = 0 then 0 else if 0 < theta then 1 else -1) * g.settings.polarity *
        curvatureMagnitude t theta.natAbs) ∧
    (g.steerTable = some t → targetCurvature g 0 = 0) ∧
    (g.steerTable = none → targetCurvature g theta = 0)) ∧
    (∀ (g : Guide) (k target : Int) (s : State),
    (g.kappaDraw = none → drawnCurvature g target = max (-30000) (min 30000 target)) ∧
    (g.kappaDraw = some k → (target - k).natAbs ≤ g.settings.slew →
      drawnCurvature g target = max (-30000) (min 30000 target)) ∧
    (g.kappaDraw = some k → k + g.settings.slew < target →
      drawnCurvature g target = max (-30000) (min 30000 (k + g.settings.slew))) ∧
    (g.kappaDraw = some k → target < k - g.settings.slew →
      drawnCurvature g target = max (-30000) (min 30000 (k - g.settings.slew))) ∧
    (drawnCurvature g target).natAbs ≤ 30000 ∧
    (g.kappaDraw = some k → k.natAbs ≤ 30000 → (drawnCurvature g target - k).natAbs ≤ g.settings.slew) ∧
    (engage s).guide.kappaDraw = none ∧ (enterLinger s).guide = s.guide ∧ (reengage s).guide = s.guide ∧
    Guide.reset.kappaDraw = none)

/-- R34, R37 to R39 and R46, the stop bar with R42's columns of its row. -/
def Obligations.GeometryRecordOfOneComputation : Prop :=
  ∀ (s : State) (width height : Nat),
    let g := s.guide
    let m : Int := if s.takeover.camera.mirror then -1 else 1
    let t := computeGuide width height s
    let column := fun (e : RowEntry) (lat : Int) => (e.c : Int) + m * nearestDiv ((e.scale : Int) * lat) 1000
    let theta := if s.vehicle.fresh then s.vehicle.steering else 0
    let drawn := drawnCurvature g (targetCurvature g theta)
    let offset := fun (e : RowEntry) => max (-8000) (min 8000
      (nearestDiv (drawn * (e.d : Int) * ((e.d : Int) + 2 * (g.settings.overhang : Int))) 200000000))
    ∃ r, t = { s with guide.record := some r, guide.kappaDraw := some drawn } ∧
      r.width = width ∧ r.height = height ∧ r.kappaDraw = drawn ∧ r.kappaT = targetCurvature g theta ∧
      r.mode = (if g.rowTable = [] ∨ g.bandTable = [] then .off else g.settings.mode) ∧
      (r.mode = .dynamic ∨ r.mode = .both → r.dynamic = g.rowTable.map fun e =>
        { left := column e (-(g.settings.halfWidth : Int) + offset e),
          right := column e ((g.settings.halfWidth : Int) + offset e) }) ∧
      (r.mode = .static ∨ r.mode = .both → r.static = g.rowTable.map fun e =>
        { left := column e (-(g.settings.halfWidth : Int)), right := column e (g.settings.halfWidth : Int) }) ∧
      (g.settings.stopBar = false ∨ r.mode = .off ∨ s.vehicle.fresh = false ∨ s.vehicle.distances = #v[255, 255, 255, 255] →
        r.stopBar = none) ∧
      (∀ code : Nat, g.settings.stopBar = true → r.mode ≠ .off → s.vehicle.fresh = true → code < 255 →
        code ∈ s.vehicle.distances.toList → (∀ x ∈ s.vehicle.distances.toList, x < 255 → code ≤ x) →
        2 ≤ g.rowTable.length → g.rowTable.Pairwise (fun a b => a.d < b.d ∧ b.v < a.v) →
        let d := 10 * code
        let lines := if r.mode = .static then r.static else r.dynamic;
        (∀ e c, g.rowTable[0]? = some e → lines[0]? = some c → d ≤ e.d →
          r.stopBar = some { row := e.v, columns := c }) ∧
        (∀ j e0 e1 c0 c1, g.rowTable[j]? = some e0 → g.rowTable[j + 1]? = some e1 → lines[j]? = some c0 →
          lines[j + 1]? = some c1 → e0.d < d → d ≤ e1.d →
          let row : Int := (e0.v : Int) +
            nearestDiv (((e1.v : Int) - (e0.v : Int)) * ((d : Int) - (e0.d : Int))) ((e1.d : Int) - (e0.d : Int))
          let col := fun (x0 x1 : Int) =>
            x0 + nearestDiv ((x1 - x0) * ((e0.v : Int) - row)) ((e0.v : Int) - (e1.v : Int))
          r.stopBar = some { row := row, columns := { left := col c0.left c1.left, right := col c0.right c1.right } }) ∧
        (∀ e, g.rowTable.getLast? = some e → e.d < d → r.stopBar = none))

/-- R50 to R53 and R63 in the phase IDLE, with the emptying of R121 and the ranges of section 3.1. The layout of TAG_READ's
report, where R185 leaves it open, is the model's choice (log entry 13), and so is that the fields absent for a kind are not
examined (log entry 31). -/
def Obligations.TagAndRingCommands : Prop :=
  ∀ (mark : Byte) (p : TagSetParams) (q : RingSetParams) (tag : Nat) (s : State), Open s →
    (∀ t d, tagParams? p s = some (t, d) → (s.tag t).descriptor = none →
      exec (.tagSet mark p) s =
        .next (replied mark 1 .ok [] (s.setTag t { s.tag t with descriptor := some d }))) ∧
    (∀ t d old, tagParams? p s = some (t, d) → (s.tag t).descriptor = some old →
      let sameVideo := ∃ a b, old = .video a ∧ d = .video b ∧ a.source = b.source
      let fed := fun (e : Descriptor) (z : Zone) =>
        ∃ a, e = .audio a ∧ ((z = .seatL ∧ a.seatL = true) ∨ (z = .seatR ∧ a.seatR = true))
      ∃ u, exec (.tagSet mark p) s = .next (replied mark 1 .ok [] u) ∧
        (sameVideo ∨ (∀ a, old ≠ .video a) →
          u = { s.setTag t { s.tag t with descriptor := some d } with audio := u.audio }) ∧
        (¬ sameVideo → (∃ a, old = .video a) →
          u = { (abandonFrame t s).setTag t { (abandonFrame t s).tag t with descriptor := some d } with audio := u.audio }) ∧
        u.audio.volumeTable = s.audio.volumeTable ∧
        (∀ z, fed old z → ¬ fed d z → u.zone z = { s.zone z with fifo := [], fifoState := .priming }) ∧
        (∀ z, ¬ fed old z ∨ fed d z → u.zone z = s.zone z)) ∧
    (∀ t d, tagParams? p s = some (t, d) ↔ p.tag = t.val ∧ t ≠ 0 ∧
      ((∃ v, d = .video v ∧ p.kind = 0 ∧ p.source = (match v.source with | .downlink => 0 | .camera => 1) ∧
          p.width = v.width ∧ p.height = v.height ∧ p.ring = v.ring.val ∧ p.damage = v.damage ∧
          p.format = (match v.format with | .rgb565 => 0 | .rgb888 => 1 | .ycbcr422 => 2) ∧
          16 ≤ v.width ∧ v.width ≤ 1280 ∧ 16 ≤ v.height ∧ v.height ≤ 800 ∧ v.damage ≤ 255 ∧
          (v.format = .ycbcr422 → v.width % 2 = 0) ∧ (s.ring v.ring).buffers ≠ [] ∧
          v.width * v.height * (if v.format = .rgb888 then 3 else 2) ≤ (s.ring v.ring).stride ∧
          (∀ u, u ≠ t → claims s v.ring u = false) ∧ (v.source = .camera ↔ s.takeover.camera.tag = t.val)) ∨
       (∃ a, d = .audio a ∧ p.kind = 1 ∧ p.source = 0 ∧ p.channels = (if a.stereo then 2 else 1) ∧
          p.zones = (if a.seatL then 1 else 0) + (if a.seatR then 2 else 0) ∧ p.zones ≠ 0 ∧
          (∀ u b, u ≠ t → (s.tag u).descriptor = some (.audio b) →
            ¬ (a.seatL = true ∧ b.seatL = true) ∧ ¬ (a.seatR = true ∧ b.seatR = true)) ∧
          s.takeover.camera.tag ≠ t.val))) ∧
    (∀ n t, claims s n t = true ↔ (∃ v, (s.tag t).descriptor = some (.video v) ∧ v.ring = n) ∨
      ∃ f, (s.tag t).frame = some f ∧ f.ring = n) ∧
    (∀ n, ringParamsOk n q s = true ↔ q.count = 0 ∨
      (2 ≤ q.count ∧ q.count ≤ 4 ∧ q.base % 4096 = 0 ∧ q.stride % 4096 = 0 ∧ 4096 ≤ q.stride ∧
        q.base + q.count * q.stride ≤ 98566144 ∧
        ∀ m, m ≠ n → (s.ring m).buffers ≠ [] → q.base + q.count * q.stride ≤ (s.ring m).base ∨
          (s.ring m).base + (s.ring m).buffers.length * (s.ring m).stride ≤ q.base)) ∧
    (∀ t, (s.tag t).frame = none → abandonFrame t s = s) ∧
    (tagParams? p s = none → exec (.tagSet mark p) s = .next (replied mark 1 .param [] s)) ∧
    (tag = 0 ∨ 32 ≤ tag → exec (.tagClear mark tag) s = .next (replied mark 2 .param [] s) ∧
      exec (.tagRead mark tag) s = .next (replied mark 3 .param [] s)) ∧
    (∀ t : Fin 32, t.val = tag → t ≠ 0 →
      ((s.tag t).descriptor = none → exec (.tagClear mark tag) s = .next (replied mark 2 .ok [] s)) ∧
      (∀ d, (s.tag t).descriptor = some (.video d) → (s.tag t).frame = none →
        exec (.tagClear mark tag) s =
          .next (replied mark 2 .ok [] (s.setTag t { s.tag t with descriptor := none }))) ∧
      (∀ d c, (s.tag t).descriptor = some (.video d) → (s.tag t).frame = some c →
        exec (.tagClear mark tag) s = .next (replied mark 2 .ok []
          ((abandonFrame t s).setTag t { (abandonFrame t s).tag t with descriptor := none }))) ∧
      (∀ d, (s.tag t).descriptor = some (.audio d) → ∃ u, exec (.tagClear mark tag) s = .next (replied mark 2 .ok [] u) ∧
        u = { (abandonFrame t s).setTag t { (abandonFrame t s).tag t with descriptor := none } with audio := u.audio } ∧
        u.audio.volumeTable = s.audio.volumeTable ∧
        (∀ z, (z = .seatL ∧ d.seatL = true) ∨ (z = .seatR ∧ d.seatR = true) →
          u.zone z = { s.zone z with fifo := [], fifoState := .priming }) ∧
        (∀ z, ¬ ((z = .seatL ∧ d.seatL = true) ∨ (z = .seatR ∧ d.seatR = true)) → u.zone z = s.zone z)) ∧
      (let r := s.tag t
        let frame := match r.frame with
          | none => [0#8]
          | some c => u8 (if c.buffer.isSome then 1 else 2) ++ u16 c.number ++ optionBytes u8 c.buffer ++
              u16 (c.marks.countP fun m => decide (m = .written)) ++ u16 (c.marks.countP fun m => decide (m = .damaged))
        let ring := match r.descriptor with
          | some (.video d) =>
            let g := s.ring d.ring
            if g.buffers = [] then []
            else u8 g.buffers.length ++ optionBytes u8 g.latest ++ g.buffers.flatMap fun b =>
              u8 b.state.code ++ u8 b.holds ++ u16 b.number ++ u16 b.width ++ u16 b.height ++ u8 b.format.code
          | _ => []
        exec (.tagRead mark tag) s =
          .next (replied mark 3 .ok (descriptorBytes r.descriptor ++ frame ++ r.counters.bytes ++ ring) s))) ∧
    (8 ≤ q.ring → exec (.ringSet mark q) s = .next (replied mark 4 .param [] s)) ∧
    (∀ n : Fin 8, q.ring = n.val →
      ((∃ t, claims s n t = true) ∨ (∃ b ∈ (s.ring n).buffers, 0 < b.holds) →
        exec (.ringSet mark q) s = .next (replied mark 4 .inUse [] s)) ∧
      ((∀ t, claims s n t = false) → (∀ b ∈ (s.ring n).buffers, b.holds = 0) → ringParamsOk n q s = true →
        exec (.ringSet mark q) s = .next (replied mark 4 .ok [] (s.setRing n
          { base := q.base, stride := q.stride, latest := none, buffers := List.replicate q.count Buffer.reset }))) ∧
      ((∀ t, claims s n t = false) → (∀ b ∈ (s.ring n).buffers, b.holds = 0) → ringParamsOk n q s = false →
        exec (.ringSet mark q) s = .next (replied mark 4 .param [] s)))

/-- R55, R59, R60, R65 and R66 for an admitted FRAME and FEND, with the staged lines of R58; and R54's admission of FRAME,
LINE, FEND and AUDIO packets, the failed payload of R176 among them, which changes nothing more of a FRAME or FEND. A frame
of the camera tag that completes in a ring other than the camera ring is no good camera frame: R59 hands on what R14 defines
(log entry 64, an inference).
That a tag above 31 has no descriptor present is its inference (log entry 22). -/
def Obligations.FramesBeginAndEnd : Prop :=
  (∀ (rx : VideoRx) (t : Fin 32) (c : Byte) (n b : Nat) (payload : List Byte) (d : VideoDescriptor) (s : State),
    (s.link rx.link).state = .up → (s.link rx.link).assembler = .assembling → n < 65536 → b < 65536 →
    payload.length ≤ 3840 → t ≠ 0 → (s.tag t).descriptor = some (.video d) → d.source = rx →
    let drop := fun (f : FrameContext) (count : TagCounters → TagCounters) =>
      let s1 := s.setPort f.link { s.port f.link with
        staging := (s.port f.link).staging.filter fun l => !(l.tag == t && l.live) }
      let s2 := match f.buffer with
        | none => s1
        | some k => s1.setRing f.ring { s.ring f.ring with
            buffers := (s.ring f.ring).buffers.modify k fun x => { x with state := .free } };
      s2.setTag t { s.tag t with frame := none, counters := count (s.tag t).counters }
    (let o := exec (.framePacket rx (packetBytes .frame (BitVec.ofNat 8 t.val) n b c payload)) s
      let u := beginFrame t rx n d s
      let ctx : Option Nat → FrameContext := fun k => {
        number := n, width := d.width, height := d.height, format := d.format, ring := d.ring, damage := d.damage,
        link := rx, buffer := k, marks := List.replicate d.height .unseen };
      (isCameraTag s t.val = false ∨ s.takeover.phase = .idle → o = .next u) ∧
      (isCameraTag s t.val = true → s.takeover.phase ≠ .idle →
        let g := computeGuide d.width d.height u
        o = .next (if s.takeover.view = .live ∧ s.guide.rowTable ≠ [] ∧ s.guide.bandTable ≠ [] ∧
          s.guide.settings.mode ≠ .off then requestRenders [.guide] g else g)) ∧
      (∀ f, (s.tag t).frame = some f →
        abandonFrame t s = drop f (fun k => { k with frameAbandoned := bump k.frameAbandoned }) ∧
        u = beginFrame t rx n d (abandonFrame t s)) ∧
      ((s.tag t).frame = none → writerChoice (s.ring d.ring) = none →
        u = s.setTag t { s.tag t with
          frame := some (ctx none), counters := { (s.tag t).counters with frameIn := bump (s.tag t).counters.frameIn } }) ∧
      (∀ k, (s.tag t).frame = none → writerChoice (s.ring d.ring) = some (k, false) →
        u = (s.setRing d.ring ((s.ring d.ring).modify k (Buffer.taken n d))).setTag t { s.tag t with
          frame := some (ctx (some k)),
          counters := { (s.tag t).counters with frameIn := bump (s.tag t).counters.frameIn } }) ∧
      (∀ k, (s.tag t).frame = none → writerChoice (s.ring d.ring) = some (k, true) →
        u = (s.setRing d.ring { (s.ring d.ring).modify k (Buffer.taken n d) with latest := none }).setTag t { s.tag t with
          frame := some (ctx (some k)),
          counters := { (s.tag t).counters with
            frameIn := bump (s.tag t).counters.frameIn,
            frameOverwrite := bump (s.tag t).counters.frameOverwrite } })) ∧
    (let o := exec (.fendPacket rx (packetBytes .fend (BitVec.ofNat 8 t.val) n b c payload)) s
      let p := s.port rx;
      ((s.tag t).frame = none →
        o = .next (s.setPort rx { p with counters := { p.counters with orphan := bump p.counters.orphan } })) ∧
      (∀ f, (s.tag t).frame = some f →
        let damaged := f.marks.countP fun m => decide (m ≠ .written);
        (n ≠ f.number → o = .next (drop f fun k => { k with mismatch := bump k.mismatch })) ∧
        (n = f.number → f.buffer = none → o = .next (drop f fun k => { k with frameSkip := bump k.frameSkip })) ∧
        (∀ k, n = f.number → f.buffer = some k → f.damage < damaged →
          o = .next (drop f fun k => { k with frameDamaged := bump k.frameDamaged })) ∧
        (∀ k, n = f.number → f.buffer = some k → damaged ≤ f.damage →
          let u := endFrame t rx n s
          let old := s.ring f.ring;
          (isCameraTag s t.val = false ∨ s.takeover.phase = .idle ∨ cameraRing s ≠ some f.ring → o = .next u) ∧
          (isCameraTag s t.val = true → s.takeover.phase ≠ .idle → cameraRing s = some f.ring →
            o = .next (goodFrame n u)) ∧
          (u.tag t).frame = none ∧ (u.tag t).descriptor = (s.tag t).descriptor ∧
          (u.tag t).counters.frameDone = bump (s.tag t).counters.frameDone ∧
          (u.ring f.ring).latest = some k ∧
          (∀ x, old.buffers[k]? = some x → old.latest ≠ some k →
            (u.ring f.ring).buffers[k]? = some { x with state := .complete, damaged := damaged }) ∧
          (∀ j x, old.latest = some j → j ≠ k → old.buffers[j]? = some x →
            (u.ring f.ring).buffers[j]? = some (if x.holds = 0 then { x with state := .free } else x) ∧
            (u.tag t).counters.frameUnshown = (if x.holds = 0 ∧ x.heldSinceFilled = false
              then bump (s.tag t).counters.frameUnshown else (s.tag t).counters.frameUnshown)) ∧
          (old.latest = none → (u.tag t).counters.frameUnshown = (s.tag t).counters.frameUnshown) ∧
          (∀ i, i ≠ k → old.latest ≠ some i → (u.ring f.ring).buffers[i]? = old.buffers[i]?) ∧
          (u.port f.link).staging = (s.port f.link).staging.map (fun l => if l.tag = t then { l with live := false } else l))))) ∧
  (∀ (rx : VideoRx) (good : Bool) (m c : Byte) (n b : Nat) (payload crc : List Byte) (s : State),
    (s.link rx.link).state = .up → (s.link rx.link).assembler = .assembling → n < 65536 → b < 65536 →
    payload.length ≤ 3840 → (good = true ∨ payload ≠ [] ∧ crc.length = 4 ∧ crc ≠ beBytes 4 (crc32 payload).toNat) →
    let bytes := fun (k : PacketKind) => if good then packetBytes k m n b c payload
      else (packetBytes k m n b c payload).take (8 + payload.length) ++ crc
    let u := if good then s else s.setLink rx.link { s.link rx.link with payErr := bump (s.link rx.link).payErr }
    let count := fun (f : AdmissionCounters → AdmissionCounters) =>
      Host.Outcome.next (u.setPort rx { s.port rx with counters := f (s.port rx).counters })
    let refused := fun (o : Host.Outcome State Fault Refusal) (wrong : Descriptor → Prop) =>
      (m = 0 → o = count fun k => { k with null := bump k.null }) ∧
      (m ≠ 0 → (∀ t : Fin 32, t.val = m.toNat → (s.tag t).descriptor = none) →
        o = count fun k => { k with absent := bump k.absent }) ∧
      (∀ (t : Fin 32) d, m ≠ 0 → t.val = m.toNat → (s.tag t).descriptor = some d → wrong d →
        o = count fun k => { k with kind := bump k.kind });
    (∀ k ∈ [(PacketKind.frame, Instr.framePacket rx), (.line, .linePacket rx), (.fend, .fendPacket rx)],
      refused (exec (k.2 (bytes k.1)) s) (fun d => ∃ a, d = .audio a) ∧
      (∀ (t : Fin 32) v, m ≠ 0 → t.val = m.toNat → (s.tag t).descriptor = some (.video v) → v.source ≠ rx →
        exec (k.2 (bytes k.1)) s = count fun k => { k with source := bump k.source })) ∧
    (rx = .downlink → refused (exec (.audioPacket (bytes .audio)) s) (fun d => ∃ v, d = .video v)) ∧
    (∀ k ∈ [(PacketKind.frame, Instr.framePacket rx), (.fend, .fendPacket rx)],
      exec (k.2 (bytes k.1)) s = exec (k.2 (packetBytes k.1 m n b c payload)) u))

/-- R65's choice of a buffer, and R64's law under the operations of R65 to R68. -/
def Obligations.RingOperationsKeepTheLaw : Prop :=
  ∀ (r : Ring) (k n damaged : Nat) (d : VideoDescriptor), RingLawful r →
    (∀ j, writerChoice r = some (j, false) ↔ r.buffers.findIdx? (fun b => b.state == .free) = some j) ∧
    (∀ j, writerChoice r = some (j, true) ↔ r.latest = some j ∧ (∀ b ∈ r.buffers, b.state ≠ .free) ∧
      ∃ b, r.buffers[j]? = some b ∧ b.holds = 0) ∧
    (writerChoice r = none ↔ (∀ b ∈ r.buffers, b.state ≠ .free) ∧
      ∀ j b, r.latest = some j → r.buffers[j]? = some b → 1 ≤ b.holds) ∧
    (writerChoice r = some (k, false) → RingLawful (r.modify k (Buffer.taken n d))) ∧
    (writerChoice r = some (k, true) → RingLawful { r.modify k (Buffer.taken n d) with latest := none }) ∧
    (r.latest = some k → RingLawful (r.hold k)) ∧
    ((∃ b, r.buffers[k]? = some b ∧ 1 ≤ b.holds) → RingLawful (r.release k)) ∧
    ((∃ b, r.buffers[k]? = some b ∧ b.state = .filling) →
      RingLawful (r.complete k damaged) ∧ (r.complete k damaged).latest = some k ∧
      RingLawful (r.modify k fun b => { b with state := .free })) ∧
    (∀ base stride count, RingLawful
      { base := base, stride := stride, latest := none, buffers := List.replicate count Buffer.reset })

/-- R56 to R58, with the place of R62. -/
def Obligations.LinePacketIsStagedOrCounted : Prop :=
  ∀ (rx : VideoRx) (t : Fin 32) (c : Byte) (n x : Nat) (payload crc : List Byte) (d : VideoDescriptor) (s : State),
    (s.link rx.link).state = .up → (s.link rx.link).assembler = .assembling → n < 65536 → x < 65536 →
    payload.length ≤ 3840 → t ≠ 0 → (s.tag t).descriptor = some (.video d) → d.source = rx →
    let o := exec (.linePacket rx (packetBytes .line (BitVec.ofNat 8 t.val) n x c payload)) s
    let failed := exec (.linePacket rx
      ((packetBytes .line (BitVec.ofNat 8 t.val) n x c payload).take (8 + payload.length) ++ crc)) s
    let p := s.port rx
    let trailed := fun (f : FrameContext) => if payload.length % f.format.unitBytes = 0 then s else
      s.setLink rx.link { s.link rx.link with trail := bump (s.link rx.link).trail }
    let pixels := fun (f : FrameContext) =>
      (payload.take (payload.length / f.format.unitBytes * f.format.unitBytes)).take ((f.width - x) * f.format.bytesPerPixel);
    ((s.tag t).frame = none →
      o = .next (s.setPort rx { p with counters := { p.counters with orphan := bump p.counters.orphan } })) ∧
    (∀ f, (s.tag t).frame = some f → f.buffer = none → o = .next s) ∧
    (∀ f k, (s.tag t).frame = some f → f.buffer = some k →
      (f.height ≤ n ∨ f.width ≤ x ∨ (f.format = .ycbcr422 ∧ x % 2 = 1) →
        o = .next (s.setPort rx { p with counters := { p.counters with limit := bump p.counters.limit } })) ∧
      (n < f.height → x < f.width → (f.format = .ycbcr422 → x % 2 = 0) →
        (pixels f = [] → o = .next (trailed f)) ∧
        (pixels f ≠ [] → p.staging.length < 4 →
          o = .next (((trailed f).setPort rx { p with staging := p.staging ++ [{
              tag := t, live := true, bytes := pixels f,
              address := (s.ring f.ring).base + k * (s.ring f.ring).stride
                + (n * f.width + x) * f.format.bytesPerPixel }] }).setTag t { s.tag t with frame := some { f with
                marks := f.marks.modify n fun m => if m = .unseen then .written else m } })) ∧
        (pixels f ≠ [] → 4 ≤ p.staging.length →
          o = .next (((trailed f).setPort rx { p with
              counters := { p.counters with overflow := bump p.counters.overflow } }).setTag t
            { s.tag t with frame := some { f with marks := f.marks.modify n fun _ => .damaged } })) ∧
        (payload ≠ [] → crc.length = 4 → crc ≠ beBytes 4 (crc32 payload).toNat →
          failed = .next ((s.setLink rx.link { s.link rx.link with
              payErr := bump (s.link rx.link).payErr }).setTag t
            { s.tag t with frame := some { f with marks := f.marks.modify n fun _ => .damaged } }))) ∧
      (payload = [] → pixels f = [] ∧ trailed f = s) ∧
      (payload.length % f.format.unitBytes = 0 → payload.length ≤ (f.width - x) * f.format.bytesPerPixel →
        pixels f = payload ∧ trailed f = s))

/-- R58's write completion, read byte by byte. The fault for a line outside the frame memory, which R62 and R63 let no
line of a run be, is the model's choice (log entry 54). -/
def Obligations.LineWriteCompletionWritesTheLine : Prop :=
  ∀ (rx : VideoRx) (l : StagedLine) (rest : List StagedLine) (s : State),
    ((s.port rx).staging = l :: rest → l.address + l.bytes.length ≤ 134217728 →
      ∃ m, exec (.lineWriteCompletion rx) s =
          .next ({ s with mem := m }.setPort rx { s.port rx with staging := rest }) ∧
        (∀ i b, l.bytes[i]? = some b → Memory.read m (l.address + i) = b) ∧
        (∀ a, a < l.address ∨ l.address + l.bytes.length ≤ a → Memory.read m a = Memory.read s.mem a)) ∧
    ((s.port rx).staging = [] → exec (.lineWriteCompletion rx) s = .next s) ∧
    ((s.port rx).staging = l :: rest → 134217728 < l.address + l.bytes.length →
      exec (.lineWriteCompletion rx) s = .fault (.frameMemoryRange l.address))

/-- R64, R67 and R68 for every command, event and tick, and R70's conservation as long as a tag's counters are not
cleared and its FRAME_IN has not reached its greatest value. -/
def Obligations.EveryStepKeepsTheRings : Prop :=
  ∀ (s u : State) (t : Fin 32), step s = .next u →
    (RingsLawful s → RingsLawful u) ∧
    (FramesBalanced t s → (s.tag t).counters.frameIn < 4294967295 →
      FramesBalanced t u ∨ (u.tag t).counters = .zero)

/-- R61. That a packet with a failed payload counts TRAIL too, when its bytes are no whole number of sample frames, is the
model's inference (log entry 24). -/
def Obligations.AudioPacketFillsTheZones : Prop :=
  ∀ (t : Fin 32) (c : Byte) (a b : Nat) (payload crc : List Byte) (d : AudioDescriptor) (s : State),
    s.links.downlink.state = .up → s.links.downlink.assembler = .assembling → a < 65536 → b < 65536 →
    payload.length ≤ 3840 → t ≠ 0 → (s.tag t).descriptor = some (.audio d) →
    let size := if d.stereo then 4 else 2
    let counted := fun (u : State) => u.setTag t { u.tag t with
      counters := { (u.tag t).counters with audioIn := bump (u.tag t).counters.audioIn } }
    let trailed := fun (u : State) => if payload.length % size = 0 then u else
      { u with links.downlink.trail := bump u.links.downlink.trail }
    let placed := fun (frames : List StereoFrame) (u : State) =>
      let v := if d.seatL then placeFrames .seatL frames u else u
      if d.seatR then placeFrames .seatR frames v else v
    let frames := (List.range (payload.length / size)).map fun i =>
      let sample := fun j => (payload.getD j 0#8 ++ payload.getD (j + 1) 0#8).toInt;
      ({ left := sample (size * i), right := sample (size * i + if d.stereo then 2 else 0) } : StereoFrame)
    exec (.audioPacket (packetBytes .audio (BitVec.ofNat 8 t.val) a b c payload)) s =
      .next (placed frames (counted (trailed s))) ∧
    (payload ≠ [] → crc.length = 4 → crc ≠ beBytes 4 (crc32 payload).toNat →
      exec (.audioPacket ((packetBytes .audio (BitVec.ofNat 8 t.val) a b c payload).take (8 + payload.length) ++ crc)) s =
        .next (placed (List.replicate (payload.length / size) { left := 0, right := 0 })
          (counted (trailed { s with links.downlink.payErr := bump s.links.downlink.payErr }))))

/-- R74 and R75. -/
def Obligations.PanelWakeAndSleepCommands : Prop :=
  ∀ (mark : Byte) (n : Nat) (s : State), Running s →
    (3 ≤ n → exec (.panelWake mark n) s = .next (replied mark 11 .param [] s) ∧
      exec (.panelSleep mark n) s = .next (replied mark 12 .param [] s)) ∧
    (∀ p, panel? n = some p →
      let r := s.panel p;
      (r.power = .off ∨ r.power = .active → exec (.panelWake mark n) s =
        .next (replied mark 11 .ok [] (s.setPanel p { r with requestActive := true }))) ∧
      (r.power = .waking → exec (.panelWake mark n) s =
        .next (replied mark 11 .ok [] (s.setPanel p { r with requestActive := true, transition := .none }))) ∧
      (r.power = .dozing → exec (.panelWake mark n) s =
        .next (replied mark 11 .ok [] (s.setPanel p { r with requestActive := true, transition := .wake }))) ∧
      (r.power = .sleep → ∃ t, exec (.panelWake mark n) s = .next (replied mark 11 .ok [] t) ∧
        (t.panel p).requestActive = true ∧ (t.panel p).power = .waking ∧ (t.panel p).transition = .none ∧
        (t.panel p).blankEnded = 0 ∧ (t.panel p).frame.isSome = true ∧
        (t.panel p).activeList = r.pendingList ∧ (t.panel p).pendingList = r.pendingList ∧ t.mem = s.mem) ∧
      (p = .front → s.takeover.phase ≠ .idle → exec (.panelSleep mark n) s =
        .next (replied mark 12 .ok [] (s.setPanel p { r with requestActive := false }))) ∧
      (p ≠ .front ∨ s.takeover.phase = .idle →
        (r.power = .off ∨ r.power = .sleep → exec (.panelSleep mark n) s =
          .next (replied mark 12 .ok [] (s.setPanel p { r with requestActive := false }))) ∧
        (r.power = .waking → exec (.panelSleep mark n) s =
          .next (replied mark 12 .ok [] (s.setPanel p { r with requestActive := false, transition := .sleep }))) ∧
        (r.power = .dozing → exec (.panelSleep mark n) s =
          .next (replied mark 12 .ok [] (s.setPanel p { r with requestActive := false, transition := .none }))) ∧
        (r.power = .active → (s.link p.link).state = .up → exec (.panelSleep mark n) s =
          .next (replied mark 12 .ok [] { s.setPanel p { r with
            requestActive := false, power := .dozing, blankEnded := 0, outBacklight := 0 } with
            out := .backlight p 0 :: s.out }))))

/-- R79 and R80. R71 and R91; the layout of PANEL_READ's report, where R185 leaves it open, is the model's choice (log entry
13). -/
def Obligations.PanelValueCommands : Prop :=
  (∀ (mark : Byte) (n level : Nat) (s : State), Running s →
    (3 ≤ n → exec (.panelBlank mark n) s = .next (replied mark 13 .param [] s) ∧
      exec (.panelShow mark n) s = .next (replied mark 14 .param [] s)) ∧
    (3 ≤ n ∨ 101 ≤ level → exec (.panelLevel mark n level) s = .next (replied mark 15 .param [] s)) ∧
    (∀ p, panel? n = some p →
      let r := s.panel p
      exec (.panelBlank mark n) s = .next (replied mark 13 .ok [] (s.setPanel p { r with blanked := true })) ∧
      exec (.panelShow mark n) s = .next (replied mark 14 .ok [] (s.setPanel p { r with blanked := false })) ∧
      (level ≤ 100 → r.power ≠ .active ∨ r.level = level → exec (.panelLevel mark n level) s =
        .next (replied mark 15 .ok [] (s.setPanel p { r with level := level }))) ∧
      (level ≤ 100 → r.power = .active → r.level ≠ level → (s.link p.link).state = .up →
        exec (.panelLevel mark n level) s = .next (replied mark 15 .ok []
          { s.setPanel p { r with level := level, outBacklight := level } with
            out := .backlight p level :: s.out })))) ∧
    (∀ (mark : Byte) (q : PanelSetParams) (n : Nat) (s : State),
    (Running s →
      (3 ≤ q.panel ∨ q.width < 16 ∨ 1280 < q.width ∨ q.height < 16 ∨ 800 < q.height ∨ q.rate < 30 ∨ 60 < q.rate ∨
          2 ≤ q.mirrorX ∨ 2 ≤ q.mirrorY → exec (.panelSet mark q) s = .next (replied mark 10 .param [] s)) ∧
      (∀ p mx my, panel? q.panel = some p → flag? q.mirrorX = some mx → flag? q.mirrorY = some my →
        16 ≤ q.width → q.width ≤ 1280 → 16 ≤ q.height → q.height ≤ 800 → 30 ≤ q.rate → q.rate ≤ 60 →
        let r := s.panel p
        let t := s.setPanel p { r with
          width := q.width, height := q.height, rate := q.rate, mirrorX := mx, mirrorY := my, background := q.background }
        let quiet := r.power = .sleep ∨ r.power = .off;
        (q.width = r.width → q.height = r.height → q.rate = r.rate ∨ quiet →
          exec (.panelSet mark q) s = .next (replied mark 10 .ok [] t)) ∧
        (q.width ≠ r.width ∨ q.height ≠ r.height → quiet →
          exec (.panelSet mark q) s = .next (replied mark 10 .ok [] (requestRenders (match p with
            | .front => if s.takeover.phase = .idle then [] else [.takeover]
            | .left => [.menuL]
            | .right => [.menuR]) t))) ∧
        (q.width ≠ r.width ∨ q.height ≠ r.height ∨ q.rate ≠ r.rate → ¬ quiet →
          exec (.panelSet mark q) s = .next (replied mark 10 .busy [] s)))) ∧
    (interpreterFree s = true →
      (3 ≤ n → exec (.panelRead mark n) s = .next (replied mark 18 .param [] s)) ∧
      (∀ p, panel? n = some p →
        let r := s.panel p
        let record := u16 r.width ++ u16 r.height ++ u8 r.rate ++ [boolByte r.mirrorX, boolByte r.mirrorY] ++
          rgbBytes r.background ++ u8 r.level ++ [boolByte r.blanked, boolByte (!r.requestActive)] ++
          u8 r.power.code ++ u8 r.transition.code ++ u8 r.blankEnded ++ u8 r.outBacklight
        let buffer := optionBytes fun (h : Hold) => u8 h.buffer
        let held := r.activeList.flatMap fun l => match l.source with
          | .ring _ => buffer (r.hold l.id)
          | _ => []
        exec (.panelRead mark n) s = .next (replied mark 18 .ok (record ++ u8 (s.link p.link).state.code ++
          listBytes Layer.bytes r.pendingList ++ listBytes Layer.bytes r.activeList ++ held ++
          (if p = .front then buffer s.takeover.cameraHold else [])) s))))

/-- R82 to R84: the layer records of R82 and section 4.4, the edits of the pending list, with the placements spelled out for
a list whose ids differ. That a fill colour comes with FILL and with no other source (log entry 16), and that an argument
which a source or a placement has no use for may hold any value (log entry 31), are the model's choices. -/
def Obligations.LayerListCommands : Prop :=
  ∀ (mark : Byte) (q : LayerSetParams) (n id : Nat) (s : State), Running s →
    (3 ≤ q.panel → exec (.layerSet mark q) s = .next (replied mark 16 .param [] s)) ∧
    (∀ p, panel? q.panel = some p →
      let r := s.panel p;
      (layerRecord? p q = none ∨ placement? q.placement q.placementArg = none →
        exec (.layerSet mark q) s = .next (replied mark 16 .param [] s)) ∧
      (∀ l pl, layerRecord? p q = some l → placement? q.placement q.placementArg = some pl →
        (ringShown r.pendingList l = false → placementOk r.pendingList l pl = true →
          exec (.layerSet mark q) s =
            .next (replied mark 16 .ok [] (s.setPanel p { r with pendingList := placeLayer r.pendingList l pl }))) ∧
        (ringShown r.pendingList l = true ∨ placementOk r.pendingList l pl = false →
          exec (.layerSet mark q) s = .next (replied mark 16 .param [] s)))) ∧
    (∀ (p : Panel) (l : Layer), layerRecord? p q = some l ↔
      l = { id := l.id, source := l.source, x := q.x, y := q.y, w := q.w, h := q.h, alpha := q.alpha,
            visible := decide (q.visible = 1), persist := decide (q.persist = 1) } ∧ q.layer = l.id.val ∧
        ((∃ k : Fin 8, l.source = .ring k ∧ q.source = 0 ∧ q.sourceArg = k.val ∧ q.fill = .absent) ∨
         (l.source = .menu ∧ p ≠ .front ∧ q.source = 1 ∧ q.fill = .absent) ∨
         (∃ c, l.source = .fill c ∧ q.source = 2 ∧ q.fill = .present c)) ∧
        -1280 ≤ q.x ∧ q.x ≤ 1279 ∧ -800 ≤ q.y ∧ q.y ≤ 799 ∧ 1 ≤ q.w ∧ q.w ≤ 2560 ∧ 1 ≤ q.h ∧ q.h ≤ 1600 ∧
        q.alpha ≤ 255 ∧ q.visible ≤ 1 ∧ q.persist ≤ 1 ∧ (q.persist = 1 → p = .front)) ∧
    (∀ (code argument : Nat) (pl : Placement), placement? code argument = some pl ↔
      (code, pl) ∈ [(0, .keep), (1, .top), (2, .bottom), (3, .above argument)]) ∧
    (∀ (ls : List Layer) (l : Layer) (pl : Placement),
      (ringShown ls l = true ↔ ∃ k, l.source = .ring k ∧ ∃ x ∈ ls, x.id ≠ l.id ∧ x.source = .ring k) ∧
      (placementOk ls l pl = false ↔ ∃ m, pl = .above m ∧ (m = l.id.val ∨ ∀ x ∈ ls, x.id.val ≠ m)) ∧
      (let others := ls.filter fun x => x.id ≠ l.id;
        placeLayer ls l .top = others ++ [l] ∧ placeLayer ls l .bottom = l :: others ∧
        ((∀ x ∈ ls, x.id ≠ l.id) → placeLayer ls l .keep = ls ++ [l]) ∧
        (∀ before x after, ls = before ++ x :: after → x.id = l.id → (∀ y ∈ before ++ after, y.id ≠ l.id) →
          placeLayer ls l .keep = before ++ l :: after) ∧
        (∀ before x after, others = before ++ x :: after → (∀ y ∈ before, y.id ≠ x.id) →
          placeLayer ls l (.above x.id.val) = before ++ x :: l :: after))) ∧
    (3 ≤ n ∨ (6 ≤ id ∧ id ≠ 255) → exec (.layerClear mark n id) s = .next (replied mark 17 .param [] s)) ∧
    (∀ p, panel? n = some p →
      (id ≤ 5 → exec (.layerClear mark n id) s = .next (replied mark 17 .ok [] (s.setPanel p { s.panel p with
        pendingList := (s.panel p).pendingList.filter fun l => l.id.val ≠ id }))) ∧
      exec (.layerClear mark n 255) s =
        .next (replied mark 17 .ok [] (s.setPanel p { s.panel p with pendingList := [] })))

/-- R73, R76 and R77. What the END_OF_FRAME puts out is the whole frame, made at that moment from the frame memory with the
lines that still stand in the staging slots counted as written: the model's choice (log entries 9 and 10). So is the
order in which they are written where lines of both receivers wait for the same bytes (log entry 79). Its pixels are those
of `FrameStartFixesTheFrame`, of the surfaces that the camera view lets through as it stands at this event, or, with the
phase IDLE again, as it stood at the frame start: R23 has the camera window black from the view entering LIVE on, and which
view the rows put out before it follow is the model's choice (log entry 83). -/
def Obligations.EndOfFramePowerRules : Prop :=
  ∀ (p : Panel) (f : FrameInProgress) (s : State),
    let r := s.panel p
    let view := if s.takeover.phase = .idle then f.view else s.takeover.view
    let shown := { f with surfaces := f.surfaces.filter fun u => match u.shows with
      | .always => true
      | .inLive => decide (view = .live)
      | .outOfLive => decide (view ≠ .live) }
    let lines := (s.streams.downlink.staging ++ s.streams.camera.staging).filter fun l => !l.live
    let settled := lines.foldl (fun m l => Memory.writeBlock m l.address l.bytes) s.mem
    let rows := (List.range f.height).map fun y => (List.range f.width).map fun x => outputPixel settled shown x y
    let s1 : State := { s with out := .frame p rows :: s.out }
    let ended := if f.blank then r.blankEnded + 1 else r.blankEnded;
    (r.frame = none → exec (.endOfFrame p) s = .next s) ∧
    (r.frame = some f →
      (r.power = .active → exec (.endOfFrame p) s = .next (frameStart p s1)) ∧
      (r.power = .waking ∧ ended < 3 ∨ r.power = .dozing ∧ ended < 2 →
        exec (.endOfFrame p) s = .next (frameStart p (s1.setPanel p { r with blankEnded := ended }))) ∧
      (r.power = .waking → 3 ≤ ended → r.transition = .sleep →
        exec (.endOfFrame p) s =
          .next (frameStart p (s1.setPanel p { r with power := .dozing, blankEnded := 0, transition := .none }))) ∧
      (r.power = .waking → 3 ≤ ended → r.transition ≠ .sleep → ∃ t, exec (.endOfFrame p) s = .next t ∧
        (t.panel p).power = .active ∧ (t.panel p).outBacklight = r.level ∧ (t.panel p).transition = .none ∧
        t.out = (if (s.link p.link).state = .up then .backlight p r.level :: s1.out else s1.out) ∧
        ∃ g, (t.panel p).frame = some g ∧ g.blank = false) ∧
      (r.power = .dozing → 2 ≤ ended → r.transition ≠ .wake → ∃ t, exec (.endOfFrame p) s = .next t ∧
        (t.panel p).power = .sleep ∧ (t.panel p).transition = .none ∧ (t.panel p).frame = none ∧ t.out = s1.out ∧
        (∀ id : Fin 6, (t.panel p).hold id = none) ∧ (p = .front → t.takeover.cameraHold = none)) ∧
      (r.power = .dozing → 2 ≤ ended → r.transition = .wake → ∃ t, exec (.endOfFrame p) s = .next t ∧
        (t.panel p).power = .waking ∧ (t.panel p).blankEnded = 0 ∧ (t.panel p).transition = .none ∧ t.out = s1.out ∧
        ∃ g, (t.panel p).frame = some g ∧ g.blank = true))

/-- R85 to R90 with the takeover composition of R22 and R23: the readers' pick-ups, the surfaces that a frame start fixes,
and the pixels that are composed of them. A takeover frame holds the surfaces of every view, each with the views it is
composed in, and the view it starts in: `EndOfFramePowerRules` says which of them are put out (log entry 83, the model's
choice). That the camera layer keeps the buffer it holds while the camera ring's latest is none, also where that buffer
belongs to another ring, is the model's choice (log entry 49, an inference). -/
def Obligations.FrameStartFixesTheFrame : Prop :=
  (∀ (p : Panel) (s : State),
    let r := s.panel p
    let t := frameStart p s
    let plane := fun (q : Plane) => (t.plane q).frontSize.map fun z =>
      SurfaceSource.plane (planeBuffer q (t.plane q).frontOne) z.width z.height
    let picture := fun (h : Hold) => (t.ring h.ring).buffers[h.buffer]?.map fun b =>
      SurfaceSource.picture ((t.ring h.ring).base + h.buffer * (t.ring h.ring).stride) b.width b.height b.format
    let source := fun (l : Layer) => match l.source with
      | .fill c => some (SurfaceSource.fill c)
      | .ring _ => ((t.panel p).hold l.id).bind picture
      | .menu => match p with
        | .front => none
        | .left => if s.menu.left.isOpen then plane .menuL else none
        | .right => if s.menu.right.isOpen then plane .menuR else none
    let shown := fun (l : Layer) => if l.visible then (source l).map fun src =>
      ({ x := l.x, y := l.y, w := l.w, h := l.h, alpha := l.alpha, mirror := false, source := src, shows := .always } : Surface) else none
    let c := s.takeover.camera
    let window := fun (src : SurfaceSource) =>
      ({ x := c.x, y := c.y, w := c.w, h := c.h, alpha := 255, mirror := c.mirror, source := src, shows := .inLive } : Surface)
    let graphic := fun (src : SurfaceSource) =>
      ({ x := 0, y := 0, w := r.width, h := r.height, alpha := 255, mirror := false, source := src, shows := .outOfLive } : Surface)
    let stay := (r.pendingList.filter fun l =>
      l.persist && !windowsMeet r.width r.height l.x l.y l.w l.h c.x c.y c.w c.h).filterMap shown;
    (t.panel p).activeList = r.pendingList ∧ (t.panel p).pendingList = r.pendingList ∧
    (t.panel p).width = r.width ∧ (t.panel p).height = r.height ∧ (t.panel p).power = r.power ∧
    (t.panel p).level = r.level ∧ (t.panel p).blanked = r.blanked ∧ t.mem = s.mem ∧
    (∃ f, (t.panel p).frame = some f ∧ f.width = r.width ∧ f.height = r.height ∧ f.mirrorX = r.mirrorX ∧
      f.mirrorY = r.mirrorY ∧ (f.blank = true ↔ r.power ≠ .active) ∧
      (p ≠ .front ∨ s.takeover.phase = .idle → f.background = r.background ∧ f.blanked = r.blanked ∧
        f.surfaces = r.pendingList.filterMap shown) ∧
      (p = .front → s.takeover.phase ≠ .idle → f.background = ⟨0, 0, 0⟩ ∧ f.blanked = false ∧
        f.view = s.takeover.view ∧
        f.surfaces = (t.takeover.cameraHold.bind picture).toList.map window ++
          (if s.guide.rowTable = [] ∨ s.guide.bandTable = [] ∨ s.guide.settings.mode = .off then []
            else (plane .guide).toList.map window) ++ (plane .takeover).toList.map graphic ++ stay)) ∧
    (∀ (id : Fin 6) (h : Hold), (t.panel p).hold id = some h →
      ∃ l ∈ r.pendingList, l.id = id ∧ l.source = .ring h.ring) ∧
    (∀ l n k, (r.pendingList.map (·.id)).Nodup → l ∈ r.pendingList → l.source = .ring n → (s.ring n).latest = some k →
      (t.panel p).hold l.id = some { ring := n, buffer := k }) ∧
    (∀ l n, (r.pendingList.map (·.id)).Nodup → l ∈ r.pendingList → l.source = .ring n → (s.ring n).latest = none →
      (∀ h, r.hold l.id = some h → h.ring = n → (t.panel p).hold l.id = some h) ∧
      ((∀ h, r.hold l.id = some h → h.ring ≠ n) → (t.panel p).hold l.id = none)) ∧
    (∀ n, p = .front → s.takeover.phase ≠ .idle → cameraRing s = some n → (s.ring n).latest = none →
      t.takeover.cameraHold = s.takeover.cameraHold) ∧
    (p = .front → s.takeover.phase ≠ .idle → cameraRing s = none → t.takeover.cameraHold = none) ∧
    (p = .front → s.takeover.phase = .idle → t.takeover.cameraHold = none) ∧
    (∀ n k, p = .front → s.takeover.phase ≠ .idle → cameraRing s = some n → (s.ring n).latest = some k →
      t.takeover.cameraHold = some { ring := n, buffer := k }) ∧
    (∀ q ∈ ownedPlanes p, (t.plane q).frontOne =
      (if (s.plane q).back = .done then !(s.plane q).frontOne else (s.plane q).frontOne)) ∧
    (∀ (width height : Nat) (x1 y1 w1 h1 x2 y2 w2 h2 : Int), windowsMeet width height x1 y1 w1 h1 x2 y2 w2 h2 = true ↔
      ∃ x y : Int, (0 ≤ x ∧ x < width ∧ 0 ≤ y ∧ y < height) ∧ (x1 ≤ x ∧ x < x1 + w1 ∧ y1 ≤ y ∧ y < y1 + h1) ∧
        (x2 ≤ x ∧ x < x2 + w2 ∧ y2 ≤ y ∧ y < y2 + h2))) ∧
  (∀ (m : List Host.Cell) (f : FrameInProgress) (below : List Surface) (u : Surface) (x y g : Nat) (X Y : Int)
      (l : Sample) (under : Rgb),
    let inside := u.x ≤ X ∧ X < u.x + u.w ∧ u.y ≤ Y ∧ Y < u.y + u.h
    let a := (g * l.p + 127) / 255
    let byte := fun (n : Nat) => (Memory.read m n).toNat
    let row := fun (height : Nat) => (Y - u.y).toNat * height / u.h
    let col := fun (width : Nat) =>
      let i := (X - u.x).toNat * width / u.w
      if u.mirror then width - 1 - i else i
    let luma := fun (z : Int) => (max 0 (min 255 (z / 256))).toNat;
    (f.blank = true ∨ f.blanked = true → outputPixel m f x y = ⟨0, 0, 0⟩) ∧
    (f.blank = false → f.blanked = false → outputPixel m f x y = composedPixel m f
      ((if f.mirrorX then f.width - 1 - x else x : Nat) : Int) ((if f.mirrorY then f.height - 1 - y else y : Nat) : Int)) ∧
    composedPixel m { f with surfaces := [] } X Y = f.background ∧
    (inside → composedPixel m { f with surfaces := below ++ [u] } X Y =
      blendSample u.alpha (surfaceSample m u X Y) (composedPixel m { f with surfaces := below } X Y)) ∧
    (¬ inside → composedPixel m { f with surfaces := below ++ [u] } X Y =
      composedPixel m { f with surfaces := below } X Y) ∧
    (g ≤ 255 → l.p ≤ 255 → l.r ≤ 255 → l.g ≤ 255 → l.b ≤ 255 →
      (blendSample g l under).r.toNat = (a * l.r + (255 - a) * under.r.toNat + 127) / 255 ∧
      (blendSample g l under).g.toNat = (a * l.g + (255 - a) * under.g.toNat + 127) / 255 ∧
      (blendSample g l under).b.toNat = (a * l.b + (255 - a) * under.b.toNat + 127) / 255) ∧
    (∀ c, u.source = .fill c → surfaceSample m u X Y = ⟨c.r.toNat, c.g.toNat, c.b.toNat, 255⟩) ∧
    (∀ base width height, inside → u.source = .plane base width height →
      let n := base + (row height * width + col width) * 4
      surfaceSample m u X Y = ⟨byte (n + 1), byte (n + 2), byte (n + 3), byte n⟩) ∧
    (∀ base width height, inside → u.source = .picture base width height .rgb888 →
      let n := base + (row height * width + col width) * 3
      surfaceSample m u X Y = ⟨byte n, byte (n + 1), byte (n + 2), 255⟩) ∧
    (∀ base width height, inside → u.source = .picture base width height .rgb565 →
      let n := base + (row height * width + col width) * 2
      let v := byte n * 256 + byte (n + 1)
      surfaceSample m u X Y = ⟨(v / 2048 * 255 + 15) / 31, (v / 32 % 64 * 255 + 31) / 63, (v % 32 * 255 + 15) / 31, 255⟩) ∧
    (∀ base width height, inside → u.source = .picture base width height .ycbcr422 →
      let n := base + (row height * width + (col width - col width % 2)) * 2
      let v : Int := 298 * ((byte (n + 2 * (col width % 2)) : Int) - 16)
      let cb : Int := (byte (n + 1) : Int) - 128
      let cr : Int := (byte (n + 3) : Int) - 128
      surfaceSample m u X Y =
        ⟨luma (v + 409 * cr + 128), luma (v - 100 * cb - 208 * cr + 128), luma (v + 516 * cb + 128), 255⟩))

/-- R94's request set, R95's order of service and what a render reads at its start, what each plane's render draws (R41 to
R47 for GUIDE over R39's record, R43's bands among them, R104 for TAKEOVER, R116 for a menu plane, with the boxes of R103), the pixels that a drawing
operation sets, and R96's completion with the places of R93, at which a glyph load that waited for it issues its first page
read (R101). That FALLBACK_GLYPH is counted at the completion, boxes clipped
away included, is the model's inference (log entry 28). Its choices: that the requests which one rule makes together set all
their flags before the idle engine takes one (log entry 15), and that the back buffer's bytes are written at the completion, all of them
(log entry 74), and that a row entry for which the record holds no column draws no line, no marker bar and no stop bar (log entry 14). -/
def Obligations.RenderCompletionDrawsThePlane : Prop :=
  (∀ (r : Render) (s : State), r.width ≤ 1280 → r.height ≤ 800 →
    (s.raster.inFlight = none → exec .renderCompletion s = .next s) ∧
    (s.raster.inFlight = some r →
      let q := (s.plane r.plane).completed { width := r.width, height := r.height }
      let boxes := min (s.raster.fallbackGlyph + r.ops.countP DrawOp.isBox) 4294967295
      let token := s.store.nextToken
      ∃ m, (let drawn := { s with mem := m, raster.inFlight := none, raster.fallbackGlyph := boxes }.setPlane r.plane q;
          ((∀ l, s.raster.load = some l → l.token.isSome = true) → exec .renderCompletion s = .next (engineTake drawn)) ∧
          (∀ l, s.raster.load = some l → l.token = none → exec .renderCompletion s =
            .next (engineTake (issueAssetRead (.glyph token) s.raster.glyphSet l.generation l.page { drawn with
              store.nextToken := token + 1, raster.load := some { l with token := some token } })))) ∧
        (let base := planeBuffer r.plane (!(s.plane r.plane).frontOne);
          (∀ x y, x < r.width → y < r.height →
            readArgbAt m (base + (y * r.width + x) * 4) = planePixel s.mem r.ops x y) ∧
          (∀ a, a < base ∨ base + r.width * r.height * 4 ≤ a → Memory.read m a = Memory.read s.mem a))) ∧
    (∀ (d : DrawnSize) (q : PlaneRecord), (q.completed d).back = .done ∧ (q.completed d).frontOne = q.frontOne ∧
      (q.completed d).frontSize = q.frontSize ∧ (q.completed d).requested = q.requested ∧
      (if q.frontOne then (q.completed d).drawn0 else (q.completed d).drawn1) = some d)) ∧
  (∀ (m : List Host.Cell) (ops : List DrawOp) (op : DrawOp) (X Y x y w h : Int) (code : Nat) (c : Argb),
    let inside := fun (w h : Int) => x ≤ X ∧ X < x + w ∧ y ≤ Y ∧ Y < y + h
    let col := (X - x).toNat
    let row := (Y - y).toNat
    let pixel := readArgbAt m (132120576 + 10752 + (code - 224) * 9216 + (row * 48 + col) * 4)
    let ink := (Memory.read m (132120576 + code * 48 + row * 2 + col / 8)).getMsbD (col % 8);
    (planePixel m (ops ++ [op]) X Y = (match op.colourAt m X Y with | some c => c | none => planePixel m ops X Y) ∧
      planePixel m [] X Y = ⟨0, 0, 0, 0⟩) ∧
    ((DrawOp.rect x y w h c).colourAt m X Y = if inside w h then some c else none) ∧
    ((DrawOp.glyph x y code c).colourAt m X Y = if inside 16 24 ∧ ink = true then some c else none) ∧
    ((DrawOp.icon x y code).colourAt m X Y = if inside 48 48 ∧ pixel.a ≠ 0 then some pixel else none) ∧
    ((DrawOp.box x y w h c).colourAt m X Y =
      if inside w h ∧ (Y = y ∨ Y = y + h - 1 ∨ X = x ∨ X = x + w - 1) then some c else none)) ∧
  (∀ (s : State) (ps : List Plane) (p : Plane),
    let x := s.raster
    let asked := fun (q : Plane) => if q ∈ ps then { s.plane q with requested := true } else s.plane q
    let first := match p with
      | .guide => x.guide.requested = true
      | .takeover => x.guide.requested = false ∧ x.takeover.requested = true
      | .menuL => x.guide.requested = false ∧ x.takeover.requested = false ∧ x.menuL.requested = true ∧
        (x.menuR.requested = true → x.lastSeat = .right)
      | .menuR => x.guide.requested = false ∧ x.takeover.requested = false ∧ x.menuR.requested = true ∧
        (x.menuL.requested = true → x.lastSeat = .left);
    requestRenders ps s = engineTake { s with
      raster.guide := asked .guide, raster.takeover := asked .takeover, raster.menuL := asked .menuL,
      raster.menuR := asked .menuR } ∧
    (x.inFlight ≠ none ∨ (∀ q, (s.plane q).requested = false) → engineTake s = s) ∧
    (x.inFlight = none → first → engineTake s =
      { s.setPlane p { s.plane p with requested := false, back := .drawing } with
        raster.inFlight := some (renderOf p s),
        raster.lastSeat := match p with
          | .menuL => .left
          | .menuR => .right
          | .guide => x.lastSeat
          | .takeover => x.lastSeat })) ∧
  (∀ (s : State) (k : Seat) (p : Plane),
    let loaded : Bool := s.raster.cache = .loaded
    let text := fun (x y : Int) (codes : List Nat) (c : Argb) => codes.mapIdx fun n code =>
      if loaded then DrawOp.glyph (x + 16 * n) y code c else .box (x + 16 * n) y 16 24 c
    let seat := s.seat k
    let t := seat.settings
    let rowAt := fun (n : Nat) => (t.y : Int) + n * t.rowHeight
    let line := fun (n : Nat) (icon : Option Nat) (codes : List Nat) (c : Argb) =>
      let top := rowAt n + ((t.rowHeight : Int) - 24) / 2
      let iconTop := rowAt n + ((t.rowHeight : Int) - 48) / 2
      match icon with
      | none => text (t.x + 8) top codes c
      | some code => (if loaded then .icon (t.x + 8) iconTop code else .box (t.x + 8) iconTop 48 48 t.text)
          :: text (t.x + 64) top codes c
    let menu := renderOf k.plane s
    let graphic := renderOf .takeover s
    let width : Int := s.panels.front.width
    let height : Int := s.panels.front.height
    let message := fun (q : Message) =>
      if loaded then
        [DrawOp.rect 0 0 width height ⟨255, 0, 0, 0⟩, .icon ((width - 48) / 2) (height / 2 - 56) q.icon] ++
          text ((width - 16 * q.text.length) / 2) (height / 2 + 8) q.text ⟨255, 255, 255, 255⟩
      else [DrawOp.rect 0 0 width height ⟨255, 96, 96, 96⟩];
    ((renderOf p s).plane = p ∧ (renderOf p s).usesCache = loaded) ∧
    (menu.width = (s.panel k.panel).width ∧ menu.height = (s.panel k.panel).height ∧
      (seat.isOpen = false ∨ s.page seat.currentPage = none → menu.ops = []) ∧
      (∀ q, seat.isOpen = true → s.page seat.currentPage = some q → menu.ops =
        [.rect t.x t.y t.width ((q.items.length + 1) * t.rowHeight) t.background,
          .rect t.x (rowAt (seat.highlight + 1)) t.width t.rowHeight t.highlight] ++ line 0 none q.title t.text ++
        (q.items.mapIdx fun i x => line (i + 1) x.icon x.label (if x.enabled then t.text else t.disabled)).flatten)) ∧
    (graphic.width = s.panels.front.width ∧ graphic.height = s.panels.front.height ∧
      (s.takeover.phase = .idle ∨ s.takeover.view = .live → graphic.ops = []) ∧
      (s.takeover.phase ≠ .idle → s.takeover.view = .waiting → graphic.ops = message s.takeover.settings.starting) ∧
      (s.takeover.phase ≠ .idle → s.takeover.view = .lost ∨ s.takeover.view = .frozen →
        graphic.ops = message s.takeover.settings.unavailable))) ∧
  (∀ (s : State) (r : GeometryRecord), s.guide.record = some r →
    let rows := s.guide.rowTable
    let band := fun (e : RowEntry) =>
      if r.height ≤ e.v then none else (s.guide.bandTable.find? fun b => decide (e.d < b.limit)).map (·.colour)
    let line := fun (faded : Bool) (xs : List Int) => (List.range (rows.length - 1)).flatMap fun i =>
      match rows[i]?, rows[i + 1]?, xs[i]?, xs[i + 1]? with
      | some e0, some e1, some x0, some x1 =>
        match band e0 with
        | none => []
        | some c => (List.range (e0.v - e1.v)).map fun n =>
          let v : Int := (e1.v : Int) + 1 + n
          let x := x0 + nearestDiv ((x1 - x0) * ((e0.v : Int) - v)) ((e0.v : Int) - e1.v)
          DrawOp.rect (x - ((e0.w - 1) / 2 : Nat)) v e0.w 1 (if faded then { c with a := BitVec.ofNat 8 (c.a.toNat / 2) } else c)
      | _, _, _, _ => []
    let bar := fun (cols : Columns) (bottom : Int) (h : Nat) (c : Argb) =>
      DrawOp.rect (min cols.left cols.right) (bottom - h + 1)
        (max cols.left cols.right - min cols.left cols.right + 1) h c
    let marked := fun (cols : List Columns) => (List.range rows.length).flatMap fun i =>
      match rows[i]?, cols[i]? with
      | some e, some x =>
        match band e with
        | none => []
        | some c => if e.marker then [bar x e.v e.w c] else []
      | _, _ => []
    let stop := match r.stopBar, s.guide.bandTable with
      | some b, c :: _ => [bar b.columns b.row 4 c.colour]
      | _, _ => []
    let lines := fun (faded : Bool) (cols : List Columns) => line faded (cols.map (·.left)) ++ line faded (cols.map (·.right))
    let render := renderOf .guide s;
    render.width = r.width ∧ render.height = r.height ∧
    (r.mode = .off → render.ops = []) ∧
    (r.mode = .static → render.ops = lines true r.static ++ marked r.static ++ stop) ∧
    (r.mode = .dynamic → render.ops = lines false r.dynamic ++ marked r.dynamic ++ stop) ∧
    (r.mode = .both → render.ops = lines true r.static ++ lines false r.dynamic ++ marked r.dynamic ++ stop)) ∧
  (∀ s : State, s.guide.record = none → (renderOf .guide s).ops = [])

/-- R100 to R102: which asset a load may read, the pin it takes, its page reads one after another, and the renders requested
when the cache leaves LOADING, or is left EMPTY by a start that is refused. -/
def Obligations.GlyphCacheLoads : Prop :=
  ∀ (id token : Nat) (l : GlyphLoad) (bytes : List Byte) (s : State),
    let planes := [Plane.menuL, .menuR] ++ (if s.takeover.phase = .idle then [] else [.takeover])
    let read := fun (gen page : Nat) (x : State) => storeSelect { x with
      store.nextToken := x.store.nextToken + 1,
      store.reads := x.store.reads ++ [{
        reader := .glyph x.store.nextToken,
        block := (x.generationBlocks x.raster.glyphSet gen).getD (page / 64) 0, page := page % 64 }],
      raster.load := some { generation := gen, page := page, token := some x.store.nextToken } }
    let ended := unpinAsset s.raster.glyphSet l.generation { s with raster.load := none };
    (∀ a, glyphAsset id s = some a ↔
      s.asset? id = some a ∧ s.store.state = .ready ∧ a.kind = .glyphSet ∧ a.length = 305664) ∧
    (let t := setGlyphSet 0 s;
      t.raster.cache = .empty ∧ t.raster.glyphSet = 0 ∧ t.raster.load = none ∧
      t.raster.glyphLoadFail = s.raster.glyphLoadFail ∧
      (s.raster.load = none → s.raster.cache = .empty → t = { s with raster.glyphSet := 0 }) ∧
      (s.raster.load = none → s.raster.cache ≠ .empty →
        t = requestRenders planes { s with raster.glyphSet := 0, raster.cache := .empty }) ∧
      (s.raster.load = some l → t = setGlyphSet 0 ended)) ∧
    (id ≠ 0 → id = s.raster.glyphSet → s.raster.cache ≠ .empty → setGlyphSet id s = s) ∧
    (let begun := startGlyphLoad id s;
      (id ≠ 0 → (id ≠ s.raster.glyphSet ∨ s.raster.cache = .empty) → setGlyphSet id s = begun) ∧
      (id = s.raster.glyphSet → s.raster.cache ≠ .empty → glyphCommitted id s = begun) ∧
      (id ≠ s.raster.glyphSet ∨ s.raster.cache = .empty → glyphCommitted id s = s) ∧
      (s.raster.load = none →
        (∀ a, glyphAsset id s = some a →
          let pinned : State := { s with
            raster.glyphSet := id, raster.cache := .loading,
            raster.load := some { generation := a.generation, page := 0, token := none },
            store.directory := s.store.directory.map fun x => if x.id = id then { x with pins := x.pins + 1 } else x };
          begun.raster.cache = .loading ∧ begun.raster.glyphSet = id ∧
          (∃ k, begun.raster.load = some k ∧ k.generation = a.generation ∧ k.page = 0) ∧
          ((∀ r, s.raster.inFlight = some r → r.usesCache = false) → begun = read a.generation 0 pinned) ∧
          (∀ r, s.raster.inFlight = some r → r.usesCache = true → begun = pinned)) ∧
        (glyphAsset id s = none → begun.raster.cache = .empty ∧ begun.raster.glyphSet = id ∧
          begun.raster.glyphLoadFail = bump s.raster.glyphLoadFail ∧
          begun = requestRenders planes { s with
            raster.glyphSet := id, raster.cache := .empty, raster.glyphLoadFail := bump s.raster.glyphLoadFail })) ∧
      (s.raster.load = some l → begun = startGlyphLoad id ended ∧ ended.raster = { s.raster with load := none })) ∧
    (s.raster.load = some l → l.token ≠ some token → glyphPageRead token (some bytes) s = s) ∧
    (s.raster.load = some l → l.token = some token → bytes.length = 4096 → l.page ≤ 74 →
      let t := glyphPageRead token (some bytes) s;
      (l.page < 74 → t.raster.cache = s.raster.cache ∧ t = read l.generation (l.page + 1) { s with mem := t.mem }) ∧
      (l.page = 74 → t.raster.cache = .loaded ∧
        t = requestRenders planes { ended with mem := t.mem, raster.cache := .loaded }) ∧
      (∀ i, i < 4096 → l.page * 4096 + i < 305664 →
        Memory.read t.mem (132120576 + l.page * 4096 + i) = bytes.getD i 0#8) ∧
      (∀ a, a < 132120576 + l.page * 4096 ∨ 132120576 + min ((l.page + 1) * 4096) 305664 ≤ a →
        Memory.read t.mem a = Memory.read s.mem a)) ∧
    (s.raster.load = some l → l.token = some token →
      let t := glyphPageRead token none s
      t.raster.cache = .empty ∧ t.raster.glyphSet = s.raster.glyphSet ∧
      t.raster.glyphLoadFail = bump s.raster.glyphLoadFail ∧ t.raster.load = none ∧
      t = requestRenders planes { ended with
        raster.cache := .empty, raster.glyphLoadFail := bump s.raster.glyphLoadFail })

/-- R111 to R114, every key and every action, with the pop and the push of R113 and the settling of R105. That what a
key does, its SELECT notice included, comes before its click or bump request is the model's choice (log entry 61), and
so is that a timer which the key starts or stops is a change of the context of its own, requested after the key's own
changes (log entry 68). -/
def Obligations.KeysAtASeat : Prop :=
  (∀ (k : Seat) (mark c : Byte) (code b : Nat) (payload : List Byte) (s : State),
    (s.link k.panel.link).state = .up → (s.link k.panel.link).assembler = .assembling → code < 65536 → b < 65536 →
    payload.length ≤ 3840 →
    let o := exec (.keyPacket k (packetBytes .key mark code b c payload)) s
    let x := s.seat k;
    (x.locked = true → o = .next (s.setSeat k { x with keyLocked := bump x.keyLocked })) ∧
    (x.locked = false → code = 0 ∨ 8 ≤ code → o = .next (s.setSeat k { x with keyUnknown := bump x.keyUnknown })) ∧
    (x.locked = false → x.isOpen = false → 1 ≤ code → code ≤ 4 → o = .next s) ∧
    (x.locked = false → 1 ≤ code → code ≤ 7 → (x.isOpen = true ∨ 5 ≤ code) →
      let r := keyEffect k code s
      let u := r.state.seat k
      let timer := if u.settings.inactivity = 0 then none else some (u.settings.inactivity * 1000)
      let touched := r.state.setSeat k { u with timer := timer }
      let t := if u.isOpen = false then r.state
        else if timer.isSome = u.timer.isSome then touched else requestMenu k touched
      o = .next (requestById (if r.clicks then (t.seat k).settings.clickChime else (t.seat k).settings.bumpChime)
        (some (ZoneSet.single k.zone)) t))) ∧
    (∀ (k : Seat) (s : State),
    let c := s.seat k
    let items := s.items c.currentPage
    let same := fun (b : Bool) (r : KeyResult) => r = { clicks := b, state := s };
    (∀ i, enabledBelow items c.highlight = some i →
      keyEffect k 1 s = { clicks := true, state := requestMenu k (s.setSeat k { c with highlight := i }) }) ∧
    (enabledBelow items c.highlight = none → same false (keyEffect k 1 s)) ∧
    (∀ i, enabledAbove items c.highlight = some i →
      keyEffect k 2 s = { clicks := true, state := requestMenu k (s.setSeat k { c with highlight := i }) }) ∧
    (enabledAbove items c.highlight = none → same false (keyEffect k 2 s)) ∧
    (itemEnabled items c.highlight = false → same false (keyEffect k 3 s)) ∧
    (∀ i, items[c.highlight]? = some i → i.enabled = true → keyEffect k 3 s = performAction k i.action s) ∧
    keyEffect k 4 s = { clicks := true, state := popPage k s } ∧
    (c.isOpen = true → keyEffect k 5 s = { clicks := true, state := closeMenu k s }) ∧
    (c.isOpen = false → s.page c.settings.root = none → same false (keyEffect k 5 s)) ∧
    (∀ p, c.isOpen = false → s.page c.settings.root = some p →
      keyEffect k 5 s = { clicks := true, state := openMenu k s }) ∧
    (let z := s.zone k.zone;
      let v := z.settings.volume;
      (v < 40 → keyEffect k 6 s = {
        clicks := true, state := s.setZone k.zone { z with settings := { z.settings with volume := v + 1 } } }) ∧
      (40 ≤ v → same false (keyEffect k 6 s)) ∧
      (0 < v → keyEffect k 7 s = {
        clicks := true, state := s.setZone k.zone { z with settings := { z.settings with volume := v - 1 } } }) ∧
      (v = 0 → same false (keyEffect k 7 s))) ∧
    (∀ n, s.page n = none ∨ 4 ≤ c.depth → same false (performAction k (.subpage n) s)) ∧
    (∀ n p, s.page n = some p → c.above = [] → performAction k (.subpage n) s = {
      clicks := true, state := requestMenu k (s.setSeat k { c with
        root := { c.root with saved := c.highlight }, above := [{ page := n, saved := 0 }],
        highlight := settle p.items 0 }) }) ∧
    (∀ n p below top, s.page n = some p → c.above = below ++ [top] → below.length ≤ 1 → performAction k (.subpage n) s = {
      clicks := true, state := requestMenu k (s.setSeat k { c with
        above := below ++ [{ top with saved := c.highlight }, { page := n, saved := 0 }],
        highlight := settle p.items 0 }) }) ∧
    performAction k .back s = { clicks := true, state := popPage k s } ∧
    (c.above = [] → popPage k s = closeMenu k s) ∧
    (∀ below top, c.above = below ++ [top] →
      let next := below.getLast?.getD c.root
      popPage k s = requestMenu k (s.setSeat k { c with
        above := below, highlight := settle (s.items next.page) next.saved })) ∧
    performAction k .volumeUp s = keyEffect k 6 s ∧ performAction k .volumeDown s = keyEffect k 7 s ∧
    (∀ code, performAction k (.report code) s = {
      clicks := true, state := handNotice (.select k c.currentPage.val c.highlight code) s }) ∧
    performAction k .close s = { clicks := true, state := closeMenu k s } ∧
    (let l := (s.panel k.panel).level;
      (100 ≤ l → same false (performAction k .brightnessUp s)) ∧ (l = 0 → same false (performAction k .brightnessDown s)) ∧
      (l < 100 → performAction k .brightnessUp s = { clicks := true, state := setLevel k.panel (min 100 (l + 10)) s }) ∧
      (0 < l → performAction k .brightnessDown s = { clicks := true, state := setLevel k.panel (l - 10) s }))) ∧
    (∀ (items : List Item) (h i : Nat),
    (itemEnabled items h = true ↔ ∃ x, items[h]? = some x ∧ x.enabled = true) ∧
    (enabledAbove items h = some i ↔
      h < i ∧ itemEnabled items i = true ∧ ∀ j, h < j → j < i → itemEnabled items j = false) ∧
    (enabledBelow items h = some i ↔
      i < h ∧ itemEnabled items i = true ∧ ∀ j, i < j → j < h → itemEnabled items j = false) ∧
    (itemEnabled items h = true → settle items h = h) ∧
    (itemEnabled items h = false → enabledAbove items h = some i → settle items h = i) ∧
    (itemEnabled items h = false → enabledAbove items h = none → enabledBelow items h = some i → settle items h = i) ∧
    (itemEnabled items h = false → enabledAbove items h = none → enabledBelow items h = none → settle items h = 0))

/-- R110 and R115; a change of the locked flag alone requests a render as a change of the seat context (R94). PARAM for a
lock byte that is neither 0 nor 1 is the model's choice (log entry 26). -/
def Obligations.SeatMenuOpensAndCloses : Prop :=
  ∀ (k : Seat) (n lock : Nat) (mark : Byte) (s : State),
    let c := s.seat k
    let items := s.items c.settings.root
    openMenu k s = requestMenu k (s.setSeat k { c with
      root := { page := c.settings.root, saved := 0 }, above := [], highlight := settle items 0, isOpen := true,
      timer := if c.settings.inactivity = 0 then none else some (c.settings.inactivity * 1000) }) ∧
    closeMenu k s = requestMenu k (s.setSeat k { c with
      root := { page := c.settings.root, saved := 0 }, above := [], highlight := 0, isOpen := false, timer := none }) ∧
    (c.isOpen = true → c.timer.isSome = true → exec (.inactivityTimerExpiry k) s = .next (closeMenu k s)) ∧
    (c.isOpen = false ∨ c.timer = none → exec (.inactivityTimerExpiry k) s = .next s) ∧
    (Running s →
      (2 ≤ n → exec (.menuOpen mark n) s = .next (replied mark 44 .param [] s) ∧
        exec (.menuClose mark n) s = .next (replied mark 45 .param [] s)) ∧
      (2 ≤ n ∨ 2 ≤ lock → exec (.menuLock mark n lock) s = .next (replied mark 46 .param [] s)) ∧
      (seat? n = some k →
        (c.isOpen = true ∨ c.locked = true → exec (.menuOpen mark n) s = .next (replied mark 44 .ok [] s)) ∧
        (c.isOpen = false → c.locked = false → s.page c.settings.root = none →
          exec (.menuOpen mark n) s = .next (replied mark 44 .notFound [] s)) ∧
        (∀ p, c.isOpen = false → c.locked = false → s.page c.settings.root = some p →
          exec (.menuOpen mark n) s = .next (replied mark 44 .ok [] (openMenu k s))) ∧
        (c.isOpen = true → exec (.menuClose mark n) s = .next (replied mark 45 .ok [] (closeMenu k s))) ∧
        (c.isOpen = false → exec (.menuClose mark n) s = .next (replied mark 45 .ok [] s)) ∧
        (c.locked = false → exec (.menuLock mark n 0) s = .next (replied mark 46 .ok [] s)) ∧
        (c.locked = true → exec (.menuLock mark n 0) s =
          .next (replied mark 46 .ok [] (requestMenu k (s.setSeat k { c with locked := false })))) ∧
        (c.locked = true → exec (.menuLock mark n 1) s = .next (replied mark 46 .ok [] s)) ∧
        (c.locked = false → c.isOpen = false → exec (.menuLock mark n 1) s =
          .next (replied mark 46 .ok [] (requestMenu k (s.setSeat k { c with locked := true })))) ∧
        (c.locked = false → c.isOpen = true → exec (.menuLock mark n 1) s =
          .next (replied mark 46 .ok [] (closeMenu k (s.setSeat k { c with locked := true }))))))

/-- R106 to R109. Of a page that is set, R94 asks for the plane of every seat whose context its settling changes. Seven
points are the model's choice or inference: where the planes of both seats are asked for, both are requested before an idle
engine takes one (log entry 15); MENU_SET names its glyph set, with the requests of R102, before it requests its
own render, and an idle engine takes a plane at each of the two (log entry 29); a new root page of a closed menu brings its
highlight to 0 (log entry 27); a page that is set settles the highlight of a closed menu on it too (log entry 30); the
argument of an action that uses none may hold any value (log entry 31); and an enabled byte above 1, or an icon's presence
byte other than 0 or 1, answers PARAM (log entry 26); and a parameter length that the counts of a page do not give is PARAM
at the owner, whose check R186 makes after its own (log entry 67). -/
def Obligations.PageAndMenuSettingCommands : Prop :=
  ∀ (mark : Byte) (length page item : Nat) (title : List Nat) (items : List ItemParams) (p : ItemParams)
    (q : MenuSetParams) (s : State), Running s →
    let counted := 3 + title.length + (items.map fun i => 5 + i.label.length + (match i.icon with
      | .present _ => 1
      | .absent => 0
      | .badPresence => 0)).sum;
    (length ≠ counted ∨ 16 ≤ page ∨ menuPage? title items = none →
      exec (.pageSet mark page title ⟨length, items⟩) s = .next (replied mark 41 .param [] s)) ∧
    (16 ≤ page ∨ item? p = none → exec (.itemSet mark page item p) s = .next (replied mark 43 .param [] s)) ∧
    (16 ≤ page → exec (.pageClear mark page) s = .next (replied mark 42 .param [] s)) ∧
    (2 ≤ q.seat ∨ menuSettings? q = none → exec (.menuSet mark q) s = .next (replied mark 40 .param [] s)) ∧
    (∀ i, item? p = some i ↔
      i = { label := p.label, icon := i.icon, enabled := decide (p.enabled = 1), action := i.action } ∧
        p.label.length ≤ 24 ∧ (∀ g ∈ p.label, g ≤ 223) ∧ p.enabled ≤ 1 ∧
        ((i.icon = none ∧ p.icon = .absent) ∨ ∃ g, i.icon = some g ∧ p.icon = .present g ∧ 224 ≤ g ∧ g ≤ 255) ∧
        ((∃ n : Fin 16, i.action = .subpage n ∧ p.action = 0 ∧ p.actionArg = n.val) ∨
         (i.action = .report p.actionArg ∧ p.action = 1 ∧ p.actionArg ≤ 255) ∨
         (i.action, p.action) ∈ [(Action.volumeUp, 2), (.volumeDown, 3), (.brightnessUp, 4), (.brightnessDown, 5),
           (.back, 6), (.close, 7)])) ∧
    (∀ r, menuPage? title items = some r ↔ r.title = title ∧ title.length ≤ 24 ∧ (∀ g ∈ title, g ≤ 223) ∧
      1 ≤ items.length ∧ items.length ≤ 12 ∧ items.map item? = r.items.map some) ∧
    (∀ t, menuSettings? q = some t ↔
      t = { root := t.root, x := q.x, y := q.y, width := q.width, rowHeight := q.rowHeight, background := q.background,
            text := q.text, disabled := q.disabled, highlight := q.highlight, clickChime := q.clickChime,
            bumpChime := q.bumpChime, inactivity := q.inactivity } ∧ q.root = t.root.val ∧ q.x ≤ 1279 ∧ q.y ≤ 799 ∧
        64 ≤ q.width ∧ q.width ≤ 1280 ∧ 24 ≤ q.rowHeight ∧ q.rowHeight ≤ 96 ∧
        (q.clickChime ≤ 31 ∨ q.clickChime = 255) ∧ (q.bumpChime ≤ 31 ∨ q.bumpChime = 255) ∧ q.inactivity ≤ 60 ∧
        q.glyphSet ≤ 1023) ∧
    (∀ n : Fin 16, n.val = page →
      (∀ r, length = counted → menuPage? title items = some r → exec (.pageSet mark page title ⟨length, items⟩) s =
        .next (replied mark 41 .ok [] (pageChanged n (s.setPage n (some r))))) ∧
      (∀ i, item? p = some i → s.page n = none →
        exec (.itemSet mark page item p) s = .next (replied mark 43 .notFound [] s)) ∧
      (∀ i r, item? p = some i → s.page n = some r → r.items.length ≤ item →
        exec (.itemSet mark page item p) s = .next (replied mark 43 .param [] s)) ∧
      (∀ i r, item? p = some i → s.page n = some r → item < r.items.length →
        exec (.itemSet mark page item p) s = .next (replied mark 43 .ok []
          (pageChanged n (s.setPage n (some { r with items := r.items.set item i }))))) ∧
      (s.page n = none → exec (.pageClear mark page) s = .next (replied mark 42 .ok [] s)) ∧
      (∀ r, s.page n = some r → (∀ k, ∀ e ∈ (s.seat k).stack, e.page ≠ n) →
        exec (.pageClear mark page) s = .next (replied mark 42 .ok [] (s.setPage n none))) ∧
      (∀ r, s.page n = some r → ∃ t, exec (.pageClear mark page) s = .next (replied mark 42 .ok [] t) ∧
        t.page n = none ∧ (∀ i, i ≠ n → t.page i = s.page i) ∧
        ∀ k, let c := s.seat k;
          (c.root.page = n → c.isOpen = true → t.seat k = { c with
            root := { page := c.settings.root, saved := 0 }, above := [], highlight := 0, isOpen := false, timer := none }) ∧
          (c.root.page = n → c.isOpen = false → t.seat k = { c with highlight := 0 }) ∧
          (∀ below e upper, c.root.page ≠ n → c.above = below ++ e :: upper → e.page = n → (∀ x ∈ below, x.page ≠ n) →
            let next := below.getLast?.getD c.root
            t.seat k = { c with above := below, highlight := settle (s.items next.page) next.saved }) ∧
          ((∀ e ∈ c.stack, e.page ≠ n) → t.seat k = c))) ∧
    (∀ n : Fin 16,
      let settled := fun (k : Seat) => let c := s.seat k
        if c.currentPage = n then { c with highlight := settle (s.items n) c.highlight } else c
      let u := (s.setSeat .left (settled .left)).setSeat .right (settled .right)
      let asked := [Seat.left, .right].filter fun k =>
        decide ((s.seat k).isOpen = true ∧ (s.seat k).currentPage = n) || decide (settled k ≠ s.seat k);
      (asked = [] → pageChanged n s = u) ∧ (asked ≠ [] → pageChanged n s = requestRenders (asked.map (·.plane)) u)) ∧
    (∀ k t, seat? q.seat = some k → menuSettings? q = some t →
      let c := s.seat k
      let given := if c.isOpen = true ∨ c.root.page = t.root then { c with settings := t }
        else { c with settings := t, root := { c.root with page := t.root }, highlight := 0 };
      exec (.menuSet mark q) s = .next (replied mark 40 .ok []
        (requestMenu k (setGlyphSet q.glyphSet (s.setSeat k given)))))

/-- The last paragraph of R117, over each key and menu command, and over every command, event and tick. (That a closed
menu's highlight is 0 on a new root page is log entry 27.) -/
def Obligations.MenusStayLawful : Prop :=
  (∀ (k : Seat) (code length page item seat lock : Nat) (title : List Nat) (items : List ItemParams) (p : ItemParams)
    (q : MenuSetParams) (s : State), MenusLawful s →
    MenusLawful State.reset ∧ MenusLawful (keyArrives k code s) ∧ MenusLawful (pageSet page title ⟨length, items⟩ s).state ∧
    MenusLawful (itemSet page item p s).state ∧ MenusLawful (pageClear page s).state ∧
    MenusLawful (menuSet q s).state ∧ MenusLawful (menuOpen seat s).state ∧ MenusLawful (menuClose seat s).state ∧
    MenusLawful (menuLock seat lock s).state ∧ MenusLawful (inactivityExpires k s)) ∧
  (∀ (s t : State), MenusLawful s → step s = .next t → MenusLawful t)

/-- R119. -/
def Obligations.FilmFifoArrivals : Prop :=
  ∀ (r : ZoneRecord) (frames : List StereoFrame) (payload : List Byte), r.fifo.length ≤ 4096 → r.overflow + frames.length ≤ 4294967295 →
    let t := frames.foldl placeFrame r
    t = { r with
      fifo := (r.fifo ++ frames).take 4096,
      overflow := r.overflow + (frames.length - (4096 - r.fifo.length)),
      fifoState := if r.fifoState = .playing ∨
        (1024 ≤ t.fifo.length ∧ r.fifo.length < 4096 ∧ frames ≠ []) then .playing else .priming } ∧
    (r.fifo.length < 1024 → frames.length ≤ 1920 → t.overflow = r.overflow) ∧
    (∀ f ∈ sampleFrames false payload, f.left = f.right)

/-- R118's steps with R120, R129 and R130. CABIN has no film of its own: that its FIFO stays empty and PRIMING holds at
reset and is kept by every step, and its film is then 0 in every block. -/
def Obligations.ZoneBlockTakesFilmAndMixes : Prop :=
  (let quiet := fun (s : State) => (s.zone .cabin).fifo = [] ∧ (s.zone .cabin).fifoState = .priming;
    quiet .reset ∧ (∀ (s t : State), quiet s → step s = .next t → quiet t)) ∧
  ∀ (z : Zone) (s : State), (∀ v, (s.voice v).block.length = 48) → (s.zone z).saturate + 96 ≤ 4294967295 →
    let r := s.zone z
    let chimes := match holder s z with | some v => (s.voice v).block | none => List.replicate 48 0
    let level := match holder s z with | some v => (s.voice v).level | none => 0
    let follows := match holder s z with | some v => (s.voice v).follows | none => false
    let g : MixGains := { vol := volumeGain s z, duck := r.steppedGain, mute := r.settings.mute, level := level, follows := follows }
    let film : List StereoFrame := match r.fifoState with
      | .priming => List.replicate 48 ⟨0, 0⟩
      | .playing => (r.fifo ++ List.replicate 48 (⟨0, 0⟩ : StereoFrame)).take 48
    let kept := match r.fifoState with
      | .priming => r.fifo
      | .playing => r.fifo.drop 48
    ∃ t, exec (.zoneBlockEvent z) s = .next t ∧
      (t.zone z).gain = r.steppedGain ∧ (t.zone z).settings = r.settings ∧ (t.zone z).fifo = kept ∧
      (t.zone z).output = (film.zip chimes).map (fun p => mixFrame g p.1 p.2) ∧ (t.zone z).output.length = 48 ∧
      (t.zone z).saturate = r.saturate + ((film.zip chimes).map fun p => frameSaturations g p.1 p.2).sum ∧
      (r.fifoState = .playing → r.fifo.length < 48 → (t.zone z).fifoState = .priming ∧
        (t.zone z).underflow = bump r.underflow ∧ t.raised .audioUnderflow = true) ∧
      (r.fifoState = .priming ∨ 48 ≤ r.fifo.length → (t.zone z).fifoState = r.fifoState ∧
        (t.zone z).underflow = r.underflow ∧ t.attention = s.attention ∧ t.uplink = s.uplink) ∧
      (∀ y, y ≠ z → t.zone y = s.zone y) ∧ t.chime = s.chime ∧ t.mem = s.mem

/-- R129's arithmetic and what follows of it, and R130's count. -/
def Obligations.MixArithmetic : Prop :=
  ∀ (x : Int) (n : Nat) (g h : MixGains) (f : StereoFrame) (chime : Int), -32768 ≤ x → x ≤ 32767 → n ≤ 32768 →
    q15 x 32768 = x ∧ q15 x 0 = 0 ∧ -32768 ≤ q15 x n ∧ q15 x n ≤ 32767 ∧
    (-32768 ≤ (mixFrame g f chime).left ∧ (mixFrame g f chime).left ≤ 32767 ∧
      -32768 ≤ (mixFrame g f chime).right ∧ (mixFrame g f chime).right ≤ 32767) ∧
    (g.vol ≤ 32768 → g.duck ≤ 32768 → -32768 ≤ f.left → f.left ≤ 32767 → -32768 ≤ f.right → f.right ≤ 32767 →
      mixFrame g f 0 = ⟨filmPart g f.left, filmPart g f.right⟩ ∧ frameSaturations g f 0 = 0) ∧
    (g.mute = true → filmPart g x = 0) ∧
    (let sum := fun (y : Int) => filmPart g y + chimePart g chime
      let clamp := fun (y : Int) => max (-32768) (min 32767 y);
      (∀ (y : Int) (k : Nat), q15 y k = (y * k + 16384) / 32768) ∧
      (g.mute = false → filmPart g x = q15 (q15 x g.vol) g.duck) ∧
      (g.follows = false → chimePart g chime = q15 chime g.level) ∧
      (g.follows = true → chimePart g chime = q15 (q15 chime g.level) g.vol) ∧
      mixFrame g f chime = ⟨clamp (sum f.left), clamp (sum f.right)⟩ ∧
      frameSaturations g f chime = [f.left, f.right].countP fun y => decide (sum y < -32768 ∨ 32767 < sum y)) ∧
    (g.follows = false → h.follows = false → g.level = h.level → chimePart g chime = chimePart h chime)

/-- R127 and R128, with the duck target that R126 and section 6.4 give each demand state. -/
def Obligations.DuckGainBoundsAndRamp : Prop :=
  ∀ (r : ZoneRecord) (z : Zone) (t : ZoneSettings) (s : State), r.settings.duckLevel ≤ 32768 → 1 ≤ r.settings.ramp →
    r.settings.duckLevel ≤ r.gain → r.gain ≤ 32768 → t.duckLevel ≤ 32768 → (s.zone z).gain ≤ 32768 →
    let step := (32768 - r.settings.duckLevel + r.settings.ramp - 1) / r.settings.ramp
    let block := fun (r : ZoneRecord) => { r with gain := r.steppedGain }
    r.settings.duckLevel ≤ r.steppedGain ∧ r.steppedGain ≤ 32768 ∧
    (r.target < r.gain → r.steppedGain = max r.target (r.gain - step)) ∧
    (r.gain < r.target → r.steppedGain = min r.target (r.gain + step)) ∧
    (r.gain = r.target → r.steppedGain = r.gain) ∧
    (r.demand = .active ∨ r.demand = .hold → r.target = r.settings.duckLevel) ∧ (r.demand = .none → r.target = 32768) ∧
    (Nat.repeat block r.settings.ramp r).gain = r.target ∧
    (let u := applyZoneSettings z t s;
      (u.zone z).gain = max t.duckLevel (s.zone z).gain ∧ (u.zone z).gain ≤ 32768 ∧
      (u.zone z).demand = (s.zone z).demand ∧ (u.zone z).holdTimer = (s.zone z).holdTimer)

/-- R125 and R126. -/
def Obligations.DuckDemandStates : Prop :=
  ∀ (z : Zone) (s : State),
    let r := s.zone z;
    (demandBegins z s = s.setZone z { r with demand := .active, holdTimer := none }) ∧
    (r.demand = .active → takeoverDemandOn s z = false → r.settings.hold ≠ 0 →
      voiceDemandEnds z s = s.setZone z { r with
        voiceDemand := false, demand := .hold, holdTimer := some r.settings.hold }) ∧
    (r.demand = .active → takeoverDemandOn s z = false → r.settings.hold = 0 →
      voiceDemandEnds z s = s.setZone z { r with voiceDemand := false, demand := .none }) ∧
    (takeoverDemandOn s z = true → voiceDemandEnds z s = s.setZone z { r with voiceDemand := false }) ∧
    ((applyTakeoverDemand s).zone .cabin = s.zone .cabin ∧
      ((applyTakeoverDemand s).zone .seatL).demand = .active ∧ ((applyTakeoverDemand s).zone .seatR).demand = .active ∧
      (applyTakeoverDemand s).takeover.duckDemand = true) ∧
    (∀ y, ((applyTakeoverDemand s).zone y).gain = (s.zone y).gain ∧
      ((withdrawTakeoverDemand s).zone y).gain = (s.zone y).gain) ∧
    ((withdrawTakeoverDemand s).zone .cabin = s.zone .cabin ∧ (withdrawTakeoverDemand s).takeover.duckDemand = false ∧
      (s.takeover.duckDemand = false → withdrawTakeoverDemand s = s)) ∧
    (s.takeover.duckDemand = true → z ≠ .cabin → r.demand = .active →
      (r.voiceDemand = true → ((withdrawTakeoverDemand s).zone z).demand = .active) ∧
      (r.voiceDemand = false → r.settings.hold ≠ 0 → ((withdrawTakeoverDemand s).zone z).demand = .hold ∧
        ((withdrawTakeoverDemand s).zone z).holdTimer = some r.settings.hold) ∧
      (r.voiceDemand = false → r.settings.hold = 0 → ((withdrawTakeoverDemand s).zone z).demand = .none)) ∧
    (r.demand = .hold → exec (.holdTimerExpiry z) s = .next (s.setZone z { r with demand := .none, holdTimer := none })) ∧
    (r.demand ≠ .hold → exec (.holdTimerExpiry z) s = .next s)

/-- R122 and R123 with the items of R131's status, in the model's layout (log entry 13). That VOLUME_TABLE_SET with another
number of values is PARAM at the owner, whose check R186 makes after its own, is an inference (log entry 67). -/
def Obligations.ZoneSetAndVolumeTable : Prop :=
  ∀ (mark : Byte) (n : Nat) (p : ZoneParams) (values : List Nat) (s : State), Running s →
    let status := fun (s : State) (z : Zone) =>
      let r := s.zone z
      let x := r.settings
      u8 x.volume ++ [boolByte x.mute] ++ u16 x.duckLevel ++ u8 x.ramp ++ u16 x.hold ++
        u16 (s.audio.volumeTable.toList.getD x.volume 0) ++
        u8 (match r.fifoState with | .priming => 0 | .playing => 1) ++ u16 r.fifo.length ++
        u8 (match r.demand with | .none => 0 | .active => 1 | .hold => 2) ++
        [boolByte (decide (z ≠ .cabin) && s.takeover.duckDemand), boolByte r.voiceDemand] ++ u16 r.gain ++
        u16 (r.holdTimer.getD 0);
    (3 ≤ n → exec (.zoneSet mark n p) s = .next (replied mark 50 .param [] s) ∧
      exec (.zoneSetRead mark n p) s = .next (replied mark 50 .param [] s)) ∧
    (∀ z, zone? n = some z →
      exec (.zoneSetRead mark n p) s = .next (replied mark 50 .ok (status s z) s) ∧
      (zoneSettings? z p = none → exec (.zoneSet mark n p) s = .next (replied mark 50 .param [] s)) ∧
      (∀ t, zoneSettings? z p = some t → t = {
        volume := p.volume, mute := decide (p.mute = 1), duckLevel := p.duckLevel, ramp := p.ramp, hold := p.hold }) ∧
      (∀ t, zoneSettings? z p = some t →
        let u := s.setZone z { s.zone z with settings := t, gain := max t.duckLevel (s.zone z).gain }
        exec (.zoneSet mark n p) s = .next (replied mark 50 .ok (status u z) u)) ∧
      ((zoneSettings? z p).isSome = true ↔ p.volume ≤ 40 ∧ p.mute ≤ 1 ∧ p.duckLevel ≤ 32768 ∧ 1 ≤ p.ramp ∧
        p.ramp ≤ 100 ∧ p.hold ≤ 1000 ∧ (z = .cabin → p.mute = 0))) ∧
    (∀ t : Vector Nat 41, values = t.toList → (∀ x ∈ values, x ≤ 32768) → values.head? = some 0 →
      values.Pairwise (· ≤ ·) →
      exec (.volumeTableSet mark values) s = .next (replied mark 51 .ok [] { s with audio.volumeTable := t })) ∧
    (¬ (values.length = 41 ∧ (∀ x ∈ values, x ≤ 32768) ∧ values.head? = some 0 ∧ values.Pairwise (· ≤ ·)) →
      exec (.volumeTableSet mark values) s = .next (replied mark 51 .param [] s)) ∧
    (∀ i : Fin 41, (defaultVolumeTable[i] : Nat) = 32768 * (i.val * i.val) / 1600)

/-- R135 to R137 for CHIME_PLAY, the dispatch of R140, the start test and the start of R141, R142's silencing and R143's
start of a voice. Arrival numbers are counted from 0 over all taken requests (log entry 17), and a FLAGS notice which the
request brings about goes before the reply (log entry 69): the model's choices. That a stopping voice dropped at a start
raises CHIME_DROPPED and does not count is its inference from R146 and R190 (log entry 72), and so are, of a silenced voice
that goes back to the queue, that a merge counts no MERGED and leaves the proximity function QUIET unless the entry it joins
carries the mark, and that the entry which starts leaves the queue after the silencing (log entry 44). A dispatch makes at
most 4096 starts, more than R141 lets a queue of 8 entries and priorities of 0 to 7 make: the model's choice (log entry 45). That the pages of
an asset are those which hold a sample is its inference (log entry 80). -/
def Obligations.ChimePlayIsCheckedAndSettled : Prop :=
  (∀ (mark : Byte) (id mask : Nat) (i : Fin 32) (c : ChimeEntry) (m : ZoneSet) (s : State), Running s →
    (32 ≤ id ∨ 8 ≤ mask → exec (.chimePlay mark id mask) s = .next (replied mark 61 .param [] s)) ∧
    (i.val = id → zoneSet? mask = some m → s.chimeEntry i = none →
      exec (.chimePlay mark id mask) s = .next (replied mark 61 .notFound [] s)) ∧
    (i.val = id → zoneSet? mask = some m → s.chimeEntry i = some c →
      let z := if m = ZoneSet.empty then c.zones else m.inter c.zones
      let ready := s.store.state = .ready;
      (z = .empty → exec (.chimePlay mark id mask) s = .next (replied mark 61 .param [] s)) ∧
      (z ≠ .empty → ¬ ready → exec (.chimePlay mark id mask) s = .next (replied mark 61 .notReady [] s)) ∧
      (z ≠ .empty → ready → usableAsset c.asset s = none →
        exec (.chimePlay mark id mask) s = .next (replied mark 61 .notFound [] s)) ∧
      (z ≠ .empty → ready → (usableAsset c.asset s).isSome = true →
        let t := { s with chime.nextArrival := s.chime.nextArrival + 1 }
        let left := uncovered i z s
        let e : QueueEntry := {
          id := i, zones := left, priority := c.priority, repeats := c.repeats, proximity := false,
          arrival := s.chime.nextArrival };
        (left = .empty → exec (.chimePlay mark id mask) s = .next (replied mark 61 .ok []
          { t with chime.counters.merged := bump s.chime.counters.merged })) ∧
        (left ≠ .empty → (∃ x ∈ s.chime.queue, x.id = i) →
          exec (.chimePlay mark id mask) s = .next (replied mark 61 .ok [] (dispatch { t with
            chime.counters.merged := bump s.chime.counters.merged,
            chime.queue := s.chime.queue.map fun x =>
              if x.id = i then { x with zones := x.zones.union left } else x }))) ∧
        (left ≠ .empty → (∀ x ∈ s.chime.queue, x.id ≠ i) → startTest e t = true →
          exec (.chimePlay mark id mask) s = .next (replied mark 61 .ok [] (dispatch (startEntry e t)))) ∧
        (left ≠ .empty → (∀ x ∈ s.chime.queue, x.id ≠ i) → startTest e t = false →
          (∀ u, enqueue e t = some u →
            exec (.chimePlay mark id mask) s = .next (replied mark 61 .ok [] (dispatch u))) ∧
          (enqueue e t = none →
            exec (.chimePlay mark id mask) s = .next (replied mark 61 .busy [] (dispatch t))))))) ∧
  (∀ (u : State) (e : QueueEntry) (rest : List QueueEntry) (n : Nat),
    let purged : State := { u with
      chime.queue := u.chime.queue.filter fun x => decide (x.id ≠ e.id),
      chime.counters.undefined := bump u.chime.counters.undefined,
      chime.proximity := if e.proximity = true ∧ u.chime.proximity = .requested then .quiet else u.chime.proximity };
    dispatch u = dispatchFor 4096 u ∧ dispatchFor 0 u = u ∧
    dispatchFor (n + 1) u =
      (let r := examine u.chime.queue u; if r.2 then dispatchFor n r.1 else r.1) ∧
    examine [] u = (u, false) ∧
    (chimeAsset e.id u = none → examine (e :: rest) u = examine rest purged) ∧
    ((chimeAsset e.id u).isSome = true → startTest e u = true → examine (e :: rest) u = (startEntry e u, true)) ∧
    ((chimeAsset e.id u).isSome = true → startTest e u = false → examine (e :: rest) u = examine rest u)) ∧
  (∀ (u : State) (e : QueueEntry) (v w : Fin 4) (k : Zone),
    let busy := fun (y : Fin 4) => (u.voice y).state ≠ .idle
    let before := fun (y z : Fin 4) => (u.voice y).priority < (u.voice z).priority ∨
      ((u.voice y).priority = (u.voice z).priority ∧ (u.voice y).start ≤ (u.voice z).start)
    let silence := fun (y : Fin 4) (x : State) => if (x.voice y).meets e.zones then silenceVoice y x else x
    let silenced := silence 3 (silence 2 (silence 1 (silence 0 u)))
    let cleared := clearTheWay e.zones u
    let left : State := { cleared with chime.queue := cleared.chime.queue.filter fun x => decide (x.id ≠ e.id) };
    (∀ a, chimeAsset e.id u = some a ↔ ∃ c, u.chimeEntry e.id = some c ∧ usableAsset c.asset u = some a) ∧
    (holder u k = some w ↔ (busy w ∧ (u.voice w).zones.has k = true) ∧
      ∀ y, y < w → ¬ (busy y ∧ (u.voice y).zones.has k = true)) ∧
    ((u.voice v).meets e.zones = true ↔ busy v ∧ ∃ z : Zone, (u.voice v).zones.has z = true ∧ e.zones.has z = true) ∧
    ((victim u = none ↔ ∀ y, ¬ busy y) ∧ (victim u = some v → busy v ∧ ∀ y, busy y → before v y)) ∧
    (startTest e u = true ↔ (chimeAsset e.id u).isSome = true ∧
      (∀ z y, e.zones.has z = true → holder u z = some y → (u.voice y).priority < e.priority) ∧
      ((∃ y, ¬ busy y) ∨ (∃ y, (u.voice y).meets e.zones = true) ∨
        ∃ y, victim u = some y ∧ (u.voice y).priority < e.priority)) ∧
    ((∃ y, (silenced.voice y).state = .idle) → cleared = silenced) ∧
    ((∀ y, (silenced.voice y).state ≠ .idle) → victim silenced = some w → cleared = silenceVoice w silenced) ∧
    (∀ c a, (left.voice v).state = .idle → (∀ y, y < v → (left.voice y).state ≠ .idle) →
      left.chimeEntry e.id = some c → chimeAsset e.id left = some a → startEntry e u = beginVoice v e c a left)) ∧
  (∀ (v : Fin 4) (e : QueueEntry) (c : ChimeEntry) (a : AssetRecord) (u : State),
    let r : Voice := { Voice.reset with
      state := .loading, id := e.id, zones := e.zones, priority := e.priority, level := c.level, duck := c.duck,
      follows := c.follows, repeats := e.repeats, proximity := e.proximity, start := u.chime.nextStart,
      arrival := e.arrival, asset := a.id, generation := a.generation, length := a.length }
    let pinned : State := ({ u with
      chime.nextStart := u.chime.nextStart + 1,
      chime.proximity := if e.proximity then .sounding else u.chime.proximity,
      store.directory := u.store.directory.map fun x => if x.id = a.id then { x with pins := x.pins + 1 } else x
      } : State).setVoice v r
    let second := if 1 < (a.length / 2 + 2047) / 2048 then some 1 else if 1 < e.repeats then some 0 else none
    let filled := fillBuffer v true second (fillBuffer v false (some 0) pinned)
    let told := fun (x : State) (k : Zone) => if e.zones.has k then voiceDemandBegins k x else x;
    beginVoice v e c a u = if c.duck then [Zone.seatL, .seatR, .cabin].foldl told filled else filled) ∧
  (∀ (v : Fin 4) (u : State) (x : QueueEntry),
    let r := u.voice v
    let ended := endVoice v u
    let gone := fun (y : State) => if r.proximity = true ∧ (y.chime.proximity = .sounding ∨ y.chime.proximity = .tailing)
      then { y with chime.proximity := .quiet } else y
    let dropped := if r.stopping then raiseFlag .chimeDropped (gone ended) else
      raiseFlag .chimeDropped { gone ended with chime.counters.dropped := bump (gone ended).chime.counters.dropped }
    let again := r.repeats = 255 ∧ r.stopping = false ∧ r.tailing = false
    let entry : QueueEntry := {
      id := r.id, zones := r.zones, priority := r.priority, repeats := 255, proximity := r.proximity, arrival := r.arrival }
    let queued := fun (q : List QueueEntry) => { ended with chime.queue := q }
    let before := fun (y : QueueEntry) => decide (y.priority < r.priority ∨ (y.priority = r.priority ∧ r.arrival < y.arrival));
    (¬ again → silenceVoice v u = dropped) ∧
    (again → ended.chime.queue.find? (fun y => y.id == r.id) = some x →
      let wider := queued (ended.chime.queue.map fun y => if y.id = r.id then { y with zones := y.zones.union r.zones } else y);
      silenceVoice v u = if x.proximity then wider else gone wider) ∧
    (again → (∀ y ∈ ended.chime.queue, y.id ≠ r.id) → 8 ≤ ended.chime.queue.length → silenceVoice v u = dropped) ∧
    (again → (∀ y ∈ ended.chime.queue, y.id ≠ r.id) → ended.chime.queue.length < 8 →
      let placed := queued (ended.chime.queue.takeWhile (fun y => !before y) ++
        entry :: ended.chime.queue.dropWhile fun y => !before y);
      silenceVoice v u = if r.proximity = true ∧ u.chime.proximity = .sounding
        then { placed with chime.proximity := .requested } else placed)) ∧
  (∀ (u : State) (i : Fin 32) (z : ZoneSet) (k : Zone) (n : Nat) (a : AssetRecord),
    ((uncovered i z u).has k = true ↔ z.has k = true ∧ ∀ v, (u.voice v).state ≠ .idle → (u.voice v).id = i →
      (u.voice v).stopping = false → (u.voice v).zones.has k = false) ∧
    (usableAsset n u = some a ↔ u.asset? n = some a ∧ a.kind = .chimePcm ∧ 2 ≤ a.length))

/-- R138, and its last sentence over the operations that change the queue, and over every command, event and tick. -/
def Obligations.ChimeQueueKeepsItsLaw : Prop :=
  (∀ (e : QueueEntry) (v : Fin 4) (id mask token : Nat) (i : Fin 32) (z : Option ZoneSet) (near : Bool)
    (content : Option (List Byte)) (s : State), QueueLawful s.chime.queue →
    ((∀ x ∈ s.chime.queue, x.id ≠ e.id) →
      (s.chime.queue.length < 8 → ∃ u, enqueue e s = some u ∧ u.chime.queue.Perm (e :: s.chime.queue) ∧
        QueueLawful u.chime.queue ∧ u.chime.counters = s.chime.counters) ∧
      (∀ l, s.chime.queue.length = 8 → s.chime.queue.getLast? = some l → l.priority < e.priority →
        ∃ u, enqueue e s = some u ∧ u.chime.queue.Perm (e :: s.chime.queue.dropLast) ∧ QueueLawful u.chime.queue ∧
          u.chime.counters.dropped = bump s.chime.counters.dropped ∧ u.raised .chimeDropped = true) ∧
      (∀ l, s.chime.queue.length = 8 → s.chime.queue.getLast? = some l → e.priority ≤ l.priority →
        enqueue e s = none)) ∧
    QueueLawful (dispatch s).chime.queue ∧ QueueLawful (silenceVoice v s).chime.queue ∧
    QueueLawful (internalRequest i z near s).chime.queue ∧ QueueLawful (chimePlay id mask s).state.chime.queue ∧
    QueueLawful (chimeStop id s).state.chime.queue ∧ QueueLawful (proximityStop s).chime.queue ∧
    QueueLawful (voiceBlock v s).chime.queue ∧ QueueLawful (voicePageRead v token content s).chime.queue) ∧
  (∀ (s t : State), QueueLawful s.chime.queue → step s = .next t → QueueLawful t.chime.queue)

/-- R133, R146 and R147, with the proximity function of R148 to R150: where it is evaluated, what its request comes to,
and what an accepted VEHICLE packet does to an enabled function. That a request takes an arrival number however it is
settled is the model's choice (log entry 17), and so is that a FLAGS notice which a command brings about goes before its
reply (log entry 69), and the layout of R151's status, whose items stand in R151's order, the four voices
without a list's count (log entry 13). -/
def Obligations.ChimeCatalogueStopAndProximityCommands : Prop :=
  ∀ (mark : Byte) (id : Nat) (p : ChimeParams) (bands : List ProximityBand) (s : State), Running s →
    let zones := fun (z : ZoneSet) => [BitVec.ofNat 8 (z.seatL.toNat + 2 * z.seatR.toNat + 4 * z.cabin.toNat)]
    let entry := fun (e : ChimeEntry) => u16 e.asset ++ u16 e.level ++ u8 e.priority ++ zones e.zones ++ u8 e.repeats ++
      u16 e.gap ++ [boolByte e.duck, boolByte e.follows]
    let queued := fun (e : QueueEntry) => u8 e.id.val ++ zones e.zones ++ u8 e.priority ++ u8 e.repeats ++
      [boolByte e.proximity] ++ u32 e.arrival
    let page := fun (b : PageBuffer) => match b with
      | .empty => u8 0 ++ u16 0
      | .reading n _ => u8 1 ++ u16 n
      | .ready n _ => u8 2 ++ u16 n
    let voice := fun (r : Voice) =>
      u8 (match r.state with | .idle => 0 | .loading => 1 | .playing => 2 | .gap => 3) ++ u8 r.id.val ++ zones r.zones ++
        u8 r.priority ++ u8 r.repeats ++ [boolByte r.proximity, boolByte r.tailing, boolByte r.stopping] ++
        u32 r.position ++ page r.buffer0 ++ page r.buffer1
    let status := u8 s.chime.queue.length ++ s.chime.queue.flatMap queued ++ s.chime.voices.toList.flatMap voice ++
      u8 (match s.chime.proximity with
        | .off => 0
        | .quiet => 1
        | .requested => 2
        | .sounding => 3
        | .tailing => 4
        | .suspended => 5) ++
      u8 (match s.chime.proximityId with | none => 255 | some i => i.val) ++
      u8 s.chime.proximityBands.length ++ s.chime.proximityBands.flatMap (fun b => u16 b.limit ++ u16 b.gap) ++
      (match (s.vehicle.distances.toList.filter (· < 255)).min? with | none => u8 0 | some d => u8 1 ++ u16 (10 * d));
    (32 ≤ id → exec (.chimeDefineRead mark id) s = .next (replied mark 60 .param [] s) ∧
      exec (.chimeDefineRemove mark id) s = .next (replied mark 60 .param [] s) ∧
      exec (.chimeDefine mark id p) s = .next (replied mark 60 .param [] s)) ∧
    ((chimeParams? p).isSome = true ↔ 2 ≤ p.asset ∧ p.asset ≤ 1023 ∧ p.level ≤ 32768 ∧ p.priority ≤ 7 ∧
      1 ≤ p.zones ∧ p.zones ≤ 7 ∧ 1 ≤ p.repeats ∧ p.repeats ≤ 255 ∧ p.gap ≤ 5000 ∧ p.duck ≤ 1 ∧ p.follows ≤ 1) ∧
    (∀ e, chimeParams? p = some e → e = {
      asset := p.asset, level := p.level, priority := p.priority, zones := {
        seatL := decide (p.zones % 2 = 1), seatR := decide (p.zones / 2 % 2 = 1), cabin := decide (p.zones / 4 = 1) },
      repeats := p.repeats, gap := p.gap, duck := decide (p.duck = 1), follows := decide (p.follows = 1) }) ∧
    (∀ i : Fin 32, i.val = id →
      let used := (∃ e ∈ s.chime.queue, e.id = i) ∨ ∃ v, (s.voice v).state ≠ .idle ∧ (s.voice v).id = i
      let mark' := fun (r : Voice) => if r.state ≠ .idle ∧ r.id = i then { r with stopping := true } else r
      exec (.chimeDefineRead mark id) s =
        .next (replied mark 60 .ok
          ((match s.chimeEntry i with | none => u8 0 | some e => u8 1 ++ entry e) ++ status) s) ∧
      (chimeParams? p = none → exec (.chimeDefine mark id p) s = .next (replied mark 60 .param [] s)) ∧
      (∀ e, chimeParams? p = some e → used → exec (.chimeDefine mark id p) s = .next (replied mark 60 .inUse [] s)) ∧
      (∀ e, chimeParams? p = some e → ¬ used → exec (.chimeDefine mark id p) s =
        .next (replied mark 60 .ok [] { s with chime.catalogue := s.chime.catalogue.set i (some e) })) ∧
      (used → exec (.chimeDefineRemove mark id) s = .next (replied mark 60 .inUse [] s)) ∧
      (¬ used → exec (.chimeDefineRemove mark id) s =
        .next (replied mark 60 .ok [] { s with chime.catalogue := s.chime.catalogue.set i none })) ∧
      (let u := { s with
          chime.queue := s.chime.queue.filter fun e => e.id != i,
          chime.voices := s.chime.voices.map mark',
          chime.proximity := if s.chime.proximity = .off ∨ s.chime.proximityId ≠ some i then s.chime.proximity
            else .suspended };
        ((∀ e ∈ s.chime.queue, e.id ≠ i) → exec (.chimeStop mark id) s = .next (replied mark 62 .ok [] u)) ∧
        ((∃ e ∈ s.chime.queue, e.id = i) → exec (.chimeStop mark id) s = .next (replied mark 62 .ok [] (dispatch u))))) ∧
    (32 ≤ id → id ≠ 255 → exec (.chimeStop mark id) s = .next (replied mark 62 .param [] s)) ∧
    (exec (.chimeStop mark 255) s = .next (replied mark 62 .ok [] { s with
      chime.queue := [],
      chime.voices := s.chime.voices.map fun r => if r.state ≠ .idle then { r with stopping := true } else r,
      chime.proximity := if s.chime.proximity = .off ∨ s.chime.proximityId = none then s.chime.proximity
        else .suspended })) ∧
    (let valid := (id ≤ 31 ∧ 1 ≤ bands.length ∨ id = 255) ∧ bands.length ≤ 5 ∧
        (∀ b ∈ bands, 10 ≤ b.limit ∧ b.limit ≤ 2550 ∧ b.gap ≤ 5000) ∧ bands.Pairwise (fun a b => a.limit < b.limit);
      (¬ valid → exec (.proximitySet mark id bands) s = .next (replied mark 63 .param [] s)) ∧
      (valid → exec (.proximitySet mark id bands) s = .next (replied mark 63 .ok [] (proximityEvaluate
        { proximityStop s with chime.proximityId := fin? 32 id, chime.proximityBands := bands })))) ∧
    (∀ (v : Fin 4) (c : ChimeEntry) (i : Fin 32) (u : State),
      let enabled := u.chime.proximityId ≠ none ∧ u.vehicle.reverseAsserted = true ∧ u.vehicle.fresh = true
      let inBand := ∃ x ∈ u.vehicle.distances.toList, x < 255 ∧ ∃ b ∈ u.chime.proximityBands, 10 * x < b.limit
      let marked := fun (w : Fin 4) => (u.voice w).state ≠ .idle ∧ (u.voice w).proximity = true
      let quiet : State := { u with chime.proximity := .quiet }
      let t : State := { quiet with chime.nextArrival := u.chime.nextArrival + 1 }
      let left := uncovered i c.zones u
      let e : QueueEntry := {
        id := i, zones := left, priority := c.priority, repeats := 255, proximity := true,
        arrival := u.chime.nextArrival };
      (enabled → u.chime.proximity ≠ .off → proximityEvaluate u = u) ∧
      (enabled → u.chime.proximity = .off → proximityEvaluate u = proximityRequest u) ∧
      (¬ enabled → u.chime.proximity = .off → proximityEvaluate u = u) ∧
      (¬ enabled → u.chime.proximity ≠ .off → (proximityEvaluate u).chime.proximity = .off ∧
        (∀ x ∈ (proximityEvaluate u).chime.queue, x.proximity = false) ∧
        ∀ w, ((proximityEvaluate u).voice w).state ≠ .idle → ((proximityEvaluate u).voice w).proximity = false) ∧
      (¬ inBand → proximityRequest u = quiet) ∧
      (inBand → u.chime.proximityId = some i →
        (u.chimeEntry i = none →
          proximityRequest u = { quiet with chime.counters.undefined := bump u.chime.counters.undefined }) ∧
        (u.chimeEntry i = some c →
          (u.store.state ≠ .ready →
            proximityRequest u = { quiet with chime.counters.notReady := bump u.chime.counters.notReady }) ∧
          (u.store.state = .ready → usableAsset c.asset u = none →
            proximityRequest u = { quiet with chime.counters.undefined := bump u.chime.counters.undefined }) ∧
          (u.store.state = .ready → (usableAsset c.asset u).isSome = true →
            (left = .empty →
              proximityRequest u = { t with chime.counters.merged := bump u.chime.counters.merged }) ∧
            (left ≠ .empty → (∃ x ∈ u.chime.queue, x.id = i) → proximityRequest u = dispatch { t with
              chime.counters.merged := bump u.chime.counters.merged,
              chime.queue := u.chime.queue.map fun x =>
                if x.id = i then { x with zones := x.zones.union left } else x }) ∧
            (left ≠ .empty → (∀ x ∈ u.chime.queue, x.id ≠ i) → startTest e t = true →
              proximityRequest u = dispatch (startEntry e t)) ∧
            (left ≠ .empty → (∀ x ∈ u.chime.queue, x.id ≠ i) → startTest e t = false →
              (∀ z, enqueue e t = some z → z.chime.proximity = .requested ∧ proximityRequest u = dispatch z) ∧
              (enqueue e t = none → proximityRequest u = { dispatch t with
                chime.counters.refused := bump (dispatch t).chime.counters.refused }))))) ∧
      (u.chime.proximity = .quiet → inBand → proximityPacket u = proximityRequest u) ∧
      (u.chime.proximity = .quiet → ¬ inBand → proximityPacket u = u) ∧
      (u.chime.proximity = .requested → inBand → proximityPacket u = u) ∧
      (u.chime.proximity = .requested → ¬ inBand → proximityPacket u = dispatch { u with
        chime.proximity := .quiet, chime.queue := u.chime.queue.filter fun x => !x.proximity }) ∧
      (u.chime.proximity = .sounding → inBand → proximityPacket u = u) ∧
      (u.chime.proximity = .sounding → ¬ inBand → (∀ w, marked w → (u.voice w).state ≠ .gap) →
        proximityPacket u = { u with
          chime.proximity := .tailing,
          chime.voices := u.chime.voices.map fun r =>
            if r.state ≠ .idle ∧ r.proximity = true then { r with tailing := true } else r }) ∧
      (u.chime.proximity = .sounding → ¬ inBand → marked v → (u.voice v).state = .gap → (∀ w, marked w → w = v) →
        proximityPacket u = dispatch { endVoice v { u with chime.proximity := .tailing } with chime.proximity := .quiet }) ∧
      (u.chime.proximity = .tailing → inBand → proximityPacket u = { u with
        chime.proximity := .sounding,
        chime.voices := u.chime.voices.map fun r =>
          if r.state ≠ .idle ∧ r.proximity = true then { r with tailing := false } else r }) ∧
      (u.chime.proximity = .tailing → ¬ inBand → proximityPacket u = u) ∧
      (u.chime.proximity = .suspended ∨ u.chime.proximity = .off → proximityPacket u = u))

/-- R139, R143 to R145: a voice block sample by sample, the refills of the page buffers and the end of a play, and a block
within one page in one piece. That an ended voice holds the values of `Voice.reset` is the model's choice (log entries 43
and 6). Its inferences (log entry 42): that of two buffers READY for one page the lower-numbered is read, and that a voice
is IDLE at once at the end of its last play, so that the block of its last samples is mixed only where it was taken before. That
the pages of an asset are those which hold a sample is its inference too (log entry 80), and so is that a proximity voice
whose play ends with d_min out of every band waits no gap (log entry 46). With them the gap of a play's end (R145, R149), and
the release of a pin, at whose last a retired generation leaves the retired list and its blocks join the erase list (R161;
`AssetDeleteInfoStatusAndAbort` spells that joining). -/
def Obligations.VoicePlaysItsSamples : Prop :=
  (∀ (v : Fin 4) (s : State),
    let r := s.voice v
    let silent := List.replicate 48 (0 : Int);
    (r.state = .idle → exec (.voiceBlockEvent v) s = .next s) ∧
    (r.state ≠ .idle → r.stopping = true → exec (.voiceBlockEvent v) s = .next (finishVoice v s)) ∧
    (r.state = .loading ∨ r.state = .gap → r.stopping = false →
      exec (.voiceBlockEvent v) s = .next (s.setVoice v { r with block := silent })) ∧
    (r.state = .playing → r.stopping = false → r.readyPage (r.position / 2048) = none →
      exec (.voiceBlockEvent v) s = .next ({ s with
        chime.counters.underrun := bump s.chime.counters.underrun }.setVoice v { r with block := silent })) ∧
    (∀ one bytes, r.state = .playing → r.stopping = false → r.readyPage (r.position / 2048) = some (one, bytes) →
      r.position % 2048 + 48 < 2048 → r.position + 48 < r.length / 2 →
      exec (.voiceBlockEvent v) s = .next (s.setVoice v { r with
        position := r.position + 48,
        block := (List.range 48).map fun j =>
          (bytes.getD (2 * (r.position % 2048 + j)) 0#8 ++ bytes.getD (2 * (r.position % 2048 + j) + 1) 0#8).toInt })) ∧
    (r.state = .gap → r.gapTimer.isSome = true → exec (.gapTimerExpiry v) s =
      .next (s.setVoice v { r with state := .playing, position := 0, gapTimer := none })) ∧
    (r.state ≠ .gap ∨ r.gapTimer = none → exec (.gapTimerExpiry v) s = .next s) ∧
    (r.tailing = true ∨ r.repeats = 1 → endPlay v s = finishVoice v s) ∧
    (r.tailing = false → 2 ≤ r.repeats → r.repeats ≤ 255 →
      let n := if r.repeats = 255 then 255 else r.repeats - 1;
      (gapOf r s = 0 → endPlay v s = s.setVoice v { r with repeats := n, state := .playing, position := 0 }) ∧
      (gapOf r s ≠ 0 → endPlay v s = s.setVoice v { r with
        repeats := n, state := .gap, gapTimer := some (gapOf r s) })) ∧
    (r.proximity = false → gapOf r s = match s.chimeEntry r.id with | some c => c.gap | none => 0) ∧
    (r.proximity = true →
      (∀ x before b after, x ∈ s.vehicle.distances.toList → x < 255 → (∀ y ∈ s.vehicle.distances.toList, x ≤ y) →
        s.chime.proximityBands = before ++ b :: after → (∀ c ∈ before, c.limit ≤ 10 * x) → 10 * x < b.limit →
        gapOf r s = b.gap) ∧
      ((∀ x ∈ s.vehicle.distances.toList, x < 255 → ∀ b ∈ s.chime.proximityBands, b.limit ≤ 10 * x) →
        gapOf r s = 0)) ∧
    (r.state ≠ .idle → (endVoice v s).voice v = Voice.reset ∧ ((endVoice v s).voice v).state = .idle ∧
      ∀ w, w ≠ v → (endVoice v s).voice w = s.voice w) ∧
    (r.state ≠ .idle →
      let told := fun (x : State) (k : Zone) => if r.zones.has k then voiceDemandEnds k x else x
      let idle := s.setVoice v .reset;
      endVoice v s = unpinAsset r.asset r.generation
        (if r.duck then [Zone.seatL, .seatR, .cabin].foldl told idle else idle)) ∧
    (let ended := endVoice v s;
      finishVoice v s = dispatch
        (if r.proximity = true ∧ (ended.chime.proximity = .sounding ∨ ended.chime.proximity = .tailing)
          then { ended with chime.proximity := .quiet } else ended))) ∧
  (∀ (v : Fin 4) (s : State), (s.voice v).state = .playing → (s.voice v).stopping = false →
    let made := playSamples v 48 { samples := [], short := false, ended := false } s
    let heard := made.2.setVoice v { made.2.voice v with block := made.1.samples.reverse }
    let counted := if made.1.short then
      { heard with chime.counters.underrun := bump heard.chime.counters.underrun } else heard;
    exec (.voiceBlockEvent v) s = .next (if made.1.ended then endPlay v counted else counted)) ∧
  (∀ (v : Fin 4) (n page : Nat) (run : BlockRun) (one : Bool) (bytes : List Byte) (x : State),
    let r := x.voice v
    let next := r.position + 1
    let last := next = r.length / 2
    let silent : BlockRun := { run with samples := 0 :: run.samples }
    let k := r.position % 2048
    let sample := (bytes.getD (2 * k) 0#8 ++ bytes.getD (2 * k + 1) 0#8).toInt
    let moved := x.setVoice v { r with position := next }
    let put := fun (b : PageBuffer) => if one then { r with buffer1 := b } else { r with buffer0 := b }
    let other := if one then r.buffer0 else r.buffer1
    let follows := if page + 1 < (r.length / 2 + 2047) / 2048 then some (page + 1) else if 1 < r.repeats then some 0 else none;
    playSamples v 0 run x = (run, x) ∧
    playSamples v (n + 1) run x = playSamples v n (playSample v run x).1 (playSample v run x).2 ∧
    (r.readyPage page = some (one, bytes) ↔
      (one = false ∧ r.buffer0 = .ready page bytes) ∨
        (one = true ∧ r.buffer1 = .ready page bytes ∧ ∀ b, r.buffer0 ≠ .ready page b)) ∧
    (run.ended = true → playSample v run x = (silent, x)) ∧
    (run.ended = false → r.readyPage (r.position / 2048) = none →
      playSample v run x = ({ silent with short := true }, x)) ∧
    (run.ended = false → r.readyPage (r.position / 2048) = some (one, bytes) →
      (next % 2048 ≠ 0 → ¬ last →
        playSample v run x = ({ run with samples := sample :: run.samples }, moved)) ∧
      (next % 2048 = 0 ∨ last → playSample v run x =
        ({ run with samples := sample :: run.samples, ended := decide last }, refillBuffer v one moved))) ∧
    (other = .empty → refillBuffer v one x = x.setVoice v (put .empty)) ∧
    ((∃ t, other = .reading page t) ∨ (∃ b, other = .ready page b) →
      refillBuffer v one x = fillBuffer v one follows x) ∧
    fillBuffer v one none x = x.setVoice v (put .empty) ∧
    fillBuffer v one (some page) x = storeSelect { x.setVoice v (put (.reading page x.store.nextToken)) with
      store.nextToken := x.store.nextToken + 1,
      store.reads := x.store.reads ++ [{
        reader := .voice v x.store.nextToken,
        block := (x.generationBlocks r.asset r.generation).getD (page / 64) 0, page := page % 64 }] }) ∧
  (∀ (id gen : Nat) (s : State),
    let freed := fun (r : AssetRecord) =>
      if r.id = id ∧ r.generation = gen then { r with pins := r.pins - 1 } else r
    let freedOld := fun (r : RetiredEntry) =>
      if r.id = id ∧ r.generation = gen then { r with pins := r.pins - 1 } else r
    let others := s.store.retired.filter fun r => decide (¬ (r.id = id ∧ r.generation = gen))
    let current := ∃ r ∈ s.store.directory, r.id = id ∧ r.generation = gen;
    (current → unpinAsset id gen s = { s with store.directory := s.store.directory.map freed }) ∧
    (∀ before e after, ¬ current → s.store.retired = before ++ e :: after → e.id = id → e.generation = gen →
      (∀ r ∈ before, ¬ (r.id = id ∧ r.generation = gen)) →
      (2 ≤ e.pins → unpinAsset id gen s = { s with store.retired := s.store.retired.map freedOld }) ∧
      (e.pins ≤ 1 → unpinAsset id gen s = joinErase e.blocks { s with store.retired := others })) ∧
    (¬ current → (∀ r ∈ s.store.retired, ¬ (r.id = id ∧ r.generation = gen)) → unpinAsset id gen s = s))

/-- R155, R156, R159's reads, and what R166 and R167 have the program of a page write. -/
def Obligations.StoreSelectsInOrder : Prop :=
  ∀ (s : State) (bs : List (Fin 256)),
    (s.store.state = .unmounted → s.store.op = .idle → exec .arrayReady s = .next { s with
      store.state := .mounting, store.mount := { Mount.reset with headersLeft := 256 },
      store.op := .read { reader := .mountHeader, block := 0, page := 0 },
      store.reads := ((List.finRange 256).drop 1).map fun b => { reader := .mountHeader, block := b, page := 0 } }) ∧
    (s.store.state ≠ .unmounted → exec .arrayReady s = .next s) ∧
    (s.store.op ≠ .idle → storeSelect s = s) ∧
    (∀ r rest, s.store.op = .idle → s.store.state ≠ .unmounted → s.store.reads = r :: rest →
      storeSelect s = { s with store.op := .read r, store.reads := rest }) ∧
    (s.store.state = .unmounted ∨ (s.store.state = .mounting ∧ s.store.reads = []) → storeSelect s = s) ∧
    (∀ (x : Transaction) (p : Nat), x.lastPage = (x.length + 4095) / 4096 - 1 ∧ x.programPage p = {
      main := (if p % 2 = 0 then x.buffer0 else x.buffer1).bytes, factory := 0xFF#8, runtimeBad := false,
      header := if p % 64 = 0 then some {
          assetId := x.id, kind := (match x.kind with | .glyphSet => 0 | .chimePcm => 1 | .profile => 2),
          generation := x.generation, sequence := p / 64, blockCount := x.reserved.length, length := x.length }
        else none,
      commit := if x.state = .finishing ∧ p = (x.length + 4095) / 4096 - 1 then some (~~~ x.crc) else none }) ∧
    (s.store.op = .idle → s.store.state = .ready → s.store.reads = [] → s.vehicle.supply ≠ .normal → storeSelect s = s) ∧
    (s.store.op = .idle → s.store.state = .ready → s.store.reads = [] → s.vehicle.supply = .normal →
      (∀ p rest, s.store.txQueue = p :: rest →
        let x := s.store.transaction
        storeSelect s = { s with
          store.op := .program (x.reserved.getD (p / 64) 0) (p % 64) (x.programPage p)
            (decide (x.state = .finishing ∧ p = x.lastPage)) true,
          store.txQueue := rest,
          store.transaction := x.setBuffer p { x.buffer p with state := .programming p } }) ∧
      (∀ b rest, s.store.txQueue = [] → s.store.badMarks = b :: rest →
        storeSelect s = { s with store.op := .badMark b, store.badMarks := rest }) ∧
      (s.store.txQueue = [] → s.store.badMarks = [] → s.store.eraseList ≠ [] →
        storeSelect s = { s with store.op := .erase (eraseChoice s.store.eraseList) }) ∧
      (s.store.txQueue = [] → s.store.badMarks = [] → s.store.eraseList = [] → storeSelect s = s)) ∧
    ((eraseChoice bs).Sublist bs ∧ (eraseChoice bs).head? = bs.head? ∧
      (eraseChoice bs).Pairwise (fun a b => a.val % 4 ≠ b.val % 4) ∧
      (∀ before b after, bs = before ++ b :: after →
        (b ∈ eraseChoice bs ∧ b ∉ before ↔ ∀ c ∈ before, c.val % 4 ≠ b.val % 4)))

/-- R154, R162, R145's voice with a failed page, R159's table and its valid headers, and R160: the next generation, the
commit page reads and the end of the mount. That the reader is handed its page before the free array selects is the model's
choice (log entry 78). The order of the commit page reads and of the directory's records is left open (log entry 36). That the next generation
rises at each valid header read is the model's choice (log entry 81). -/
def Obligations.PageReadsAreHandedOn : Prop :=
  ∀ (s : State) (failed : Bool) (b : Fin 256) (page token : Nat) (v : Fin 4) (content : Option Page),
    ((∀ r, s.store.op ≠ .read r) → exec (.pageReadCompletion failed) s = .next s) ∧
    (∀ r, s.store.op = .read r →
      (failed = true → exec (.pageReadCompletion failed) s = .next (finishOp (handRead r none { s with
        store.counters.readFail := bump s.store.counters.readFail }))) ∧
      (failed = false → exec (.pageReadCompletion failed) s =
        .next (finishOp (handRead r (some (readPage s.store.array r.block r.page)) s)))) ∧
    ((s.voice v).awaits token = none → handRead { reader := .voice v token, block := b, page := page } content s = s) ∧
    ((∀ l, s.raster.load = some l → l.token ≠ some token) →
      handRead { reader := .glyph token, block := b, page := page } content s = s) ∧
    ((∀ p, s.control.profile = some p → p.token ≠ some token) →
      handRead { reader := .profile token, block := b, page := page } content s = s) ∧
    (∀ one p x, (s.voice v).awaits token = some (one, p) → content = some x →
      handRead { reader := .voice v token, block := b, page := page } content s = s.setVoice v
        { (s.voice v).setBuffer one (.ready p x.main) with
          state := if (s.voice v).state = .loading ∧ p = 0 then .playing else (s.voice v).state }) ∧
    (∀ one p, (s.voice v).awaits token = some (one, p) → content = none →
      handRead { reader := .voice v token, block := b, page := page } content s = finishVoice v { s with
        chime.counters.readFail := bump s.chime.counters.readFail }) ∧
    (∀ one p, (s.voice v).awaits token = some (one, p) ↔
      (one = false ∧ (s.voice v).buffer0 = .reading p token) ∨
        (one = true ∧ (s.voice v).buffer1 = .reading p token ∧ ∀ x, (s.voice v).buffer0 ≠ .reading x token)) ∧
    (let t := placeHeader b content s;
      (content = none → t.blockSet b = .eraseList ∧ b ∈ t.store.eraseList ∧
        t.store.counters.mountDiscard = bump s.store.counters.mountDiscard) ∧
      (∀ x, content = some x →
        (x.factory ≠ 0xFF#8 ∨ x.runtimeBad = true → t = setBlock .bad b s) ∧
        (x.factory = 0xFF#8 → x.runtimeBad = false → x.header = none → t = setBlock .free b s) ∧
        (∀ h, x.factory = 0xFF#8 → x.runtimeBad = false → x.header = some h →
          (headerValid h = false → t.blockSet b = .eraseList ∧ b ∈ t.store.eraseList ∧
            t.store.counters.mountDiscard = bump s.store.counters.mountDiscard) ∧
          (headerValid h = true → t.store.sets = s.store.sets ∧ t.store.eraseList = s.store.eraseList ∧
            t.store.mount.blocks = s.store.mount.blocks ++ [{ block := b, header := h, commit := x.commit }])))) ∧
    (∀ h, headerValid h = true ↔ 1 ≤ h.assetId ∧ h.assetId ≤ 1023 ∧ h.kind ≤ 2 ∧ (h.kind = 2 ↔ h.assetId = 1) ∧
      1 ≤ h.blockCount ∧ h.blockCount ≤ 64 ∧ h.sequence < h.blockCount ∧ (h.blockCount - 1) * 262144 < h.length ∧
      h.length ≤ h.blockCount * 262144 ∧ 1 ≤ h.generation) ∧
    (let placed := placeHeader b content { s with store.mount.headersLeft := s.store.mount.headersLeft - 1 }
      let generation := match content.bind (·.header) with
        | some h => if headerValid h then max s.store.nextGeneration (h.generation + 1) else s.store.nextGeneration
        | none => s.store.nextGeneration
      let read := { placed with store.nextGeneration := generation }
      let reads := commitReads read.store.mount.blocks
      let t := handRead { reader := .mountHeader, block := b, page := page } content s;
      (2 ≤ s.store.mount.headersLeft → t = read) ∧
      (s.store.mount.headersLeft ≤ 1 → reads = [] → t = mountEnd read) ∧
      (s.store.mount.headersLeft ≤ 1 → reads ≠ [] → t = { read with
        store.reads := s.store.reads ++ reads, store.mount.commitsLeft := reads.length })) ∧
    (let found := match content.bind (·.commit) with
        | some crc => [(b, crc)]
        | none => []
      let read := { s with
        store.mount.commitsLeft := s.store.mount.commitsLeft - 1, store.mount.commits := s.store.mount.commits ++ found }
      let t := handRead { reader := .mountCommit, block := b, page := page } content s;
      (2 ≤ s.store.mount.commitsLeft → t = read) ∧ (s.store.mount.commitsLeft ≤ 1 → t = mountEnd read)) ∧
    (let m := s.store.mount
      let commitPage := fun (h : BlockHeader) => (h.length - 1) / 4096 % 64
      let group := fun (x : MountBlock) => m.blocks.filter fun y =>
        y.header.assetId == x.header.assetId && y.header.generation == x.header.generation
      let whole := fun (x : MountBlock) =>
        (∀ y ∈ group x, y.header.kind = x.header.kind ∧ y.header.blockCount = x.header.blockCount ∧
          y.header.length = x.header.length) ∧
        (group x).length = x.header.blockCount ∧ ∀ i, i < x.header.blockCount → ∃ y ∈ group x, y.header.sequence = i
      let last := fun (x : MountBlock) => x.header.sequence + 1 = x.header.blockCount
      let complete := fun (x : MountBlock) (r : AssetRecord) => whole x ∧ r.id = x.header.assetId ∧
        assetKind? x.header.kind = some r.kind ∧ r.generation = x.header.generation ∧ r.length = x.header.length ∧
        r.pins = 0 ∧ r.blocks.length = x.header.blockCount ∧
        (∀ y ∈ group x, r.blocks[y.header.sequence]? = some y.block) ∧
        ∃ y ∈ group x, last y ∧ some r.crc = (if commitPage y.header = 0 then y.commit
          else (m.commits.find? fun e => e.1 == y.block).map (·.2));
      (∀ r, r ∈ commitReads m.blocks ↔ ∃ x ∈ m.blocks, whole x ∧ last x ∧ commitPage x.header ≠ 0 ∧
        r = { reader := .mountCommit, block := x.block, page := commitPage x.header }) ∧
      ((m.blocks.map (·.block)).Nodup → (commitReads m.blocks).Nodup) ∧
      (mountEnd s).raised .storeMounted = true ∧
      ∃ w, mountEnd s = profileStart (raiseFlag .storeMounted w) ∧
        w = { s with
          store.state := .ready, store.cursor := 0, store.mount := .reset, store.directory := w.store.directory,
          store.sets := w.store.sets, store.eraseList := w.store.eraseList,
          store.counters.mountDiscard := w.store.counters.mountDiscard } ∧
        (∀ r, r ∈ w.store.directory ↔ ∃ x ∈ m.blocks, complete x r ∧
          ∀ y ∈ m.blocks, ∀ q, complete y q → q.id = r.id → q.generation ≤ r.generation) ∧
        (w.store.directory.map (·.id)).Nodup ∧
        (∀ x ∈ m.blocks,
          ((∃ r ∈ w.store.directory, x.block ∈ r.blocks) → w.blockSet x.block = .current ∧
            (x.block ∈ w.store.eraseList ↔ x.block ∈ s.store.eraseList)) ∧
          ((∀ r ∈ w.store.directory, x.block ∉ r.blocks) →
            w.blockSet x.block = .eraseList ∧ x.block ∈ w.store.eraseList)) ∧
        (∀ c, (∀ x ∈ m.blocks, x.block ≠ c) →
          w.blockSet c = s.blockSet c ∧ (c ∈ w.store.eraseList ↔ c ∈ s.store.eraseList)) ∧
        (s.store.eraseList.Pairwise (· ≤ ·) → w.store.eraseList.Pairwise (· ≤ ·)) ∧
        (let discarded := m.blocks.countP fun x => decide (w.blockSet x.block = .eraseList);
          s.store.counters.mountDiscard + discarded ≤ 4294967295 →
          w.store.counters.mountDiscard = s.store.counters.mountDiscard + discarded))

/-- R154, R157, R158 and R166 to R168 at the completions, and the aborts of R170 and R171. A program that fails counts
seven retries and a failed bad-mark write is not repeated (log entry 38, an inference); while an abort is in flight
the other completions change nothing (log entry 40, an inference); how many passes an aborted program had repeated,
what its pages then hold, and what mark a failed bad-mark write leaves, are free values (log entries 57, 3 and 66, the
model's choice); that the repeated passes of a program enter PROGRAM_RETRY together at its completion (log entry 77), that a commit
has its effects before the free array selects (log entry 78), that a transaction in NONE keeps the rest of its record (log
entry 59), that a retired generation joins the end of the retired list (log entry 82), and that the FLAGS notice
of STORE_FAILED goes before the reply of STORE_ABORT (log entry 69) are its choices too. -/
def Obligations.ProgramsErasesAndAbortsComplete : Prop :=
  ∀ (s : State) (k : Option (Fin 8)) (failed : List (Fin 256)) (mark : Byte),
    let x := s.store.transaction
    let retried := fun (n : Nat) => min (s.store.counters.programRetry + n) 4294967295
    let failedOnce : StoreCounters := { s.store.counters with
      programRetry := retried 7, programFail := bump s.store.counters.programFail }
    let counted : State := { s with
      store.aborting := true, store.counters.opAborted := bump s.store.counters.opAborted };
    (finishOp s = storeSelect { s with store.op := .idle, store.aborting := false }) ∧
    (s.store.aborting = true → exec (.pageProgramCompletion k) s = .next s ∧ exec (.eraseCompletion failed) s = .next s ∧
      (let aborted := fun (n : Nat) => { s.store with counters := { s.store.counters with programRetry := retried n } }
        let repeated := (Config.abortedRetries s.store.freeCount).val
        exec .abortCompletion s = .next (finishOp { s with store := match s.store.op with
          | .program b page _ _ _ => losePage b page (aborted repeated)
          | .badMark _ => { aborted repeated with freeCount := s.store.freeCount + 1 }
          | .erase bs => bs.foldl (fun st b => loseBlock b st) (aborted 0)
          | .read _ => aborted 0
          | .idle => aborted 0 }))) ∧
    (s.store.aborting = false → exec .abortCompletion s = .next s ∧
      (∀ b page content commit live, s.store.op = .program b page content commit live →
        (∀ n, k = some n →
          let u : State := { s with
            store.array := writePage s.store.array b page content, store.counters.programRetry := retried n.val }
          let free := fun (q : TxBuffer) => match q.state with
            | .programming p => if x.reserved.getD (p / 64) 0 = b ∧ p % 64 = page then TxBuffer.reset else q
            | _ => q;
          (live = false → exec (.pageProgramCompletion k) s = .next (finishOp u)) ∧
          (live = true → commit = false → exec (.pageProgramCompletion k) s = .next (finishOp { u with
            store.transaction := { x with buffer0 := free x.buffer0, buffer1 := free x.buffer1 } })) ∧
          (live = true → commit = true → ∃ t, exec (.pageProgramCompletion k) s = .next (finishOp t) ∧
            t.store.array = u.store.array ∧ t.store.counters = u.store.counters ∧ t.raised .storeDone = true ∧
            t.store.transaction = { x with
              state := .none, reserved := [], buffer0 := .reset, buffer1 := .reset, outcome := .done } ∧
            (∃ r, t.asset? x.id = some r ∧ r.kind = x.kind ∧ r.generation = x.generation ∧ r.length = x.length ∧
              r.crc = ~~~ x.crc ∧ r.blocks = x.reserved ∧ (x.id ≠ s.raster.glyphSet → r.pins = 0)) ∧
            (x.id ≠ s.raster.glyphSet ∨ s.raster.load = none → ∀ c ∈ x.reserved, t.blockSet c = .current) ∧
            (∀ i, i ≠ x.id → t.asset? i = s.asset? i) ∧
            (∀ r, s.asset? x.id = some r →
              (r.pins = 0 → ∀ c ∈ r.blocks, c ∈ t.store.eraseList ∧ (c ∉ x.reserved → t.blockSet c = .eraseList)) ∧
              (1 ≤ r.pins → x.id ≠ s.raster.glyphSet →
                t.store.retired = s.store.retired ++
                  [{ id := r.id, generation := r.generation, blocks := r.blocks, pins := r.pins }] ∧
                ∀ c ∈ r.blocks, c ∉ x.reserved → t.blockSet c = .retired)))) ∧
        (k = none → live = true → ∃ t, exec (.pageProgramCompletion k) s = .next (finishOp t) ∧ t.blockSet b = .bad ∧
          t.store.badMarks = s.store.badMarks ++ [b] ∧ t.store.txQueue = [] ∧ t.store.transaction.state = .none ∧
          t.store.transaction.outcome = .failed .program ∧ t.raised .storeFailed = true ∧
          t.store.counters = failedOnce ∧ t.store.array = (losePage b page s.store).array ∧
          t.store.directory = s.store.directory) ∧
        (k = none → live = false → exec (.pageProgramCompletion k) s = .next (finishOp { s with
          store := losePage b page { s.store with counters := failedOnce } }))) ∧
      (∀ b, s.store.op = .badMark b →
        (∀ n, k = some n → ∃ a, exec (.pageProgramCompletion k) s = .next (finishOp { s with
            store.array := a, store.counters.programRetry := retried n.val }) ∧
          readPage a b 0 = { readPage s.store.array b 0 with runtimeBad := true } ∧
          (∀ c page, page < 64 → c ≠ b ∨ page ≠ 0 → readPage a c page = readPage s.store.array c page)) ∧
        (k = none → ∃ a, exec (.pageProgramCompletion k) s = .next (finishOp { s with
            store.array := a, store.counters := failedOnce, store.freeCount := s.store.freeCount + 1 }) ∧
          readPage a b 0 = { readPage s.store.array b 0 with runtimeBad := Config.unknownMark s.store.freeCount } ∧
          (∀ c page, page < 64 → c ≠ b ∨ page ≠ 0 → readPage a c page = readPage s.store.array c page))) ∧
      (∀ bs, s.store.op = .erase bs → ∃ t, exec (.eraseCompletion failed) s = .next (finishOp t) ∧
        (∀ b ∈ bs, b ∉ t.store.eraseList ∧ (b ∉ failed → t.blockSet b = .free ∧
            ∀ page, page < 64 → readPage t.store.array b page = erasedPage) ∧
          (b ∈ failed → t.blockSet b = .bad ∧ b ∈ t.store.badMarks)) ∧
        (∀ b, b ∉ bs → t.blockSet b = s.blockSet b ∧ (b ∈ t.store.eraseList ↔ b ∈ s.store.eraseList) ∧
          ∀ page, page < 64 → readPage t.store.array b page = readPage s.store.array b page) ∧
        (s.store.counters.eraseFail + bs.length ≤ 4294967295 → t.store.counters.eraseFail =
          s.store.counters.eraseFail + bs.countP fun b => decide (b ∈ failed)) ∧
        t.store.directory = s.store.directory)) ∧
    (∀ cause,
      (s.store.aborting = true → abortOperation cause s = s) ∧
      (s.store.aborting = false →
        (∀ b page content commit, s.store.op = .program b page content commit true →
          abortOperation cause s = failTransaction cause counted) ∧
        (∀ b page content commit, s.store.op = .program b page content commit false → abortOperation cause s = counted) ∧
        (∀ b, s.store.op = .badMark b →
          abortOperation cause s = { counted with store.badMarks := b :: s.store.badMarks }) ∧
        (∀ bs, s.store.op = .erase bs → abortOperation cause s = counted) ∧
        (s.store.op = .idle ∨ (∃ r, s.store.op = .read r) → abortOperation cause s = s)) ∧
      (let t := failTransaction cause s;
        t.store.transaction.state = .none ∧ t.store.transaction.outcome = .failed cause ∧
        t.store.transaction.reserved = [] ∧ t.store.txQueue = [] ∧ t.store.directory = s.store.directory ∧
        t.store.eraseList = s.store.eraseList ++ x.reserved ∧ (∀ b ∈ x.reserved, t.blockSet b = .eraseList) ∧
        (cause ≠ .reset → t.raised .storeFailed = true))) ∧
    (∀ (c : Byte) (a b : Nat) (b0 b2 b3 b4 b5 b6 b7 b8 b9 : Byte), s.links.downlink.state = .up →
      s.links.downlink.assembler = .assembling → a < 65536 → b < 65536 → s.vehicle.supply ≠ .cranking →
      s.store.aborting = false → s.store.op ≠ .idle → (∀ r, s.store.op ≠ .read r) →
      ∃ t, exec (.vehiclePacket (packetBytes .vehicle mark a b c [b0, 2#8, b2, b3, b4, b5, b6, b7, b8, b9])) s = .next t ∧
        t.vehicle.supply = .cranking ∧ t.store.aborting = true ∧
        t.store.counters.opAborted = bump s.store.counters.opAborted ∧
        (∀ n page content commit, s.store.op = .program n page content commit true →
          t.store.transaction.state = .none ∧ t.store.transaction.outcome = .failed .supply ∧
          t.raised .storeFailed = true) ∧
        (∀ n, s.store.op = .badMark n → t.store.badMarks = n :: s.store.badMarks)) ∧
    (Running s → s.store.state = .ready → s.store.aborting = false →
      (∀ b page content commit, s.store.op = .program b page content commit true →
        exec (.storeAbort mark) s = .next (replied mark 76 .ok [] (failTransaction .abort counted))) ∧
      (∀ u : State, (∃ b page content commit, s.store.op = .program b page content commit false ∧ u = counted) ∨
          (∃ b, s.store.op = .badMark b ∧ u = { counted with store.badMarks := b :: s.store.badMarks }) ∨
          (∃ bs, s.store.op = .erase bs ∧ u = counted) →
        (x.state = .none → exec (.storeAbort mark) s = .next (replied mark 76 .ok [] u)) ∧
        (x.state ≠ .none → exec (.storeAbort mark) s = .next (replied mark 76 .ok [] (failTransaction .abort u)))))

/-- R155's NOT_READY and the first paragraphs of R164, R165 and R167. That NOT_READY comes before check 1 of R165 and R167
is the model's inference (log entry 41). That the FLAGS notice of STORE_FAILED goes before the reply is its choice (log
entry 69). -/
def Obligations.AssetTransactionCommands : Prop :=
  ∀ (mark : Byte) (id kind length offset : Nat) (bytes : List Byte) (crc : BitVec 32) (s : State), Running s →
    let x := s.store.transaction
    let ready := s.store.state = .ready
    let opening := exec (.assetBegin mark id kind length) s
    let data := exec (.assetData mark offset bytes) s
    let finish := exec (.assetEnd mark crc) s
    let expected := u32 x.received;
    (x.state ≠ .none → opening = .next (replied mark 70 .busy [] s)) ∧
    (x.state = .none → ¬ ready → opening = .next (replied mark 70 .notReady [] s)) ∧
    (x.state = .none → ready → beginParamsOk id kind length = false → opening = .next (replied mark 70 .param [] s)) ∧
    (beginParamsOk id kind length = true ↔ 1 ≤ id ∧ id ≤ 1023 ∧ kind ≤ 2 ∧ (kind = 2 ↔ id = 1) ∧ 1 ≤ length ∧
      length ≤ 16777216) ∧
    (x.state = .none → ready → beginParamsOk id kind length = true →
      let n := (length + 262143) / 262144
      let upward := (List.range 256).map fun i => Fin.ofNat 256 (s.store.cursor + i)
      let free := upward.filter fun b => s.blockSet b = .free
      let chosen := free.take n;
      (free.length < n → opening = .next (replied mark 70 .noSpace [] s)) ∧
      (n ≤ free.length → ∃ t,
        opening = .next (replied mark 70 .ok (u32 s.store.nextGeneration ++ listBytes (fun b : Fin 256 => u8 b.val) chosen) t) ∧
        t.store.transaction.state = .opened ∧ t.store.transaction.id = id ∧ t.store.transaction.length = length ∧
        t.store.transaction.kind.code = kind ∧ t.store.transaction.generation = s.store.nextGeneration ∧
        t.store.transaction.reserved = chosen ∧ t.store.transaction.received = 0 ∧
        t.store.transaction.outcome = .none ∧ t.store.transaction.crc = 0xFFFFFFFF#32 ∧
        t.store.transaction.buffer0 = { state := .free, bytes := [] } ∧
        t.store.transaction.buffer1 = { state := .free, bytes := [] } ∧
        (∀ b, chosen.getLast? = some b → t.store.cursor = (b.val + 1) % 256) ∧ chosen ≠ [] ∧ t.store.nextGeneration = s.store.nextGeneration + 1 ∧
        (∀ b ∈ chosen, t.blockSet b = .reserved) ∧ (∀ b, b ∉ chosen → t.blockSet b = s.blockSet b) ∧
        t.raised .storeDone = false ∧ t.raised .storeFailed = false ∧ t.store.directory = s.store.directory)) ∧
    (¬ ready → data = .next (replied mark 71 .notReady [] s) ∧ finish = .next (replied mark 72 .notReady [] s)) ∧
    (ready →
      (x.state = .none → data = .next (replied mark 71 .param [] s) ∧ finish = .next (replied mark 72 .param [] s)) ∧
      (x.state = .finishing → data = .next (replied mark 71 .busy [] s) ∧ finish = .next (replied mark 72 .busy [] s)) ∧
      (x.state = .opened → 1 ≤ bytes.length → bytes.length ≤ 1024 →
        let p := x.received / 4096;
        (offset ≠ x.received → data = .next (replied mark 71 .param expected s)) ∧
        (offset = x.received → x.length < x.received + bytes.length → data = .next (replied mark 71 .param [] s)) ∧
        (offset = x.received → x.received + bytes.length ≤ x.length →
          (x.buffer p).busy = true ∨ (x.buffer ((x.received + bytes.length - 1) / 4096)).busy = true →
          data = .next (replied mark 71 .busy expected s)) ∧
        (offset = x.received → x.received + bytes.length ≤ x.length → (x.buffer p).busy = false →
          (x.buffer ((x.received + bytes.length - 1) / 4096)).busy = false →
          let room := 4096 - x.received % 4096
          let taken : State := { s with store.transaction := { x with
            received := x.received + bytes.length, crc := crc32Update x.crc bytes } }
          let put := fun (q : Nat) (more : List Byte) (u : State) =>
            let y := u.store.transaction
            let held := (y.buffer q).bytes ++ more
            if held.length = 4096 ∧ q ≠ (x.length + 4095) / 4096 - 1 then
              storeSelect { u with
                store.transaction := y.setBuffer q { state := .queued q, bytes := held },
                store.txQueue := u.store.txQueue ++ [q] }
            else { u with store.transaction := y.setBuffer q { state := .filling q, bytes := held } };
          (bytes.length ≤ room →
            data = .next (replied mark 71 .ok (u32 (x.received + bytes.length)) (put p bytes taken))) ∧
          (room < bytes.length →
            data = .next (replied mark 71 .ok (u32 (x.received + bytes.length))
              (put (p + 1) (bytes.drop room) (put p (bytes.take room) taken)))))) ∧
      (x.state = .opened → x.received < x.length → finish = .next (replied mark 72 .param expected s)) ∧
      (x.state = .opened → x.length ≤ x.received → crc ≠ ~~~ x.crc → finish = .next (replied mark 72 .accepted []
        (failTransaction .crc { s with store.transaction := { x with state := .finishing } }))) ∧
      (x.state = .opened → x.length ≤ x.received → crc = ~~~ x.crc → finish = .next (replied mark 72 .accepted []
        (storeSelect { s with
          store.transaction := { x with state := .finishing }.setBuffer x.lastPage {
            state := .queued x.lastPage,
            bytes := (x.buffer x.lastPage).bytes
              ++ List.replicate (4096 - (x.buffer x.lastPage).bytes.length) 0xFF#8 },
          store.txQueue := s.store.txQueue ++ [x.lastPage] }))))

/-- R169, R171 and R172, with the blocks that join the erase list (R158); the layouts of the two reports, where R185 leaves
them open, are the model's choice (log entry 13), and so is that the FLAGS notice of STORE_FAILED goes before the reply (log
entry 69). That a bad id is PARAM outside READY too, where R155 has every command but two answer NOT_READY, is the model's
choice (log entry 41, an inference). -/
def Obligations.AssetDeleteInfoStatusAndAbort : Prop :=
  ∀ (mark : Byte) (id : Nat) (s : State),
    (interpreterFree s = true →
      let st := s.store
      let size := fun c => u16 (s.countSet c)
      let retired := fun (r : RetiredEntry) => u16 r.id ++ u32 r.generation ++ blockListBytes r.blocks ++ u8 r.pins
      let x := st.transaction
      exec (.storeStatus mark) s = .next (replied mark 75 .ok (u8 st.state.code ++
        [boolByte (decide (s.vehicle.supply ≠ .normal))] ++ u8 st.op.code ++ [boolByte st.aborting] ++
        size .bad ++ size .free ++ size .reserved ++ size .current ++ size .retired ++ size .eraseList ++
        size .unclassified ++ u16 st.eraseList.length ++ st.eraseList.flatMap (fun b => u8 b.val) ++
        listBytes retired st.retired ++
        (u8 x.state.code ++ u16 x.id ++ u8 x.kind.code ++ u32 x.length ++ u32 x.generation ++ blockListBytes x.reserved ++
          u32 x.received ++ u32 (~~~ x.crc).toNat ++ x.buffer0.state.bytes ++ x.buffer1.state.bytes ++ x.outcome.bytes) ++
        u8 st.cursor ++ u32 st.nextGeneration ++ u16 st.reads.length ++
        ([st.counters.readFail, st.counters.programRetry, st.counters.programFail, st.counters.eraseFail,
          st.counters.opAborted, st.counters.mountDiscard].flatMap u32)) s)) ∧
    (Running s →
      let ready := s.store.state = .ready
      let x := s.store.transaction;
      (id = 0 ∨ 1024 ≤ id → exec (.assetDelete mark id) s = .next (replied mark 73 .param [] s) ∧
        exec (.assetInfo mark id) s = .next (replied mark 74 .param [] s)) ∧
      (1 ≤ id → id ≤ 1023 → ¬ ready → exec (.assetDelete mark id) s = .next (replied mark 73 .notReady [] s) ∧
        exec (.assetInfo mark id) s = .next (replied mark 74 .notReady [] s)) ∧
      (1 ≤ id → id ≤ 1023 → ready → s.asset? id = none →
        exec (.assetDelete mark id) s = .next (replied mark 73 .notFound [] s) ∧
        exec (.assetInfo mark id) s = .next (replied mark 74 .notFound [] s)) ∧
      (∀ r, 1 ≤ id → id ≤ 1023 → ready → s.asset? id = some r →
        (let retired := fun (e : RetiredEntry) => u32 e.generation ++ u8 e.pins;
          exec (.assetInfo mark id) s = .next (replied mark 74 .ok (u8 r.kind.code ++ u32 r.generation ++ u32 r.length ++
            u32 r.crc.toNat ++ blockListBytes r.blocks ++ u8 r.pins ++
            listBytes retired (s.store.retired.filter fun e => e.id == id) ++
            [boolByte (decide (x.state ≠ .none ∧ x.id = id))]) s)) ∧
        (1 ≤ r.pins → exec (.assetDelete mark id) s = .next (replied mark 73 .inUse [] s)) ∧
        (r.pins = 0 → exec (.assetDelete mark id) s = .next (replied mark 73 .ok [] (joinErase r.blocks { s with
          store.directory := s.store.directory.filter fun q => q.id != id })))) ∧
      (¬ ready → exec (.storeAbort mark) s = .next (replied mark 76 .notReady [] s)) ∧
      (ready → s.store.aborting = true → exec (.storeAbort mark) s = .next (replied mark 76 .ok [] s)) ∧
      (ready → s.store.aborting = false → (s.store.op = .idle ∨ ∃ r, s.store.op = .read r) →
        (x.state = .none → exec (.storeAbort mark) s = .next (replied mark 76 .ok [] s)) ∧
        (x.state ≠ .none → exec (.storeAbort mark) s =
          .next (replied mark 76 .ok [] (failTransaction .abort s)))) ∧
      (∀ bs, ready → s.store.aborting = false → s.store.op = .erase bs → x.state = .none →
        exec (.storeAbort mark) s = .next (replied mark 76 .ok [] { s with
          store.aborting := true, store.counters.opAborted := bump s.store.counters.opAborted }))) ∧
    (∀ bs, joinErase bs s = storeSelect { s with
      store.eraseList := s.store.eraseList ++ bs,
      store.sets := Vector.ofFn fun b : Fin 256 => if b ∈ bs then .eraseList else s.store.sets[b] })

/-- The three cases of R180 for a packet handed over. R179 with the waiting reply of R180, the pending retrain of R182
and the soft reset that takes effect at the reply's append (R197). That WAITING_REPLY_APPEND with a full queue acts as
SEND_COMPLETION does is the model's choice (log entry 51), and so are the stages of a soft reset that begins at that append:
the packets of the FIFO are moved away to be answered FAILED, and no block is reset yet (log entry 33). -/
def Obligations.UplinkHandoverAndSending : Prop :=
  (∀ (p : UplinkPacket) (b : UplinkBody) (s : State),
    (s.links.uplink.state = .up → s.uplink.queue.length < 16 →
      handReply p s = { s with uplink.queue := s.uplink.queue ++ [p] } ∧
      handNotice b s = { s with uplink.queue := s.uplink.queue ++ [{ body := b, retrains := false }] }) ∧
    (s.links.uplink.state = .up → 16 ≤ s.uplink.queue.length →
      handReply p s = { s with uplink.waiting := some p } ∧
      handNotice b s = { s with links.uplink.uplinkDrop := bump s.links.uplink.uplinkDrop }) ∧
    (s.links.uplink.state ≠ .up →
      handReply p s = { s with links.uplink.replyDrop := bump s.links.uplink.replyDrop } ∧
      handNotice b s = { s with links.uplink.uplinkDrop := bump s.links.uplink.uplinkDrop })) ∧
    (∀ (s : State) (p w : UplinkPacket) (rest : List UplinkPacket),
    (s.links.uplink.state = .up → s.uplink.queue = p :: rest → s.uplink.waiting = none → p.retrains = false →
      exec .sendCompletion s = .next { s with uplink.queue := rest, out := .uplink p.body.bytes :: s.out }) ∧
    (s.links.uplink.state = .up → s.uplink.queue = p :: rest → s.uplink.waiting = some w → p.retrains = false →
      exec .sendCompletion s = .next { s with
        uplink := { queue := rest ++ [w], waiting := none }, out := .uplink p.body.bytes :: s.out,
        control := if s.control.softReset = .arranged
          then { s.control with softReset := .failing s.control.fifo, fifo := [] } else s.control }) ∧
    (s.links.uplink.state = .up → s.uplink.queue = p :: rest → s.uplink.waiting = none → p.retrains = true →
      exec .sendCompletion s = .next (retrain .uplink
        { s with uplink.queue := rest, out := .uplink p.body.bytes :: s.out })) ∧
    (s.links.uplink.state = .up → s.uplink.queue = p :: rest → s.uplink.waiting = some w → p.retrains = true →
      exec .sendCompletion s = .next (retrain .uplink { s with
        uplink := { queue := rest ++ [w], waiting := none }, out := .uplink p.body.bytes :: s.out,
        control := if s.control.softReset = .arranged
          then { s.control with softReset := .failing s.control.fifo, fifo := [] } else s.control })) ∧
    (s.uplink.queue = [] → exec .sendCompletion s = .next s) ∧
    (s.uplink.waiting = some w → 16 ≤ s.uplink.queue.length →
      exec .waitingReplyAppend s = exec .sendCompletion s) ∧
    (s.uplink.waiting = some w → s.uplink.queue.length < 16 →
      exec .waitingReplyAppend s = .next { s with
        uplink := { queue := s.uplink.queue ++ [w], waiting := none },
        control := if s.control.softReset = .arranged
          then { s.control with softReset := .failing s.control.fifo, fifo := [] } else s.control }) ∧
    (s.links.uplink.state ≠ .up → exec .sendCompletion s = .next s))

/-- R174, with the opening byte of R179 and the resync of R175. R174 for a loss of lock, with the emptied uplink
queue of R181. R72 at both, with the releases of R77 and R20's wake of FRONT. The order LINK_ERROR before the view's own
flag is a choice (log entry 21), and so is the output backlight 0 of an OFF panel (log entry 6). R182. (Numbers 0 to 5
name the links in R182's order, by R185.) That the notice of LINK_ERROR goes before the reply of LINK_RETRAIN is the model's
choice (log entry 69). That a soft reset arranged on a waiting reply begins where the uplink's loss removes that reply, with
the packets of the FIFO moved away to be answered FAILED and no block reset yet, is the model's choice (log entry 33). -/
def Obligations.LinkEventsAndRetrain : Prop :=
  (∀ (s : State),
    (s.links.downlink.state = .training → exec (.linkLock .downlink) s = .next { s with
      links.downlink := { s.links.downlink with state := .up, assembler := .resync } }) ∧
    (s.links.camera.state = .training → exec (.linkLock .camera) s = .next { s with
      links.camera := { s.links.camera with state := .up, assembler := .resync } }) ∧
    (s.links.uplink.state = .training → exec (.linkLock .uplink) s = .next { s with
      links.uplink.state := .up, out := .uplink [0#8] :: s.out }) ∧
    (s.links.front.state = .training → exec (.linkLock .front) s = .next (panelUp .front { s with
      links.front.state := .up })) ∧
    (s.links.left.state = .training → exec (.linkLock .left) s = .next (panelUp .left { s with
      links.left := { s.links.left with state := .up, assembler := .resync } })) ∧
    (s.links.right.state = .training → exec (.linkLock .right) s = .next (panelUp .right { s with
      links.right := { s.links.right with state := .up, assembler := .resync } })) ∧
    (∀ l, (s.link l).state ≠ .training → exec (.linkLock l) s = .next s)) ∧
    (∀ (s : State),
    (s.links.downlink.state = .up → exec (.linkLossOfLock .downlink) s = .next (raiseFlag .linkError
      (abandonLink .downlink { s with links.downlink :=
        { s.links.downlink with state := .training, assembler := .off, linkDown := bump s.links.downlink.linkDown } }))) ∧
    (s.links.camera.state = .up → exec (.linkLossOfLock .camera) s = .next (viewLinkDown (raiseFlag .linkError
      (abandonLink .camera { s with links.camera :=
        { s.links.camera with state := .training, assembler := .off, linkDown := bump s.links.camera.linkDown } })))) ∧
    (s.links.uplink.state = .up → exec (.linkLossOfLock .uplink) s = .next (raiseFlag .linkError { s with
      uplink := { queue := [], waiting := none },
      links.uplink := { s.links.uplink with
        state := .training, assembler := .off, linkDown := bump s.links.uplink.linkDown,
        replyDrop := bumpBy s.links.uplink.replyDrop ((s.uplink.queue ++ s.uplink.waiting.toList).countP isReply),
        uplinkDrop := bumpBy s.links.uplink.uplinkDrop
          ((s.uplink.queue ++ s.uplink.waiting.toList).countP fun p => !isReply p) },
      control := if s.uplink.waiting.isSome ∧ s.control.softReset = .arranged
        then { s.control with softReset := .failing s.control.fifo, fifo := [] } else s.control })) ∧
    (s.links.front.state = .up → exec (.linkLossOfLock .front) s = .next (panelOff .front { s with
      links.front := { s.links.front with
        state := .training, assembler := .off, linkDown := bump s.links.front.linkDown } })) ∧
    (s.links.left.state = .up → exec (.linkLossOfLock .left) s = .next (panelOff .left { s with
      links.left := { s.links.left with
        state := .training, assembler := .off, linkDown := bump s.links.left.linkDown } })) ∧
    (s.links.right.state = .up → exec (.linkLossOfLock .right) s = .next (panelOff .right { s with
      links.right := { s.links.right with
        state := .training, assembler := .off, linkDown := bump s.links.right.linkDown } })) ∧
    (∀ l, (s.link l).state ≠ .up → exec (.linkLossOfLock l) s = .next s)) ∧
    (∀ (mark : Byte) (s : State), Running s →
    (∀ (n : Nat) (l : Link), link? n = some l → (l = .uplink → s.links.uplink.state ≠ .up) →
      exec (.linkRetrain mark n) s = .next (replied mark 80 .ok [] (retrain l s))) ∧
    (s.links.uplink.state = .up → exec (.linkRetrain mark 1) s = .next (handReply
      { body := .reply mark .ok 80#8 [], retrains := true } s)) ∧
    (∀ n, 6 ≤ n → exec (.linkRetrain mark n) s = .next (replied mark 80 .param [] s)) ∧
    (∀ l, (s.link l).state = .up → exec (.linkLossOfLock l) s = .next (retrain l s)) ∧
    (∀ l, (s.link l).state = .training → retrain l s = s)) ∧
    (∀ (p : Panel) (s : State),
    let r := s.panel p
    let off := panelOff p s
    let slept : State := { s.setPanel p { r with
      power := .sleep, transition := .none, blankEnded := 0, outBacklight := 0 } with out := .backlight p 0 :: s.out }
    let held := fun (n : Fin 8) (k : Nat) => (r.holds.toList ++ (if p = .front then [s.takeover.cameraHold] else [])).countP
      fun h => decide (h = some { ring := n, buffer := k });
    (off.panel p = { r with
        power := .off, transition := .none, blankEnded := 0, outBacklight := 0, frame := none,
        holds := Vector.replicate 6 none } ∧
      (∀ q, q ≠ p → off.panel q = s.panel q) ∧ off.raised .panelLink = true ∧ off.out = s.out ∧ off.mem = s.mem ∧
      off.takeover = { s.takeover with cameraHold := if p = .front then none else s.takeover.cameraHold } ∧
      (∀ n k b, (s.ring n).buffers[k]? = some b →
        ∃ b', (off.ring n).buffers[k]? = some b' ∧ b'.holds = b.holds - held n k)) ∧
    ((s.link p.link).state = .up →
      (r.requestActive = false → p ≠ .front ∨ s.takeover.phase = .idle → panelUp p s = slept) ∧
      (r.requestActive = true ∨ (p = .front ∧ s.takeover.phase ≠ .idle) →
        panelUp p s = frameStart p (slept.setPanel p { r with
          power := .waking, transition := .none, blankEnded := 0, outBacklight := 0 }))))

/-- R175's assembler and the first three checks of R176. -/
def Obligations.AssemblerAndDiscardedPackets : Prop :=
  ∀ (l : Link) (s : State), (s.link l).state = .up →
    ((s.link l).assembler = .resync → exec (.resyncEndFlag l) s = .next (s.setLink l
      { s.link l with assembler := .assembling, resync := bump (s.link l).resync })) ∧
    ((s.link l).assembler = .discarding → exec (.resyncEndFlag l) s = .next (s.setLink l
      { s.link l with assembler := .assembling })) ∧
    ((s.link l).assembler = .assembling → exec (.overlongPacket l) s = .next (s.setLink l
      { s.link l with assembler := .discarding, overlong := bump (s.link l).overlong })) ∧
    (∀ bytes : List Byte, (s.link l).assembler = .assembling → 1 ≤ bytes.length → bytes.length ≤ 7 →
      exec (.arrivedPacketDiscarded l bytes) s = .next (s.setLink l
        { s.link l with runt := bump (s.link l).runt })) ∧
    (∀ (h0 h1 h2 h3 h4 h5 h6 h7 : Byte) (body : List Byte), (s.link l).assembler = .assembling →
      body.length ≤ 3844 →
      (h0.toNat % 16 ≠ 0 ∨ h7 ≠ crc8 [h0, h1, h2, h3, h4, h5, h6] →
        exec (.arrivedPacketDiscarded l (h0 :: h1 :: h2 :: h3 :: h4 :: h5 :: h6 :: h7 :: body)) s = .next (s.setLink l
          { s.link l with hdrErr := bump (s.link l).hdrErr })) ∧
      (h0.toNat % 16 = 0 → h7 = crc8 [h0, h1, h2, h3, h4, h5, h6] →
        (∀ k, kind? (h0.toNat / 16) = some k → allowedOn l k = false) →
        exec (.arrivedPacketDiscarded l (h0 :: h1 :: h2 :: h3 :: h4 :: h5 :: h6 :: h7 :: body)) s = .next (s.setLink l
          { s.link l with kindViolation := bump (s.link l).kindViolation })))

/-- R186's first paragraph for packets as R184 lays them out. R186's table of checks, at the taking of a packet.
An area of a wrong length is LENGTH, whatever PARAM its owner's own checks would give it: R186 makes them after its five (log
entry 67, an inference). That LOCKED is judged by the first parameter byte before the length is checked, of a malformed area
too, is an inference as well (log entry 25). That the command's own notices go before
its reply (log entry 69), and that a taking hands the turn to the profile where no entry waits (log entry 70), is its
choice. -/
def Obligations.ControlPacketsEnterAndAreTaken : Prop :=
  (∀ (mark c : Byte) (a b : Nat) (payload crc : List Byte) (s : State),
    s.links.downlink.state = .up → s.links.downlink.assembler = .assembling → a < 65536 → b < 65536 →
    payload.length ≤ 3840 →
    (s.control.fifo.length < 8 → exec (.ctrlPacket (packetBytes .ctrl mark a b c payload)) s = .next { s with
      control.fifo := s.control.fifo ++ [{ mark := mark, code := c, params := payload, good := true }] }) ∧
    (8 ≤ s.control.fifo.length → exec (.ctrlPacket (packetBytes .ctrl mark a b c payload)) s = .next { s with
      control.ctrlOverflow := bump s.control.ctrlOverflow }) ∧
    (s.control.fifo.length < 8 → payload ≠ [] → crc.length = 4 → crc ≠ beBytes 4 (crc32 payload).toNat →
      exec (.ctrlPacket ((packetBytes .ctrl mark a b c payload).take (8 + payload.length) ++ crc)) s = .next { s with
        links.downlink.payErr := bump s.links.downlink.payErr,
        control.fifo := s.control.fifo ++ [{ mark := mark, code := c, params := payload, good := false }] })) ∧
    (∀ (s : State) (p : ControlPacket) (rest : List ControlPacket), interpreterFree s = true →
    (entryWaits s && s.control.profileTurn) = false → s.control.fifo = p :: rest →
    let t := { s with control.fifo := rest, control.profileTurn := true }
    let reply := fun st => Host.Outcome.next (handReply
      { body := .reply p.mark st p.code [], retrains := false } t)
    let first := p.params.head?.map (·.toNat);
    (p.good = false → exec .commandTake s = reply .badCrc) ∧
    (p.good = true → readCommand p.code.toNat = none → exec .commandTake s = reply .unknown) ∧
    (∀ r, p.good = true → readCommand p.code.toNat = some r → s.control.phase ≠ .running →
      p.code.toNat ∉ [18, 23, 75, 81, 84] → exec .commandTake s = reply .notReady) ∧
    (∀ r, p.good = true → readCommand p.code.toNat = some r →
      (s.control.phase = .running ∨ p.code.toNat ∈ [18, 23, 75, 81, 84]) → lockedOut p.code.toNat first s = true →
      exec .commandTake s = reply .locked) ∧
    (∀ r, p.good = true → readCommand p.code.toNat = some r →
      (s.control.phase = .running ∨ p.code.toNat ∈ [18, 23, 75, 81, 84]) → lockedOut p.code.toNat first s = false →
      decodeParams r p.params = none →
      exec .commandTake s = reply .length) ∧
    (∀ r c, p.good = true → readCommand p.code.toNat = some r →
      (s.control.phase = .running ∨ p.code.toNat ∈ [18, 23, 75, 81, 84]) → lockedOut p.code.toNat first s = false →
      decodeParams r p.params = some c →
      exec .commandTake s = .next (handAnswer p.mark p.code (perform c t))) ∧
    (∀ w, exec .commandTake { s with uplink.waiting := some w } = .next { s with uplink.waiting := some w }))

/-- Decode of encode for the parameter areas of all 47 commands (R185, R188). The area of CHIME_DEFINE without its entry
is log entry 12, the counts left out of two tables log entry 32, the layer id that LAYER_SET carries once log entry 65. -/
def Obligations.CommandParametersRoundTrip : Prop :=
  ∀ (c : Command), c.encodable →
    ∃ r, readCommand c.code = some r ∧ decodeParams r c.params = some c ∧
      ∀ extra : List Byte, extra ≠ [] → decodeParams r (c.params ++ extra) = none

/-- R191: what raising a flag does. -/
def Obligations.RaisedFlagNotice : Prop :=
  ∀ (f g : Flag) (s : State),
    (s.raised f = true → raiseFlag f s = s) ∧
    (s.raised f = false → s.unmasked f = true →
      raiseFlag f s = handNotice (.flags (s.attention.flags ||| f.bit))
        { s with attention.flags := s.attention.flags ||| f.bit }) ∧
    (s.raised f = false → s.unmasked f = false →
      raiseFlag f s = { s with attention.flags := s.attention.flags ||| f.bit }) ∧
    (raiseFlag f s).raised f = true ∧
    (f ≠ g → s.raised f = false → s.raised g = false → s.unmasked f = true → s.unmasked g = true →
      s.links.uplink.state = .up → s.uplink.queue.length + 1 < 16 →
      raiseFlag g (raiseFlag f s) = { s with
        attention.flags := s.attention.flags ||| f.bit ||| g.bit,
        uplink.queue := s.uplink.queue ++ [{ body := .flags (s.attention.flags ||| f.bit), retrains := false },
          { body := .flags (s.attention.flags ||| f.bit ||| g.bit), retrains := false }] })

/-- R192 for a taken ATTENTION_ACK and a taken NOTICE_MASK_SET. -/
def Obligations.AttentionAndMaskCommands : Prop :=
  ∀ (mark : Byte) (f : BitVec 16) (s : State), Running s →
    (f &&& 0xF000#16 = 0#16 →
      exec (.attentionAck mark f) s = .next (replied mark 82 .ok
        (u16 (s.attention.flags &&& ~~~f).toNat ++ u16 s.attention.mask.toNat)
        { s with attention.flags := s.attention.flags &&& ~~~f })) ∧
    (f &&& 0xF000#16 ≠ 0#16 → exec (.attentionAck mark f) s = .next (replied mark 82 .param [] s)) ∧
    (f &&& 0xF000#16 = 0#16 → f &&& ~~~s.attention.mask &&& s.attention.flags = 0#16 →
      exec (.noticeMaskSet mark f) s = .next (replied mark 83 .ok [] { s with attention.mask := f })) ∧
    (f &&& 0xF000#16 = 0#16 → f &&& ~~~s.attention.mask &&& s.attention.flags ≠ 0#16 →
      exec (.noticeMaskSet mark f) s = .next (handNotice (.flags s.attention.flags)
        (replied mark 83 .ok [] { s with attention.mask := f }))) ∧
    (f &&& 0xF000#16 ≠ 0#16 → exec (.noticeMaskSet mark f) s = .next (replied mark 83 .param [] s))

/-- R189 and R26, with the items of each group, from the tables of the chapters R189 names, as COUNTERS_READ reports and clears
them. The widths of the items and the order of those that no table lists are the model's reading of R185 (log entry 13), and
PARAM for a clear byte that is neither 0 nor 1 is its choice (log entry 26). -/
def Obligations.ReportsAnsweredInEveryPhase : Prop :=
  (∀ (mark : Byte) (group clear : Nat) (s : State), interpreterFree s = true →
    exec (.identify mark) s = .next (replied mark 84 .ok
      ([0x1D#8, 0x05#8, 0x19#8, 0x1E#8, 1#8, 1#8, 0#8, 64#8, 0x10#8, 0#8, 128#8, 4#8,
        BitVec.ofNat 8 s.control.phase.code, BitVec.ofNat 8 s.control.outcome.code] ++ u16 s.control.executed) s) ∧
    exec (.countersRead mark 6 0) s = .next (replied mark 81 .ok
      (u32 s.control.ctrlOverflow ++ u32 s.control.profileReject) s) ∧
    exec (.countersRead mark 6 1) s = .next (replied mark 81 .ok
      (u32 s.control.ctrlOverflow ++ u32 s.control.profileReject)
      { s with control.ctrlOverflow := 0, control.profileReject := 0 }) ∧
    (∀ g, counterGroup? group = some g → clear = 0 →
      exec (.countersRead mark group clear) s = .next (replied mark 81 .ok (groupBytes g s) s)) ∧
    (∀ g, counterGroup? group = some g → clear = 1 →
      exec (.countersRead mark group clear) s = .next (replied mark 81 .ok (groupBytes g s) (clearGroup g s))) ∧
    (∀ g, counterGroup? group = some g ↔ (group, g) ∈ [(0, CounterGroup.links), (1, .streams), (2, .graphics), (3, .audio),
      (4, .chimes), (5, .store), (6, .control)]) ∧
    (let received := fun (r : LinkRecord) => [r.resync, r.overlong, r.runt, r.hdrErr, r.kindViolation, r.payErr]
      let counted := fun (l : Link) (own : LinkRecord → List Nat) =>
        u8 (match (s.link l).state with | .down => 0 | .training => 1 | .up => 2) ++
          ((s.link l).linkDown :: own (s.link l)).flatMap u32
      let admitted := fun (c : AdmissionCounters) =>
        [c.null, c.absent, c.kind, c.source, c.limit, c.orphan, c.overflow].flatMap u32
      let framed := fun (c : TagCounters) => [c.frameIn, c.frameDone, c.mismatch, c.frameSkip, c.frameDamaged,
        c.frameAbandoned, c.frameOverwrite, c.frameUnshown, c.audioIn].flatMap u32
      let a := s.audio
      let m := s.menu
      let k := s.chime.counters
      let x := s.store.counters
      let cleared := clearGroup .links s;
      groupBytes .links s = counted .downlink (fun r => received r ++ [r.trail, r.length]) ++
        counted .uplink (fun r => [r.replyDrop, r.uplinkDrop]) ++ counted .camera (fun r => received r ++ [r.trail]) ++
        counted .front (fun _ => []) ++ counted .left received ++ counted .right received ∧
      cleared = { s with links := cleared.links } ∧
      (∀ l, cleared.link l = { s.link l with
        linkDown := 0, resync := 0, overlong := 0, runt := 0, hdrErr := 0, kindViolation := 0, payErr := 0, trail := 0,
        length := 0, replyDrop := 0, uplinkDrop := 0 }) ∧
      groupBytes .streams s = admitted s.streams.downlink.counters ++ admitted s.streams.camera.counters ++
        (List.finRange 32).tail.flatMap (fun t => framed (s.tag t).counters) ∧
      clearGroup .streams s = { s with
        streams.downlink.counters := ⟨0, 0, 0, 0, 0, 0, 0⟩, streams.camera.counters := ⟨0, 0, 0, 0, 0, 0, 0⟩,
        streams.tags := s.streams.tags.map fun r => { r with counters := ⟨0, 0, 0, 0, 0, 0, 0, 0, 0⟩ } } ∧
      groupBytes .graphics s = [s.raster.fallbackGlyph, s.raster.glyphLoadFail, m.left.keyLocked, m.left.keyUnknown,
        m.right.keyLocked, m.right.keyUnknown].flatMap u32 ∧
      clearGroup .graphics s = { s with
        raster.fallbackGlyph := 0, raster.glyphLoadFail := 0, menu.left.keyLocked := 0, menu.left.keyUnknown := 0,
        menu.right.keyLocked := 0, menu.right.keyUnknown := 0 } ∧
      groupBytes .audio s = [a.seatL.overflow, a.seatL.underflow, a.seatR.overflow, a.seatR.underflow, a.seatL.saturate,
        a.seatR.saturate, a.cabin.saturate].flatMap u32 ∧
      clearGroup .audio s = { s with
        audio.seatL.overflow := 0, audio.seatL.underflow := 0, audio.seatL.saturate := 0,
        audio.seatR.overflow := 0, audio.seatR.underflow := 0, audio.seatR.saturate := 0,
        audio.cabin.overflow := 0, audio.cabin.underflow := 0, audio.cabin.saturate := 0 } ∧
      groupBytes .chimes s =
        [k.merged, k.dropped, k.refused, k.undefined, k.notReady, k.underrun, k.readFail].flatMap u32 ∧
      clearGroup .chimes s = { s with chime.counters := ⟨0, 0, 0, 0, 0, 0, 0⟩ } ∧
      groupBytes .store s =
        [x.readFail, x.programRetry, x.programFail, x.eraseFail, x.opAborted, x.mountDiscard].flatMap u32 ∧
      clearGroup .store s = { s with store.counters := ⟨0, 0, 0, 0, 0, 0⟩ }) ∧
    (7 ≤ group ∨ 2 ≤ clear → exec (.countersRead mark group clear) s = .next (replied mark 81 .param [] s))) ∧
    (∀ (mark : Byte) (s : State), interpreterFree s = true →
    exec (.takeoverRead mark) s = .next (replied mark 23 .ok
      (u8 s.takeover.phase.code ++ u8 s.takeover.view.code ++ u8 s.takeover.cause.code ++
        [boolByte s.vehicle.reverseAsserted, boolByte s.vehicle.debounced] ++ u8 s.vehicle.mismatch.code ++
        [boolByte s.vehicle.fresh] ++ u16 s.vehicle.age ++ u8 s.vehicle.gear.code ++ u8 s.vehicle.supply.code ++
        i16 s.vehicle.steering ++ u16 s.vehicle.speed ++ s.vehicle.distances.toList.flatMap u8 ++
        (match s.takeover.lastGood with | none => [0#8] | some n => 1#8 :: u16 n) ++
        u8 s.takeover.repeats ++ u8 s.takeover.rejoins ++
        u16 (if s.takeover.phase = .linger then s.takeover.lingerTimer.getD 0 else 0) ++
        [boolByte s.takeover.duckDemand]) s))

/-- R197's first sentences, R25 and R186 check 3. R197's three steps, with what each chapter's reset rule keeps. That the
effect is a step of its own, after the packets of its moment have left the FIFO, is log entry 33; that a panel's blank
frames begin again at 0, that a frame which is kept reads the places it was begun with until its end, and that a
zone's last output block plays on, is log entry 34: inferences and the model's choice. -/
def Obligations.SoftResetCommandAndEffect : Prop :=
  (∀ (mark : Byte) (s : State), interpreterFree s = true →
    (s.control.phase = .running → s.takeover.phase = .idle →
      (s.links.uplink.state ≠ .up ∨ s.uplink.queue.length < 16) →
      exec (.softReset mark) s = .next { replied mark 85 .ok [] s with
        control := { s.control with softReset := .failing s.control.fifo, fifo := [] } }) ∧
    (s.control.phase = .running → s.takeover.phase = .idle → s.links.uplink.state = .up →
      16 ≤ s.uplink.queue.length →
      exec (.softReset mark) s = .next { replied mark 85 .ok [] s with control.softReset := .arranged }) ∧
    (s.control.phase ≠ .running → exec (.softReset mark) s = .next (replied mark 85 .notReady [] s)) ∧
    (s.control.phase = .running → s.takeover.phase ≠ .idle →
      exec (.softReset mark) s = .next (replied mark 85 .locked [] s))) ∧
    (∀ (s : State) (waiting : List ControlPacket), s.uplink.waiting = none → s.control.softReset = .failing waiting →
    let failed := fun (p : ControlPacket) =>
      ({ body := .reply p.mark .failed p.code [], retrains := false } : UplinkPacket)
    let reset := fun (t : State) =>
      t.vehicle = .reset s.vehicle.pinRaw ∧ t.takeover = .reset ∧ t.guide = .reset ∧ t.streams = .reset ∧
      t.raster = .reset ∧ t.menu = .reset ∧ t.chime = .reset ∧ t.attention = .reset ∧ t.mem = s.mem ∧
      t.audio.volumeTable = defaultVolumeTable ∧
      (∀ z, t.zone z = { ZoneRecord.reset with output := (s.zone z).output }) ∧
      (∀ p, let r := s.panel p;
        t.panel p = {
          width := r.width, height := r.height, rate := r.rate, mirrorX := false, mirrorY := false,
          background := ⟨0, 0, 0⟩, level := 50, blanked := false, requestActive := false,
          power := if r.power = .active then .dozing else r.power,
          transition := if r.power = .waking then .sleep else .none, blankEnded := 0,
          outBacklight := if r.power = .active then 0 else r.outBacklight, pendingList := [], activeList := [],
          holds := Vector.replicate 6 none, frame := r.frame }) ∧
      (∀ l, (t.link l).state = (s.link l).state ∧ (t.link l).assembler = (s.link l).assembler ∧
        linkCounters l (t.link l) = List.replicate (linkCounters l (s.link l)).length 0) ∧
      t.store.state = s.store.state ∧ t.store.array = s.store.array ∧ t.store.counters = .zero ∧
      t.store.directory.map (fun r => { r with pins := 0 }) = s.store.directory.map (fun r => { r with pins := 0 }) ∧
      (s.store.transaction.state ≠ .none → t.store.transaction.state = .none ∧
        t.store.transaction.outcome = .failed .reset) ∧
      t.store.cursor = s.store.cursor ∧ t.store.nextGeneration = s.store.nextGeneration ∧
      t.control.fifo = s.control.fifo ∧ t.control.softReset = .none ∧ t.control.outcome = .none ∧
      t.control.executed = 0 ∧ ((s.asset? 1).isSome = true → t.control.phase = .profile) ∧
      (s.asset? 1 = none → t.control.phase = .running);
    (s.links.uplink.state = .up → s.uplink.queue.length + waiting.length ≤ 16 →
      ∃ t, exec .softResetEffect s = .next t ∧ reset t ∧
        t.uplink = { queue := s.uplink.queue ++ waiting.map failed, waiting := none }) ∧
    (s.links.uplink.state ≠ .up → ∃ t, exec .softResetEffect s = .next t ∧ reset t ∧ t.uplink = s.uplink) ∧
    (∀ now p later, waiting = now ++ p :: later → s.links.uplink.state = .up →
      s.uplink.queue.length + now.length = 16 →
      exec .softResetEffect s = .next { s with
        control.softReset := .failing later,
        uplink := { queue := s.uplink.queue ++ now.map failed, waiting := some (failed p) } }))

/-- R193 with the reset rule of each chapter, and R173 for the array: an operation in flight ends where it stands. What a
program's page or an erase's blocks then hold, and that a bad-mark write leaves its page as it was and takes a free value's
number, is the model's choice (log entries 3 and 57). The values of registers that no rule gives (log entry 6), and that the
queue of waiting commands, the trace, the memory and the raw pin are kept (log entries 35, 11 and 5), are the model's
choice. -/
def Obligations.FullResetState : Prop :=
  ∀ (s : State), (∃ t, exec .fullReset s = .next t ∧
      t = { State.reset with
        vehicle := .reset s.vehicle.pinRaw, mem := s.mem, store := t.store, pending := s.pending, out := s.out } ∧
      t.store = { State.reset.store with
        array := t.store.array, nextToken := s.store.nextToken, freeCount := t.store.freeCount } ∧
      (s.store.op = .idle ∨ (∃ r, s.store.op = .read r) →
        t.store.array = s.store.array ∧ t.store.freeCount = s.store.freeCount) ∧
      (∀ b, s.store.op = .badMark b →
        t.store.array = s.store.array ∧ t.store.freeCount = s.store.freeCount + 1) ∧
      (∀ b page content commit live, s.store.op = .program b page content commit live → page < 64 →
        t.store.freeCount = s.store.freeCount + 1 ∧
        readPage t.store.array b page = fullPage (Config.unknownPage s.store.freeCount) ∧
        ∀ c k, k < 64 → c ≠ b ∨ k ≠ page → readPage t.store.array c k = readPage s.store.array c k) ∧
      (∀ bs, s.store.op = .erase bs →
        t.store.freeCount = s.store.freeCount + 64 * bs.length ∧
        ∀ c k, k < 64 →
          (c ∈ bs → ∃ n, s.store.freeCount ≤ n ∧ n < t.store.freeCount ∧
            readPage t.store.array c k = fullPage (Config.unknownPage n)) ∧
          (c ∉ bs → readPage t.store.array c k = readPage s.store.array c k))) ∧
    (∀ l, (State.reset.link l).state = .training) ∧ State.reset.uplink = { queue := [], waiting := none } ∧
    State.reset.control.fifo = [] ∧ State.reset.control.phase = .starting ∧ State.reset.control.outcome = .none ∧
    State.reset.control.executed = 0 ∧ State.reset.attention.flags = 0 ∧
    ∀ f : Flag, State.reset.unmasked f = true

/-- R193's entry into PROFILE, the profile's page reads, and R194 steps 1 to 4 at the taking of an entry, and what
follows it: the end of the profile, the next entry when its bytes have been read, or the read of the next page (log
entry 37, an inference: one page at a time, as an entry needs it). The count of executed entries stays within its 2
bytes: log entry 39. A taking hands the turn to the control FIFO also where it is empty: log entry 70, the model's
choice. -/
def Obligations.ProfileEntryTaken : Prop :=
  (∀ (s : State) (p : ProfileRun) (h l : Byte) (rest : List Byte), interpreterFree s = true →
    s.control.phase = .profile → s.control.profile = some p → p.bytes = h :: l :: rest →
    (s.control.fifo = [] ∨ s.control.profileTurn = true) →
    let n := h.toNat * 256 + l.toNat
    let cut := n < 8 ∨ 3852 < n ∨ p.length < p.offset + 2 + n;
    (cut → exec .profileEntry s = .next (raiseFlag .profileError (unpinAsset 1 p.generation { s with
      control.profile := none, control.outcome := .cutShort, control.phase := .running }))) ∧
    (¬ cut → n ≤ rest.length →
      let t := { s with
        control.profileTurn := false,
        control.profile := some { p with offset := p.offset + 2 + n, bytes := rest.drop n } }
      let packet := rest.take n;
      (∀ d, checkPacket .downlink packet = .discarded d →
        exec .profileEntry s = .next (afterEntry (raiseFlag .profileError { t with
          control.profileReject := bump t.control.profileReject }))) ∧
      (∀ q, checkPacket .downlink packet = .accepted q →
        (q.kind ≠ .ctrl ∨ q.good = false ∨ q.c.toNat ∈ [70, 71, 72, 73, 76, 85]) →
        exec .profileEntry s = .next (afterEntry (raiseFlag .profileError { t with
          control.profileReject := bump t.control.profileReject }))) ∧
      (∀ q, checkPacket .downlink packet = .accepted q → q.kind = .ctrl → q.good = true →
        q.c.toNat ∉ [70, 71, 72, 73, 76, 85] →
        let a := answerPacket true { mark := q.mark, code := q.c, params := q.payload, good := true } t
        let u := suppressReply a;
        (a.status = .ok → exec .profileEntry s = .next (afterEntry { u with
          control.executed := min 65535 (u.control.executed + 1) })) ∧
        (a.status ≠ .ok → exec .profileEntry s = .next (afterEntry (raiseFlag .profileError { u with
          control.profileReject := bump u.control.profileReject })))))) ∧
  (∀ (s : State) (p : ProfileRun), interpreterFree s = true → s.control.phase = .profile →
    s.control.profile = some p → p.bytes.length < 2 → p.length < p.offset + 2 →
    (s.control.fifo = [] ∨ s.control.profileTurn = true) →
    exec .profileEntry s = .next (raiseFlag .profileError (unpinAsset 1 p.generation { s with
      control.profile := none, control.outcome := .cutShort, control.phase := .running }))) ∧
  (∀ (u : State) (r : ProfileRun), u.control.profile = some r →
    let whole := match r.bytes with
      | h :: l :: rest =>
        let n := h.toNat * 256 + l.toNat
        n < 8 ∨ 3852 < n ∨ r.length < r.offset + 2 + n ∨ n ≤ rest.length
      | _ => r.length < r.offset + 2;
    (r.offset = r.length → afterEntry u = unpinAsset 1 r.generation { u with
      control.profile := none, control.outcome := .complete, control.phase := .running }) ∧
    (r.offset ≠ r.length → afterEntry u = profileFetch u) ∧
    (whole ∨ r.token.isSome = true → profileFetch u = u) ∧
    (¬ whole → r.token = none → profileFetch u = storeSelect { u with
      store.nextToken := u.store.nextToken + 1,
      store.reads := u.store.reads ++ [{
        reader := .profile u.store.nextToken,
        block := (u.generationBlocks 1 r.generation).getD (r.nextPage / 64) 0, page := r.nextPage % 64 }],
      control.profile := some { r with token := some u.store.nextToken } })) ∧
  (∀ (s : State) (p : ProfileRun) (token : Nat) (bytes : List Byte), s.control.profile = some p →
    (p.token ≠ some token → profilePageRead token none s = s ∧ profilePageRead token (some bytes) s = s) ∧
    (p.token = some token →
      profilePageRead token none s = raiseFlag .profileError (unpinAsset 1 p.generation { s with
        control.profile := none, control.outcome := .cutShort, control.phase := .running }) ∧
      profilePageRead token (some bytes) s = profileFetch { s with control.profile := some { p with
        bytes := p.bytes ++ bytes.take (p.length - p.nextPage * 4096), nextPage := p.nextPage + 1, token := none } })) ∧
  (∀ (s : State),
    (s.asset? 1 = none → profileStart s = { s with
      control.phase := .running, control.profile := none, control.profileTurn := true }) ∧
    (∀ r, s.asset? 1 = some r →
      let run : ProfileRun := {
        generation := r.generation, length := r.length, offset := 0, bytes := [], nextPage := 0, token := none }
      let begun : State := { s with
        control.phase := .profile, control.profile := some run, control.profileTurn := true,
        store.directory := s.store.directory.map fun q => if q.id = 1 then { q with pins := q.pins + 1 } else q };
      (r.length < 2 → profileStart s = begun) ∧
      (2 ≤ r.length → profileStart s = storeSelect { begun with
        store.nextToken := s.store.nextToken + 1,
        store.reads := s.store.reads ++ [{
          reader := .profile s.store.nextToken, block := r.blocks.getD 0 0, page := 0 }],
        control.profile := some { run with token := some s.store.nextToken } }))) ∧
  (∀ (a : Answer),
    (a.after = .nothing ∨ a.after = .softReset → suppressReply a = a.state) ∧
    (a.after = .retrainUplink → suppressReply a = retrain .uplink a.state) ∧
    (a.after = .flagsNotice → suppressReply a = handNotice (.flags a.state.attention.flags) a.state))

/-- The invariants at reset. -/
def Obligations.ResetMeetsTheInvariants : Prop :=
  MemoryCanonical State.reset ∧ QueuesBounded State.reset ∧ QueueLawful State.reset.chime.queue ∧
    MenusLawful State.reset ∧ RingsLawful State.reset ∧ (∀ t, FramesBalanced t State.reset) ∧ (∀ n, RingLawful (State.reset.ring n)) ∧ State.reset.pending = []

/-- The sizes of the two queues over every command, event and idle step. -/
def Obligations.EveryStepKeepsTheQueuesBounded : Prop :=
  ∀ (s t : State), QueuesBounded s → step s = .next t → QueuesBounded t

/-- The form of the memory over every command, event and idle step. What an unlisted address reads as is log entry
1. -/
def Obligations.EveryStepKeepsTheMemoryCanonical : Prop :=
  ∀ (s t : State), MemoryCanonical s → step s = .next t → MemoryCanonical t
end

