-- ==== Sys2Proof/Laws/Commands.lean ====
section
/-! SUPPORT. What a taken command comes to: its common checks (R186, R25), then its owner's answer handed over. -/

namespace Sys2Proof.Machine

/-- In RUNNING the common checks are those of R25 alone. -/
theorem earlyRefusal_running {s : State} (h : s.control.phase = .running) (code : Nat) (first : Option Nat) :
    earlyRefusal false code first s = if lockedOut code first s then some .locked else none := by
  simp [earlyRefusal, h]

/-- A command answered in every phase has no check but those of R25. -/
theorem earlyRefusal_answeredEarly {s : State} {code : Nat} (h : answeredEarly code = true) (first : Option Nat) :
    earlyRefusal false code first s = if lockedOut code first s then some .locked else none := by
  simp [earlyRefusal, h]

/-- R25 refuses nothing in IDLE. -/
theorem lockedOut_idle {s : State} (h : s.takeover.phase = .idle) (code : Nat) (first : Option Nat) :
    lockedOut code first s = false := by
  simp [lockedOut, h]

/-- The commands that R25 may refuse. -/
theorem lockedOut_other {code : Nat} (h : code ∉ [1, 2, 4, 20, 21, 22, 30, 31, 32, 33, 85]) (first : Option Nat) (s : State) :
    lockedOut code first s = false := by
  unfold lockedOut
  split <;> simp_all

/-- A command taken in RUNNING that R25 does not refuse is its owner's answer handed over. -/
theorem runCommand_running {s : State} (h : Running s) (mark : Byte) (c : Command)
    (hl : lockedOut c.code (c.params.head?.map (·.toNat)) s = false) :
    runCommand mark c s = handAnswer mark (BitVec.ofNat 8 c.code) (perform c s) := by
  simp [runCommand, h.free, answerCommand, earlyRefusal_running h.running, hl]

/-- A command of no rule of R25 taken in RUNNING. -/
theorem runCommand_plain {s : State} (h : Running s) (mark : Byte) (c : Command)
    (hc : c.code ∉ [1, 2, 4, 20, 21, 22, 30, 31, 32, 33, 85]) :
    runCommand mark c s = handAnswer mark (BitVec.ofNat 8 c.code) (perform c s) :=
  runCommand_running h mark c (lockedOut_other hc _ _)

/-- A command taken in RUNNING and IDLE. -/
theorem runCommand_open {s : State} (h : Open s) (mark : Byte) (c : Command) :
    runCommand mark c s = handAnswer mark (BitVec.ofNat 8 c.code) (perform c s) :=
  runCommand_running ⟨h.free, h.running⟩ mark c (lockedOut_idle h.idle _ _)

/-- A command that R25 refuses is LOCKED, with no other effect. -/
theorem runCommand_locked {s : State} (h : Running s) (mark : Byte) (c : Command)
    (hl : lockedOut c.code (c.params.head?.map (·.toNat)) s = true) :
    runCommand mark c s = replied mark c.code .locked [] s := by
  simp [runCommand, h.free, answerCommand, earlyRefusal_running h.running, hl, handAnswer, refuse, replyOf, replied]

/-- A command answered in every phase (R188). -/
theorem runCommand_early {s : State} (h : interpreterFree s = true) (mark : Byte) (c : Command)
    (he : answeredEarly c.code = true) (hc : c.code ∉ [1, 2, 4, 20, 21, 22, 30, 31, 32, 33, 85]) :
    runCommand mark c s = handAnswer mark (BitVec.ofNat 8 c.code) (perform c s) := by
  simp [runCommand, h, answerCommand, earlyRefusal_answeredEarly he, lockedOut_other hc]

/-- The three plain answers handed over. -/
theorem handAnswer_refuse (mark : Byte) (code : Nat) (st : Status) (s : State) :
    handAnswer mark (BitVec.ofNat 8 code) (refuse st s) = replied mark code st [] s := rfl

theorem handAnswer_done (mark : Byte) (code : Nat) (s : State) :
    handAnswer mark (BitVec.ofNat 8 code) (done s) = replied mark code .ok [] s := rfl

theorem handAnswer_report (mark : Byte) (code : Nat) (data : List Byte) (s : State) :
    handAnswer mark (BitVec.ofNat 8 code) (report data s) = replied mark code .ok data s := rfl

/-- An answer with nothing to follow its reply. -/
theorem handAnswer_plain (mark : Byte) (code : Nat) (st : Status) (data : List Byte) (s : State) :
    handAnswer mark (BitVec.ofNat 8 code) ⟨st, data, s, .nothing⟩ = replied mark code st data s := rfl

/-- The parameter area of a row table, and of a page, is as long as its counts give: what check 5 of R186 has passed passes
the owner's own check too (R31, R106). -/
theorem rowTableSet_params_length (rows : SizedList RowParams) :
    (Command.rowTableSet rows).params.length = rowTableLength rows.entries := by
  have h : (fun r => (rowBytes r).length) = fun _ => 10 := by funext r; simp [rowBytes, u16, u8, beBytes]
  simp [Command.params, rowTableLength, u8, listBytes, List.length_flatMap, h]
  omega

theorem pageSet_params_length (page : Nat) (title : List Nat) (items : SizedList ItemParams) :
    (Command.pageSet page title items).params.length = pageLength title items.entries := by
  have h : (fun i => (itemBytes i).length) = itemLength := by
    funext ⟨label, icon, e, a, x⟩
    cases icon <;> simp [itemBytes, itemLength, listBytes, optionalBytes, u8] <;> omega
  simp [Command.params, pageLength, u8, listBytes, List.length_flatMap, h]
  omega

end Sys2Proof.Machine
end

