-- ==== Sys2Proof/Laws/State.lean ====
section
/-! SUPPORT. One lemma per field per update of the parts that come in numbers: what an update leaves of every other field
of State, what it leaves of the other members of its family, and what it gives back. -/

namespace Sys2Proof.Machine

/-! ### setPanel -/

@[simp] theorem State.setPanel_vehicle (s : State) (k : Panel) (r : PanelRecord) : (s.setPanel k r).vehicle = s.vehicle := by
  cases k <;> rfl
@[simp] theorem State.setPanel_takeover (s : State) (k : Panel) (r : PanelRecord) : (s.setPanel k r).takeover = s.takeover := by
  cases k <;> rfl
@[simp] theorem State.setPanel_guide (s : State) (k : Panel) (r : PanelRecord) : (s.setPanel k r).guide = s.guide := by
  cases k <;> rfl
@[simp] theorem State.setPanel_streams (s : State) (k : Panel) (r : PanelRecord) : (s.setPanel k r).streams = s.streams := by
  cases k <;> rfl
@[simp] theorem State.setPanel_raster (s : State) (k : Panel) (r : PanelRecord) : (s.setPanel k r).raster = s.raster := by
  cases k <;> rfl
@[simp] theorem State.setPanel_menu (s : State) (k : Panel) (r : PanelRecord) : (s.setPanel k r).menu = s.menu := by
  cases k <;> rfl
@[simp] theorem State.setPanel_audio (s : State) (k : Panel) (r : PanelRecord) : (s.setPanel k r).audio = s.audio := by
  cases k <;> rfl
@[simp] theorem State.setPanel_chime (s : State) (k : Panel) (r : PanelRecord) : (s.setPanel k r).chime = s.chime := by
  cases k <;> rfl
@[simp] theorem State.setPanel_store (s : State) (k : Panel) (r : PanelRecord) : (s.setPanel k r).store = s.store := by
  cases k <;> rfl
@[simp] theorem State.setPanel_links (s : State) (k : Panel) (r : PanelRecord) : (s.setPanel k r).links = s.links := by
  cases k <;> rfl
@[simp] theorem State.setPanel_uplink (s : State) (k : Panel) (r : PanelRecord) : (s.setPanel k r).uplink = s.uplink := by
  cases k <;> rfl
@[simp] theorem State.setPanel_control (s : State) (k : Panel) (r : PanelRecord) : (s.setPanel k r).control = s.control := by
  cases k <;> rfl
@[simp] theorem State.setPanel_attention (s : State) (k : Panel) (r : PanelRecord) : (s.setPanel k r).attention = s.attention := by
  cases k <;> rfl
@[simp] theorem State.setPanel_mem (s : State) (k : Panel) (r : PanelRecord) : (s.setPanel k r).mem = s.mem := by
  cases k <;> rfl
@[simp] theorem State.setPanel_pending (s : State) (k : Panel) (r : PanelRecord) : (s.setPanel k r).pending = s.pending := by
  cases k <;> rfl
@[simp] theorem State.setPanel_out (s : State) (k : Panel) (r : PanelRecord) : (s.setPanel k r).out = s.out := by
  cases k <;> rfl
@[simp] theorem State.panel_setPanel (s : State) (k : Panel) (r : PanelRecord) : (s.setPanel k r).panel k = r := by
  cases k <;> rfl
theorem State.panel_setPanel_ne (s : State) (k j : Panel) (r : PanelRecord) (h : j ≠ k) : (s.setPanel k r).panel j = s.panel j := by
  cases k <;> cases j <;> first | rfl | exact absurd rfl h
@[simp] theorem State.setPanel_zone (s : State) (k : Panel) (r : PanelRecord) (j : Zone) : (s.setPanel k r).zone j = s.zone j := by
  cases k <;> cases j <;> rfl
@[simp] theorem State.setPanel_seat (s : State) (k : Panel) (r : PanelRecord) (j : Seat) : (s.setPanel k r).seat j = s.seat j := by
  cases k <;> cases j <;> rfl
@[simp] theorem State.setPanel_plane (s : State) (k : Panel) (r : PanelRecord) (j : Plane) : (s.setPanel k r).plane j = s.plane j := by
  cases k <;> cases j <;> rfl
@[simp] theorem State.setPanel_link (s : State) (k : Panel) (r : PanelRecord) (j : Link) : (s.setPanel k r).link j = s.link j := by
  cases k <;> cases j <;> rfl
@[simp] theorem State.setPanel_port (s : State) (k : Panel) (r : PanelRecord) (j : VideoRx) : (s.setPanel k r).port j = s.port j := by
  cases k <;> cases j <;> rfl
@[simp] theorem State.setPanel_tag (s : State) (k : Panel) (r : PanelRecord) (j : Fin 32) : (s.setPanel k r).tag j = s.tag j := by
  cases k <;> rfl
@[simp] theorem State.setPanel_ring (s : State) (k : Panel) (r : PanelRecord) (j : Fin 8) : (s.setPanel k r).ring j = s.ring j := by
  cases k <;> rfl
@[simp] theorem State.setPanel_voice (s : State) (k : Panel) (r : PanelRecord) (j : Fin 4) : (s.setPanel k r).voice j = s.voice j := by
  cases k <;> rfl
@[simp] theorem State.setPanel_page (s : State) (k : Panel) (r : PanelRecord) (j : Fin 16) : (s.setPanel k r).page j = s.page j := by
  cases k <;> rfl

/-! ### setZone -/

@[simp] theorem State.setZone_vehicle (s : State) (k : Zone) (r : ZoneRecord) : (s.setZone k r).vehicle = s.vehicle := by
  cases k <;> rfl
@[simp] theorem State.setZone_takeover (s : State) (k : Zone) (r : ZoneRecord) : (s.setZone k r).takeover = s.takeover := by
  cases k <;> rfl
@[simp] theorem State.setZone_guide (s : State) (k : Zone) (r : ZoneRecord) : (s.setZone k r).guide = s.guide := by
  cases k <;> rfl
@[simp] theorem State.setZone_streams (s : State) (k : Zone) (r : ZoneRecord) : (s.setZone k r).streams = s.streams := by
  cases k <;> rfl
@[simp] theorem State.setZone_panels (s : State) (k : Zone) (r : ZoneRecord) : (s.setZone k r).panels = s.panels := by
  cases k <;> rfl
@[simp] theorem State.setZone_raster (s : State) (k : Zone) (r : ZoneRecord) : (s.setZone k r).raster = s.raster := by
  cases k <;> rfl
@[simp] theorem State.setZone_menu (s : State) (k : Zone) (r : ZoneRecord) : (s.setZone k r).menu = s.menu := by
  cases k <;> rfl
@[simp] theorem State.setZone_chime (s : State) (k : Zone) (r : ZoneRecord) : (s.setZone k r).chime = s.chime := by
  cases k <;> rfl
@[simp] theorem State.setZone_store (s : State) (k : Zone) (r : ZoneRecord) : (s.setZone k r).store = s.store := by
  cases k <;> rfl
@[simp] theorem State.setZone_links (s : State) (k : Zone) (r : ZoneRecord) : (s.setZone k r).links = s.links := by
  cases k <;> rfl
@[simp] theorem State.setZone_uplink (s : State) (k : Zone) (r : ZoneRecord) : (s.setZone k r).uplink = s.uplink := by
  cases k <;> rfl
@[simp] theorem State.setZone_control (s : State) (k : Zone) (r : ZoneRecord) : (s.setZone k r).control = s.control := by
  cases k <;> rfl
@[simp] theorem State.setZone_attention (s : State) (k : Zone) (r : ZoneRecord) : (s.setZone k r).attention = s.attention := by
  cases k <;> rfl
@[simp] theorem State.setZone_mem (s : State) (k : Zone) (r : ZoneRecord) : (s.setZone k r).mem = s.mem := by
  cases k <;> rfl
@[simp] theorem State.setZone_pending (s : State) (k : Zone) (r : ZoneRecord) : (s.setZone k r).pending = s.pending := by
  cases k <;> rfl
@[simp] theorem State.setZone_out (s : State) (k : Zone) (r : ZoneRecord) : (s.setZone k r).out = s.out := by
  cases k <;> rfl
@[simp] theorem State.zone_setZone (s : State) (k : Zone) (r : ZoneRecord) : (s.setZone k r).zone k = r := by
  cases k <;> rfl
theorem State.zone_setZone_ne (s : State) (k j : Zone) (r : ZoneRecord) (h : j ≠ k) : (s.setZone k r).zone j = s.zone j := by
  cases k <;> cases j <;> first | rfl | exact absurd rfl h
@[simp] theorem State.setZone_panel (s : State) (k : Zone) (r : ZoneRecord) (j : Panel) : (s.setZone k r).panel j = s.panel j := by
  cases k <;> cases j <;> rfl
@[simp] theorem State.setZone_seat (s : State) (k : Zone) (r : ZoneRecord) (j : Seat) : (s.setZone k r).seat j = s.seat j := by
  cases k <;> cases j <;> rfl
@[simp] theorem State.setZone_plane (s : State) (k : Zone) (r : ZoneRecord) (j : Plane) : (s.setZone k r).plane j = s.plane j := by
  cases k <;> cases j <;> rfl
@[simp] theorem State.setZone_link (s : State) (k : Zone) (r : ZoneRecord) (j : Link) : (s.setZone k r).link j = s.link j := by
  cases k <;> cases j <;> rfl
@[simp] theorem State.setZone_port (s : State) (k : Zone) (r : ZoneRecord) (j : VideoRx) : (s.setZone k r).port j = s.port j := by
  cases k <;> cases j <;> rfl
@[simp] theorem State.setZone_tag (s : State) (k : Zone) (r : ZoneRecord) (j : Fin 32) : (s.setZone k r).tag j = s.tag j := by
  cases k <;> rfl
@[simp] theorem State.setZone_ring (s : State) (k : Zone) (r : ZoneRecord) (j : Fin 8) : (s.setZone k r).ring j = s.ring j := by
  cases k <;> rfl
@[simp] theorem State.setZone_voice (s : State) (k : Zone) (r : ZoneRecord) (j : Fin 4) : (s.setZone k r).voice j = s.voice j := by
  cases k <;> rfl
@[simp] theorem State.setZone_page (s : State) (k : Zone) (r : ZoneRecord) (j : Fin 16) : (s.setZone k r).page j = s.page j := by
  cases k <;> rfl

/-! ### setSeat -/

@[simp] theorem State.setSeat_vehicle (s : State) (k : Seat) (r : SeatContext) : (s.setSeat k r).vehicle = s.vehicle := by
  cases k <;> rfl
@[simp] theorem State.setSeat_takeover (s : State) (k : Seat) (r : SeatContext) : (s.setSeat k r).takeover = s.takeover := by
  cases k <;> rfl
@[simp] theorem State.setSeat_guide (s : State) (k : Seat) (r : SeatContext) : (s.setSeat k r).guide = s.guide := by
  cases k <;> rfl
@[simp] theorem State.setSeat_streams (s : State) (k : Seat) (r : SeatContext) : (s.setSeat k r).streams = s.streams := by
  cases k <;> rfl
@[simp] theorem State.setSeat_panels (s : State) (k : Seat) (r : SeatContext) : (s.setSeat k r).panels = s.panels := by
  cases k <;> rfl
@[simp] theorem State.setSeat_raster (s : State) (k : Seat) (r : SeatContext) : (s.setSeat k r).raster = s.raster := by
  cases k <;> rfl
@[simp] theorem State.setSeat_audio (s : State) (k : Seat) (r : SeatContext) : (s.setSeat k r).audio = s.audio := by
  cases k <;> rfl
@[simp] theorem State.setSeat_chime (s : State) (k : Seat) (r : SeatContext) : (s.setSeat k r).chime = s.chime := by
  cases k <;> rfl
@[simp] theorem State.setSeat_store (s : State) (k : Seat) (r : SeatContext) : (s.setSeat k r).store = s.store := by
  cases k <;> rfl
@[simp] theorem State.setSeat_links (s : State) (k : Seat) (r : SeatContext) : (s.setSeat k r).links = s.links := by
  cases k <;> rfl
@[simp] theorem State.setSeat_uplink (s : State) (k : Seat) (r : SeatContext) : (s.setSeat k r).uplink = s.uplink := by
  cases k <;> rfl
@[simp] theorem State.setSeat_control (s : State) (k : Seat) (r : SeatContext) : (s.setSeat k r).control = s.control := by
  cases k <;> rfl
@[simp] theorem State.setSeat_attention (s : State) (k : Seat) (r : SeatContext) : (s.setSeat k r).attention = s.attention := by
  cases k <;> rfl
@[simp] theorem State.setSeat_mem (s : State) (k : Seat) (r : SeatContext) : (s.setSeat k r).mem = s.mem := by
  cases k <;> rfl
@[simp] theorem State.setSeat_pending (s : State) (k : Seat) (r : SeatContext) : (s.setSeat k r).pending = s.pending := by
  cases k <;> rfl
@[simp] theorem State.setSeat_out (s : State) (k : Seat) (r : SeatContext) : (s.setSeat k r).out = s.out := by
  cases k <;> rfl
@[simp] theorem State.seat_setSeat (s : State) (k : Seat) (r : SeatContext) : (s.setSeat k r).seat k = r := by
  cases k <;> rfl
theorem State.seat_setSeat_ne (s : State) (k j : Seat) (r : SeatContext) (h : j ≠ k) : (s.setSeat k r).seat j = s.seat j := by
  cases k <;> cases j <;> first | rfl | exact absurd rfl h
@[simp] theorem State.setSeat_panel (s : State) (k : Seat) (r : SeatContext) (j : Panel) : (s.setSeat k r).panel j = s.panel j := by
  cases k <;> cases j <;> rfl
@[simp] theorem State.setSeat_zone (s : State) (k : Seat) (r : SeatContext) (j : Zone) : (s.setSeat k r).zone j = s.zone j := by
  cases k <;> cases j <;> rfl
@[simp] theorem State.setSeat_plane (s : State) (k : Seat) (r : SeatContext) (j : Plane) : (s.setSeat k r).plane j = s.plane j := by
  cases k <;> cases j <;> rfl
@[simp] theorem State.setSeat_link (s : State) (k : Seat) (r : SeatContext) (j : Link) : (s.setSeat k r).link j = s.link j := by
  cases k <;> cases j <;> rfl
@[simp] theorem State.setSeat_port (s : State) (k : Seat) (r : SeatContext) (j : VideoRx) : (s.setSeat k r).port j = s.port j := by
  cases k <;> cases j <;> rfl
@[simp] theorem State.setSeat_tag (s : State) (k : Seat) (r : SeatContext) (j : Fin 32) : (s.setSeat k r).tag j = s.tag j := by
  cases k <;> rfl
@[simp] theorem State.setSeat_ring (s : State) (k : Seat) (r : SeatContext) (j : Fin 8) : (s.setSeat k r).ring j = s.ring j := by
  cases k <;> rfl
@[simp] theorem State.setSeat_voice (s : State) (k : Seat) (r : SeatContext) (j : Fin 4) : (s.setSeat k r).voice j = s.voice j := by
  cases k <;> rfl
@[simp] theorem State.setSeat_page (s : State) (k : Seat) (r : SeatContext) (j : Fin 16) : (s.setSeat k r).page j = s.page j := by
  cases k <;> rfl

/-! ### setPlane -/

@[simp] theorem State.setPlane_vehicle (s : State) (k : Plane) (r : PlaneRecord) : (s.setPlane k r).vehicle = s.vehicle := by
  cases k <;> rfl
@[simp] theorem State.setPlane_takeover (s : State) (k : Plane) (r : PlaneRecord) : (s.setPlane k r).takeover = s.takeover := by
  cases k <;> rfl
@[simp] theorem State.setPlane_guide (s : State) (k : Plane) (r : PlaneRecord) : (s.setPlane k r).guide = s.guide := by
  cases k <;> rfl
@[simp] theorem State.setPlane_streams (s : State) (k : Plane) (r : PlaneRecord) : (s.setPlane k r).streams = s.streams := by
  cases k <;> rfl
@[simp] theorem State.setPlane_panels (s : State) (k : Plane) (r : PlaneRecord) : (s.setPlane k r).panels = s.panels := by
  cases k <;> rfl
@[simp] theorem State.setPlane_menu (s : State) (k : Plane) (r : PlaneRecord) : (s.setPlane k r).menu = s.menu := by
  cases k <;> rfl
@[simp] theorem State.setPlane_audio (s : State) (k : Plane) (r : PlaneRecord) : (s.setPlane k r).audio = s.audio := by
  cases k <;> rfl
@[simp] theorem State.setPlane_chime (s : State) (k : Plane) (r : PlaneRecord) : (s.setPlane k r).chime = s.chime := by
  cases k <;> rfl
@[simp] theorem State.setPlane_store (s : State) (k : Plane) (r : PlaneRecord) : (s.setPlane k r).store = s.store := by
  cases k <;> rfl
@[simp] theorem State.setPlane_links (s : State) (k : Plane) (r : PlaneRecord) : (s.setPlane k r).links = s.links := by
  cases k <;> rfl
@[simp] theorem State.setPlane_uplink (s : State) (k : Plane) (r : PlaneRecord) : (s.setPlane k r).uplink = s.uplink := by
  cases k <;> rfl
@[simp] theorem State.setPlane_control (s : State) (k : Plane) (r : PlaneRecord) : (s.setPlane k r).control = s.control := by
  cases k <;> rfl
@[simp] theorem State.setPlane_attention (s : State) (k : Plane) (r : PlaneRecord) : (s.setPlane k r).attention = s.attention := by
  cases k <;> rfl
@[simp] theorem State.setPlane_mem (s : State) (k : Plane) (r : PlaneRecord) : (s.setPlane k r).mem = s.mem := by
  cases k <;> rfl
@[simp] theorem State.setPlane_pending (s : State) (k : Plane) (r : PlaneRecord) : (s.setPlane k r).pending = s.pending := by
  cases k <;> rfl
@[simp] theorem State.setPlane_out (s : State) (k : Plane) (r : PlaneRecord) : (s.setPlane k r).out = s.out := by
  cases k <;> rfl
@[simp] theorem State.plane_setPlane (s : State) (k : Plane) (r : PlaneRecord) : (s.setPlane k r).plane k = r := by
  cases k <;> rfl
theorem State.plane_setPlane_ne (s : State) (k j : Plane) (r : PlaneRecord) (h : j ≠ k) : (s.setPlane k r).plane j = s.plane j := by
  cases k <;> cases j <;> first | rfl | exact absurd rfl h
@[simp] theorem State.setPlane_panel (s : State) (k : Plane) (r : PlaneRecord) (j : Panel) : (s.setPlane k r).panel j = s.panel j := by
  cases k <;> cases j <;> rfl
@[simp] theorem State.setPlane_zone (s : State) (k : Plane) (r : PlaneRecord) (j : Zone) : (s.setPlane k r).zone j = s.zone j := by
  cases k <;> cases j <;> rfl
@[simp] theorem State.setPlane_seat (s : State) (k : Plane) (r : PlaneRecord) (j : Seat) : (s.setPlane k r).seat j = s.seat j := by
  cases k <;> cases j <;> rfl
@[simp] theorem State.setPlane_link (s : State) (k : Plane) (r : PlaneRecord) (j : Link) : (s.setPlane k r).link j = s.link j := by
  cases k <;> cases j <;> rfl
@[simp] theorem State.setPlane_port (s : State) (k : Plane) (r : PlaneRecord) (j : VideoRx) : (s.setPlane k r).port j = s.port j := by
  cases k <;> cases j <;> rfl
@[simp] theorem State.setPlane_tag (s : State) (k : Plane) (r : PlaneRecord) (j : Fin 32) : (s.setPlane k r).tag j = s.tag j := by
  cases k <;> rfl
@[simp] theorem State.setPlane_ring (s : State) (k : Plane) (r : PlaneRecord) (j : Fin 8) : (s.setPlane k r).ring j = s.ring j := by
  cases k <;> rfl
@[simp] theorem State.setPlane_voice (s : State) (k : Plane) (r : PlaneRecord) (j : Fin 4) : (s.setPlane k r).voice j = s.voice j := by
  cases k <;> rfl
@[simp] theorem State.setPlane_page (s : State) (k : Plane) (r : PlaneRecord) (j : Fin 16) : (s.setPlane k r).page j = s.page j := by
  cases k <;> rfl

/-! ### setLink -/

@[simp] theorem State.setLink_vehicle (s : State) (k : Link) (r : LinkRecord) : (s.setLink k r).vehicle = s.vehicle := by
  cases k <;> rfl
@[simp] theorem State.setLink_takeover (s : State) (k : Link) (r : LinkRecord) : (s.setLink k r).takeover = s.takeover := by
  cases k <;> rfl
@[simp] theorem State.setLink_guide (s : State) (k : Link) (r : LinkRecord) : (s.setLink k r).guide = s.guide := by
  cases k <;> rfl
@[simp] theorem State.setLink_streams (s : State) (k : Link) (r : LinkRecord) : (s.setLink k r).streams = s.streams := by
  cases k <;> rfl
@[simp] theorem State.setLink_panels (s : State) (k : Link) (r : LinkRecord) : (s.setLink k r).panels = s.panels := by
  cases k <;> rfl
@[simp] theorem State.setLink_raster (s : State) (k : Link) (r : LinkRecord) : (s.setLink k r).raster = s.raster := by
  cases k <;> rfl
@[simp] theorem State.setLink_menu (s : State) (k : Link) (r : LinkRecord) : (s.setLink k r).menu = s.menu := by
  cases k <;> rfl
@[simp] theorem State.setLink_audio (s : State) (k : Link) (r : LinkRecord) : (s.setLink k r).audio = s.audio := by
  cases k <;> rfl
@[simp] theorem State.setLink_chime (s : State) (k : Link) (r : LinkRecord) : (s.setLink k r).chime = s.chime := by
  cases k <;> rfl
@[simp] theorem State.setLink_store (s : State) (k : Link) (r : LinkRecord) : (s.setLink k r).store = s.store := by
  cases k <;> rfl
@[simp] theorem State.setLink_uplink (s : State) (k : Link) (r : LinkRecord) : (s.setLink k r).uplink = s.uplink := by
  cases k <;> rfl
@[simp] theorem State.setLink_control (s : State) (k : Link) (r : LinkRecord) : (s.setLink k r).control = s.control := by
  cases k <;> rfl
@[simp] theorem State.setLink_attention (s : State) (k : Link) (r : LinkRecord) : (s.setLink k r).attention = s.attention := by
  cases k <;> rfl
@[simp] theorem State.setLink_mem (s : State) (k : Link) (r : LinkRecord) : (s.setLink k r).mem = s.mem := by
  cases k <;> rfl
@[simp] theorem State.setLink_pending (s : State) (k : Link) (r : LinkRecord) : (s.setLink k r).pending = s.pending := by
  cases k <;> rfl
@[simp] theorem State.setLink_out (s : State) (k : Link) (r : LinkRecord) : (s.setLink k r).out = s.out := by
  cases k <;> rfl
@[simp] theorem State.link_setLink (s : State) (k : Link) (r : LinkRecord) : (s.setLink k r).link k = r := by
  cases k <;> rfl
theorem State.link_setLink_ne (s : State) (k j : Link) (r : LinkRecord) (h : j ≠ k) : (s.setLink k r).link j = s.link j := by
  cases k <;> cases j <;> first | rfl | exact absurd rfl h
@[simp] theorem State.setLink_panel (s : State) (k : Link) (r : LinkRecord) (j : Panel) : (s.setLink k r).panel j = s.panel j := by
  cases k <;> cases j <;> rfl
@[simp] theorem State.setLink_zone (s : State) (k : Link) (r : LinkRecord) (j : Zone) : (s.setLink k r).zone j = s.zone j := by
  cases k <;> cases j <;> rfl
@[simp] theorem State.setLink_seat (s : State) (k : Link) (r : LinkRecord) (j : Seat) : (s.setLink k r).seat j = s.seat j := by
  cases k <;> cases j <;> rfl
@[simp] theorem State.setLink_plane (s : State) (k : Link) (r : LinkRecord) (j : Plane) : (s.setLink k r).plane j = s.plane j := by
  cases k <;> cases j <;> rfl
@[simp] theorem State.setLink_port (s : State) (k : Link) (r : LinkRecord) (j : VideoRx) : (s.setLink k r).port j = s.port j := by
  cases k <;> cases j <;> rfl
@[simp] theorem State.setLink_tag (s : State) (k : Link) (r : LinkRecord) (j : Fin 32) : (s.setLink k r).tag j = s.tag j := by
  cases k <;> rfl
@[simp] theorem State.setLink_ring (s : State) (k : Link) (r : LinkRecord) (j : Fin 8) : (s.setLink k r).ring j = s.ring j := by
  cases k <;> rfl
@[simp] theorem State.setLink_voice (s : State) (k : Link) (r : LinkRecord) (j : Fin 4) : (s.setLink k r).voice j = s.voice j := by
  cases k <;> rfl
@[simp] theorem State.setLink_page (s : State) (k : Link) (r : LinkRecord) (j : Fin 16) : (s.setLink k r).page j = s.page j := by
  cases k <;> rfl

/-! ### setPort -/

@[simp] theorem State.setPort_vehicle (s : State) (k : VideoRx) (r : VideoPort) : (s.setPort k r).vehicle = s.vehicle := by
  cases k <;> rfl
@[simp] theorem State.setPort_takeover (s : State) (k : VideoRx) (r : VideoPort) : (s.setPort k r).takeover = s.takeover := by
  cases k <;> rfl
@[simp] theorem State.setPort_guide (s : State) (k : VideoRx) (r : VideoPort) : (s.setPort k r).guide = s.guide := by
  cases k <;> rfl
@[simp] theorem State.setPort_panels (s : State) (k : VideoRx) (r : VideoPort) : (s.setPort k r).panels = s.panels := by
  cases k <;> rfl
@[simp] theorem State.setPort_raster (s : State) (k : VideoRx) (r : VideoPort) : (s.setPort k r).raster = s.raster := by
  cases k <;> rfl
@[simp] theorem State.setPort_menu (s : State) (k : VideoRx) (r : VideoPort) : (s.setPort k r).menu = s.menu := by
  cases k <;> rfl
@[simp] theorem State.setPort_audio (s : State) (k : VideoRx) (r : VideoPort) : (s.setPort k r).audio = s.audio := by
  cases k <;> rfl
@[simp] theorem State.setPort_chime (s : State) (k : VideoRx) (r : VideoPort) : (s.setPort k r).chime = s.chime := by
  cases k <;> rfl
@[simp] theorem State.setPort_store (s : State) (k : VideoRx) (r : VideoPort) : (s.setPort k r).store = s.store := by
  cases k <;> rfl
@[simp] theorem State.setPort_links (s : State) (k : VideoRx) (r : VideoPort) : (s.setPort k r).links = s.links := by
  cases k <;> rfl
@[simp] theorem State.setPort_uplink (s : State) (k : VideoRx) (r : VideoPort) : (s.setPort k r).uplink = s.uplink := by
  cases k <;> rfl
@[simp] theorem State.setPort_control (s : State) (k : VideoRx) (r : VideoPort) : (s.setPort k r).control = s.control := by
  cases k <;> rfl
@[simp] theorem State.setPort_attention (s : State) (k : VideoRx) (r : VideoPort) : (s.setPort k r).attention = s.attention := by
  cases k <;> rfl
@[simp] theorem State.setPort_mem (s : State) (k : VideoRx) (r : VideoPort) : (s.setPort k r).mem = s.mem := by
  cases k <;> rfl
@[simp] theorem State.setPort_pending (s : State) (k : VideoRx) (r : VideoPort) : (s.setPort k r).pending = s.pending := by
  cases k <;> rfl
@[simp] theorem State.setPort_out (s : State) (k : VideoRx) (r : VideoPort) : (s.setPort k r).out = s.out := by
  cases k <;> rfl
@[simp] theorem State.port_setPort (s : State) (k : VideoRx) (r : VideoPort) : (s.setPort k r).port k = r := by
  cases k <;> rfl
theorem State.port_setPort_ne (s : State) (k j : VideoRx) (r : VideoPort) (h : j ≠ k) : (s.setPort k r).port j = s.port j := by
  cases k <;> cases j <;> first | rfl | exact absurd rfl h
@[simp] theorem State.setPort_panel (s : State) (k : VideoRx) (r : VideoPort) (j : Panel) : (s.setPort k r).panel j = s.panel j := by
  cases k <;> cases j <;> rfl
@[simp] theorem State.setPort_zone (s : State) (k : VideoRx) (r : VideoPort) (j : Zone) : (s.setPort k r).zone j = s.zone j := by
  cases k <;> cases j <;> rfl
@[simp] theorem State.setPort_seat (s : State) (k : VideoRx) (r : VideoPort) (j : Seat) : (s.setPort k r).seat j = s.seat j := by
  cases k <;> cases j <;> rfl
@[simp] theorem State.setPort_plane (s : State) (k : VideoRx) (r : VideoPort) (j : Plane) : (s.setPort k r).plane j = s.plane j := by
  cases k <;> cases j <;> rfl
@[simp] theorem State.setPort_link (s : State) (k : VideoRx) (r : VideoPort) (j : Link) : (s.setPort k r).link j = s.link j := by
  cases k <;> cases j <;> rfl
@[simp] theorem State.setPort_tag (s : State) (k : VideoRx) (r : VideoPort) (j : Fin 32) : (s.setPort k r).tag j = s.tag j := by
  cases k <;> rfl
@[simp] theorem State.setPort_ring (s : State) (k : VideoRx) (r : VideoPort) (j : Fin 8) : (s.setPort k r).ring j = s.ring j := by
  cases k <;> rfl
@[simp] theorem State.setPort_voice (s : State) (k : VideoRx) (r : VideoPort) (j : Fin 4) : (s.setPort k r).voice j = s.voice j := by
  cases k <;> rfl
@[simp] theorem State.setPort_page (s : State) (k : VideoRx) (r : VideoPort) (j : Fin 16) : (s.setPort k r).page j = s.page j := by
  cases k <;> rfl

/-! ### setTag -/

@[simp] theorem State.setTag_vehicle (s : State) (k : Fin 32) (r : TagRecord) : (s.setTag k r).vehicle = s.vehicle := rfl
@[simp] theorem State.setTag_takeover (s : State) (k : Fin 32) (r : TagRecord) : (s.setTag k r).takeover = s.takeover := rfl
@[simp] theorem State.setTag_guide (s : State) (k : Fin 32) (r : TagRecord) : (s.setTag k r).guide = s.guide := rfl
@[simp] theorem State.setTag_panels (s : State) (k : Fin 32) (r : TagRecord) : (s.setTag k r).panels = s.panels := rfl
@[simp] theorem State.setTag_raster (s : State) (k : Fin 32) (r : TagRecord) : (s.setTag k r).raster = s.raster := rfl
@[simp] theorem State.setTag_menu (s : State) (k : Fin 32) (r : TagRecord) : (s.setTag k r).menu = s.menu := rfl
@[simp] theorem State.setTag_audio (s : State) (k : Fin 32) (r : TagRecord) : (s.setTag k r).audio = s.audio := rfl
@[simp] theorem State.setTag_chime (s : State) (k : Fin 32) (r : TagRecord) : (s.setTag k r).chime = s.chime := rfl
@[simp] theorem State.setTag_store (s : State) (k : Fin 32) (r : TagRecord) : (s.setTag k r).store = s.store := rfl
@[simp] theorem State.setTag_links (s : State) (k : Fin 32) (r : TagRecord) : (s.setTag k r).links = s.links := rfl
@[simp] theorem State.setTag_uplink (s : State) (k : Fin 32) (r : TagRecord) : (s.setTag k r).uplink = s.uplink := rfl
@[simp] theorem State.setTag_control (s : State) (k : Fin 32) (r : TagRecord) : (s.setTag k r).control = s.control := rfl
@[simp] theorem State.setTag_attention (s : State) (k : Fin 32) (r : TagRecord) : (s.setTag k r).attention = s.attention := rfl
@[simp] theorem State.setTag_mem (s : State) (k : Fin 32) (r : TagRecord) : (s.setTag k r).mem = s.mem := rfl
@[simp] theorem State.setTag_pending (s : State) (k : Fin 32) (r : TagRecord) : (s.setTag k r).pending = s.pending := rfl
@[simp] theorem State.setTag_out (s : State) (k : Fin 32) (r : TagRecord) : (s.setTag k r).out = s.out := rfl
@[simp] theorem State.tag_setTag (s : State) (k : Fin 32) (r : TagRecord) : (s.setTag k r).tag k = r := by
  simp [State.tag, State.setTag]
theorem State.tag_setTag_ne (s : State) (k j : Fin 32) (r : TagRecord) (h : j ≠ k) : (s.setTag k r).tag j = s.tag j := by
  simp [State.tag, State.setTag, Fin.val_ne_of_ne h.symm]
@[simp] theorem State.setTag_panel (s : State) (k : Fin 32) (r : TagRecord) (j : Panel) : (s.setTag k r).panel j = s.panel j := by
  cases j <;> rfl
@[simp] theorem State.setTag_zone (s : State) (k : Fin 32) (r : TagRecord) (j : Zone) : (s.setTag k r).zone j = s.zone j := by
  cases j <;> rfl
@[simp] theorem State.setTag_seat (s : State) (k : Fin 32) (r : TagRecord) (j : Seat) : (s.setTag k r).seat j = s.seat j := by
  cases j <;> rfl
@[simp] theorem State.setTag_plane (s : State) (k : Fin 32) (r : TagRecord) (j : Plane) : (s.setTag k r).plane j = s.plane j := by
  cases j <;> rfl
@[simp] theorem State.setTag_link (s : State) (k : Fin 32) (r : TagRecord) (j : Link) : (s.setTag k r).link j = s.link j := by
  cases j <;> rfl
@[simp] theorem State.setTag_port (s : State) (k : Fin 32) (r : TagRecord) (j : VideoRx) : (s.setTag k r).port j = s.port j := by
  cases j <;> rfl
@[simp] theorem State.setTag_ring (s : State) (k : Fin 32) (r : TagRecord) (j : Fin 8) : (s.setTag k r).ring j = s.ring j := rfl
@[simp] theorem State.setTag_voice (s : State) (k : Fin 32) (r : TagRecord) (j : Fin 4) : (s.setTag k r).voice j = s.voice j := rfl
@[simp] theorem State.setTag_page (s : State) (k : Fin 32) (r : TagRecord) (j : Fin 16) : (s.setTag k r).page j = s.page j := rfl

/-! ### setRing -/

@[simp] theorem State.setRing_vehicle (s : State) (k : Fin 8) (r : Ring) : (s.setRing k r).vehicle = s.vehicle := rfl
@[simp] theorem State.setRing_takeover (s : State) (k : Fin 8) (r : Ring) : (s.setRing k r).takeover = s.takeover := rfl
@[simp] theorem State.setRing_guide (s : State) (k : Fin 8) (r : Ring) : (s.setRing k r).guide = s.guide := rfl
@[simp] theorem State.setRing_panels (s : State) (k : Fin 8) (r : Ring) : (s.setRing k r).panels = s.panels := rfl
@[simp] theorem State.setRing_raster (s : State) (k : Fin 8) (r : Ring) : (s.setRing k r).raster = s.raster := rfl
@[simp] theorem State.setRing_menu (s : State) (k : Fin 8) (r : Ring) : (s.setRing k r).menu = s.menu := rfl
@[simp] theorem State.setRing_audio (s : State) (k : Fin 8) (r : Ring) : (s.setRing k r).audio = s.audio := rfl
@[simp] theorem State.setRing_chime (s : State) (k : Fin 8) (r : Ring) : (s.setRing k r).chime = s.chime := rfl
@[simp] theorem State.setRing_store (s : State) (k : Fin 8) (r : Ring) : (s.setRing k r).store = s.store := rfl
@[simp] theorem State.setRing_links (s : State) (k : Fin 8) (r : Ring) : (s.setRing k r).links = s.links := rfl
@[simp] theorem State.setRing_uplink (s : State) (k : Fin 8) (r : Ring) : (s.setRing k r).uplink = s.uplink := rfl
@[simp] theorem State.setRing_control (s : State) (k : Fin 8) (r : Ring) : (s.setRing k r).control = s.control := rfl
@[simp] theorem State.setRing_attention (s : State) (k : Fin 8) (r : Ring) : (s.setRing k r).attention = s.attention := rfl
@[simp] theorem State.setRing_mem (s : State) (k : Fin 8) (r : Ring) : (s.setRing k r).mem = s.mem := rfl
@[simp] theorem State.setRing_pending (s : State) (k : Fin 8) (r : Ring) : (s.setRing k r).pending = s.pending := rfl
@[simp] theorem State.setRing_out (s : State) (k : Fin 8) (r : Ring) : (s.setRing k r).out = s.out := rfl
@[simp] theorem State.ring_setRing (s : State) (k : Fin 8) (r : Ring) : (s.setRing k r).ring k = r := by
  simp [State.ring, State.setRing]
theorem State.ring_setRing_ne (s : State) (k j : Fin 8) (r : Ring) (h : j ≠ k) : (s.setRing k r).ring j = s.ring j := by
  simp [State.ring, State.setRing, Fin.val_ne_of_ne h.symm]
@[simp] theorem State.setRing_panel (s : State) (k : Fin 8) (r : Ring) (j : Panel) : (s.setRing k r).panel j = s.panel j := by
  cases j <;> rfl
@[simp] theorem State.setRing_zone (s : State) (k : Fin 8) (r : Ring) (j : Zone) : (s.setRing k r).zone j = s.zone j := by
  cases j <;> rfl
@[simp] theorem State.setRing_seat (s : State) (k : Fin 8) (r : Ring) (j : Seat) : (s.setRing k r).seat j = s.seat j := by
  cases j <;> rfl
@[simp] theorem State.setRing_plane (s : State) (k : Fin 8) (r : Ring) (j : Plane) : (s.setRing k r).plane j = s.plane j := by
  cases j <;> rfl
@[simp] theorem State.setRing_link (s : State) (k : Fin 8) (r : Ring) (j : Link) : (s.setRing k r).link j = s.link j := by
  cases j <;> rfl
@[simp] theorem State.setRing_port (s : State) (k : Fin 8) (r : Ring) (j : VideoRx) : (s.setRing k r).port j = s.port j := by
  cases j <;> rfl
@[simp] theorem State.setRing_tag (s : State) (k : Fin 8) (r : Ring) (j : Fin 32) : (s.setRing k r).tag j = s.tag j := rfl
@[simp] theorem State.setRing_voice (s : State) (k : Fin 8) (r : Ring) (j : Fin 4) : (s.setRing k r).voice j = s.voice j := rfl
@[simp] theorem State.setRing_page (s : State) (k : Fin 8) (r : Ring) (j : Fin 16) : (s.setRing k r).page j = s.page j := rfl

/-! ### setVoice -/

@[simp] theorem State.setVoice_vehicle (s : State) (k : Fin 4) (r : Voice) : (s.setVoice k r).vehicle = s.vehicle := rfl
@[simp] theorem State.setVoice_takeover (s : State) (k : Fin 4) (r : Voice) : (s.setVoice k r).takeover = s.takeover := rfl
@[simp] theorem State.setVoice_guide (s : State) (k : Fin 4) (r : Voice) : (s.setVoice k r).guide = s.guide := rfl
@[simp] theorem State.setVoice_streams (s : State) (k : Fin 4) (r : Voice) : (s.setVoice k r).streams = s.streams := rfl
@[simp] theorem State.setVoice_panels (s : State) (k : Fin 4) (r : Voice) : (s.setVoice k r).panels = s.panels := rfl
@[simp] theorem State.setVoice_raster (s : State) (k : Fin 4) (r : Voice) : (s.setVoice k r).raster = s.raster := rfl
@[simp] theorem State.setVoice_menu (s : State) (k : Fin 4) (r : Voice) : (s.setVoice k r).menu = s.menu := rfl
@[simp] theorem State.setVoice_audio (s : State) (k : Fin 4) (r : Voice) : (s.setVoice k r).audio = s.audio := rfl
@[simp] theorem State.setVoice_store (s : State) (k : Fin 4) (r : Voice) : (s.setVoice k r).store = s.store := rfl
@[simp] theorem State.setVoice_links (s : State) (k : Fin 4) (r : Voice) : (s.setVoice k r).links = s.links := rfl
@[simp] theorem State.setVoice_uplink (s : State) (k : Fin 4) (r : Voice) : (s.setVoice k r).uplink = s.uplink := rfl
@[simp] theorem State.setVoice_control (s : State) (k : Fin 4) (r : Voice) : (s.setVoice k r).control = s.control := rfl
@[simp] theorem State.setVoice_attention (s : State) (k : Fin 4) (r : Voice) : (s.setVoice k r).attention = s.attention := rfl
@[simp] theorem State.setVoice_mem (s : State) (k : Fin 4) (r : Voice) : (s.setVoice k r).mem = s.mem := rfl
@[simp] theorem State.setVoice_pending (s : State) (k : Fin 4) (r : Voice) : (s.setVoice k r).pending = s.pending := rfl
@[simp] theorem State.setVoice_out (s : State) (k : Fin 4) (r : Voice) : (s.setVoice k r).out = s.out := rfl
@[simp] theorem State.voice_setVoice (s : State) (k : Fin 4) (r : Voice) : (s.setVoice k r).voice k = r := by
  simp [State.voice, State.setVoice]
theorem State.voice_setVoice_ne (s : State) (k j : Fin 4) (r : Voice) (h : j ≠ k) : (s.setVoice k r).voice j = s.voice j := by
  simp [State.voice, State.setVoice, Fin.val_ne_of_ne h.symm]
@[simp] theorem State.setVoice_panel (s : State) (k : Fin 4) (r : Voice) (j : Panel) : (s.setVoice k r).panel j = s.panel j := by
  cases j <;> rfl
@[simp] theorem State.setVoice_zone (s : State) (k : Fin 4) (r : Voice) (j : Zone) : (s.setVoice k r).zone j = s.zone j := by
  cases j <;> rfl
@[simp] theorem State.setVoice_seat (s : State) (k : Fin 4) (r : Voice) (j : Seat) : (s.setVoice k r).seat j = s.seat j := by
  cases j <;> rfl
@[simp] theorem State.setVoice_plane (s : State) (k : Fin 4) (r : Voice) (j : Plane) : (s.setVoice k r).plane j = s.plane j := by
  cases j <;> rfl
@[simp] theorem State.setVoice_link (s : State) (k : Fin 4) (r : Voice) (j : Link) : (s.setVoice k r).link j = s.link j := by
  cases j <;> rfl
@[simp] theorem State.setVoice_port (s : State) (k : Fin 4) (r : Voice) (j : VideoRx) : (s.setVoice k r).port j = s.port j := by
  cases j <;> rfl
@[simp] theorem State.setVoice_tag (s : State) (k : Fin 4) (r : Voice) (j : Fin 32) : (s.setVoice k r).tag j = s.tag j := rfl
@[simp] theorem State.setVoice_ring (s : State) (k : Fin 4) (r : Voice) (j : Fin 8) : (s.setVoice k r).ring j = s.ring j := rfl
@[simp] theorem State.setVoice_page (s : State) (k : Fin 4) (r : Voice) (j : Fin 16) : (s.setVoice k r).page j = s.page j := rfl

/-! ### setPage -/

@[simp] theorem State.setPage_vehicle (s : State) (k : Fin 16) (r : Option MenuPage) : (s.setPage k r).vehicle = s.vehicle := rfl
@[simp] theorem State.setPage_takeover (s : State) (k : Fin 16) (r : Option MenuPage) : (s.setPage k r).takeover = s.takeover := rfl
@[simp] theorem State.setPage_guide (s : State) (k : Fin 16) (r : Option MenuPage) : (s.setPage k r).guide = s.guide := rfl
@[simp] theorem State.setPage_streams (s : State) (k : Fin 16) (r : Option MenuPage) : (s.setPage k r).streams = s.streams := rfl
@[simp] theorem State.setPage_panels (s : State) (k : Fin 16) (r : Option MenuPage) : (s.setPage k r).panels = s.panels := rfl
@[simp] theorem State.setPage_raster (s : State) (k : Fin 16) (r : Option MenuPage) : (s.setPage k r).raster = s.raster := rfl
@[simp] theorem State.setPage_audio (s : State) (k : Fin 16) (r : Option MenuPage) : (s.setPage k r).audio = s.audio := rfl
@[simp] theorem State.setPage_chime (s : State) (k : Fin 16) (r : Option MenuPage) : (s.setPage k r).chime = s.chime := rfl
@[simp] theorem State.setPage_store (s : State) (k : Fin 16) (r : Option MenuPage) : (s.setPage k r).store = s.store := rfl
@[simp] theorem State.setPage_links (s : State) (k : Fin 16) (r : Option MenuPage) : (s.setPage k r).links = s.links := rfl
@[simp] theorem State.setPage_uplink (s : State) (k : Fin 16) (r : Option MenuPage) : (s.setPage k r).uplink = s.uplink := rfl
@[simp] theorem State.setPage_control (s : State) (k : Fin 16) (r : Option MenuPage) : (s.setPage k r).control = s.control := rfl
@[simp] theorem State.setPage_attention (s : State) (k : Fin 16) (r : Option MenuPage) : (s.setPage k r).attention = s.attention := rfl
@[simp] theorem State.setPage_mem (s : State) (k : Fin 16) (r : Option MenuPage) : (s.setPage k r).mem = s.mem := rfl
@[simp] theorem State.setPage_pending (s : State) (k : Fin 16) (r : Option MenuPage) : (s.setPage k r).pending = s.pending := rfl
@[simp] theorem State.setPage_out (s : State) (k : Fin 16) (r : Option MenuPage) : (s.setPage k r).out = s.out := rfl
@[simp] theorem State.page_setPage (s : State) (k : Fin 16) (r : Option MenuPage) : (s.setPage k r).page k = r := by
  simp [State.page, State.setPage]
theorem State.page_setPage_ne (s : State) (k j : Fin 16) (r : Option MenuPage) (h : j ≠ k) : (s.setPage k r).page j = s.page j := by
  simp [State.page, State.setPage, Fin.val_ne_of_ne h.symm]
@[simp] theorem State.setPage_panel (s : State) (k : Fin 16) (r : Option MenuPage) (j : Panel) : (s.setPage k r).panel j = s.panel j := by
  cases j <;> rfl
@[simp] theorem State.setPage_zone (s : State) (k : Fin 16) (r : Option MenuPage) (j : Zone) : (s.setPage k r).zone j = s.zone j := by
  cases j <;> rfl
@[simp] theorem State.setPage_seat (s : State) (k : Fin 16) (r : Option MenuPage) (j : Seat) : (s.setPage k r).seat j = s.seat j := by
  cases j <;> rfl
@[simp] theorem State.setPage_plane (s : State) (k : Fin 16) (r : Option MenuPage) (j : Plane) : (s.setPage k r).plane j = s.plane j := by
  cases j <;> rfl
@[simp] theorem State.setPage_link (s : State) (k : Fin 16) (r : Option MenuPage) (j : Link) : (s.setPage k r).link j = s.link j := by
  cases j <;> rfl
@[simp] theorem State.setPage_port (s : State) (k : Fin 16) (r : Option MenuPage) (j : VideoRx) : (s.setPage k r).port j = s.port j := by
  cases j <;> rfl
@[simp] theorem State.setPage_tag (s : State) (k : Fin 16) (r : Option MenuPage) (j : Fin 32) : (s.setPage k r).tag j = s.tag j := rfl
@[simp] theorem State.setPage_ring (s : State) (k : Fin 16) (r : Option MenuPage) (j : Fin 8) : (s.setPage k r).ring j = s.ring j := rfl
@[simp] theorem State.setPage_voice (s : State) (k : Fin 16) (r : Option MenuPage) (j : Fin 4) : (s.setPage k r).voice j = s.voice j := rfl

end Sys2Proof.Machine
end

