-- ==== Sys2Proof/Laws/Frames.lean ====
section
/-! SUPPORT. What each shared operation leaves unchanged: one lemma per operation, naming every field of State that it
does not touch. -/

namespace Sys2Proof.Machine

/-- A fold keeps what each of its steps keeps. -/
theorem foldl_keeps {α β : Type} (g : State → β) (f : State → α → State) (h : ∀ s a, g (f s a) = g s) (xs : List α)
    (s : State) : g (xs.foldl f s) = g s := by
  induction xs generalizing s with
  | nil => rfl
  | cons x xs ih => rw [List.foldl_cons, ih, h]

@[simp] theorem handNotice_keeps (b : UplinkBody) (s : State) :
    (handNotice b s).vehicle = s.vehicle ∧ (handNotice b s).takeover = s.takeover ∧ (handNotice b s).guide = s.guide ∧
    (handNotice b s).streams = s.streams ∧ (handNotice b s).panels = s.panels ∧ (handNotice b s).raster = s.raster ∧
    (handNotice b s).menu = s.menu ∧ (handNotice b s).audio = s.audio ∧ (handNotice b s).chime = s.chime ∧
    (handNotice b s).store = s.store ∧ (handNotice b s).control = s.control ∧ (handNotice b s).attention = s.attention ∧
    (handNotice b s).mem = s.mem ∧ (handNotice b s).pending = s.pending ∧ (handNotice b s).out = s.out := by
  refine ⟨?_, ?_, ?_, ?_, ?_, ?_, ?_, ?_, ?_, ?_, ?_, ?_, ?_, ?_, ?_⟩ <;>
  (
  unfold handNotice; (try dsimp only)
  (repeat' split) <;> (try simp))
@[simp] theorem handReply_keeps (p : UplinkPacket) (s : State) :
    (handReply p s).vehicle = s.vehicle ∧ (handReply p s).takeover = s.takeover ∧ (handReply p s).guide = s.guide ∧
    (handReply p s).streams = s.streams ∧ (handReply p s).panels = s.panels ∧ (handReply p s).raster = s.raster ∧
    (handReply p s).menu = s.menu ∧ (handReply p s).audio = s.audio ∧ (handReply p s).chime = s.chime ∧
    (handReply p s).store = s.store ∧ (handReply p s).control = s.control ∧ (handReply p s).attention = s.attention ∧
    (handReply p s).mem = s.mem ∧ (handReply p s).pending = s.pending ∧ (handReply p s).out = s.out := by
  refine ⟨?_, ?_, ?_, ?_, ?_, ?_, ?_, ?_, ?_, ?_, ?_, ?_, ?_, ?_, ?_⟩ <;>
  (
  unfold handReply; (try dsimp only)
  (repeat' split) <;> (try simp))
@[simp] theorem raiseFlag_keeps (f : Flag) (s : State) :
    (raiseFlag f s).vehicle = s.vehicle ∧ (raiseFlag f s).takeover = s.takeover ∧ (raiseFlag f s).guide = s.guide ∧
    (raiseFlag f s).streams = s.streams ∧ (raiseFlag f s).panels = s.panels ∧ (raiseFlag f s).raster = s.raster ∧
    (raiseFlag f s).menu = s.menu ∧ (raiseFlag f s).audio = s.audio ∧ (raiseFlag f s).chime = s.chime ∧
    (raiseFlag f s).store = s.store ∧ (raiseFlag f s).control = s.control ∧ (raiseFlag f s).mem = s.mem ∧
    (raiseFlag f s).pending = s.pending ∧ (raiseFlag f s).out = s.out := by
  refine ⟨?_, ?_, ?_, ?_, ?_, ?_, ?_, ?_, ?_, ?_, ?_, ?_, ?_, ?_⟩ <;>
  (
  unfold raiseFlag; (try dsimp only)
  (repeat' split) <;> (try simp))
@[simp] theorem clearFlags_keeps (fs : BitVec 16) (s : State) :
    (clearFlags fs s).vehicle = s.vehicle ∧ (clearFlags fs s).takeover = s.takeover ∧ (clearFlags fs s).guide = s.guide ∧
    (clearFlags fs s).streams = s.streams ∧ (clearFlags fs s).panels = s.panels ∧ (clearFlags fs s).raster = s.raster ∧
    (clearFlags fs s).menu = s.menu ∧ (clearFlags fs s).audio = s.audio ∧ (clearFlags fs s).chime = s.chime ∧
    (clearFlags fs s).store = s.store ∧ (clearFlags fs s).links = s.links ∧ (clearFlags fs s).uplink = s.uplink ∧
    (clearFlags fs s).control = s.control ∧ (clearFlags fs s).mem = s.mem ∧ (clearFlags fs s).pending = s.pending ∧
    (clearFlags fs s).out = s.out := ⟨rfl, rfl, rfl, rfl, rfl, rfl, rfl, rfl, rfl, rfl, rfl, rfl, rfl, rfl, rfl, rfl⟩
@[simp] theorem emit_keeps (o : Output) (s : State) :
    (emit o s).vehicle = s.vehicle ∧ (emit o s).takeover = s.takeover ∧ (emit o s).guide = s.guide ∧
    (emit o s).streams = s.streams ∧ (emit o s).panels = s.panels ∧ (emit o s).raster = s.raster ∧
    (emit o s).menu = s.menu ∧ (emit o s).audio = s.audio ∧ (emit o s).chime = s.chime ∧
    (emit o s).store = s.store ∧ (emit o s).links = s.links ∧ (emit o s).uplink = s.uplink ∧
    (emit o s).control = s.control ∧ (emit o s).attention = s.attention ∧ (emit o s).mem = s.mem ∧
    (emit o s).pending = s.pending := ⟨rfl, rfl, rfl, rfl, rfl, rfl, rfl, rfl, rfl, rfl, rfl, rfl, rfl, rfl, rfl, rfl⟩
@[simp] theorem startRender_keeps (p : Plane) (s : State) :
    (startRender p s).vehicle = s.vehicle ∧ (startRender p s).takeover = s.takeover ∧ (startRender p s).guide = s.guide ∧
    (startRender p s).streams = s.streams ∧ (startRender p s).panels = s.panels ∧ (startRender p s).menu = s.menu ∧
    (startRender p s).audio = s.audio ∧ (startRender p s).chime = s.chime ∧ (startRender p s).store = s.store ∧
    (startRender p s).links = s.links ∧ (startRender p s).uplink = s.uplink ∧ (startRender p s).control = s.control ∧
    (startRender p s).attention = s.attention ∧ (startRender p s).mem = s.mem ∧ (startRender p s).pending = s.pending ∧
    (startRender p s).out = s.out := by
  refine ⟨?_, ?_, ?_, ?_, ?_, ?_, ?_, ?_, ?_, ?_, ?_, ?_, ?_, ?_, ?_, ?_⟩ <;>
  (
  unfold startRender; (try dsimp only)
  (repeat' split) <;> (try simp))
@[simp] theorem engineTake_keeps (s : State) :
    (engineTake s).vehicle = s.vehicle ∧ (engineTake s).takeover = s.takeover ∧ (engineTake s).guide = s.guide ∧
    (engineTake s).streams = s.streams ∧ (engineTake s).panels = s.panels ∧ (engineTake s).menu = s.menu ∧
    (engineTake s).audio = s.audio ∧ (engineTake s).chime = s.chime ∧ (engineTake s).store = s.store ∧
    (engineTake s).links = s.links ∧ (engineTake s).uplink = s.uplink ∧ (engineTake s).control = s.control ∧
    (engineTake s).attention = s.attention ∧ (engineTake s).mem = s.mem ∧ (engineTake s).pending = s.pending ∧
    (engineTake s).out = s.out := by
  refine ⟨?_, ?_, ?_, ?_, ?_, ?_, ?_, ?_, ?_, ?_, ?_, ?_, ?_, ?_, ?_, ?_⟩ <;>
  (
  unfold engineTake; (try dsimp only)
  (repeat' split) <;> (try simp))
@[simp] theorem requestRenders_keeps (ps : List Plane) (s : State) :
    (requestRenders ps s).vehicle = s.vehicle ∧ (requestRenders ps s).takeover = s.takeover ∧ (requestRenders ps s).guide = s.guide ∧
    (requestRenders ps s).streams = s.streams ∧ (requestRenders ps s).panels = s.panels ∧ (requestRenders ps s).menu = s.menu ∧
    (requestRenders ps s).audio = s.audio ∧ (requestRenders ps s).chime = s.chime ∧ (requestRenders ps s).store = s.store ∧
    (requestRenders ps s).links = s.links ∧ (requestRenders ps s).uplink = s.uplink ∧ (requestRenders ps s).control = s.control ∧
    (requestRenders ps s).attention = s.attention ∧ (requestRenders ps s).mem = s.mem ∧ (requestRenders ps s).pending = s.pending ∧
    (requestRenders ps s).out = s.out := by
  refine ⟨?_, ?_, ?_, ?_, ?_, ?_, ?_, ?_, ?_, ?_, ?_, ?_, ?_, ?_, ?_, ?_⟩
  · unfold requestRenders; simp only [engineTake_keeps]
    exact foldl_keeps (·.vehicle) _ (fun s a => by simp) _ _
  · unfold requestRenders; simp only [engineTake_keeps]
    exact foldl_keeps (·.takeover) _ (fun s a => by simp) _ _
  · unfold requestRenders; simp only [engineTake_keeps]
    exact foldl_keeps (·.guide) _ (fun s a => by simp) _ _
  · unfold requestRenders; simp only [engineTake_keeps]
    exact foldl_keeps (·.streams) _ (fun s a => by simp) _ _
  · unfold requestRenders; simp only [engineTake_keeps]
    exact foldl_keeps (·.panels) _ (fun s a => by simp) _ _
  · unfold requestRenders; simp only [engineTake_keeps]
    exact foldl_keeps (·.menu) _ (fun s a => by simp) _ _
  · unfold requestRenders; simp only [engineTake_keeps]
    exact foldl_keeps (·.audio) _ (fun s a => by simp) _ _
  · unfold requestRenders; simp only [engineTake_keeps]
    exact foldl_keeps (·.chime) _ (fun s a => by simp) _ _
  · unfold requestRenders; simp only [engineTake_keeps]
    exact foldl_keeps (·.store) _ (fun s a => by simp) _ _
  · unfold requestRenders; simp only [engineTake_keeps]
    exact foldl_keeps (·.links) _ (fun s a => by simp) _ _
  · unfold requestRenders; simp only [engineTake_keeps]
    exact foldl_keeps (·.uplink) _ (fun s a => by simp) _ _
  · unfold requestRenders; simp only [engineTake_keeps]
    exact foldl_keeps (·.control) _ (fun s a => by simp) _ _
  · unfold requestRenders; simp only [engineTake_keeps]
    exact foldl_keeps (·.attention) _ (fun s a => by simp) _ _
  · unfold requestRenders; simp only [engineTake_keeps]
    exact foldl_keeps (·.mem) _ (fun s a => by simp) _ _
  · unfold requestRenders; simp only [engineTake_keeps]
    exact foldl_keeps (·.pending) _ (fun s a => by simp) _ _
  · unfold requestRenders; simp only [engineTake_keeps]
    exact foldl_keeps (·.out) _ (fun s a => by simp) _ _
@[simp] theorem requestGuide_keeps (s : State) :
    (requestGuide s).vehicle = s.vehicle ∧ (requestGuide s).takeover = s.takeover ∧ (requestGuide s).guide = s.guide ∧
    (requestGuide s).streams = s.streams ∧ (requestGuide s).panels = s.panels ∧ (requestGuide s).menu = s.menu ∧
    (requestGuide s).audio = s.audio ∧ (requestGuide s).chime = s.chime ∧ (requestGuide s).store = s.store ∧
    (requestGuide s).links = s.links ∧ (requestGuide s).uplink = s.uplink ∧ (requestGuide s).control = s.control ∧
    (requestGuide s).attention = s.attention ∧ (requestGuide s).mem = s.mem ∧ (requestGuide s).pending = s.pending ∧
    (requestGuide s).out = s.out := by
  refine ⟨?_, ?_, ?_, ?_, ?_, ?_, ?_, ?_, ?_, ?_, ?_, ?_, ?_, ?_, ?_, ?_⟩ <;>
  (
  unfold requestGuide; (try dsimp only)
  (repeat' split) <;> (try simp))
@[simp] theorem requestMenu_keeps (k : Seat) (s : State) :
    (requestMenu k s).vehicle = s.vehicle ∧ (requestMenu k s).takeover = s.takeover ∧ (requestMenu k s).guide = s.guide ∧
    (requestMenu k s).streams = s.streams ∧ (requestMenu k s).panels = s.panels ∧ (requestMenu k s).menu = s.menu ∧
    (requestMenu k s).audio = s.audio ∧ (requestMenu k s).chime = s.chime ∧ (requestMenu k s).store = s.store ∧
    (requestMenu k s).links = s.links ∧ (requestMenu k s).uplink = s.uplink ∧ (requestMenu k s).control = s.control ∧
    (requestMenu k s).attention = s.attention ∧ (requestMenu k s).mem = s.mem ∧ (requestMenu k s).pending = s.pending ∧
    (requestMenu k s).out = s.out := by
  refine ⟨?_, ?_, ?_, ?_, ?_, ?_, ?_, ?_, ?_, ?_, ?_, ?_, ?_, ?_, ?_, ?_⟩ <;>
  (
  unfold requestMenu; (try dsimp only)
  (repeat' split) <;> (try simp))
@[simp] theorem swapPlane_keeps (p : Plane) (s : State) :
    (swapPlane p s).vehicle = s.vehicle ∧ (swapPlane p s).takeover = s.takeover ∧ (swapPlane p s).guide = s.guide ∧
    (swapPlane p s).streams = s.streams ∧ (swapPlane p s).panels = s.panels ∧ (swapPlane p s).menu = s.menu ∧
    (swapPlane p s).audio = s.audio ∧ (swapPlane p s).chime = s.chime ∧ (swapPlane p s).store = s.store ∧
    (swapPlane p s).links = s.links ∧ (swapPlane p s).uplink = s.uplink ∧ (swapPlane p s).control = s.control ∧
    (swapPlane p s).attention = s.attention ∧ (swapPlane p s).mem = s.mem ∧ (swapPlane p s).pending = s.pending ∧
    (swapPlane p s).out = s.out := by
  refine ⟨?_, ?_, ?_, ?_, ?_, ?_, ?_, ?_, ?_, ?_, ?_, ?_, ?_, ?_, ?_, ?_⟩ <;>
  (
  unfold swapPlane; (try dsimp only)
  (repeat' split) <;> (try simp))
@[simp] theorem setBlock_keeps (c : BlockSet) (b : Fin 256) (s : State) :
    (setBlock c b s).vehicle = s.vehicle ∧ (setBlock c b s).takeover = s.takeover ∧ (setBlock c b s).guide = s.guide ∧
    (setBlock c b s).streams = s.streams ∧ (setBlock c b s).panels = s.panels ∧ (setBlock c b s).raster = s.raster ∧
    (setBlock c b s).menu = s.menu ∧ (setBlock c b s).audio = s.audio ∧ (setBlock c b s).chime = s.chime ∧
    (setBlock c b s).links = s.links ∧ (setBlock c b s).uplink = s.uplink ∧ (setBlock c b s).control = s.control ∧
    (setBlock c b s).attention = s.attention ∧ (setBlock c b s).mem = s.mem ∧ (setBlock c b s).pending = s.pending ∧
    (setBlock c b s).out = s.out := ⟨rfl, rfl, rfl, rfl, rfl, rfl, rfl, rfl, rfl, rfl, rfl, rfl, rfl, rfl, rfl, rfl⟩
@[simp] theorem setBlocks_keeps (c : BlockSet) (bs : List (Fin 256)) (s : State) :
    (setBlocks c bs s).vehicle = s.vehicle ∧ (setBlocks c bs s).takeover = s.takeover ∧ (setBlocks c bs s).guide = s.guide ∧
    (setBlocks c bs s).streams = s.streams ∧ (setBlocks c bs s).panels = s.panels ∧ (setBlocks c bs s).raster = s.raster ∧
    (setBlocks c bs s).menu = s.menu ∧ (setBlocks c bs s).audio = s.audio ∧ (setBlocks c bs s).chime = s.chime ∧
    (setBlocks c bs s).links = s.links ∧ (setBlocks c bs s).uplink = s.uplink ∧ (setBlocks c bs s).control = s.control ∧
    (setBlocks c bs s).attention = s.attention ∧ (setBlocks c bs s).mem = s.mem ∧ (setBlocks c bs s).pending = s.pending ∧
    (setBlocks c bs s).out = s.out := by
  refine ⟨?_, ?_, ?_, ?_, ?_, ?_, ?_, ?_, ?_, ?_, ?_, ?_, ?_, ?_, ?_, ?_⟩
  · unfold setBlocks; exact foldl_keeps (·.vehicle) (fun s b => setBlock c b s) (fun s a => rfl) _ _
  · unfold setBlocks; exact foldl_keeps (·.takeover) (fun s b => setBlock c b s) (fun s a => rfl) _ _
  · unfold setBlocks; exact foldl_keeps (·.guide) (fun s b => setBlock c b s) (fun s a => rfl) _ _
  · unfold setBlocks; exact foldl_keeps (·.streams) (fun s b => setBlock c b s) (fun s a => rfl) _ _
  · unfold setBlocks; exact foldl_keeps (·.panels) (fun s b => setBlock c b s) (fun s a => rfl) _ _
  · unfold setBlocks; exact foldl_keeps (·.raster) (fun s b => setBlock c b s) (fun s a => rfl) _ _
  · unfold setBlocks; exact foldl_keeps (·.menu) (fun s b => setBlock c b s) (fun s a => rfl) _ _
  · unfold setBlocks; exact foldl_keeps (·.audio) (fun s b => setBlock c b s) (fun s a => rfl) _ _
  · unfold setBlocks; exact foldl_keeps (·.chime) (fun s b => setBlock c b s) (fun s a => rfl) _ _
  · unfold setBlocks; exact foldl_keeps (·.links) (fun s b => setBlock c b s) (fun s a => rfl) _ _
  · unfold setBlocks; exact foldl_keeps (·.uplink) (fun s b => setBlock c b s) (fun s a => rfl) _ _
  · unfold setBlocks; exact foldl_keeps (·.control) (fun s b => setBlock c b s) (fun s a => rfl) _ _
  · unfold setBlocks; exact foldl_keeps (·.attention) (fun s b => setBlock c b s) (fun s a => rfl) _ _
  · unfold setBlocks; exact foldl_keeps (·.mem) (fun s b => setBlock c b s) (fun s a => rfl) _ _
  · unfold setBlocks; exact foldl_keeps (·.pending) (fun s b => setBlock c b s) (fun s a => rfl) _ _
  · unfold setBlocks; exact foldl_keeps (·.out) (fun s b => setBlock c b s) (fun s a => rfl) _ _
@[simp] theorem storeSelect_keeps (s : State) :
    (storeSelect s).vehicle = s.vehicle ∧ (storeSelect s).takeover = s.takeover ∧ (storeSelect s).guide = s.guide ∧
    (storeSelect s).streams = s.streams ∧ (storeSelect s).panels = s.panels ∧ (storeSelect s).raster = s.raster ∧
    (storeSelect s).menu = s.menu ∧ (storeSelect s).audio = s.audio ∧ (storeSelect s).chime = s.chime ∧
    (storeSelect s).links = s.links ∧ (storeSelect s).uplink = s.uplink ∧ (storeSelect s).control = s.control ∧
    (storeSelect s).attention = s.attention ∧ (storeSelect s).mem = s.mem ∧ (storeSelect s).pending = s.pending ∧
    (storeSelect s).out = s.out := by
  refine ⟨?_, ?_, ?_, ?_, ?_, ?_, ?_, ?_, ?_, ?_, ?_, ?_, ?_, ?_, ?_, ?_⟩ <;>
  (
  unfold storeSelect; (try dsimp only)
  (repeat' split) <;> (try simp))
@[simp] theorem issueRead_keeps (r : Reader) (b : Fin 256) (page : Nat) (s : State) :
    (issueRead r b page s).vehicle = s.vehicle ∧ (issueRead r b page s).takeover = s.takeover ∧ (issueRead r b page s).guide = s.guide ∧
    (issueRead r b page s).streams = s.streams ∧ (issueRead r b page s).panels = s.panels ∧ (issueRead r b page s).raster = s.raster ∧
    (issueRead r b page s).menu = s.menu ∧ (issueRead r b page s).audio = s.audio ∧ (issueRead r b page s).chime = s.chime ∧
    (issueRead r b page s).links = s.links ∧ (issueRead r b page s).uplink = s.uplink ∧ (issueRead r b page s).control = s.control ∧
    (issueRead r b page s).attention = s.attention ∧ (issueRead r b page s).mem = s.mem ∧ (issueRead r b page s).pending = s.pending ∧
    (issueRead r b page s).out = s.out := by
  refine ⟨?_, ?_, ?_, ?_, ?_, ?_, ?_, ?_, ?_, ?_, ?_, ?_, ?_, ?_, ?_, ?_⟩ <;>
  (
  unfold issueRead; (try dsimp only)
  (repeat' split) <;> (try simp))
@[simp] theorem issueAssetRead_keeps (r : Reader) (id gen p : Nat) (s : State) :
    (issueAssetRead r id gen p s).vehicle = s.vehicle ∧ (issueAssetRead r id gen p s).takeover = s.takeover ∧ (issueAssetRead r id gen p s).guide = s.guide ∧
    (issueAssetRead r id gen p s).streams = s.streams ∧ (issueAssetRead r id gen p s).panels = s.panels ∧ (issueAssetRead r id gen p s).raster = s.raster ∧
    (issueAssetRead r id gen p s).menu = s.menu ∧ (issueAssetRead r id gen p s).audio = s.audio ∧ (issueAssetRead r id gen p s).chime = s.chime ∧
    (issueAssetRead r id gen p s).links = s.links ∧ (issueAssetRead r id gen p s).uplink = s.uplink ∧ (issueAssetRead r id gen p s).control = s.control ∧
    (issueAssetRead r id gen p s).attention = s.attention ∧ (issueAssetRead r id gen p s).mem = s.mem ∧ (issueAssetRead r id gen p s).pending = s.pending ∧
    (issueAssetRead r id gen p s).out = s.out := by
  refine ⟨?_, ?_, ?_, ?_, ?_, ?_, ?_, ?_, ?_, ?_, ?_, ?_, ?_, ?_, ?_, ?_⟩ <;>
  (
  unfold issueAssetRead; (try dsimp only)
  (repeat' split) <;> (try simp))
@[simp] theorem joinErase_keeps (bs : List (Fin 256)) (s : State) :
    (joinErase bs s).vehicle = s.vehicle ∧ (joinErase bs s).takeover = s.takeover ∧ (joinErase bs s).guide = s.guide ∧
    (joinErase bs s).streams = s.streams ∧ (joinErase bs s).panels = s.panels ∧ (joinErase bs s).raster = s.raster ∧
    (joinErase bs s).menu = s.menu ∧ (joinErase bs s).audio = s.audio ∧ (joinErase bs s).chime = s.chime ∧
    (joinErase bs s).links = s.links ∧ (joinErase bs s).uplink = s.uplink ∧ (joinErase bs s).control = s.control ∧
    (joinErase bs s).attention = s.attention ∧ (joinErase bs s).mem = s.mem ∧ (joinErase bs s).pending = s.pending ∧
    (joinErase bs s).out = s.out := by
  refine ⟨?_, ?_, ?_, ?_, ?_, ?_, ?_, ?_, ?_, ?_, ?_, ?_, ?_, ?_, ?_, ?_⟩ <;>
  (
  unfold joinErase; (try dsimp only)
  (repeat' split) <;> (try simp))
@[simp] theorem makeBad_keeps (b : Fin 256) (s : State) :
    (makeBad b s).vehicle = s.vehicle ∧ (makeBad b s).takeover = s.takeover ∧ (makeBad b s).guide = s.guide ∧
    (makeBad b s).streams = s.streams ∧ (makeBad b s).panels = s.panels ∧ (makeBad b s).raster = s.raster ∧
    (makeBad b s).menu = s.menu ∧ (makeBad b s).audio = s.audio ∧ (makeBad b s).chime = s.chime ∧
    (makeBad b s).links = s.links ∧ (makeBad b s).uplink = s.uplink ∧ (makeBad b s).control = s.control ∧
    (makeBad b s).attention = s.attention ∧ (makeBad b s).mem = s.mem ∧ (makeBad b s).pending = s.pending ∧
    (makeBad b s).out = s.out := by
  refine ⟨?_, ?_, ?_, ?_, ?_, ?_, ?_, ?_, ?_, ?_, ?_, ?_, ?_, ?_, ?_, ?_⟩ <;>
  (
  unfold makeBad; (try dsimp only)
  (repeat' split) <;> (try simp))
@[simp] theorem pinAsset_keeps (id : Nat) (s : State) :
    (pinAsset id s).vehicle = s.vehicle ∧ (pinAsset id s).takeover = s.takeover ∧ (pinAsset id s).guide = s.guide ∧
    (pinAsset id s).streams = s.streams ∧ (pinAsset id s).panels = s.panels ∧ (pinAsset id s).raster = s.raster ∧
    (pinAsset id s).menu = s.menu ∧ (pinAsset id s).audio = s.audio ∧ (pinAsset id s).chime = s.chime ∧
    (pinAsset id s).links = s.links ∧ (pinAsset id s).uplink = s.uplink ∧ (pinAsset id s).control = s.control ∧
    (pinAsset id s).attention = s.attention ∧ (pinAsset id s).mem = s.mem ∧ (pinAsset id s).pending = s.pending ∧
    (pinAsset id s).out = s.out := ⟨rfl, rfl, rfl, rfl, rfl, rfl, rfl, rfl, rfl, rfl, rfl, rfl, rfl, rfl, rfl, rfl⟩
@[simp] theorem unpinAsset_keeps (id gen : Nat) (s : State) :
    (unpinAsset id gen s).vehicle = s.vehicle ∧ (unpinAsset id gen s).takeover = s.takeover ∧ (unpinAsset id gen s).guide = s.guide ∧
    (unpinAsset id gen s).streams = s.streams ∧ (unpinAsset id gen s).panels = s.panels ∧ (unpinAsset id gen s).raster = s.raster ∧
    (unpinAsset id gen s).menu = s.menu ∧ (unpinAsset id gen s).audio = s.audio ∧ (unpinAsset id gen s).chime = s.chime ∧
    (unpinAsset id gen s).links = s.links ∧ (unpinAsset id gen s).uplink = s.uplink ∧ (unpinAsset id gen s).control = s.control ∧
    (unpinAsset id gen s).attention = s.attention ∧ (unpinAsset id gen s).mem = s.mem ∧ (unpinAsset id gen s).pending = s.pending ∧
    (unpinAsset id gen s).out = s.out := by
  refine ⟨?_, ?_, ?_, ?_, ?_, ?_, ?_, ?_, ?_, ?_, ?_, ?_, ?_, ?_, ?_, ?_⟩ <;>
  (
  unfold unpinAsset; (try dsimp only)
  (repeat' split) <;> (try simp))
@[simp] theorem failTransaction_keeps (c : FailCause) (s : State) :
    (failTransaction c s).vehicle = s.vehicle ∧ (failTransaction c s).takeover = s.takeover ∧ (failTransaction c s).guide = s.guide ∧
    (failTransaction c s).streams = s.streams ∧ (failTransaction c s).panels = s.panels ∧ (failTransaction c s).raster = s.raster ∧
    (failTransaction c s).menu = s.menu ∧ (failTransaction c s).audio = s.audio ∧ (failTransaction c s).chime = s.chime ∧
    (failTransaction c s).control = s.control ∧ (failTransaction c s).mem = s.mem ∧ (failTransaction c s).pending = s.pending ∧
    (failTransaction c s).out = s.out := by
  refine ⟨?_, ?_, ?_, ?_, ?_, ?_, ?_, ?_, ?_, ?_, ?_, ?_, ?_⟩ <;>
  (
  unfold failTransaction; (try dsimp only)
  (repeat' split) <;> (try simp))
@[simp] theorem abortOperation_keeps (c : FailCause) (s : State) :
    (abortOperation c s).vehicle = s.vehicle ∧ (abortOperation c s).takeover = s.takeover ∧ (abortOperation c s).guide = s.guide ∧
    (abortOperation c s).streams = s.streams ∧ (abortOperation c s).panels = s.panels ∧ (abortOperation c s).raster = s.raster ∧
    (abortOperation c s).menu = s.menu ∧ (abortOperation c s).audio = s.audio ∧ (abortOperation c s).chime = s.chime ∧
    (abortOperation c s).control = s.control ∧ (abortOperation c s).mem = s.mem ∧ (abortOperation c s).pending = s.pending ∧
    (abortOperation c s).out = s.out := by
  refine ⟨?_, ?_, ?_, ?_, ?_, ?_, ?_, ?_, ?_, ?_, ?_, ?_, ?_⟩ <;>
  (
  unfold abortOperation; (try dsimp only)
  (repeat' split) <;> (try simp))
@[simp] theorem takeToken_keeps (s : State) :
    (takeToken s).2.vehicle = s.vehicle ∧ (takeToken s).2.takeover = s.takeover ∧ (takeToken s).2.guide = s.guide ∧
    (takeToken s).2.streams = s.streams ∧ (takeToken s).2.panels = s.panels ∧ (takeToken s).2.raster = s.raster ∧
    (takeToken s).2.menu = s.menu ∧ (takeToken s).2.audio = s.audio ∧ (takeToken s).2.chime = s.chime ∧
    (takeToken s).2.links = s.links ∧ (takeToken s).2.uplink = s.uplink ∧ (takeToken s).2.control = s.control ∧
    (takeToken s).2.attention = s.attention ∧ (takeToken s).2.mem = s.mem ∧ (takeToken s).2.pending = s.pending ∧
    (takeToken s).2.out = s.out := ⟨rfl, rfl, rfl, rfl, rfl, rfl, rfl, rfl, rfl, rfl, rfl, rfl, rfl, rfl, rfl, rfl⟩
@[simp] theorem finishOp_keeps (s : State) :
    (finishOp s).vehicle = s.vehicle ∧ (finishOp s).takeover = s.takeover ∧ (finishOp s).guide = s.guide ∧
    (finishOp s).streams = s.streams ∧ (finishOp s).panels = s.panels ∧ (finishOp s).raster = s.raster ∧
    (finishOp s).menu = s.menu ∧ (finishOp s).audio = s.audio ∧ (finishOp s).chime = s.chime ∧
    (finishOp s).links = s.links ∧ (finishOp s).uplink = s.uplink ∧ (finishOp s).control = s.control ∧
    (finishOp s).attention = s.attention ∧ (finishOp s).mem = s.mem ∧ (finishOp s).pending = s.pending ∧
    (finishOp s).out = s.out := by
  refine ⟨?_, ?_, ?_, ?_, ?_, ?_, ?_, ?_, ?_, ?_, ?_, ?_, ?_, ?_, ?_, ?_⟩ <;>
  (
  unfold finishOp; (try dsimp only)
  (repeat' split) <;> (try simp))
@[simp] theorem issueGlyphRead_keeps (page : Nat) (l : GlyphLoad) (s : State) :
    (issueGlyphRead page l s).vehicle = s.vehicle ∧ (issueGlyphRead page l s).takeover = s.takeover ∧ (issueGlyphRead page l s).guide = s.guide ∧
    (issueGlyphRead page l s).streams = s.streams ∧ (issueGlyphRead page l s).panels = s.panels ∧ (issueGlyphRead page l s).menu = s.menu ∧
    (issueGlyphRead page l s).audio = s.audio ∧ (issueGlyphRead page l s).chime = s.chime ∧ (issueGlyphRead page l s).links = s.links ∧
    (issueGlyphRead page l s).uplink = s.uplink ∧ (issueGlyphRead page l s).control = s.control ∧ (issueGlyphRead page l s).attention = s.attention ∧
    (issueGlyphRead page l s).mem = s.mem ∧ (issueGlyphRead page l s).pending = s.pending ∧ (issueGlyphRead page l s).out = s.out := by
  refine ⟨?_, ?_, ?_, ?_, ?_, ?_, ?_, ?_, ?_, ?_, ?_, ?_, ?_, ?_, ?_⟩ <;>
  (
  unfold issueGlyphRead; (try dsimp only)
  (repeat' split) <;> (try simp))
@[simp] theorem resumeGlyphLoad_keeps (s : State) :
    (resumeGlyphLoad s).vehicle = s.vehicle ∧ (resumeGlyphLoad s).takeover = s.takeover ∧ (resumeGlyphLoad s).guide = s.guide ∧
    (resumeGlyphLoad s).streams = s.streams ∧ (resumeGlyphLoad s).panels = s.panels ∧ (resumeGlyphLoad s).menu = s.menu ∧
    (resumeGlyphLoad s).audio = s.audio ∧ (resumeGlyphLoad s).chime = s.chime ∧ (resumeGlyphLoad s).links = s.links ∧
    (resumeGlyphLoad s).uplink = s.uplink ∧ (resumeGlyphLoad s).control = s.control ∧ (resumeGlyphLoad s).attention = s.attention ∧
    (resumeGlyphLoad s).mem = s.mem ∧ (resumeGlyphLoad s).pending = s.pending ∧ (resumeGlyphLoad s).out = s.out := by
  refine ⟨?_, ?_, ?_, ?_, ?_, ?_, ?_, ?_, ?_, ?_, ?_, ?_, ?_, ?_, ?_⟩ <;>
  (
  unfold resumeGlyphLoad; (try dsimp only)
  (repeat' split) <;> (try simp))
@[simp] theorem dropGlyphLoad_keeps (s : State) :
    (dropGlyphLoad s).vehicle = s.vehicle ∧ (dropGlyphLoad s).takeover = s.takeover ∧ (dropGlyphLoad s).guide = s.guide ∧
    (dropGlyphLoad s).streams = s.streams ∧ (dropGlyphLoad s).panels = s.panels ∧ (dropGlyphLoad s).menu = s.menu ∧
    (dropGlyphLoad s).audio = s.audio ∧ (dropGlyphLoad s).chime = s.chime ∧ (dropGlyphLoad s).links = s.links ∧
    (dropGlyphLoad s).uplink = s.uplink ∧ (dropGlyphLoad s).control = s.control ∧ (dropGlyphLoad s).attention = s.attention ∧
    (dropGlyphLoad s).mem = s.mem ∧ (dropGlyphLoad s).pending = s.pending ∧ (dropGlyphLoad s).out = s.out := by
  refine ⟨?_, ?_, ?_, ?_, ?_, ?_, ?_, ?_, ?_, ?_, ?_, ?_, ?_, ?_, ?_⟩ <;>
  (
  unfold dropGlyphLoad; (try dsimp only)
  (repeat' split) <;> (try simp))
@[simp] theorem startGlyphLoad_keeps (id : Nat) (s : State) :
    (startGlyphLoad id s).vehicle = s.vehicle ∧ (startGlyphLoad id s).takeover = s.takeover ∧ (startGlyphLoad id s).guide = s.guide ∧
    (startGlyphLoad id s).streams = s.streams ∧ (startGlyphLoad id s).panels = s.panels ∧ (startGlyphLoad id s).menu = s.menu ∧
    (startGlyphLoad id s).audio = s.audio ∧ (startGlyphLoad id s).chime = s.chime ∧ (startGlyphLoad id s).links = s.links ∧
    (startGlyphLoad id s).uplink = s.uplink ∧ (startGlyphLoad id s).control = s.control ∧ (startGlyphLoad id s).attention = s.attention ∧
    (startGlyphLoad id s).mem = s.mem ∧ (startGlyphLoad id s).pending = s.pending ∧ (startGlyphLoad id s).out = s.out := by
  refine ⟨?_, ?_, ?_, ?_, ?_, ?_, ?_, ?_, ?_, ?_, ?_, ?_, ?_, ?_, ?_⟩ <;>
  (
  unfold startGlyphLoad; (try dsimp only)
  (repeat' split) <;> (try simp))
@[simp] theorem setGlyphSet_keeps (id : Nat) (s : State) :
    (setGlyphSet id s).vehicle = s.vehicle ∧ (setGlyphSet id s).takeover = s.takeover ∧ (setGlyphSet id s).guide = s.guide ∧
    (setGlyphSet id s).streams = s.streams ∧ (setGlyphSet id s).panels = s.panels ∧ (setGlyphSet id s).menu = s.menu ∧
    (setGlyphSet id s).audio = s.audio ∧ (setGlyphSet id s).chime = s.chime ∧ (setGlyphSet id s).links = s.links ∧
    (setGlyphSet id s).uplink = s.uplink ∧ (setGlyphSet id s).control = s.control ∧ (setGlyphSet id s).attention = s.attention ∧
    (setGlyphSet id s).mem = s.mem ∧ (setGlyphSet id s).pending = s.pending ∧ (setGlyphSet id s).out = s.out := by
  refine ⟨?_, ?_, ?_, ?_, ?_, ?_, ?_, ?_, ?_, ?_, ?_, ?_, ?_, ?_, ?_⟩ <;>
  (
  unfold setGlyphSet; (try dsimp only)
  (repeat' split) <;> (try simp))
@[simp] theorem glyphCommitted_keeps (id : Nat) (s : State) :
    (glyphCommitted id s).vehicle = s.vehicle ∧ (glyphCommitted id s).takeover = s.takeover ∧ (glyphCommitted id s).guide = s.guide ∧
    (glyphCommitted id s).streams = s.streams ∧ (glyphCommitted id s).panels = s.panels ∧ (glyphCommitted id s).menu = s.menu ∧
    (glyphCommitted id s).audio = s.audio ∧ (glyphCommitted id s).chime = s.chime ∧ (glyphCommitted id s).links = s.links ∧
    (glyphCommitted id s).uplink = s.uplink ∧ (glyphCommitted id s).control = s.control ∧ (glyphCommitted id s).attention = s.attention ∧
    (glyphCommitted id s).mem = s.mem ∧ (glyphCommitted id s).pending = s.pending ∧ (glyphCommitted id s).out = s.out := by
  refine ⟨?_, ?_, ?_, ?_, ?_, ?_, ?_, ?_, ?_, ?_, ?_, ?_, ?_, ?_, ?_⟩ <;>
  (
  unfold glyphCommitted; (try dsimp only)
  (repeat' split) <;> (try simp))
@[simp] theorem endGlyphLoad_keeps (c : CacheState) (s : State) :
    (endGlyphLoad c s).vehicle = s.vehicle ∧ (endGlyphLoad c s).takeover = s.takeover ∧ (endGlyphLoad c s).guide = s.guide ∧
    (endGlyphLoad c s).streams = s.streams ∧ (endGlyphLoad c s).panels = s.panels ∧ (endGlyphLoad c s).menu = s.menu ∧
    (endGlyphLoad c s).audio = s.audio ∧ (endGlyphLoad c s).chime = s.chime ∧ (endGlyphLoad c s).links = s.links ∧
    (endGlyphLoad c s).uplink = s.uplink ∧ (endGlyphLoad c s).control = s.control ∧ (endGlyphLoad c s).attention = s.attention ∧
    (endGlyphLoad c s).mem = s.mem ∧ (endGlyphLoad c s).pending = s.pending ∧ (endGlyphLoad c s).out = s.out := by
  refine ⟨?_, ?_, ?_, ?_, ?_, ?_, ?_, ?_, ?_, ?_, ?_, ?_, ?_, ?_, ?_⟩ <;>
  (
  unfold endGlyphLoad; (try dsimp only)
  (repeat' split) <;> (try simp))
@[simp] theorem glyphPageRead_keeps (token : Nat) (content : Option (List Byte)) (s : State) :
    (glyphPageRead token content s).vehicle = s.vehicle ∧ (glyphPageRead token content s).takeover = s.takeover ∧ (glyphPageRead token content s).guide = s.guide ∧
    (glyphPageRead token content s).streams = s.streams ∧ (glyphPageRead token content s).panels = s.panels ∧ (glyphPageRead token content s).menu = s.menu ∧
    (glyphPageRead token content s).audio = s.audio ∧ (glyphPageRead token content s).chime = s.chime ∧ (glyphPageRead token content s).links = s.links ∧
    (glyphPageRead token content s).uplink = s.uplink ∧ (glyphPageRead token content s).control = s.control ∧ (glyphPageRead token content s).attention = s.attention ∧
    (glyphPageRead token content s).pending = s.pending ∧ (glyphPageRead token content s).out = s.out := by
  refine ⟨?_, ?_, ?_, ?_, ?_, ?_, ?_, ?_, ?_, ?_, ?_, ?_, ?_, ?_⟩ <;>
  (
  unfold glyphPageRead; (try dsimp only)
  (repeat' split) <;> (try simp))
@[simp] theorem completeRender_keeps (r : Render) (s : State) :
    (completeRender r s).vehicle = s.vehicle ∧ (completeRender r s).takeover = s.takeover ∧ (completeRender r s).guide = s.guide ∧
    (completeRender r s).streams = s.streams ∧ (completeRender r s).panels = s.panels ∧ (completeRender r s).menu = s.menu ∧
    (completeRender r s).audio = s.audio ∧ (completeRender r s).chime = s.chime ∧ (completeRender r s).links = s.links ∧
    (completeRender r s).uplink = s.uplink ∧ (completeRender r s).control = s.control ∧ (completeRender r s).attention = s.attention ∧
    (completeRender r s).pending = s.pending ∧ (completeRender r s).out = s.out := by
  refine ⟨?_, ?_, ?_, ?_, ?_, ?_, ?_, ?_, ?_, ?_, ?_, ?_, ?_, ?_⟩ <;>
  (
  unfold completeRender; (try dsimp only)
  (repeat' split) <;> (try simp))
@[simp] theorem demandBegins_keeps (z : Zone) (s : State) :
    (demandBegins z s).vehicle = s.vehicle ∧ (demandBegins z s).takeover = s.takeover ∧ (demandBegins z s).guide = s.guide ∧
    (demandBegins z s).streams = s.streams ∧ (demandBegins z s).panels = s.panels ∧ (demandBegins z s).raster = s.raster ∧
    (demandBegins z s).menu = s.menu ∧ (demandBegins z s).chime = s.chime ∧ (demandBegins z s).store = s.store ∧
    (demandBegins z s).links = s.links ∧ (demandBegins z s).uplink = s.uplink ∧ (demandBegins z s).control = s.control ∧
    (demandBegins z s).attention = s.attention ∧ (demandBegins z s).mem = s.mem ∧ (demandBegins z s).pending = s.pending ∧
    (demandBegins z s).out = s.out := by
  refine ⟨?_, ?_, ?_, ?_, ?_, ?_, ?_, ?_, ?_, ?_, ?_, ?_, ?_, ?_, ?_, ?_⟩ <;>
  (
  unfold demandBegins; (try dsimp only)
  (repeat' split) <;> (try simp))
@[simp] theorem demandEnds_keeps (z : Zone) (s : State) :
    (demandEnds z s).vehicle = s.vehicle ∧ (demandEnds z s).takeover = s.takeover ∧ (demandEnds z s).guide = s.guide ∧
    (demandEnds z s).streams = s.streams ∧ (demandEnds z s).panels = s.panels ∧ (demandEnds z s).raster = s.raster ∧
    (demandEnds z s).menu = s.menu ∧ (demandEnds z s).chime = s.chime ∧ (demandEnds z s).store = s.store ∧
    (demandEnds z s).links = s.links ∧ (demandEnds z s).uplink = s.uplink ∧ (demandEnds z s).control = s.control ∧
    (demandEnds z s).attention = s.attention ∧ (demandEnds z s).mem = s.mem ∧ (demandEnds z s).pending = s.pending ∧
    (demandEnds z s).out = s.out := by
  refine ⟨?_, ?_, ?_, ?_, ?_, ?_, ?_, ?_, ?_, ?_, ?_, ?_, ?_, ?_, ?_, ?_⟩ <;>
  (
  unfold demandEnds; (try dsimp only)
  (repeat' split) <;> (try simp))
@[simp] theorem voiceDemandBegins_keeps (z : Zone) (s : State) :
    (voiceDemandBegins z s).vehicle = s.vehicle ∧ (voiceDemandBegins z s).takeover = s.takeover ∧ (voiceDemandBegins z s).guide = s.guide ∧
    (voiceDemandBegins z s).streams = s.streams ∧ (voiceDemandBegins z s).panels = s.panels ∧ (voiceDemandBegins z s).raster = s.raster ∧
    (voiceDemandBegins z s).menu = s.menu ∧ (voiceDemandBegins z s).chime = s.chime ∧ (voiceDemandBegins z s).store = s.store ∧
    (voiceDemandBegins z s).links = s.links ∧ (voiceDemandBegins z s).uplink = s.uplink ∧ (voiceDemandBegins z s).control = s.control ∧
    (voiceDemandBegins z s).attention = s.attention ∧ (voiceDemandBegins z s).mem = s.mem ∧ (voiceDemandBegins z s).pending = s.pending ∧
    (voiceDemandBegins z s).out = s.out := by
  refine ⟨?_, ?_, ?_, ?_, ?_, ?_, ?_, ?_, ?_, ?_, ?_, ?_, ?_, ?_, ?_, ?_⟩ <;>
  (
  unfold voiceDemandBegins; (try dsimp only)
  (repeat' split) <;> (try simp))
@[simp] theorem voiceDemandEnds_keeps (z : Zone) (s : State) :
    (voiceDemandEnds z s).vehicle = s.vehicle ∧ (voiceDemandEnds z s).takeover = s.takeover ∧ (voiceDemandEnds z s).guide = s.guide ∧
    (voiceDemandEnds z s).streams = s.streams ∧ (voiceDemandEnds z s).panels = s.panels ∧ (voiceDemandEnds z s).raster = s.raster ∧
    (voiceDemandEnds z s).menu = s.menu ∧ (voiceDemandEnds z s).chime = s.chime ∧ (voiceDemandEnds z s).store = s.store ∧
    (voiceDemandEnds z s).links = s.links ∧ (voiceDemandEnds z s).uplink = s.uplink ∧ (voiceDemandEnds z s).control = s.control ∧
    (voiceDemandEnds z s).attention = s.attention ∧ (voiceDemandEnds z s).mem = s.mem ∧ (voiceDemandEnds z s).pending = s.pending ∧
    (voiceDemandEnds z s).out = s.out := by
  refine ⟨?_, ?_, ?_, ?_, ?_, ?_, ?_, ?_, ?_, ?_, ?_, ?_, ?_, ?_, ?_, ?_⟩ <;>
  (
  unfold voiceDemandEnds; (try dsimp only)
  (repeat' split) <;> (try simp))
@[simp] theorem applyTakeoverDemand_keeps (s : State) :
    (applyTakeoverDemand s).vehicle = s.vehicle ∧ (applyTakeoverDemand s).guide = s.guide ∧ (applyTakeoverDemand s).streams = s.streams ∧
    (applyTakeoverDemand s).panels = s.panels ∧ (applyTakeoverDemand s).raster = s.raster ∧ (applyTakeoverDemand s).menu = s.menu ∧
    (applyTakeoverDemand s).chime = s.chime ∧ (applyTakeoverDemand s).store = s.store ∧ (applyTakeoverDemand s).links = s.links ∧
    (applyTakeoverDemand s).uplink = s.uplink ∧ (applyTakeoverDemand s).control = s.control ∧ (applyTakeoverDemand s).attention = s.attention ∧
    (applyTakeoverDemand s).mem = s.mem ∧ (applyTakeoverDemand s).pending = s.pending ∧ (applyTakeoverDemand s).out = s.out := by
  refine ⟨?_, ?_, ?_, ?_, ?_, ?_, ?_, ?_, ?_, ?_, ?_, ?_, ?_, ?_, ?_⟩ <;>
  (
  unfold applyTakeoverDemand; (try dsimp only)
  (repeat' split) <;> (try simp))
@[simp] theorem withdrawTakeoverDemand_keeps (s : State) :
    (withdrawTakeoverDemand s).vehicle = s.vehicle ∧ (withdrawTakeoverDemand s).guide = s.guide ∧ (withdrawTakeoverDemand s).streams = s.streams ∧
    (withdrawTakeoverDemand s).panels = s.panels ∧ (withdrawTakeoverDemand s).raster = s.raster ∧ (withdrawTakeoverDemand s).menu = s.menu ∧
    (withdrawTakeoverDemand s).chime = s.chime ∧ (withdrawTakeoverDemand s).store = s.store ∧ (withdrawTakeoverDemand s).links = s.links ∧
    (withdrawTakeoverDemand s).uplink = s.uplink ∧ (withdrawTakeoverDemand s).control = s.control ∧ (withdrawTakeoverDemand s).attention = s.attention ∧
    (withdrawTakeoverDemand s).mem = s.mem ∧ (withdrawTakeoverDemand s).pending = s.pending ∧ (withdrawTakeoverDemand s).out = s.out := by
  refine ⟨?_, ?_, ?_, ?_, ?_, ?_, ?_, ?_, ?_, ?_, ?_, ?_, ?_, ?_, ?_⟩ <;>
  (
  unfold withdrawTakeoverDemand; (try dsimp only)
  (repeat' split) <;> (try simp))
@[simp] theorem placeFrames_keeps (z : Zone) (fs : List StereoFrame) (s : State) :
    (placeFrames z fs s).vehicle = s.vehicle ∧ (placeFrames z fs s).takeover = s.takeover ∧ (placeFrames z fs s).guide = s.guide ∧
    (placeFrames z fs s).streams = s.streams ∧ (placeFrames z fs s).panels = s.panels ∧ (placeFrames z fs s).raster = s.raster ∧
    (placeFrames z fs s).menu = s.menu ∧ (placeFrames z fs s).chime = s.chime ∧ (placeFrames z fs s).store = s.store ∧
    (placeFrames z fs s).links = s.links ∧ (placeFrames z fs s).uplink = s.uplink ∧ (placeFrames z fs s).control = s.control ∧
    (placeFrames z fs s).attention = s.attention ∧ (placeFrames z fs s).mem = s.mem ∧ (placeFrames z fs s).pending = s.pending ∧
    (placeFrames z fs s).out = s.out := by
  refine ⟨?_, ?_, ?_, ?_, ?_, ?_, ?_, ?_, ?_, ?_, ?_, ?_, ?_, ?_, ?_, ?_⟩ <;>
  (
  unfold placeFrames; (try dsimp only)
  (repeat' split) <;> (try simp))
@[simp] theorem emptyFifo_keeps (z : Zone) (s : State) :
    (emptyFifo z s).vehicle = s.vehicle ∧ (emptyFifo z s).takeover = s.takeover ∧ (emptyFifo z s).guide = s.guide ∧
    (emptyFifo z s).streams = s.streams ∧ (emptyFifo z s).panels = s.panels ∧ (emptyFifo z s).raster = s.raster ∧
    (emptyFifo z s).menu = s.menu ∧ (emptyFifo z s).chime = s.chime ∧ (emptyFifo z s).store = s.store ∧
    (emptyFifo z s).links = s.links ∧ (emptyFifo z s).uplink = s.uplink ∧ (emptyFifo z s).control = s.control ∧
    (emptyFifo z s).attention = s.attention ∧ (emptyFifo z s).mem = s.mem ∧ (emptyFifo z s).pending = s.pending ∧
    (emptyFifo z s).out = s.out := by
  refine ⟨?_, ?_, ?_, ?_, ?_, ?_, ?_, ?_, ?_, ?_, ?_, ?_, ?_, ?_, ?_, ?_⟩ <;>
  (
  unfold emptyFifo; (try dsimp only)
  (repeat' split) <;> (try simp))
@[simp] theorem zoneBlock_keeps (z : Zone) (s : State) :
    (zoneBlock z s).vehicle = s.vehicle ∧ (zoneBlock z s).takeover = s.takeover ∧ (zoneBlock z s).guide = s.guide ∧
    (zoneBlock z s).streams = s.streams ∧ (zoneBlock z s).panels = s.panels ∧ (zoneBlock z s).raster = s.raster ∧
    (zoneBlock z s).menu = s.menu ∧ (zoneBlock z s).chime = s.chime ∧ (zoneBlock z s).store = s.store ∧
    (zoneBlock z s).control = s.control ∧ (zoneBlock z s).mem = s.mem ∧ (zoneBlock z s).pending = s.pending ∧
    (zoneBlock z s).out = s.out := by
  refine ⟨?_, ?_, ?_, ?_, ?_, ?_, ?_, ?_, ?_, ?_, ?_, ?_, ?_⟩ <;>
  (
  unfold zoneBlock; (try dsimp only)
  (repeat' split) <;> (try simp))
@[simp] theorem countChime_keeps (f : ChimeCounters → ChimeCounters) (s : State) :
    (countChime f s).vehicle = s.vehicle ∧ (countChime f s).takeover = s.takeover ∧ (countChime f s).guide = s.guide ∧
    (countChime f s).streams = s.streams ∧ (countChime f s).panels = s.panels ∧ (countChime f s).raster = s.raster ∧
    (countChime f s).menu = s.menu ∧ (countChime f s).audio = s.audio ∧ (countChime f s).store = s.store ∧
    (countChime f s).links = s.links ∧ (countChime f s).uplink = s.uplink ∧ (countChime f s).control = s.control ∧
    (countChime f s).attention = s.attention ∧ (countChime f s).mem = s.mem ∧ (countChime f s).pending = s.pending ∧
    (countChime f s).out = s.out := ⟨rfl, rfl, rfl, rfl, rfl, rfl, rfl, rfl, rfl, rfl, rfl, rfl, rfl, rfl, rfl, rfl⟩
@[simp] theorem setQueue_keeps (q : List QueueEntry) (s : State) :
    (setQueue q s).vehicle = s.vehicle ∧ (setQueue q s).takeover = s.takeover ∧ (setQueue q s).guide = s.guide ∧
    (setQueue q s).streams = s.streams ∧ (setQueue q s).panels = s.panels ∧ (setQueue q s).raster = s.raster ∧
    (setQueue q s).menu = s.menu ∧ (setQueue q s).audio = s.audio ∧ (setQueue q s).store = s.store ∧
    (setQueue q s).links = s.links ∧ (setQueue q s).uplink = s.uplink ∧ (setQueue q s).control = s.control ∧
    (setQueue q s).attention = s.attention ∧ (setQueue q s).mem = s.mem ∧ (setQueue q s).pending = s.pending ∧
    (setQueue q s).out = s.out := ⟨rfl, rfl, rfl, rfl, rfl, rfl, rfl, rfl, rfl, rfl, rfl, rfl, rfl, rfl, rfl, rfl⟩
@[simp] theorem setProximity_keeps (p : ProximityState) (s : State) :
    (setProximity p s).vehicle = s.vehicle ∧ (setProximity p s).takeover = s.takeover ∧ (setProximity p s).guide = s.guide ∧
    (setProximity p s).streams = s.streams ∧ (setProximity p s).panels = s.panels ∧ (setProximity p s).raster = s.raster ∧
    (setProximity p s).menu = s.menu ∧ (setProximity p s).audio = s.audio ∧ (setProximity p s).store = s.store ∧
    (setProximity p s).links = s.links ∧ (setProximity p s).uplink = s.uplink ∧ (setProximity p s).control = s.control ∧
    (setProximity p s).attention = s.attention ∧ (setProximity p s).mem = s.mem ∧ (setProximity p s).pending = s.pending ∧
    (setProximity p s).out = s.out := ⟨rfl, rfl, rfl, rfl, rfl, rfl, rfl, rfl, rfl, rfl, rfl, rfl, rfl, rfl, rfl, rfl⟩
@[simp] theorem chimeDropped_keeps (s : State) :
    (chimeDropped s).vehicle = s.vehicle ∧ (chimeDropped s).takeover = s.takeover ∧ (chimeDropped s).guide = s.guide ∧
    (chimeDropped s).streams = s.streams ∧ (chimeDropped s).panels = s.panels ∧ (chimeDropped s).raster = s.raster ∧
    (chimeDropped s).menu = s.menu ∧ (chimeDropped s).audio = s.audio ∧ (chimeDropped s).store = s.store ∧
    (chimeDropped s).control = s.control ∧ (chimeDropped s).mem = s.mem ∧ (chimeDropped s).pending = s.pending ∧
    (chimeDropped s).out = s.out := by
  refine ⟨?_, ?_, ?_, ?_, ?_, ?_, ?_, ?_, ?_, ?_, ?_, ?_, ?_⟩ <;>
  (
  unfold chimeDropped; (try dsimp only)
  (repeat' split) <;> (try simp))
@[simp] theorem fillBuffer_keeps (v : Fin 4) (one : Bool) (page : Option Nat) (s : State) :
    (fillBuffer v one page s).vehicle = s.vehicle ∧ (fillBuffer v one page s).takeover = s.takeover ∧ (fillBuffer v one page s).guide = s.guide ∧
    (fillBuffer v one page s).streams = s.streams ∧ (fillBuffer v one page s).panels = s.panels ∧ (fillBuffer v one page s).raster = s.raster ∧
    (fillBuffer v one page s).menu = s.menu ∧ (fillBuffer v one page s).audio = s.audio ∧ (fillBuffer v one page s).links = s.links ∧
    (fillBuffer v one page s).uplink = s.uplink ∧ (fillBuffer v one page s).control = s.control ∧ (fillBuffer v one page s).attention = s.attention ∧
    (fillBuffer v one page s).mem = s.mem ∧ (fillBuffer v one page s).pending = s.pending ∧ (fillBuffer v one page s).out = s.out := by
  refine ⟨?_, ?_, ?_, ?_, ?_, ?_, ?_, ?_, ?_, ?_, ?_, ?_, ?_, ?_, ?_⟩ <;>
  (
  unfold fillBuffer; (try dsimp only)
  (repeat' split) <;> (try simp))
@[simp] theorem refillBuffer_keeps (v : Fin 4) (one : Bool) (s : State) :
    (refillBuffer v one s).vehicle = s.vehicle ∧ (refillBuffer v one s).takeover = s.takeover ∧ (refillBuffer v one s).guide = s.guide ∧
    (refillBuffer v one s).streams = s.streams ∧ (refillBuffer v one s).panels = s.panels ∧ (refillBuffer v one s).raster = s.raster ∧
    (refillBuffer v one s).menu = s.menu ∧ (refillBuffer v one s).audio = s.audio ∧ (refillBuffer v one s).links = s.links ∧
    (refillBuffer v one s).uplink = s.uplink ∧ (refillBuffer v one s).control = s.control ∧ (refillBuffer v one s).attention = s.attention ∧
    (refillBuffer v one s).mem = s.mem ∧ (refillBuffer v one s).pending = s.pending ∧ (refillBuffer v one s).out = s.out := by
  refine ⟨?_, ?_, ?_, ?_, ?_, ?_, ?_, ?_, ?_, ?_, ?_, ?_, ?_, ?_, ?_⟩ <;>
  (
  unfold refillBuffer; (try dsimp only)
  (repeat' split) <;> (try simp))
@[simp] theorem proximityVoiceGone_keeps (r : Voice) (s : State) :
    (proximityVoiceGone r s).vehicle = s.vehicle ∧ (proximityVoiceGone r s).takeover = s.takeover ∧ (proximityVoiceGone r s).guide = s.guide ∧
    (proximityVoiceGone r s).streams = s.streams ∧ (proximityVoiceGone r s).panels = s.panels ∧ (proximityVoiceGone r s).raster = s.raster ∧
    (proximityVoiceGone r s).menu = s.menu ∧ (proximityVoiceGone r s).audio = s.audio ∧ (proximityVoiceGone r s).store = s.store ∧
    (proximityVoiceGone r s).links = s.links ∧ (proximityVoiceGone r s).uplink = s.uplink ∧ (proximityVoiceGone r s).control = s.control ∧
    (proximityVoiceGone r s).attention = s.attention ∧ (proximityVoiceGone r s).mem = s.mem ∧ (proximityVoiceGone r s).pending = s.pending ∧
    (proximityVoiceGone r s).out = s.out := by
  refine ⟨?_, ?_, ?_, ?_, ?_, ?_, ?_, ?_, ?_, ?_, ?_, ?_, ?_, ?_, ?_, ?_⟩ <;>
  (
  unfold proximityVoiceGone; (try dsimp only)
  (repeat' split) <;> (try simp))
@[simp] theorem beginDemands_keeps (z : ZoneSet) (s : State) :
    (beginDemands z s).vehicle = s.vehicle ∧ (beginDemands z s).takeover = s.takeover ∧ (beginDemands z s).guide = s.guide ∧
    (beginDemands z s).streams = s.streams ∧ (beginDemands z s).panels = s.panels ∧ (beginDemands z s).raster = s.raster ∧
    (beginDemands z s).menu = s.menu ∧ (beginDemands z s).chime = s.chime ∧ (beginDemands z s).store = s.store ∧
    (beginDemands z s).links = s.links ∧ (beginDemands z s).uplink = s.uplink ∧ (beginDemands z s).control = s.control ∧
    (beginDemands z s).attention = s.attention ∧ (beginDemands z s).mem = s.mem ∧ (beginDemands z s).pending = s.pending ∧
    (beginDemands z s).out = s.out := by
  refine ⟨?_, ?_, ?_, ?_, ?_, ?_, ?_, ?_, ?_, ?_, ?_, ?_, ?_, ?_, ?_, ?_⟩
  · unfold beginDemands; exact foldl_keeps (·.vehicle) _ (fun s a => by (try dsimp only); split <;> simp) _ _
  · unfold beginDemands; exact foldl_keeps (·.takeover) _ (fun s a => by (try dsimp only); split <;> simp) _ _
  · unfold beginDemands; exact foldl_keeps (·.guide) _ (fun s a => by (try dsimp only); split <;> simp) _ _
  · unfold beginDemands; exact foldl_keeps (·.streams) _ (fun s a => by (try dsimp only); split <;> simp) _ _
  · unfold beginDemands; exact foldl_keeps (·.panels) _ (fun s a => by (try dsimp only); split <;> simp) _ _
  · unfold beginDemands; exact foldl_keeps (·.raster) _ (fun s a => by (try dsimp only); split <;> simp) _ _
  · unfold beginDemands; exact foldl_keeps (·.menu) _ (fun s a => by (try dsimp only); split <;> simp) _ _
  · unfold beginDemands; exact foldl_keeps (·.chime) _ (fun s a => by (try dsimp only); split <;> simp) _ _
  · unfold beginDemands; exact foldl_keeps (·.store) _ (fun s a => by (try dsimp only); split <;> simp) _ _
  · unfold beginDemands; exact foldl_keeps (·.links) _ (fun s a => by (try dsimp only); split <;> simp) _ _
  · unfold beginDemands; exact foldl_keeps (·.uplink) _ (fun s a => by (try dsimp only); split <;> simp) _ _
  · unfold beginDemands; exact foldl_keeps (·.control) _ (fun s a => by (try dsimp only); split <;> simp) _ _
  · unfold beginDemands; exact foldl_keeps (·.attention) _ (fun s a => by (try dsimp only); split <;> simp) _ _
  · unfold beginDemands; exact foldl_keeps (·.mem) _ (fun s a => by (try dsimp only); split <;> simp) _ _
  · unfold beginDemands; exact foldl_keeps (·.pending) _ (fun s a => by (try dsimp only); split <;> simp) _ _
  · unfold beginDemands; exact foldl_keeps (·.out) _ (fun s a => by (try dsimp only); split <;> simp) _ _
@[simp] theorem endDemands_keeps (z : ZoneSet) (s : State) :
    (endDemands z s).vehicle = s.vehicle ∧ (endDemands z s).takeover = s.takeover ∧ (endDemands z s).guide = s.guide ∧
    (endDemands z s).streams = s.streams ∧ (endDemands z s).panels = s.panels ∧ (endDemands z s).raster = s.raster ∧
    (endDemands z s).menu = s.menu ∧ (endDemands z s).chime = s.chime ∧ (endDemands z s).store = s.store ∧
    (endDemands z s).links = s.links ∧ (endDemands z s).uplink = s.uplink ∧ (endDemands z s).control = s.control ∧
    (endDemands z s).attention = s.attention ∧ (endDemands z s).mem = s.mem ∧ (endDemands z s).pending = s.pending ∧
    (endDemands z s).out = s.out := by
  refine ⟨?_, ?_, ?_, ?_, ?_, ?_, ?_, ?_, ?_, ?_, ?_, ?_, ?_, ?_, ?_, ?_⟩
  · unfold endDemands; exact foldl_keeps (·.vehicle) _ (fun s a => by (try dsimp only); split <;> simp) _ _
  · unfold endDemands; exact foldl_keeps (·.takeover) _ (fun s a => by (try dsimp only); split <;> simp) _ _
  · unfold endDemands; exact foldl_keeps (·.guide) _ (fun s a => by (try dsimp only); split <;> simp) _ _
  · unfold endDemands; exact foldl_keeps (·.streams) _ (fun s a => by (try dsimp only); split <;> simp) _ _
  · unfold endDemands; exact foldl_keeps (·.panels) _ (fun s a => by (try dsimp only); split <;> simp) _ _
  · unfold endDemands; exact foldl_keeps (·.raster) _ (fun s a => by (try dsimp only); split <;> simp) _ _
  · unfold endDemands; exact foldl_keeps (·.menu) _ (fun s a => by (try dsimp only); split <;> simp) _ _
  · unfold endDemands; exact foldl_keeps (·.chime) _ (fun s a => by (try dsimp only); split <;> simp) _ _
  · unfold endDemands; exact foldl_keeps (·.store) _ (fun s a => by (try dsimp only); split <;> simp) _ _
  · unfold endDemands; exact foldl_keeps (·.links) _ (fun s a => by (try dsimp only); split <;> simp) _ _
  · unfold endDemands; exact foldl_keeps (·.uplink) _ (fun s a => by (try dsimp only); split <;> simp) _ _
  · unfold endDemands; exact foldl_keeps (·.control) _ (fun s a => by (try dsimp only); split <;> simp) _ _
  · unfold endDemands; exact foldl_keeps (·.attention) _ (fun s a => by (try dsimp only); split <;> simp) _ _
  · unfold endDemands; exact foldl_keeps (·.mem) _ (fun s a => by (try dsimp only); split <;> simp) _ _
  · unfold endDemands; exact foldl_keeps (·.pending) _ (fun s a => by (try dsimp only); split <;> simp) _ _
  · unfold endDemands; exact foldl_keeps (·.out) _ (fun s a => by (try dsimp only); split <;> simp) _ _
@[simp] theorem endVoice_keeps (v : Fin 4) (s : State) :
    (endVoice v s).vehicle = s.vehicle ∧ (endVoice v s).takeover = s.takeover ∧ (endVoice v s).guide = s.guide ∧
    (endVoice v s).streams = s.streams ∧ (endVoice v s).panels = s.panels ∧ (endVoice v s).raster = s.raster ∧
    (endVoice v s).menu = s.menu ∧ (endVoice v s).links = s.links ∧ (endVoice v s).uplink = s.uplink ∧
    (endVoice v s).control = s.control ∧ (endVoice v s).attention = s.attention ∧ (endVoice v s).mem = s.mem ∧
    (endVoice v s).pending = s.pending ∧ (endVoice v s).out = s.out := by
  refine ⟨?_, ?_, ?_, ?_, ?_, ?_, ?_, ?_, ?_, ?_, ?_, ?_, ?_, ?_⟩ <;>
  (
  unfold endVoice; (try dsimp only)
  (repeat' split) <;> (try simp))
@[simp] theorem removeEntry_keeps (e : QueueEntry) (s : State) :
    (removeEntry e s).vehicle = s.vehicle ∧ (removeEntry e s).takeover = s.takeover ∧ (removeEntry e s).guide = s.guide ∧
    (removeEntry e s).streams = s.streams ∧ (removeEntry e s).panels = s.panels ∧ (removeEntry e s).raster = s.raster ∧
    (removeEntry e s).menu = s.menu ∧ (removeEntry e s).audio = s.audio ∧ (removeEntry e s).store = s.store ∧
    (removeEntry e s).links = s.links ∧ (removeEntry e s).uplink = s.uplink ∧ (removeEntry e s).control = s.control ∧
    (removeEntry e s).attention = s.attention ∧ (removeEntry e s).mem = s.mem ∧ (removeEntry e s).pending = s.pending ∧
    (removeEntry e s).out = s.out := by
  refine ⟨?_, ?_, ?_, ?_, ?_, ?_, ?_, ?_, ?_, ?_, ?_, ?_, ?_, ?_, ?_, ?_⟩ <;>
  (
  unfold removeEntry; (try dsimp only)
  (repeat' split) <;> (try simp))
@[simp] theorem silenceVoice_keeps (v : Fin 4) (s : State) :
    (silenceVoice v s).vehicle = s.vehicle ∧ (silenceVoice v s).takeover = s.takeover ∧ (silenceVoice v s).guide = s.guide ∧
    (silenceVoice v s).streams = s.streams ∧ (silenceVoice v s).panels = s.panels ∧ (silenceVoice v s).raster = s.raster ∧
    (silenceVoice v s).menu = s.menu ∧ (silenceVoice v s).control = s.control ∧ (silenceVoice v s).mem = s.mem ∧
    (silenceVoice v s).pending = s.pending ∧ (silenceVoice v s).out = s.out := by
  refine ⟨?_, ?_, ?_, ?_, ?_, ?_, ?_, ?_, ?_, ?_, ?_⟩ <;>
  (
  unfold silenceVoice; (try dsimp only)
  (repeat' split) <;> (try simp))
@[simp] theorem clearTheWay_keeps (z : ZoneSet) (s : State) :
    (clearTheWay z s).vehicle = s.vehicle ∧ (clearTheWay z s).takeover = s.takeover ∧ (clearTheWay z s).guide = s.guide ∧
    (clearTheWay z s).streams = s.streams ∧ (clearTheWay z s).panels = s.panels ∧ (clearTheWay z s).raster = s.raster ∧
    (clearTheWay z s).menu = s.menu ∧ (clearTheWay z s).control = s.control ∧ (clearTheWay z s).mem = s.mem ∧
    (clearTheWay z s).pending = s.pending ∧ (clearTheWay z s).out = s.out := by
  refine ⟨?_, ?_, ?_, ?_, ?_, ?_, ?_, ?_, ?_, ?_, ?_⟩
  · have h : ((List.finRange 4).foldl (fun s v => if (s.voice v).meets z then silenceVoice v s else s) s).vehicle = s.vehicle :=
      foldl_keeps (·.vehicle) _ (fun s a => by (try dsimp only); split <;> simp) _ _
    unfold clearTheWay; (try dsimp only); (repeat' split) <;> simp [h]
  · have h : ((List.finRange 4).foldl (fun s v => if (s.voice v).meets z then silenceVoice v s else s) s).takeover = s.takeover :=
      foldl_keeps (·.takeover) _ (fun s a => by (try dsimp only); split <;> simp) _ _
    unfold clearTheWay; (try dsimp only); (repeat' split) <;> simp [h]
  · have h : ((List.finRange 4).foldl (fun s v => if (s.voice v).meets z then silenceVoice v s else s) s).guide = s.guide :=
      foldl_keeps (·.guide) _ (fun s a => by (try dsimp only); split <;> simp) _ _
    unfold clearTheWay; (try dsimp only); (repeat' split) <;> simp [h]
  · have h : ((List.finRange 4).foldl (fun s v => if (s.voice v).meets z then silenceVoice v s else s) s).streams = s.streams :=
      foldl_keeps (·.streams) _ (fun s a => by (try dsimp only); split <;> simp) _ _
    unfold clearTheWay; (try dsimp only); (repeat' split) <;> simp [h]
  · have h : ((List.finRange 4).foldl (fun s v => if (s.voice v).meets z then silenceVoice v s else s) s).panels = s.panels :=
      foldl_keeps (·.panels) _ (fun s a => by (try dsimp only); split <;> simp) _ _
    unfold clearTheWay; (try dsimp only); (repeat' split) <;> simp [h]
  · have h : ((List.finRange 4).foldl (fun s v => if (s.voice v).meets z then silenceVoice v s else s) s).raster = s.raster :=
      foldl_keeps (·.raster) _ (fun s a => by (try dsimp only); split <;> simp) _ _
    unfold clearTheWay; (try dsimp only); (repeat' split) <;> simp [h]
  · have h : ((List.finRange 4).foldl (fun s v => if (s.voice v).meets z then silenceVoice v s else s) s).menu = s.menu :=
      foldl_keeps (·.menu) _ (fun s a => by (try dsimp only); split <;> simp) _ _
    unfold clearTheWay; (try dsimp only); (repeat' split) <;> simp [h]
  · have h : ((List.finRange 4).foldl (fun s v => if (s.voice v).meets z then silenceVoice v s else s) s).control = s.control :=
      foldl_keeps (·.control) _ (fun s a => by (try dsimp only); split <;> simp) _ _
    unfold clearTheWay; (try dsimp only); (repeat' split) <;> simp [h]
  · have h : ((List.finRange 4).foldl (fun s v => if (s.voice v).meets z then silenceVoice v s else s) s).mem = s.mem :=
      foldl_keeps (·.mem) _ (fun s a => by (try dsimp only); split <;> simp) _ _
    unfold clearTheWay; (try dsimp only); (repeat' split) <;> simp [h]
  · have h : ((List.finRange 4).foldl (fun s v => if (s.voice v).meets z then silenceVoice v s else s) s).pending = s.pending :=
      foldl_keeps (·.pending) _ (fun s a => by (try dsimp only); split <;> simp) _ _
    unfold clearTheWay; (try dsimp only); (repeat' split) <;> simp [h]
  · have h : ((List.finRange 4).foldl (fun s v => if (s.voice v).meets z then silenceVoice v s else s) s).out = s.out :=
      foldl_keeps (·.out) _ (fun s a => by (try dsimp only); split <;> simp) _ _
    unfold clearTheWay; (try dsimp only); (repeat' split) <;> simp [h]
@[simp] theorem beginVoice_keeps (v : Fin 4) (e : QueueEntry) (c : ChimeEntry) (a : AssetRecord) (s : State) :
    (beginVoice v e c a s).vehicle = s.vehicle ∧ (beginVoice v e c a s).takeover = s.takeover ∧ (beginVoice v e c a s).guide = s.guide ∧
    (beginVoice v e c a s).streams = s.streams ∧ (beginVoice v e c a s).panels = s.panels ∧ (beginVoice v e c a s).raster = s.raster ∧
    (beginVoice v e c a s).menu = s.menu ∧ (beginVoice v e c a s).links = s.links ∧ (beginVoice v e c a s).uplink = s.uplink ∧
    (beginVoice v e c a s).control = s.control ∧ (beginVoice v e c a s).attention = s.attention ∧ (beginVoice v e c a s).mem = s.mem ∧
    (beginVoice v e c a s).pending = s.pending ∧ (beginVoice v e c a s).out = s.out := by
  refine ⟨?_, ?_, ?_, ?_, ?_, ?_, ?_, ?_, ?_, ?_, ?_, ?_, ?_, ?_⟩ <;>
  (
  unfold beginVoice; (try dsimp only)
  (repeat' split) <;> (try simp))
@[simp] theorem startEntry_keeps (e : QueueEntry) (s : State) :
    (startEntry e s).vehicle = s.vehicle ∧ (startEntry e s).takeover = s.takeover ∧ (startEntry e s).guide = s.guide ∧
    (startEntry e s).streams = s.streams ∧ (startEntry e s).panels = s.panels ∧ (startEntry e s).raster = s.raster ∧
    (startEntry e s).menu = s.menu ∧ (startEntry e s).control = s.control ∧ (startEntry e s).mem = s.mem ∧
    (startEntry e s).pending = s.pending ∧ (startEntry e s).out = s.out := by
  refine ⟨?_, ?_, ?_, ?_, ?_, ?_, ?_, ?_, ?_, ?_, ?_⟩ <;>
  (
  unfold startEntry; (try dsimp only)
  (repeat' split) <;> (try simp))
@[simp] theorem purgeEntry_keeps (s : State) (e : QueueEntry) :
    (purgeEntry s e).vehicle = s.vehicle ∧ (purgeEntry s e).takeover = s.takeover ∧ (purgeEntry s e).guide = s.guide ∧
    (purgeEntry s e).streams = s.streams ∧ (purgeEntry s e).panels = s.panels ∧ (purgeEntry s e).raster = s.raster ∧
    (purgeEntry s e).menu = s.menu ∧ (purgeEntry s e).control = s.control ∧ (purgeEntry s e).mem = s.mem ∧
    (purgeEntry s e).pending = s.pending ∧ (purgeEntry s e).out = s.out := by
  refine ⟨?_, ?_, ?_, ?_, ?_, ?_, ?_, ?_, ?_, ?_, ?_⟩ <;>
  (
  unfold purgeEntry; (try dsimp only)
  (repeat' split) <;> (try simp))
@[simp] theorem examine_keeps (q : List QueueEntry) (s : State) :
    (examine q s).1.vehicle = s.vehicle ∧ (examine q s).1.takeover = s.takeover ∧ (examine q s).1.guide = s.guide ∧
    (examine q s).1.streams = s.streams ∧ (examine q s).1.panels = s.panels ∧ (examine q s).1.raster = s.raster ∧
    (examine q s).1.menu = s.menu ∧ (examine q s).1.control = s.control ∧ (examine q s).1.mem = s.mem ∧
    (examine q s).1.pending = s.pending ∧ (examine q s).1.out = s.out := by
  induction q generalizing s with
  | nil => simp [examine]
  | cons e q ih => unfold examine; (repeat' split) <;> simp [ih]
@[simp] theorem dispatchFor_keeps (n : Nat) (s : State) :
    (dispatchFor n s).vehicle = s.vehicle ∧ (dispatchFor n s).takeover = s.takeover ∧ (dispatchFor n s).guide = s.guide ∧
    (dispatchFor n s).streams = s.streams ∧ (dispatchFor n s).panels = s.panels ∧ (dispatchFor n s).raster = s.raster ∧
    (dispatchFor n s).menu = s.menu ∧ (dispatchFor n s).control = s.control ∧ (dispatchFor n s).mem = s.mem ∧
    (dispatchFor n s).pending = s.pending ∧ (dispatchFor n s).out = s.out := by
  induction n generalizing s with
  | zero => simp [dispatchFor]
  | succ n ih =>
    have h := examine_keeps s.chime.queue s
    unfold dispatchFor; split <;> simp_all
@[simp] theorem dispatch_keeps (s : State) :
    (dispatch s).vehicle = s.vehicle ∧ (dispatch s).takeover = s.takeover ∧ (dispatch s).guide = s.guide ∧
    (dispatch s).streams = s.streams ∧ (dispatch s).panels = s.panels ∧ (dispatch s).raster = s.raster ∧
    (dispatch s).menu = s.menu ∧ (dispatch s).control = s.control ∧ (dispatch s).mem = s.mem ∧
    (dispatch s).pending = s.pending ∧ (dispatch s).out = s.out := by
  refine ⟨?_, ?_, ?_, ?_, ?_, ?_, ?_, ?_, ?_, ?_, ?_⟩ <;>
  (
  simp [dispatch])
@[simp] theorem dispatchAfter_keeps (before s : State) :
    (dispatchAfter before s).vehicle = s.vehicle ∧ (dispatchAfter before s).takeover = s.takeover ∧ (dispatchAfter before s).guide = s.guide ∧
    (dispatchAfter before s).streams = s.streams ∧ (dispatchAfter before s).panels = s.panels ∧ (dispatchAfter before s).raster = s.raster ∧
    (dispatchAfter before s).menu = s.menu ∧ (dispatchAfter before s).control = s.control ∧ (dispatchAfter before s).mem = s.mem ∧
    (dispatchAfter before s).pending = s.pending ∧ (dispatchAfter before s).out = s.out := by
  refine ⟨?_, ?_, ?_, ?_, ?_, ?_, ?_, ?_, ?_, ?_, ?_⟩ <;>
  (
  unfold dispatchAfter; (try dsimp only)
  (repeat' split) <;> (try simp))
theorem enqueue_keeps {e : QueueEntry} {s t : State} (h : enqueue e s = some t) :
    t.vehicle = s.vehicle ∧ t.takeover = s.takeover ∧ t.guide = s.guide ∧ t.streams = s.streams ∧ t.panels = s.panels ∧ t.raster = s.raster ∧ t.menu = s.menu ∧ t.audio = s.audio ∧ t.store = s.store ∧ t.control = s.control ∧ t.mem = s.mem ∧ t.pending = s.pending ∧ t.out = s.out := by
  unfold enqueue at h
  (repeat' split at h) <;> first | (injection h with h; subst h; (try split) <;> simp) | cases h
@[simp] theorem settleRequest_keeps (id : Fin 32) (z : ZoneSet) (c : ChimeEntry) (p : Bool) (s : State) :
    (settleRequest id z c p s).2.vehicle = s.vehicle ∧ (settleRequest id z c p s).2.takeover = s.takeover ∧ (settleRequest id z c p s).2.guide = s.guide ∧
    (settleRequest id z c p s).2.streams = s.streams ∧ (settleRequest id z c p s).2.panels = s.panels ∧ (settleRequest id z c p s).2.raster = s.raster ∧
    (settleRequest id z c p s).2.menu = s.menu ∧ (settleRequest id z c p s).2.control = s.control ∧ (settleRequest id z c p s).2.mem = s.mem ∧
    (settleRequest id z c p s).2.pending = s.pending ∧ (settleRequest id z c p s).2.out = s.out := by
  refine ⟨?_, ?_, ?_, ?_, ?_, ?_, ?_, ?_, ?_, ?_, ?_⟩ <;>
  (
  unfold settleRequest; (try dsimp only)
  (repeat' split) <;> first | (rename_i h; simp [enqueue_keeps h]; done) | (simp; done))
@[simp] theorem internalRequest_keeps (id : Fin 32) (z : Option ZoneSet) (p : Bool) (s : State) :
    (internalRequest id z p s).vehicle = s.vehicle ∧ (internalRequest id z p s).takeover = s.takeover ∧ (internalRequest id z p s).guide = s.guide ∧
    (internalRequest id z p s).streams = s.streams ∧ (internalRequest id z p s).panels = s.panels ∧ (internalRequest id z p s).raster = s.raster ∧
    (internalRequest id z p s).menu = s.menu ∧ (internalRequest id z p s).control = s.control ∧ (internalRequest id z p s).mem = s.mem ∧
    (internalRequest id z p s).pending = s.pending ∧ (internalRequest id z p s).out = s.out := by
  refine ⟨?_, ?_, ?_, ?_, ?_, ?_, ?_, ?_, ?_, ?_, ?_⟩ <;>
  (
  unfold internalRequest
  split
  · simp
  · split
    · simp
    · split
      · simp
      · rename_i c _ _ _ _ _
        have h := settleRequest_keeps id (z.getD c.zones) c p s
        split <;> simp_all)
@[simp] theorem requestById_keeps (id : Nat) (z : Option ZoneSet) (s : State) :
    (requestById id z s).vehicle = s.vehicle ∧ (requestById id z s).takeover = s.takeover ∧ (requestById id z s).guide = s.guide ∧
    (requestById id z s).streams = s.streams ∧ (requestById id z s).panels = s.panels ∧ (requestById id z s).raster = s.raster ∧
    (requestById id z s).menu = s.menu ∧ (requestById id z s).control = s.control ∧ (requestById id z s).mem = s.mem ∧
    (requestById id z s).pending = s.pending ∧ (requestById id z s).out = s.out := by
  refine ⟨?_, ?_, ?_, ?_, ?_, ?_, ?_, ?_, ?_, ?_, ?_⟩ <;>
  (
  unfold requestById; (try dsimp only)
  (repeat' split) <;> (try simp))
@[simp] theorem finishVoice_keeps (v : Fin 4) (s : State) :
    (finishVoice v s).vehicle = s.vehicle ∧ (finishVoice v s).takeover = s.takeover ∧ (finishVoice v s).guide = s.guide ∧
    (finishVoice v s).streams = s.streams ∧ (finishVoice v s).panels = s.panels ∧ (finishVoice v s).raster = s.raster ∧
    (finishVoice v s).menu = s.menu ∧ (finishVoice v s).control = s.control ∧ (finishVoice v s).mem = s.mem ∧
    (finishVoice v s).pending = s.pending ∧ (finishVoice v s).out = s.out := by
  refine ⟨?_, ?_, ?_, ?_, ?_, ?_, ?_, ?_, ?_, ?_, ?_⟩ <;>
  (
  unfold finishVoice; (try dsimp only)
  (repeat' split) <;> (try simp))
@[simp] theorem markTailing_keeps (on : Bool) (s : State) :
    (markTailing on s).vehicle = s.vehicle ∧ (markTailing on s).takeover = s.takeover ∧ (markTailing on s).guide = s.guide ∧
    (markTailing on s).streams = s.streams ∧ (markTailing on s).panels = s.panels ∧ (markTailing on s).raster = s.raster ∧
    (markTailing on s).menu = s.menu ∧ (markTailing on s).control = s.control ∧ (markTailing on s).mem = s.mem ∧
    (markTailing on s).pending = s.pending ∧ (markTailing on s).out = s.out := by
  refine ⟨?_, ?_, ?_, ?_, ?_, ?_, ?_, ?_, ?_, ?_, ?_⟩
  · unfold markTailing; simp only [dispatchAfter_keeps]
    exact foldl_keeps (·.vehicle) _ (fun s a => by (try dsimp only); (repeat' split) <;> simp) _ _
  · unfold markTailing; simp only [dispatchAfter_keeps]
    exact foldl_keeps (·.takeover) _ (fun s a => by (try dsimp only); (repeat' split) <;> simp) _ _
  · unfold markTailing; simp only [dispatchAfter_keeps]
    exact foldl_keeps (·.guide) _ (fun s a => by (try dsimp only); (repeat' split) <;> simp) _ _
  · unfold markTailing; simp only [dispatchAfter_keeps]
    exact foldl_keeps (·.streams) _ (fun s a => by (try dsimp only); (repeat' split) <;> simp) _ _
  · unfold markTailing; simp only [dispatchAfter_keeps]
    exact foldl_keeps (·.panels) _ (fun s a => by (try dsimp only); (repeat' split) <;> simp) _ _
  · unfold markTailing; simp only [dispatchAfter_keeps]
    exact foldl_keeps (·.raster) _ (fun s a => by (try dsimp only); (repeat' split) <;> simp) _ _
  · unfold markTailing; simp only [dispatchAfter_keeps]
    exact foldl_keeps (·.menu) _ (fun s a => by (try dsimp only); (repeat' split) <;> simp) _ _
  · unfold markTailing; simp only [dispatchAfter_keeps]
    exact foldl_keeps (·.control) _ (fun s a => by (try dsimp only); (repeat' split) <;> simp) _ _
  · unfold markTailing; simp only [dispatchAfter_keeps]
    exact foldl_keeps (·.mem) _ (fun s a => by (try dsimp only); (repeat' split) <;> simp) _ _
  · unfold markTailing; simp only [dispatchAfter_keeps]
    exact foldl_keeps (·.pending) _ (fun s a => by (try dsimp only); (repeat' split) <;> simp) _ _
  · unfold markTailing; simp only [dispatchAfter_keeps]
    exact foldl_keeps (·.out) _ (fun s a => by (try dsimp only); (repeat' split) <;> simp) _ _
@[simp] theorem proximityStop_keeps (s : State) :
    (proximityStop s).vehicle = s.vehicle ∧ (proximityStop s).takeover = s.takeover ∧ (proximityStop s).guide = s.guide ∧
    (proximityStop s).streams = s.streams ∧ (proximityStop s).panels = s.panels ∧ (proximityStop s).raster = s.raster ∧
    (proximityStop s).menu = s.menu ∧ (proximityStop s).control = s.control ∧ (proximityStop s).mem = s.mem ∧
    (proximityStop s).pending = s.pending ∧ (proximityStop s).out = s.out := by
  refine ⟨?_, ?_, ?_, ?_, ?_, ?_, ?_, ?_, ?_, ?_, ?_⟩
  · unfold proximityStop; (try dsimp only); simp only [dispatchAfter_keeps, setProximity_keeps]
    rw [foldl_keeps (·.vehicle) _ (fun s a => by (try dsimp only); split <;> simp) _ _]; simp
  · unfold proximityStop; (try dsimp only); simp only [dispatchAfter_keeps, setProximity_keeps]
    rw [foldl_keeps (·.takeover) _ (fun s a => by (try dsimp only); split <;> simp) _ _]; simp
  · unfold proximityStop; (try dsimp only); simp only [dispatchAfter_keeps, setProximity_keeps]
    rw [foldl_keeps (·.guide) _ (fun s a => by (try dsimp only); split <;> simp) _ _]; simp
  · unfold proximityStop; (try dsimp only); simp only [dispatchAfter_keeps, setProximity_keeps]
    rw [foldl_keeps (·.streams) _ (fun s a => by (try dsimp only); split <;> simp) _ _]; simp
  · unfold proximityStop; (try dsimp only); simp only [dispatchAfter_keeps, setProximity_keeps]
    rw [foldl_keeps (·.panels) _ (fun s a => by (try dsimp only); split <;> simp) _ _]; simp
  · unfold proximityStop; (try dsimp only); simp only [dispatchAfter_keeps, setProximity_keeps]
    rw [foldl_keeps (·.raster) _ (fun s a => by (try dsimp only); split <;> simp) _ _]; simp
  · unfold proximityStop; (try dsimp only); simp only [dispatchAfter_keeps, setProximity_keeps]
    rw [foldl_keeps (·.menu) _ (fun s a => by (try dsimp only); split <;> simp) _ _]; simp
  · unfold proximityStop; (try dsimp only); simp only [dispatchAfter_keeps, setProximity_keeps]
    rw [foldl_keeps (·.control) _ (fun s a => by (try dsimp only); split <;> simp) _ _]; simp
  · unfold proximityStop; (try dsimp only); simp only [dispatchAfter_keeps, setProximity_keeps]
    rw [foldl_keeps (·.mem) _ (fun s a => by (try dsimp only); split <;> simp) _ _]; simp
  · unfold proximityStop; (try dsimp only); simp only [dispatchAfter_keeps, setProximity_keeps]
    rw [foldl_keeps (·.pending) _ (fun s a => by (try dsimp only); split <;> simp) _ _]; simp
  · unfold proximityStop; (try dsimp only); simp only [dispatchAfter_keeps, setProximity_keeps]
    rw [foldl_keeps (·.out) _ (fun s a => by (try dsimp only); split <;> simp) _ _]; simp
@[simp] theorem proximityRequest_keeps (s : State) :
    (proximityRequest s).vehicle = s.vehicle ∧ (proximityRequest s).takeover = s.takeover ∧ (proximityRequest s).guide = s.guide ∧
    (proximityRequest s).streams = s.streams ∧ (proximityRequest s).panels = s.panels ∧ (proximityRequest s).raster = s.raster ∧
    (proximityRequest s).menu = s.menu ∧ (proximityRequest s).control = s.control ∧ (proximityRequest s).mem = s.mem ∧
    (proximityRequest s).pending = s.pending ∧ (proximityRequest s).out = s.out := by
  refine ⟨?_, ?_, ?_, ?_, ?_, ?_, ?_, ?_, ?_, ?_, ?_⟩ <;>
  (
  unfold proximityRequest; (try dsimp only)
  (repeat' split) <;> (try simp))
@[simp] theorem proximityEvaluate_keeps (s : State) :
    (proximityEvaluate s).vehicle = s.vehicle ∧ (proximityEvaluate s).takeover = s.takeover ∧ (proximityEvaluate s).guide = s.guide ∧
    (proximityEvaluate s).streams = s.streams ∧ (proximityEvaluate s).panels = s.panels ∧ (proximityEvaluate s).raster = s.raster ∧
    (proximityEvaluate s).menu = s.menu ∧ (proximityEvaluate s).control = s.control ∧ (proximityEvaluate s).mem = s.mem ∧
    (proximityEvaluate s).pending = s.pending ∧ (proximityEvaluate s).out = s.out := by
  refine ⟨?_, ?_, ?_, ?_, ?_, ?_, ?_, ?_, ?_, ?_, ?_⟩ <;>
  (
  unfold proximityEvaluate; (try dsimp only)
  (repeat' split) <;> (try simp))
@[simp] theorem proximityPacket_keeps (s : State) :
    (proximityPacket s).vehicle = s.vehicle ∧ (proximityPacket s).takeover = s.takeover ∧ (proximityPacket s).guide = s.guide ∧
    (proximityPacket s).streams = s.streams ∧ (proximityPacket s).panels = s.panels ∧ (proximityPacket s).raster = s.raster ∧
    (proximityPacket s).menu = s.menu ∧ (proximityPacket s).control = s.control ∧ (proximityPacket s).mem = s.mem ∧
    (proximityPacket s).pending = s.pending ∧ (proximityPacket s).out = s.out := by
  refine ⟨?_, ?_, ?_, ?_, ?_, ?_, ?_, ?_, ?_, ?_, ?_⟩ <;>
  (
  unfold proximityPacket; (try dsimp only)
  (repeat' split) <;> (try simp))
@[simp] theorem releaseHold_keeps (h : Hold) (s : State) :
    (releaseHold h s).vehicle = s.vehicle ∧ (releaseHold h s).takeover = s.takeover ∧ (releaseHold h s).guide = s.guide ∧
    (releaseHold h s).panels = s.panels ∧ (releaseHold h s).raster = s.raster ∧ (releaseHold h s).menu = s.menu ∧
    (releaseHold h s).audio = s.audio ∧ (releaseHold h s).chime = s.chime ∧ (releaseHold h s).store = s.store ∧
    (releaseHold h s).links = s.links ∧ (releaseHold h s).uplink = s.uplink ∧ (releaseHold h s).control = s.control ∧
    (releaseHold h s).attention = s.attention ∧ (releaseHold h s).mem = s.mem ∧ (releaseHold h s).pending = s.pending ∧
    (releaseHold h s).out = s.out := by
  refine ⟨?_, ?_, ?_, ?_, ?_, ?_, ?_, ?_, ?_, ?_, ?_, ?_, ?_, ?_, ?_, ?_⟩ <;>
  (
  unfold releaseHold; (try dsimp only)
  (repeat' split) <;> (try simp))
@[simp] theorem takeHold_keeps (h : Hold) (s : State) :
    (takeHold h s).vehicle = s.vehicle ∧ (takeHold h s).takeover = s.takeover ∧ (takeHold h s).guide = s.guide ∧
    (takeHold h s).panels = s.panels ∧ (takeHold h s).raster = s.raster ∧ (takeHold h s).menu = s.menu ∧
    (takeHold h s).audio = s.audio ∧ (takeHold h s).chime = s.chime ∧ (takeHold h s).store = s.store ∧
    (takeHold h s).links = s.links ∧ (takeHold h s).uplink = s.uplink ∧ (takeHold h s).control = s.control ∧
    (takeHold h s).attention = s.attention ∧ (takeHold h s).mem = s.mem ∧ (takeHold h s).pending = s.pending ∧
    (takeHold h s).out = s.out := by
  refine ⟨?_, ?_, ?_, ?_, ?_, ?_, ?_, ?_, ?_, ?_, ?_, ?_, ?_, ?_, ?_, ?_⟩ <;>
  (
  unfold takeHold; (try dsimp only)
  (repeat' split) <;> (try simp))
@[simp] theorem pickUp_keeps (n : Fin 8) (h : Option Hold) (s : State) :
    (pickUp n h s).2.vehicle = s.vehicle ∧ (pickUp n h s).2.takeover = s.takeover ∧ (pickUp n h s).2.guide = s.guide ∧
    (pickUp n h s).2.panels = s.panels ∧ (pickUp n h s).2.raster = s.raster ∧ (pickUp n h s).2.menu = s.menu ∧
    (pickUp n h s).2.audio = s.audio ∧ (pickUp n h s).2.chime = s.chime ∧ (pickUp n h s).2.store = s.store ∧
    (pickUp n h s).2.links = s.links ∧ (pickUp n h s).2.uplink = s.uplink ∧ (pickUp n h s).2.control = s.control ∧
    (pickUp n h s).2.attention = s.attention ∧ (pickUp n h s).2.mem = s.mem ∧ (pickUp n h s).2.pending = s.pending ∧
    (pickUp n h s).2.out = s.out := by
  refine ⟨?_, ?_, ?_, ?_, ?_, ?_, ?_, ?_, ?_, ?_, ?_, ?_, ?_, ?_, ?_, ?_⟩ <;>
  (
  unfold pickUp; (try dsimp only)
  (repeat' split) <;> (try simp))
@[simp] theorem setHold_keeps (p : Panel) (id : Fin 6) (h : Option Hold) (s : State) :
    (setHold p id h s).vehicle = s.vehicle ∧ (setHold p id h s).takeover = s.takeover ∧ (setHold p id h s).guide = s.guide ∧
    (setHold p id h s).streams = s.streams ∧ (setHold p id h s).raster = s.raster ∧ (setHold p id h s).menu = s.menu ∧
    (setHold p id h s).audio = s.audio ∧ (setHold p id h s).chime = s.chime ∧ (setHold p id h s).store = s.store ∧
    (setHold p id h s).links = s.links ∧ (setHold p id h s).uplink = s.uplink ∧ (setHold p id h s).control = s.control ∧
    (setHold p id h s).attention = s.attention ∧ (setHold p id h s).mem = s.mem ∧ (setHold p id h s).pending = s.pending ∧
    (setHold p id h s).out = s.out := by
  refine ⟨?_, ?_, ?_, ?_, ?_, ?_, ?_, ?_, ?_, ?_, ?_, ?_, ?_, ?_, ?_, ?_⟩ <;>
  (
  unfold setHold; (try dsimp only)
  (repeat' split) <;> (try simp))
@[simp] theorem dropHold_keeps (p : Panel) (id : Fin 6) (s : State) :
    (dropHold p id s).vehicle = s.vehicle ∧ (dropHold p id s).takeover = s.takeover ∧ (dropHold p id s).guide = s.guide ∧
    (dropHold p id s).raster = s.raster ∧ (dropHold p id s).menu = s.menu ∧ (dropHold p id s).audio = s.audio ∧
    (dropHold p id s).chime = s.chime ∧ (dropHold p id s).store = s.store ∧ (dropHold p id s).links = s.links ∧
    (dropHold p id s).uplink = s.uplink ∧ (dropHold p id s).control = s.control ∧ (dropHold p id s).attention = s.attention ∧
    (dropHold p id s).mem = s.mem ∧ (dropHold p id s).pending = s.pending ∧ (dropHold p id s).out = s.out := by
  refine ⟨?_, ?_, ?_, ?_, ?_, ?_, ?_, ?_, ?_, ?_, ?_, ?_, ?_, ?_, ?_⟩ <;>
  (
  unfold dropHold; (try dsimp only)
  (repeat' split) <;> (try simp))
@[simp] theorem dropCameraHold_keeps (s : State) :
    (dropCameraHold s).vehicle = s.vehicle ∧ (dropCameraHold s).guide = s.guide ∧ (dropCameraHold s).panels = s.panels ∧
    (dropCameraHold s).raster = s.raster ∧ (dropCameraHold s).menu = s.menu ∧ (dropCameraHold s).audio = s.audio ∧
    (dropCameraHold s).chime = s.chime ∧ (dropCameraHold s).store = s.store ∧ (dropCameraHold s).links = s.links ∧
    (dropCameraHold s).uplink = s.uplink ∧ (dropCameraHold s).control = s.control ∧ (dropCameraHold s).attention = s.attention ∧
    (dropCameraHold s).mem = s.mem ∧ (dropCameraHold s).pending = s.pending ∧ (dropCameraHold s).out = s.out := by
  refine ⟨?_, ?_, ?_, ?_, ?_, ?_, ?_, ?_, ?_, ?_, ?_, ?_, ?_, ?_, ?_⟩ <;>
  (
  unfold dropCameraHold; (try dsimp only)
  (repeat' split) <;> (try simp))
@[simp] theorem releaseReaders_keeps (p : Panel) (s : State) :
    (releaseReaders p s).vehicle = s.vehicle ∧ (releaseReaders p s).guide = s.guide ∧ (releaseReaders p s).raster = s.raster ∧
    (releaseReaders p s).menu = s.menu ∧ (releaseReaders p s).audio = s.audio ∧ (releaseReaders p s).chime = s.chime ∧
    (releaseReaders p s).store = s.store ∧ (releaseReaders p s).links = s.links ∧ (releaseReaders p s).uplink = s.uplink ∧
    (releaseReaders p s).control = s.control ∧ (releaseReaders p s).attention = s.attention ∧ (releaseReaders p s).mem = s.mem ∧
    (releaseReaders p s).pending = s.pending ∧ (releaseReaders p s).out = s.out := by
  refine ⟨?_, ?_, ?_, ?_, ?_, ?_, ?_, ?_, ?_, ?_, ?_, ?_, ?_, ?_⟩
  · have h : ((List.finRange 6).foldl (fun s id => dropHold p id s) s).vehicle = s.vehicle :=
      foldl_keeps (·.vehicle) _ (fun s a => by simp) _ _
    cases p <;> simp [releaseReaders, h]
  · have h : ((List.finRange 6).foldl (fun s id => dropHold p id s) s).guide = s.guide :=
      foldl_keeps (·.guide) _ (fun s a => by simp) _ _
    cases p <;> simp [releaseReaders, h]
  · have h : ((List.finRange 6).foldl (fun s id => dropHold p id s) s).raster = s.raster :=
      foldl_keeps (·.raster) _ (fun s a => by simp) _ _
    cases p <;> simp [releaseReaders, h]
  · have h : ((List.finRange 6).foldl (fun s id => dropHold p id s) s).menu = s.menu :=
      foldl_keeps (·.menu) _ (fun s a => by simp) _ _
    cases p <;> simp [releaseReaders, h]
  · have h : ((List.finRange 6).foldl (fun s id => dropHold p id s) s).audio = s.audio :=
      foldl_keeps (·.audio) _ (fun s a => by simp) _ _
    cases p <;> simp [releaseReaders, h]
  · have h : ((List.finRange 6).foldl (fun s id => dropHold p id s) s).chime = s.chime :=
      foldl_keeps (·.chime) _ (fun s a => by simp) _ _
    cases p <;> simp [releaseReaders, h]
  · have h : ((List.finRange 6).foldl (fun s id => dropHold p id s) s).store = s.store :=
      foldl_keeps (·.store) _ (fun s a => by simp) _ _
    cases p <;> simp [releaseReaders, h]
  · have h : ((List.finRange 6).foldl (fun s id => dropHold p id s) s).links = s.links :=
      foldl_keeps (·.links) _ (fun s a => by simp) _ _
    cases p <;> simp [releaseReaders, h]
  · have h : ((List.finRange 6).foldl (fun s id => dropHold p id s) s).uplink = s.uplink :=
      foldl_keeps (·.uplink) _ (fun s a => by simp) _ _
    cases p <;> simp [releaseReaders, h]
  · have h : ((List.finRange 6).foldl (fun s id => dropHold p id s) s).control = s.control :=
      foldl_keeps (·.control) _ (fun s a => by simp) _ _
    cases p <;> simp [releaseReaders, h]
  · have h : ((List.finRange 6).foldl (fun s id => dropHold p id s) s).attention = s.attention :=
      foldl_keeps (·.attention) _ (fun s a => by simp) _ _
    cases p <;> simp [releaseReaders, h]
  · have h : ((List.finRange 6).foldl (fun s id => dropHold p id s) s).mem = s.mem :=
      foldl_keeps (·.mem) _ (fun s a => by simp) _ _
    cases p <;> simp [releaseReaders, h]
  · have h : ((List.finRange 6).foldl (fun s id => dropHold p id s) s).pending = s.pending :=
      foldl_keeps (·.pending) _ (fun s a => by simp) _ _
    cases p <;> simp [releaseReaders, h]
  · have h : ((List.finRange 6).foldl (fun s id => dropHold p id s) s).out = s.out :=
      foldl_keeps (·.out) _ (fun s a => by simp) _ _
    cases p <;> simp [releaseReaders, h]
@[simp] theorem releaseStale_keeps (p : Panel) (id : Fin 6) (s : State) :
    (releaseStale p id s).vehicle = s.vehicle ∧ (releaseStale p id s).takeover = s.takeover ∧ (releaseStale p id s).guide = s.guide ∧
    (releaseStale p id s).raster = s.raster ∧ (releaseStale p id s).menu = s.menu ∧ (releaseStale p id s).audio = s.audio ∧
    (releaseStale p id s).chime = s.chime ∧ (releaseStale p id s).store = s.store ∧ (releaseStale p id s).links = s.links ∧
    (releaseStale p id s).uplink = s.uplink ∧ (releaseStale p id s).control = s.control ∧ (releaseStale p id s).attention = s.attention ∧
    (releaseStale p id s).mem = s.mem ∧ (releaseStale p id s).pending = s.pending ∧ (releaseStale p id s).out = s.out := by
  refine ⟨?_, ?_, ?_, ?_, ?_, ?_, ?_, ?_, ?_, ?_, ?_, ?_, ?_, ?_, ?_⟩ <;>
  (
  unfold releaseStale; (try dsimp only)
  (repeat' split) <;> (try simp))
@[simp] theorem pickUpLayer_keeps (p : Panel) (l : Layer) (s : State) :
    (pickUpLayer p l s).vehicle = s.vehicle ∧ (pickUpLayer p l s).takeover = s.takeover ∧ (pickUpLayer p l s).guide = s.guide ∧
    (pickUpLayer p l s).raster = s.raster ∧ (pickUpLayer p l s).menu = s.menu ∧ (pickUpLayer p l s).audio = s.audio ∧
    (pickUpLayer p l s).chime = s.chime ∧ (pickUpLayer p l s).store = s.store ∧ (pickUpLayer p l s).links = s.links ∧
    (pickUpLayer p l s).uplink = s.uplink ∧ (pickUpLayer p l s).control = s.control ∧ (pickUpLayer p l s).attention = s.attention ∧
    (pickUpLayer p l s).mem = s.mem ∧ (pickUpLayer p l s).pending = s.pending ∧ (pickUpLayer p l s).out = s.out := by
  refine ⟨?_, ?_, ?_, ?_, ?_, ?_, ?_, ?_, ?_, ?_, ?_, ?_, ?_, ?_, ?_⟩ <;>
  (
  unfold pickUpLayer; (try dsimp only)
  (repeat' split) <;> (try simp))
@[simp] theorem cameraLayerStart_keeps (s : State) :
    (cameraLayerStart s).vehicle = s.vehicle ∧ (cameraLayerStart s).guide = s.guide ∧ (cameraLayerStart s).panels = s.panels ∧
    (cameraLayerStart s).raster = s.raster ∧ (cameraLayerStart s).menu = s.menu ∧ (cameraLayerStart s).audio = s.audio ∧
    (cameraLayerStart s).chime = s.chime ∧ (cameraLayerStart s).store = s.store ∧ (cameraLayerStart s).links = s.links ∧
    (cameraLayerStart s).uplink = s.uplink ∧ (cameraLayerStart s).control = s.control ∧ (cameraLayerStart s).attention = s.attention ∧
    (cameraLayerStart s).mem = s.mem ∧ (cameraLayerStart s).pending = s.pending ∧ (cameraLayerStart s).out = s.out := by
  refine ⟨?_, ?_, ?_, ?_, ?_, ?_, ?_, ?_, ?_, ?_, ?_, ?_, ?_, ?_, ?_⟩ <;>
  (
  unfold cameraLayerStart; (try dsimp only)
  (repeat' split) <;> (try simp))
@[simp] theorem settleReaders_keeps (p : Panel) (s : State) :
    (settleReaders p s).vehicle = s.vehicle ∧ (settleReaders p s).guide = s.guide ∧ (settleReaders p s).menu = s.menu ∧
    (settleReaders p s).audio = s.audio ∧ (settleReaders p s).chime = s.chime ∧ (settleReaders p s).store = s.store ∧
    (settleReaders p s).links = s.links ∧ (settleReaders p s).uplink = s.uplink ∧ (settleReaders p s).control = s.control ∧
    (settleReaders p s).attention = s.attention ∧ (settleReaders p s).mem = s.mem ∧ (settleReaders p s).pending = s.pending ∧
    (settleReaders p s).out = s.out := by
  refine ⟨?_, ?_, ?_, ?_, ?_, ?_, ?_, ?_, ?_, ?_, ?_, ?_, ?_⟩
  · have h1 : ∀ t : State, ((List.finRange 6).foldl (fun s id => releaseStale p id s) t).vehicle = t.vehicle :=
      fun t => foldl_keeps (·.vehicle) _ (fun s a => by simp) _ _
    have h2 : ∀ (ls : List Layer) (t : State), (ls.foldl (fun s l => pickUpLayer p l s) t).vehicle = t.vehicle :=
      fun ls t => foldl_keeps (·.vehicle) _ (fun s a => by simp) _ _
    have h3 : ∀ (qs : List Plane) (t : State), (qs.foldl (fun s q => swapPlane q s) t).vehicle = t.vehicle :=
      fun qs t => foldl_keeps (·.vehicle) _ (fun s a => by simp) _ _
    cases p <;> simp [settleReaders, h1, h2, h3]
  · have h1 : ∀ t : State, ((List.finRange 6).foldl (fun s id => releaseStale p id s) t).guide = t.guide :=
      fun t => foldl_keeps (·.guide) _ (fun s a => by simp) _ _
    have h2 : ∀ (ls : List Layer) (t : State), (ls.foldl (fun s l => pickUpLayer p l s) t).guide = t.guide :=
      fun ls t => foldl_keeps (·.guide) _ (fun s a => by simp) _ _
    have h3 : ∀ (qs : List Plane) (t : State), (qs.foldl (fun s q => swapPlane q s) t).guide = t.guide :=
      fun qs t => foldl_keeps (·.guide) _ (fun s a => by simp) _ _
    cases p <;> simp [settleReaders, h1, h2, h3]
  · have h1 : ∀ t : State, ((List.finRange 6).foldl (fun s id => releaseStale p id s) t).menu = t.menu :=
      fun t => foldl_keeps (·.menu) _ (fun s a => by simp) _ _
    have h2 : ∀ (ls : List Layer) (t : State), (ls.foldl (fun s l => pickUpLayer p l s) t).menu = t.menu :=
      fun ls t => foldl_keeps (·.menu) _ (fun s a => by simp) _ _
    have h3 : ∀ (qs : List Plane) (t : State), (qs.foldl (fun s q => swapPlane q s) t).menu = t.menu :=
      fun qs t => foldl_keeps (·.menu) _ (fun s a => by simp) _ _
    cases p <;> simp [settleReaders, h1, h2, h3]
  · have h1 : ∀ t : State, ((List.finRange 6).foldl (fun s id => releaseStale p id s) t).audio = t.audio :=
      fun t => foldl_keeps (·.audio) _ (fun s a => by simp) _ _
    have h2 : ∀ (ls : List Layer) (t : State), (ls.foldl (fun s l => pickUpLayer p l s) t).audio = t.audio :=
      fun ls t => foldl_keeps (·.audio) _ (fun s a => by simp) _ _
    have h3 : ∀ (qs : List Plane) (t : State), (qs.foldl (fun s q => swapPlane q s) t).audio = t.audio :=
      fun qs t => foldl_keeps (·.audio) _ (fun s a => by simp) _ _
    cases p <;> simp [settleReaders, h1, h2, h3]
  · have h1 : ∀ t : State, ((List.finRange 6).foldl (fun s id => releaseStale p id s) t).chime = t.chime :=
      fun t => foldl_keeps (·.chime) _ (fun s a => by simp) _ _
    have h2 : ∀ (ls : List Layer) (t : State), (ls.foldl (fun s l => pickUpLayer p l s) t).chime = t.chime :=
      fun ls t => foldl_keeps (·.chime) _ (fun s a => by simp) _ _
    have h3 : ∀ (qs : List Plane) (t : State), (qs.foldl (fun s q => swapPlane q s) t).chime = t.chime :=
      fun qs t => foldl_keeps (·.chime) _ (fun s a => by simp) _ _
    cases p <;> simp [settleReaders, h1, h2, h3]
  · have h1 : ∀ t : State, ((List.finRange 6).foldl (fun s id => releaseStale p id s) t).store = t.store :=
      fun t => foldl_keeps (·.store) _ (fun s a => by simp) _ _
    have h2 : ∀ (ls : List Layer) (t : State), (ls.foldl (fun s l => pickUpLayer p l s) t).store = t.store :=
      fun ls t => foldl_keeps (·.store) _ (fun s a => by simp) _ _
    have h3 : ∀ (qs : List Plane) (t : State), (qs.foldl (fun s q => swapPlane q s) t).store = t.store :=
      fun qs t => foldl_keeps (·.store) _ (fun s a => by simp) _ _
    cases p <;> simp [settleReaders, h1, h2, h3]
  · have h1 : ∀ t : State, ((List.finRange 6).foldl (fun s id => releaseStale p id s) t).links = t.links :=
      fun t => foldl_keeps (·.links) _ (fun s a => by simp) _ _
    have h2 : ∀ (ls : List Layer) (t : State), (ls.foldl (fun s l => pickUpLayer p l s) t).links = t.links :=
      fun ls t => foldl_keeps (·.links) _ (fun s a => by simp) _ _
    have h3 : ∀ (qs : List Plane) (t : State), (qs.foldl (fun s q => swapPlane q s) t).links = t.links :=
      fun qs t => foldl_keeps (·.links) _ (fun s a => by simp) _ _
    cases p <;> simp [settleReaders, h1, h2, h3]
  · have h1 : ∀ t : State, ((List.finRange 6).foldl (fun s id => releaseStale p id s) t).uplink = t.uplink :=
      fun t => foldl_keeps (·.uplink) _ (fun s a => by simp) _ _
    have h2 : ∀ (ls : List Layer) (t : State), (ls.foldl (fun s l => pickUpLayer p l s) t).uplink = t.uplink :=
      fun ls t => foldl_keeps (·.uplink) _ (fun s a => by simp) _ _
    have h3 : ∀ (qs : List Plane) (t : State), (qs.foldl (fun s q => swapPlane q s) t).uplink = t.uplink :=
      fun qs t => foldl_keeps (·.uplink) _ (fun s a => by simp) _ _
    cases p <;> simp [settleReaders, h1, h2, h3]
  · have h1 : ∀ t : State, ((List.finRange 6).foldl (fun s id => releaseStale p id s) t).control = t.control :=
      fun t => foldl_keeps (·.control) _ (fun s a => by simp) _ _
    have h2 : ∀ (ls : List Layer) (t : State), (ls.foldl (fun s l => pickUpLayer p l s) t).control = t.control :=
      fun ls t => foldl_keeps (·.control) _ (fun s a => by simp) _ _
    have h3 : ∀ (qs : List Plane) (t : State), (qs.foldl (fun s q => swapPlane q s) t).control = t.control :=
      fun qs t => foldl_keeps (·.control) _ (fun s a => by simp) _ _
    cases p <;> simp [settleReaders, h1, h2, h3]
  · have h1 : ∀ t : State, ((List.finRange 6).foldl (fun s id => releaseStale p id s) t).attention = t.attention :=
      fun t => foldl_keeps (·.attention) _ (fun s a => by simp) _ _
    have h2 : ∀ (ls : List Layer) (t : State), (ls.foldl (fun s l => pickUpLayer p l s) t).attention = t.attention :=
      fun ls t => foldl_keeps (·.attention) _ (fun s a => by simp) _ _
    have h3 : ∀ (qs : List Plane) (t : State), (qs.foldl (fun s q => swapPlane q s) t).attention = t.attention :=
      fun qs t => foldl_keeps (·.attention) _ (fun s a => by simp) _ _
    cases p <;> simp [settleReaders, h1, h2, h3]
  · have h1 : ∀ t : State, ((List.finRange 6).foldl (fun s id => releaseStale p id s) t).mem = t.mem :=
      fun t => foldl_keeps (·.mem) _ (fun s a => by simp) _ _
    have h2 : ∀ (ls : List Layer) (t : State), (ls.foldl (fun s l => pickUpLayer p l s) t).mem = t.mem :=
      fun ls t => foldl_keeps (·.mem) _ (fun s a => by simp) _ _
    have h3 : ∀ (qs : List Plane) (t : State), (qs.foldl (fun s q => swapPlane q s) t).mem = t.mem :=
      fun qs t => foldl_keeps (·.mem) _ (fun s a => by simp) _ _
    cases p <;> simp [settleReaders, h1, h2, h3]
  · have h1 : ∀ t : State, ((List.finRange 6).foldl (fun s id => releaseStale p id s) t).pending = t.pending :=
      fun t => foldl_keeps (·.pending) _ (fun s a => by simp) _ _
    have h2 : ∀ (ls : List Layer) (t : State), (ls.foldl (fun s l => pickUpLayer p l s) t).pending = t.pending :=
      fun ls t => foldl_keeps (·.pending) _ (fun s a => by simp) _ _
    have h3 : ∀ (qs : List Plane) (t : State), (qs.foldl (fun s q => swapPlane q s) t).pending = t.pending :=
      fun qs t => foldl_keeps (·.pending) _ (fun s a => by simp) _ _
    cases p <;> simp [settleReaders, h1, h2, h3]
  · have h1 : ∀ t : State, ((List.finRange 6).foldl (fun s id => releaseStale p id s) t).out = t.out :=
      fun t => foldl_keeps (·.out) _ (fun s a => by simp) _ _
    have h2 : ∀ (ls : List Layer) (t : State), (ls.foldl (fun s l => pickUpLayer p l s) t).out = t.out :=
      fun ls t => foldl_keeps (·.out) _ (fun s a => by simp) _ _
    have h3 : ∀ (qs : List Plane) (t : State), (qs.foldl (fun s q => swapPlane q s) t).out = t.out :=
      fun qs t => foldl_keeps (·.out) _ (fun s a => by simp) _ _
    cases p <;> simp [settleReaders, h1, h2, h3]
@[simp] theorem frameStart_keeps (p : Panel) (s : State) :
    (frameStart p s).vehicle = s.vehicle ∧ (frameStart p s).guide = s.guide ∧ (frameStart p s).menu = s.menu ∧
    (frameStart p s).audio = s.audio ∧ (frameStart p s).chime = s.chime ∧ (frameStart p s).store = s.store ∧
    (frameStart p s).links = s.links ∧ (frameStart p s).uplink = s.uplink ∧ (frameStart p s).control = s.control ∧
    (frameStart p s).attention = s.attention ∧ (frameStart p s).mem = s.mem ∧ (frameStart p s).pending = s.pending ∧
    (frameStart p s).out = s.out := by
  refine ⟨?_, ?_, ?_, ?_, ?_, ?_, ?_, ?_, ?_, ?_, ?_, ?_, ?_⟩ <;>
  (
  unfold frameStart; (try dsimp only)
  (repeat' split) <;> (try simp))
@[simp] theorem enterWaking_keeps (p : Panel) (s : State) :
    (enterWaking p s).vehicle = s.vehicle ∧ (enterWaking p s).guide = s.guide ∧ (enterWaking p s).menu = s.menu ∧
    (enterWaking p s).audio = s.audio ∧ (enterWaking p s).chime = s.chime ∧ (enterWaking p s).store = s.store ∧
    (enterWaking p s).links = s.links ∧ (enterWaking p s).uplink = s.uplink ∧ (enterWaking p s).control = s.control ∧
    (enterWaking p s).attention = s.attention ∧ (enterWaking p s).mem = s.mem ∧ (enterWaking p s).pending = s.pending ∧
    (enterWaking p s).out = s.out := by
  refine ⟨?_, ?_, ?_, ?_, ?_, ?_, ?_, ?_, ?_, ?_, ?_, ?_, ?_⟩ <;>
  (
  unfold enterWaking; (try dsimp only)
  (repeat' split) <;> (try simp))
@[simp] theorem enterSleep_keeps (p : Panel) (s : State) :
    (enterSleep p s).vehicle = s.vehicle ∧ (enterSleep p s).guide = s.guide ∧ (enterSleep p s).raster = s.raster ∧
    (enterSleep p s).menu = s.menu ∧ (enterSleep p s).audio = s.audio ∧ (enterSleep p s).chime = s.chime ∧
    (enterSleep p s).store = s.store ∧ (enterSleep p s).links = s.links ∧ (enterSleep p s).uplink = s.uplink ∧
    (enterSleep p s).control = s.control ∧ (enterSleep p s).attention = s.attention ∧ (enterSleep p s).mem = s.mem ∧
    (enterSleep p s).pending = s.pending ∧ (enterSleep p s).out = s.out := by
  refine ⟨?_, ?_, ?_, ?_, ?_, ?_, ?_, ?_, ?_, ?_, ?_, ?_, ?_, ?_⟩ <;>
  (
  unfold enterSleep; (try dsimp only)
  (repeat' split) <;> (try simp))
@[simp] theorem sendBacklight_keeps (p : Panel) (n : Nat) (s : State) :
    (sendBacklight p n s).vehicle = s.vehicle ∧ (sendBacklight p n s).takeover = s.takeover ∧ (sendBacklight p n s).guide = s.guide ∧
    (sendBacklight p n s).streams = s.streams ∧ (sendBacklight p n s).raster = s.raster ∧ (sendBacklight p n s).menu = s.menu ∧
    (sendBacklight p n s).audio = s.audio ∧ (sendBacklight p n s).chime = s.chime ∧ (sendBacklight p n s).store = s.store ∧
    (sendBacklight p n s).links = s.links ∧ (sendBacklight p n s).uplink = s.uplink ∧ (sendBacklight p n s).control = s.control ∧
    (sendBacklight p n s).attention = s.attention ∧ (sendBacklight p n s).mem = s.mem ∧ (sendBacklight p n s).pending = s.pending := by
  refine ⟨?_, ?_, ?_, ?_, ?_, ?_, ?_, ?_, ?_, ?_, ?_, ?_, ?_, ?_, ?_⟩ <;>
  (
  unfold sendBacklight; (try dsimp only)
  (repeat' split) <;> (try simp))
@[simp] theorem setLevel_keeps (p : Panel) (n : Nat) (s : State) :
    (setLevel p n s).vehicle = s.vehicle ∧ (setLevel p n s).takeover = s.takeover ∧ (setLevel p n s).guide = s.guide ∧
    (setLevel p n s).streams = s.streams ∧ (setLevel p n s).raster = s.raster ∧ (setLevel p n s).menu = s.menu ∧
    (setLevel p n s).audio = s.audio ∧ (setLevel p n s).chime = s.chime ∧ (setLevel p n s).store = s.store ∧
    (setLevel p n s).links = s.links ∧ (setLevel p n s).uplink = s.uplink ∧ (setLevel p n s).control = s.control ∧
    (setLevel p n s).attention = s.attention ∧ (setLevel p n s).mem = s.mem ∧ (setLevel p n s).pending = s.pending := by
  refine ⟨?_, ?_, ?_, ?_, ?_, ?_, ?_, ?_, ?_, ?_, ?_, ?_, ?_, ?_, ?_⟩ <;>
  (
  unfold setLevel; (try dsimp only)
  (repeat' split) <;> (try simp))
@[simp] theorem wakeEffect_keeps (p : Panel) (s : State) :
    (wakeEffect p s).vehicle = s.vehicle ∧ (wakeEffect p s).guide = s.guide ∧ (wakeEffect p s).menu = s.menu ∧
    (wakeEffect p s).audio = s.audio ∧ (wakeEffect p s).chime = s.chime ∧ (wakeEffect p s).store = s.store ∧
    (wakeEffect p s).links = s.links ∧ (wakeEffect p s).uplink = s.uplink ∧ (wakeEffect p s).control = s.control ∧
    (wakeEffect p s).attention = s.attention ∧ (wakeEffect p s).mem = s.mem ∧ (wakeEffect p s).pending = s.pending ∧
    (wakeEffect p s).out = s.out := by
  refine ⟨?_, ?_, ?_, ?_, ?_, ?_, ?_, ?_, ?_, ?_, ?_, ?_, ?_⟩ <;>
  (
  unfold wakeEffect; (try dsimp only)
  (repeat' split) <;> (try simp))
@[simp] theorem sleepEffect_keeps (p : Panel) (s : State) :
    (sleepEffect p s).vehicle = s.vehicle ∧ (sleepEffect p s).takeover = s.takeover ∧ (sleepEffect p s).guide = s.guide ∧
    (sleepEffect p s).streams = s.streams ∧ (sleepEffect p s).raster = s.raster ∧ (sleepEffect p s).menu = s.menu ∧
    (sleepEffect p s).audio = s.audio ∧ (sleepEffect p s).chime = s.chime ∧ (sleepEffect p s).store = s.store ∧
    (sleepEffect p s).links = s.links ∧ (sleepEffect p s).uplink = s.uplink ∧ (sleepEffect p s).control = s.control ∧
    (sleepEffect p s).attention = s.attention ∧ (sleepEffect p s).mem = s.mem ∧ (sleepEffect p s).pending = s.pending := by
  refine ⟨?_, ?_, ?_, ?_, ?_, ?_, ?_, ?_, ?_, ?_, ?_, ?_, ?_, ?_, ?_⟩ <;>
  (
  unfold sleepEffect; (try dsimp only)
  (repeat' split) <;> (try simp))
@[simp] theorem frontToRequested_keeps (s : State) :
    (frontToRequested s).vehicle = s.vehicle ∧ (frontToRequested s).takeover = s.takeover ∧ (frontToRequested s).guide = s.guide ∧
    (frontToRequested s).streams = s.streams ∧ (frontToRequested s).raster = s.raster ∧ (frontToRequested s).menu = s.menu ∧
    (frontToRequested s).audio = s.audio ∧ (frontToRequested s).chime = s.chime ∧ (frontToRequested s).store = s.store ∧
    (frontToRequested s).links = s.links ∧ (frontToRequested s).uplink = s.uplink ∧ (frontToRequested s).control = s.control ∧
    (frontToRequested s).attention = s.attention ∧ (frontToRequested s).mem = s.mem ∧ (frontToRequested s).pending = s.pending := by
  refine ⟨?_, ?_, ?_, ?_, ?_, ?_, ?_, ?_, ?_, ?_, ?_, ?_, ?_, ?_, ?_⟩ <;>
  (
  unfold frontToRequested; (try dsimp only)
  (repeat' split) <;> (try simp))
@[simp] theorem panelOff_keeps (p : Panel) (s : State) :
    (panelOff p s).vehicle = s.vehicle ∧ (panelOff p s).guide = s.guide ∧ (panelOff p s).raster = s.raster ∧
    (panelOff p s).menu = s.menu ∧ (panelOff p s).audio = s.audio ∧ (panelOff p s).chime = s.chime ∧
    (panelOff p s).store = s.store ∧ (panelOff p s).control = s.control ∧ (panelOff p s).mem = s.mem ∧
    (panelOff p s).pending = s.pending ∧ (panelOff p s).out = s.out := by
  refine ⟨?_, ?_, ?_, ?_, ?_, ?_, ?_, ?_, ?_, ?_, ?_⟩ <;>
  (
  unfold panelOff; (try dsimp only)
  (repeat' split) <;> (try simp))
@[simp] theorem panelUp_keeps (p : Panel) (s : State) :
    (panelUp p s).vehicle = s.vehicle ∧ (panelUp p s).guide = s.guide ∧ (panelUp p s).menu = s.menu ∧
    (panelUp p s).audio = s.audio ∧ (panelUp p s).chime = s.chime ∧ (panelUp p s).store = s.store ∧
    (panelUp p s).links = s.links ∧ (panelUp p s).uplink = s.uplink ∧ (panelUp p s).control = s.control ∧
    (panelUp p s).attention = s.attention ∧ (panelUp p s).mem = s.mem ∧ (panelUp p s).pending = s.pending := by
  refine ⟨?_, ?_, ?_, ?_, ?_, ?_, ?_, ?_, ?_, ?_, ?_, ?_⟩ <;>
  (
  unfold panelUp; (try dsimp only)
  (repeat' split) <;> (try simp))
@[simp] theorem powerRules_keeps (p : Panel) (f : FrameInProgress) (s : State) :
    (powerRules p f s).vehicle = s.vehicle ∧ (powerRules p f s).guide = s.guide ∧ (powerRules p f s).menu = s.menu ∧
    (powerRules p f s).audio = s.audio ∧ (powerRules p f s).chime = s.chime ∧ (powerRules p f s).store = s.store ∧
    (powerRules p f s).links = s.links ∧ (powerRules p f s).uplink = s.uplink ∧ (powerRules p f s).control = s.control ∧
    (powerRules p f s).attention = s.attention ∧ (powerRules p f s).mem = s.mem ∧ (powerRules p f s).pending = s.pending := by
  refine ⟨?_, ?_, ?_, ?_, ?_, ?_, ?_, ?_, ?_, ?_, ?_, ?_⟩ <;>
  (
  unfold powerRules; (try dsimp only)
  (repeat' split) <;> (try simp))
@[simp] theorem endOfFrame_keeps (p : Panel) (s : State) :
    (endOfFrame p s).vehicle = s.vehicle ∧ (endOfFrame p s).guide = s.guide ∧ (endOfFrame p s).menu = s.menu ∧
    (endOfFrame p s).audio = s.audio ∧ (endOfFrame p s).chime = s.chime ∧ (endOfFrame p s).store = s.store ∧
    (endOfFrame p s).links = s.links ∧ (endOfFrame p s).uplink = s.uplink ∧ (endOfFrame p s).control = s.control ∧
    (endOfFrame p s).attention = s.attention ∧ (endOfFrame p s).mem = s.mem ∧ (endOfFrame p s).pending = s.pending := by
  refine ⟨?_, ?_, ?_, ?_, ?_, ?_, ?_, ?_, ?_, ?_, ?_, ?_⟩ <;>
  (
  unfold endOfFrame; (try dsimp only)
  (repeat' split) <;> (try simp))
@[simp] theorem countPort_keeps (x : VideoRx) (f : AdmissionCounters → AdmissionCounters) (s : State) :
    (countPort x f s).vehicle = s.vehicle ∧ (countPort x f s).takeover = s.takeover ∧ (countPort x f s).guide = s.guide ∧
    (countPort x f s).panels = s.panels ∧ (countPort x f s).raster = s.raster ∧ (countPort x f s).menu = s.menu ∧
    (countPort x f s).audio = s.audio ∧ (countPort x f s).chime = s.chime ∧ (countPort x f s).store = s.store ∧
    (countPort x f s).links = s.links ∧ (countPort x f s).uplink = s.uplink ∧ (countPort x f s).control = s.control ∧
    (countPort x f s).attention = s.attention ∧ (countPort x f s).mem = s.mem ∧ (countPort x f s).pending = s.pending ∧
    (countPort x f s).out = s.out := by
  refine ⟨?_, ?_, ?_, ?_, ?_, ?_, ?_, ?_, ?_, ?_, ?_, ?_, ?_, ?_, ?_, ?_⟩ <;>
  (
  unfold countPort; (try dsimp only)
  (repeat' split) <;> (try simp))
@[simp] theorem countTag_keeps (t : Fin 32) (f : TagCounters → TagCounters) (s : State) :
    (countTag t f s).vehicle = s.vehicle ∧ (countTag t f s).takeover = s.takeover ∧ (countTag t f s).guide = s.guide ∧
    (countTag t f s).panels = s.panels ∧ (countTag t f s).raster = s.raster ∧ (countTag t f s).menu = s.menu ∧
    (countTag t f s).audio = s.audio ∧ (countTag t f s).chime = s.chime ∧ (countTag t f s).store = s.store ∧
    (countTag t f s).links = s.links ∧ (countTag t f s).uplink = s.uplink ∧ (countTag t f s).control = s.control ∧
    (countTag t f s).attention = s.attention ∧ (countTag t f s).mem = s.mem ∧ (countTag t f s).pending = s.pending ∧
    (countTag t f s).out = s.out := by
  refine ⟨?_, ?_, ?_, ?_, ?_, ?_, ?_, ?_, ?_, ?_, ?_, ?_, ?_, ?_, ?_, ?_⟩ <;>
  (
  unfold countTag; (try dsimp only)
  (repeat' split) <;> (try simp))
@[simp] theorem countTrail_keeps (l : Link) (s : State) :
    (countTrail l s).vehicle = s.vehicle ∧ (countTrail l s).takeover = s.takeover ∧ (countTrail l s).guide = s.guide ∧
    (countTrail l s).streams = s.streams ∧ (countTrail l s).panels = s.panels ∧ (countTrail l s).raster = s.raster ∧
    (countTrail l s).menu = s.menu ∧ (countTrail l s).audio = s.audio ∧ (countTrail l s).chime = s.chime ∧
    (countTrail l s).store = s.store ∧ (countTrail l s).uplink = s.uplink ∧ (countTrail l s).control = s.control ∧
    (countTrail l s).attention = s.attention ∧ (countTrail l s).mem = s.mem ∧ (countTrail l s).pending = s.pending ∧
    (countTrail l s).out = s.out := by
  refine ⟨?_, ?_, ?_, ?_, ?_, ?_, ?_, ?_, ?_, ?_, ?_, ?_, ?_, ?_, ?_, ?_⟩ <;>
  (
  unfold countTrail; (try dsimp only)
  (repeat' split) <;> (try simp))
@[simp] theorem dropStaged_keeps (t : Fin 32) (x : VideoRx) (s : State) :
    (dropStaged t x s).vehicle = s.vehicle ∧ (dropStaged t x s).takeover = s.takeover ∧ (dropStaged t x s).guide = s.guide ∧
    (dropStaged t x s).panels = s.panels ∧ (dropStaged t x s).raster = s.raster ∧ (dropStaged t x s).menu = s.menu ∧
    (dropStaged t x s).audio = s.audio ∧ (dropStaged t x s).chime = s.chime ∧ (dropStaged t x s).store = s.store ∧
    (dropStaged t x s).links = s.links ∧ (dropStaged t x s).uplink = s.uplink ∧ (dropStaged t x s).control = s.control ∧
    (dropStaged t x s).attention = s.attention ∧ (dropStaged t x s).mem = s.mem ∧ (dropStaged t x s).pending = s.pending ∧
    (dropStaged t x s).out = s.out := by
  refine ⟨?_, ?_, ?_, ?_, ?_, ?_, ?_, ?_, ?_, ?_, ?_, ?_, ?_, ?_, ?_, ?_⟩ <;>
  (
  unfold dropStaged; (try dsimp only)
  (repeat' split) <;> (try simp))
@[simp] theorem settleStaged_keeps (t : Fin 32) (x : VideoRx) (s : State) :
    (settleStaged t x s).vehicle = s.vehicle ∧ (settleStaged t x s).takeover = s.takeover ∧ (settleStaged t x s).guide = s.guide ∧
    (settleStaged t x s).panels = s.panels ∧ (settleStaged t x s).raster = s.raster ∧ (settleStaged t x s).menu = s.menu ∧
    (settleStaged t x s).audio = s.audio ∧ (settleStaged t x s).chime = s.chime ∧ (settleStaged t x s).store = s.store ∧
    (settleStaged t x s).links = s.links ∧ (settleStaged t x s).uplink = s.uplink ∧ (settleStaged t x s).control = s.control ∧
    (settleStaged t x s).attention = s.attention ∧ (settleStaged t x s).mem = s.mem ∧ (settleStaged t x s).pending = s.pending ∧
    (settleStaged t x s).out = s.out := by
  refine ⟨?_, ?_, ?_, ?_, ?_, ?_, ?_, ?_, ?_, ?_, ?_, ?_, ?_, ?_, ?_, ?_⟩ <;>
  (
  unfold settleStaged; (try dsimp only)
  (repeat' split) <;> (try simp))
@[simp] theorem freeBuffer_keeps (c : FrameContext) (s : State) :
    (freeBuffer c s).vehicle = s.vehicle ∧ (freeBuffer c s).takeover = s.takeover ∧ (freeBuffer c s).guide = s.guide ∧
    (freeBuffer c s).panels = s.panels ∧ (freeBuffer c s).raster = s.raster ∧ (freeBuffer c s).menu = s.menu ∧
    (freeBuffer c s).audio = s.audio ∧ (freeBuffer c s).chime = s.chime ∧ (freeBuffer c s).store = s.store ∧
    (freeBuffer c s).links = s.links ∧ (freeBuffer c s).uplink = s.uplink ∧ (freeBuffer c s).control = s.control ∧
    (freeBuffer c s).attention = s.attention ∧ (freeBuffer c s).mem = s.mem ∧ (freeBuffer c s).pending = s.pending ∧
    (freeBuffer c s).out = s.out := by
  refine ⟨?_, ?_, ?_, ?_, ?_, ?_, ?_, ?_, ?_, ?_, ?_, ?_, ?_, ?_, ?_, ?_⟩ <;>
  (
  unfold freeBuffer; (try dsimp only)
  (repeat' split) <;> (try simp))
@[simp] theorem discardFrame_keeps (t : Fin 32) (c : FrameContext) (f : TagCounters → TagCounters) (s : State) :
    (discardFrame t c f s).vehicle = s.vehicle ∧ (discardFrame t c f s).takeover = s.takeover ∧ (discardFrame t c f s).guide = s.guide ∧
    (discardFrame t c f s).panels = s.panels ∧ (discardFrame t c f s).raster = s.raster ∧ (discardFrame t c f s).menu = s.menu ∧
    (discardFrame t c f s).audio = s.audio ∧ (discardFrame t c f s).chime = s.chime ∧ (discardFrame t c f s).store = s.store ∧
    (discardFrame t c f s).links = s.links ∧ (discardFrame t c f s).uplink = s.uplink ∧ (discardFrame t c f s).control = s.control ∧
    (discardFrame t c f s).attention = s.attention ∧ (discardFrame t c f s).mem = s.mem ∧ (discardFrame t c f s).pending = s.pending ∧
    (discardFrame t c f s).out = s.out := by
  refine ⟨?_, ?_, ?_, ?_, ?_, ?_, ?_, ?_, ?_, ?_, ?_, ?_, ?_, ?_, ?_, ?_⟩ <;>
  (
  unfold discardFrame; (try dsimp only)
  (repeat' split) <;> (try simp))
@[simp] theorem abandonFrame_keeps (t : Fin 32) (s : State) :
    (abandonFrame t s).vehicle = s.vehicle ∧ (abandonFrame t s).takeover = s.takeover ∧ (abandonFrame t s).guide = s.guide ∧
    (abandonFrame t s).panels = s.panels ∧ (abandonFrame t s).raster = s.raster ∧ (abandonFrame t s).menu = s.menu ∧
    (abandonFrame t s).audio = s.audio ∧ (abandonFrame t s).chime = s.chime ∧ (abandonFrame t s).store = s.store ∧
    (abandonFrame t s).links = s.links ∧ (abandonFrame t s).uplink = s.uplink ∧ (abandonFrame t s).control = s.control ∧
    (abandonFrame t s).attention = s.attention ∧ (abandonFrame t s).mem = s.mem ∧ (abandonFrame t s).pending = s.pending ∧
    (abandonFrame t s).out = s.out := by
  refine ⟨?_, ?_, ?_, ?_, ?_, ?_, ?_, ?_, ?_, ?_, ?_, ?_, ?_, ?_, ?_, ?_⟩ <;>
  (
  unfold abandonFrame; (try dsimp only)
  (repeat' split) <;> (try simp))
@[simp] theorem abandonLink_keeps (x : VideoRx) (s : State) :
    (abandonLink x s).vehicle = s.vehicle ∧ (abandonLink x s).takeover = s.takeover ∧ (abandonLink x s).guide = s.guide ∧
    (abandonLink x s).panels = s.panels ∧ (abandonLink x s).raster = s.raster ∧ (abandonLink x s).menu = s.menu ∧
    (abandonLink x s).audio = s.audio ∧ (abandonLink x s).chime = s.chime ∧ (abandonLink x s).store = s.store ∧
    (abandonLink x s).links = s.links ∧ (abandonLink x s).uplink = s.uplink ∧ (abandonLink x s).control = s.control ∧
    (abandonLink x s).attention = s.attention ∧ (abandonLink x s).mem = s.mem ∧ (abandonLink x s).pending = s.pending ∧
    (abandonLink x s).out = s.out := by
  refine ⟨?_, ?_, ?_, ?_, ?_, ?_, ?_, ?_, ?_, ?_, ?_, ?_, ?_, ?_, ?_, ?_⟩
  · unfold abandonLink; exact foldl_keeps (·.vehicle) _ (fun s a => by (try dsimp only); (repeat' split) <;> simp) _ _
  · unfold abandonLink; exact foldl_keeps (·.takeover) _ (fun s a => by (try dsimp only); (repeat' split) <;> simp) _ _
  · unfold abandonLink; exact foldl_keeps (·.guide) _ (fun s a => by (try dsimp only); (repeat' split) <;> simp) _ _
  · unfold abandonLink; exact foldl_keeps (·.panels) _ (fun s a => by (try dsimp only); (repeat' split) <;> simp) _ _
  · unfold abandonLink; exact foldl_keeps (·.raster) _ (fun s a => by (try dsimp only); (repeat' split) <;> simp) _ _
  · unfold abandonLink; exact foldl_keeps (·.menu) _ (fun s a => by (try dsimp only); (repeat' split) <;> simp) _ _
  · unfold abandonLink; exact foldl_keeps (·.audio) _ (fun s a => by (try dsimp only); (repeat' split) <;> simp) _ _
  · unfold abandonLink; exact foldl_keeps (·.chime) _ (fun s a => by (try dsimp only); (repeat' split) <;> simp) _ _
  · unfold abandonLink; exact foldl_keeps (·.store) _ (fun s a => by (try dsimp only); (repeat' split) <;> simp) _ _
  · unfold abandonLink; exact foldl_keeps (·.links) _ (fun s a => by (try dsimp only); (repeat' split) <;> simp) _ _
  · unfold abandonLink; exact foldl_keeps (·.uplink) _ (fun s a => by (try dsimp only); (repeat' split) <;> simp) _ _
  · unfold abandonLink; exact foldl_keeps (·.control) _ (fun s a => by (try dsimp only); (repeat' split) <;> simp) _ _
  · unfold abandonLink; exact foldl_keeps (·.attention) _ (fun s a => by (try dsimp only); (repeat' split) <;> simp) _ _
  · unfold abandonLink; exact foldl_keeps (·.mem) _ (fun s a => by (try dsimp only); (repeat' split) <;> simp) _ _
  · unfold abandonLink; exact foldl_keeps (·.pending) _ (fun s a => by (try dsimp only); (repeat' split) <;> simp) _ _
  · unfold abandonLink; exact foldl_keeps (·.out) _ (fun s a => by (try dsimp only); (repeat' split) <;> simp) _ _
@[simp] theorem loadFrame_keeps (t : Fin 32) (x : VideoRx) (n : Nat) (d : VideoDescriptor) (s : State) :
    (loadFrame t x n d s).vehicle = s.vehicle ∧ (loadFrame t x n d s).takeover = s.takeover ∧ (loadFrame t x n d s).guide = s.guide ∧
    (loadFrame t x n d s).panels = s.panels ∧ (loadFrame t x n d s).raster = s.raster ∧ (loadFrame t x n d s).menu = s.menu ∧
    (loadFrame t x n d s).audio = s.audio ∧ (loadFrame t x n d s).chime = s.chime ∧ (loadFrame t x n d s).store = s.store ∧
    (loadFrame t x n d s).links = s.links ∧ (loadFrame t x n d s).uplink = s.uplink ∧ (loadFrame t x n d s).control = s.control ∧
    (loadFrame t x n d s).attention = s.attention ∧ (loadFrame t x n d s).mem = s.mem ∧ (loadFrame t x n d s).pending = s.pending ∧
    (loadFrame t x n d s).out = s.out := by
  refine ⟨?_, ?_, ?_, ?_, ?_, ?_, ?_, ?_, ?_, ?_, ?_, ?_, ?_, ?_, ?_, ?_⟩ <;>
  (
  unfold loadFrame; (try dsimp only)
  (repeat' split) <;> (try simp))
@[simp] theorem beginFrame_keeps (t : Fin 32) (x : VideoRx) (n : Nat) (d : VideoDescriptor) (s : State) :
    (beginFrame t x n d s).vehicle = s.vehicle ∧ (beginFrame t x n d s).takeover = s.takeover ∧ (beginFrame t x n d s).guide = s.guide ∧
    (beginFrame t x n d s).panels = s.panels ∧ (beginFrame t x n d s).raster = s.raster ∧ (beginFrame t x n d s).menu = s.menu ∧
    (beginFrame t x n d s).audio = s.audio ∧ (beginFrame t x n d s).chime = s.chime ∧ (beginFrame t x n d s).store = s.store ∧
    (beginFrame t x n d s).links = s.links ∧ (beginFrame t x n d s).uplink = s.uplink ∧ (beginFrame t x n d s).control = s.control ∧
    (beginFrame t x n d s).attention = s.attention ∧ (beginFrame t x n d s).mem = s.mem ∧ (beginFrame t x n d s).pending = s.pending ∧
    (beginFrame t x n d s).out = s.out := by
  refine ⟨?_, ?_, ?_, ?_, ?_, ?_, ?_, ?_, ?_, ?_, ?_, ?_, ?_, ?_, ?_, ?_⟩ <;>
  (
  unfold beginFrame; (try dsimp only)
  (repeat' split) <;> (try simp))
@[simp] theorem markLine_keeps (t : Fin 32) (n : Nat) (m : LineMark) (s : State) :
    (markLine t n m s).vehicle = s.vehicle ∧ (markLine t n m s).takeover = s.takeover ∧ (markLine t n m s).guide = s.guide ∧
    (markLine t n m s).panels = s.panels ∧ (markLine t n m s).raster = s.raster ∧ (markLine t n m s).menu = s.menu ∧
    (markLine t n m s).audio = s.audio ∧ (markLine t n m s).chime = s.chime ∧ (markLine t n m s).store = s.store ∧
    (markLine t n m s).links = s.links ∧ (markLine t n m s).uplink = s.uplink ∧ (markLine t n m s).control = s.control ∧
    (markLine t n m s).attention = s.attention ∧ (markLine t n m s).mem = s.mem ∧ (markLine t n m s).pending = s.pending ∧
    (markLine t n m s).out = s.out := by
  refine ⟨?_, ?_, ?_, ?_, ?_, ?_, ?_, ?_, ?_, ?_, ?_, ?_, ?_, ?_, ?_, ?_⟩ <;>
  (
  unfold markLine; (try dsimp only)
  (repeat' split) <;> (try simp))
@[simp] theorem stageLine_keeps (t : Fin 32) (x : VideoRx) (n a : Nat) (bs : List Byte) (s : State) :
    (stageLine t x n a bs s).vehicle = s.vehicle ∧ (stageLine t x n a bs s).takeover = s.takeover ∧ (stageLine t x n a bs s).guide = s.guide ∧
    (stageLine t x n a bs s).panels = s.panels ∧ (stageLine t x n a bs s).raster = s.raster ∧ (stageLine t x n a bs s).menu = s.menu ∧
    (stageLine t x n a bs s).audio = s.audio ∧ (stageLine t x n a bs s).chime = s.chime ∧ (stageLine t x n a bs s).store = s.store ∧
    (stageLine t x n a bs s).links = s.links ∧ (stageLine t x n a bs s).uplink = s.uplink ∧ (stageLine t x n a bs s).control = s.control ∧
    (stageLine t x n a bs s).attention = s.attention ∧ (stageLine t x n a bs s).mem = s.mem ∧ (stageLine t x n a bs s).pending = s.pending ∧
    (stageLine t x n a bs s).out = s.out := by
  refine ⟨?_, ?_, ?_, ?_, ?_, ?_, ?_, ?_, ?_, ?_, ?_, ?_, ?_, ?_, ?_, ?_⟩ <;>
  (
  unfold stageLine; (try dsimp only)
  (repeat' split) <;> (try simp))
@[simp] theorem lineArrives_keeps (t : Fin 32) (x : VideoRx) (p : Packet) (s : State) :
    (lineArrives t x p s).vehicle = s.vehicle ∧ (lineArrives t x p s).takeover = s.takeover ∧ (lineArrives t x p s).guide = s.guide ∧
    (lineArrives t x p s).panels = s.panels ∧ (lineArrives t x p s).raster = s.raster ∧ (lineArrives t x p s).menu = s.menu ∧
    (lineArrives t x p s).audio = s.audio ∧ (lineArrives t x p s).chime = s.chime ∧ (lineArrives t x p s).store = s.store ∧
    (lineArrives t x p s).uplink = s.uplink ∧ (lineArrives t x p s).control = s.control ∧ (lineArrives t x p s).attention = s.attention ∧
    (lineArrives t x p s).mem = s.mem ∧ (lineArrives t x p s).pending = s.pending ∧ (lineArrives t x p s).out = s.out := by
  refine ⟨?_, ?_, ?_, ?_, ?_, ?_, ?_, ?_, ?_, ?_, ?_, ?_, ?_, ?_, ?_⟩ <;>
  (
  unfold lineArrives; (try dsimp only)
  (repeat' split) <;> (try simp))
@[simp] theorem endFrame_keeps (t : Fin 32) (x : VideoRx) (n : Nat) (s : State) :
    (endFrame t x n s).vehicle = s.vehicle ∧ (endFrame t x n s).takeover = s.takeover ∧ (endFrame t x n s).guide = s.guide ∧
    (endFrame t x n s).panels = s.panels ∧ (endFrame t x n s).raster = s.raster ∧ (endFrame t x n s).menu = s.menu ∧
    (endFrame t x n s).audio = s.audio ∧ (endFrame t x n s).chime = s.chime ∧ (endFrame t x n s).store = s.store ∧
    (endFrame t x n s).links = s.links ∧ (endFrame t x n s).uplink = s.uplink ∧ (endFrame t x n s).control = s.control ∧
    (endFrame t x n s).attention = s.attention ∧ (endFrame t x n s).mem = s.mem ∧ (endFrame t x n s).pending = s.pending ∧
    (endFrame t x n s).out = s.out := by
  refine ⟨?_, ?_, ?_, ?_, ?_, ?_, ?_, ?_, ?_, ?_, ?_, ?_, ?_, ?_, ?_, ?_⟩ <;>
  (
  unfold endFrame; (try dsimp only)
  (repeat' split) <;> (try simp))
@[simp] theorem audioArrives_keeps (t : Fin 32) (d : AudioDescriptor) (p : Packet) (s : State) :
    (audioArrives t d p s).vehicle = s.vehicle ∧ (audioArrives t d p s).takeover = s.takeover ∧ (audioArrives t d p s).guide = s.guide ∧
    (audioArrives t d p s).panels = s.panels ∧ (audioArrives t d p s).raster = s.raster ∧ (audioArrives t d p s).menu = s.menu ∧
    (audioArrives t d p s).chime = s.chime ∧ (audioArrives t d p s).store = s.store ∧ (audioArrives t d p s).uplink = s.uplink ∧
    (audioArrives t d p s).control = s.control ∧ (audioArrives t d p s).attention = s.attention ∧ (audioArrives t d p s).mem = s.mem ∧
    (audioArrives t d p s).pending = s.pending ∧ (audioArrives t d p s).out = s.out := by
  refine ⟨?_, ?_, ?_, ?_, ?_, ?_, ?_, ?_, ?_, ?_, ?_, ?_, ?_, ?_⟩ <;>
  (
  unfold audioArrives; (try dsimp only)
  (repeat' split) <;> (try simp))
@[simp] theorem softResetBegins_keeps (s : State) :
    (softResetBegins s).vehicle = s.vehicle ∧ (softResetBegins s).takeover = s.takeover ∧
    (softResetBegins s).guide = s.guide ∧ (softResetBegins s).streams = s.streams ∧
    (softResetBegins s).panels = s.panels ∧ (softResetBegins s).raster = s.raster ∧
    (softResetBegins s).menu = s.menu ∧ (softResetBegins s).audio = s.audio ∧ (softResetBegins s).chime = s.chime ∧
    (softResetBegins s).store = s.store ∧ (softResetBegins s).links = s.links ∧
    (softResetBegins s).uplink = s.uplink ∧ (softResetBegins s).attention = s.attention ∧
    (softResetBegins s).mem = s.mem ∧ (softResetBegins s).pending = s.pending ∧ (softResetBegins s).out = s.out := ⟨rfl, rfl, rfl, rfl, rfl, rfl, rfl, rfl, rfl, rfl, rfl, rfl, rfl, rfl, rfl, rfl⟩
@[simp] theorem waitingLeft_keeps (s : State) :
    (waitingLeft s).vehicle = s.vehicle ∧ (waitingLeft s).takeover = s.takeover ∧ (waitingLeft s).guide = s.guide ∧
    (waitingLeft s).streams = s.streams ∧ (waitingLeft s).panels = s.panels ∧ (waitingLeft s).raster = s.raster ∧
    (waitingLeft s).menu = s.menu ∧ (waitingLeft s).audio = s.audio ∧ (waitingLeft s).chime = s.chime ∧
    (waitingLeft s).store = s.store ∧ (waitingLeft s).links = s.links ∧ (waitingLeft s).uplink = s.uplink ∧
    (waitingLeft s).attention = s.attention ∧ (waitingLeft s).mem = s.mem ∧ (waitingLeft s).pending = s.pending ∧
    (waitingLeft s).out = s.out := by
  unfold waitingLeft
  split <;> simp
@[simp] theorem emptyUplink_keeps (s : State) :
    (emptyUplink s).vehicle = s.vehicle ∧ (emptyUplink s).takeover = s.takeover ∧ (emptyUplink s).guide = s.guide ∧
    (emptyUplink s).streams = s.streams ∧ (emptyUplink s).panels = s.panels ∧ (emptyUplink s).raster = s.raster ∧
    (emptyUplink s).menu = s.menu ∧ (emptyUplink s).audio = s.audio ∧ (emptyUplink s).chime = s.chime ∧
    (emptyUplink s).store = s.store ∧ (emptyUplink s).attention = s.attention ∧ (emptyUplink s).mem = s.mem ∧
    (emptyUplink s).pending = s.pending ∧ (emptyUplink s).out = s.out := by
  unfold emptyUplink; dsimp only
  split <;> simp
@[simp] theorem leavingEffects_keeps (l : Link) (s : State) :
    (leavingEffects l s).vehicle = s.vehicle ∧ (leavingEffects l s).guide = s.guide ∧ (leavingEffects l s).raster = s.raster ∧
    (leavingEffects l s).menu = s.menu ∧ (leavingEffects l s).audio = s.audio ∧ (leavingEffects l s).chime = s.chime ∧
    (leavingEffects l s).store = s.store ∧ (leavingEffects l s).mem = s.mem ∧ (leavingEffects l s).pending = s.pending ∧
    (leavingEffects l s).out = s.out := by
  refine ⟨?_, ?_, ?_, ?_, ?_, ?_, ?_, ?_, ?_, ?_⟩ <;>
  (
  cases l <;> simp [leavingEffects])
@[simp] theorem putDown_keeps (l : Link) (s : State) :
    (putDown l s).vehicle = s.vehicle ∧ (putDown l s).guide = s.guide ∧ (putDown l s).raster = s.raster ∧
    (putDown l s).menu = s.menu ∧ (putDown l s).audio = s.audio ∧ (putDown l s).chime = s.chime ∧
    (putDown l s).store = s.store ∧ (putDown l s).mem = s.mem ∧ (putDown l s).pending = s.pending ∧
    (putDown l s).out = s.out := by
  refine ⟨?_, ?_, ?_, ?_, ?_, ?_, ?_, ?_, ?_, ?_⟩ <;>
  (
  unfold putDown; (try dsimp only)
  (repeat' split) <;> (try simp))
@[simp] theorem enterLost_keeps (c : LostCause) (s : State) :
    (enterLost c s).vehicle = s.vehicle ∧ (enterLost c s).guide = s.guide ∧ (enterLost c s).menu = s.menu ∧
    (enterLost c s).audio = s.audio ∧ (enterLost c s).chime = s.chime ∧ (enterLost c s).store = s.store ∧
    (enterLost c s).mem = s.mem ∧ (enterLost c s).pending = s.pending ∧ (enterLost c s).out = s.out := by
  refine ⟨?_, ?_, ?_, ?_, ?_, ?_, ?_, ?_, ?_⟩ <;>
  (
  unfold enterLost; (try dsimp only)
  (repeat' split) <;> (try simp))
@[simp] theorem restartWatchdog_keeps (s : State) :
    (restartWatchdog s).vehicle = s.vehicle ∧ (restartWatchdog s).guide = s.guide ∧ (restartWatchdog s).streams = s.streams ∧
    (restartWatchdog s).panels = s.panels ∧ (restartWatchdog s).raster = s.raster ∧ (restartWatchdog s).menu = s.menu ∧
    (restartWatchdog s).audio = s.audio ∧ (restartWatchdog s).chime = s.chime ∧ (restartWatchdog s).store = s.store ∧
    (restartWatchdog s).links = s.links ∧ (restartWatchdog s).uplink = s.uplink ∧ (restartWatchdog s).control = s.control ∧
    (restartWatchdog s).attention = s.attention ∧ (restartWatchdog s).mem = s.mem ∧ (restartWatchdog s).pending = s.pending ∧
    (restartWatchdog s).out = s.out := ⟨rfl, rfl, rfl, rfl, rfl, rfl, rfl, rfl, rfl, rfl, rfl, rfl, rfl, rfl, rfl, rfl⟩
@[simp] theorem goodFrame_keeps (n : Nat) (s : State) :
    (goodFrame n s).vehicle = s.vehicle ∧ (goodFrame n s).guide = s.guide ∧ (goodFrame n s).streams = s.streams ∧
    (goodFrame n s).panels = s.panels ∧ (goodFrame n s).menu = s.menu ∧ (goodFrame n s).audio = s.audio ∧
    (goodFrame n s).chime = s.chime ∧ (goodFrame n s).store = s.store ∧ (goodFrame n s).control = s.control ∧
    (goodFrame n s).mem = s.mem ∧ (goodFrame n s).pending = s.pending ∧ (goodFrame n s).out = s.out := by
  refine ⟨?_, ?_, ?_, ?_, ?_, ?_, ?_, ?_, ?_, ?_, ?_, ?_⟩ <;>
  (
  unfold goodFrame firstLive countRepeat countRejoin enterFrozen rejoinLive; (try dsimp only)
  (repeat' split) <;> (try simp))
@[simp] theorem viewLinkDown_keeps (s : State) :
    (viewLinkDown s).vehicle = s.vehicle ∧ (viewLinkDown s).guide = s.guide ∧ (viewLinkDown s).menu = s.menu ∧
    (viewLinkDown s).audio = s.audio ∧ (viewLinkDown s).chime = s.chime ∧ (viewLinkDown s).store = s.store ∧
    (viewLinkDown s).mem = s.mem ∧ (viewLinkDown s).pending = s.pending ∧ (viewLinkDown s).out = s.out := by
  refine ⟨?_, ?_, ?_, ?_, ?_, ?_, ?_, ?_, ?_⟩ <;>
  (
  unfold viewLinkDown; (try dsimp only)
  (repeat' split) <;> (try simp))
@[simp] theorem engage_keeps (s : State) :
    (engage s).vehicle = s.vehicle ∧ (engage s).menu = s.menu ∧ (engage s).control = s.control ∧
    (engage s).mem = s.mem ∧ (engage s).pending = s.pending ∧ (engage s).out = s.out := by
  refine ⟨?_, ?_, ?_, ?_, ?_, ?_⟩ <;>
  (
  unfold engage; (try dsimp only)
  (repeat' split) <;> (try simp))
@[simp] theorem exitTakeover_keeps (s : State) :
    (exitTakeover s).vehicle = s.vehicle ∧ (exitTakeover s).guide = s.guide ∧ (exitTakeover s).streams = s.streams ∧
    (exitTakeover s).raster = s.raster ∧ (exitTakeover s).menu = s.menu ∧ (exitTakeover s).chime = s.chime ∧
    (exitTakeover s).store = s.store ∧ (exitTakeover s).control = s.control ∧ (exitTakeover s).mem = s.mem ∧
    (exitTakeover s).pending = s.pending := by
  refine ⟨?_, ?_, ?_, ?_, ?_, ?_, ?_, ?_, ?_, ?_⟩ <;>
  (
  unfold exitTakeover; (try dsimp only)
  (repeat' split) <;> (try simp))
@[simp] theorem enterLinger_keeps (s : State) :
    (enterLinger s).vehicle = s.vehicle ∧ (enterLinger s).guide = s.guide ∧ (enterLinger s).streams = s.streams ∧
    (enterLinger s).raster = s.raster ∧ (enterLinger s).menu = s.menu ∧ (enterLinger s).chime = s.chime ∧
    (enterLinger s).store = s.store ∧ (enterLinger s).control = s.control ∧ (enterLinger s).mem = s.mem ∧
    (enterLinger s).pending = s.pending := by
  refine ⟨?_, ?_, ?_, ?_, ?_, ?_, ?_, ?_, ?_, ?_⟩ <;>
  (
  unfold enterLinger; (try dsimp only)
  (repeat' split) <;> (try simp))
@[simp] theorem reengage_keeps (s : State) :
    (reengage s).vehicle = s.vehicle ∧ (reengage s).guide = s.guide ∧ (reengage s).streams = s.streams ∧
    (reengage s).panels = s.panels ∧ (reengage s).raster = s.raster ∧ (reengage s).menu = s.menu ∧
    (reengage s).audio = s.audio ∧ (reengage s).chime = s.chime ∧ (reengage s).store = s.store ∧
    (reengage s).links = s.links ∧ (reengage s).uplink = s.uplink ∧ (reengage s).control = s.control ∧
    (reengage s).attention = s.attention ∧ (reengage s).mem = s.mem ∧ (reengage s).pending = s.pending ∧
    (reengage s).out = s.out := ⟨rfl, rfl, rfl, rfl, rfl, rfl, rfl, rfl, rfl, rfl, rfl, rfl, rfl, rfl, rfl, rfl⟩
@[simp] theorem takeoverReverse_keeps (b : Bool) (s : State) :
    (takeoverReverse b s).vehicle = s.vehicle ∧ (takeoverReverse b s).menu = s.menu ∧ (takeoverReverse b s).control = s.control ∧
    (takeoverReverse b s).mem = s.mem ∧ (takeoverReverse b s).pending = s.pending := by
  refine ⟨?_, ?_, ?_, ?_, ?_⟩ <;>
  (
  unfold takeoverReverse; (try dsimp only)
  (repeat' split) <;> (try simp))
@[simp] theorem evaluateReverse_keeps (s : State) :
    (evaluateReverse s).menu = s.menu ∧ (evaluateReverse s).control = s.control ∧ (evaluateReverse s).mem = s.mem ∧
    (evaluateReverse s).pending = s.pending := by
  refine ⟨?_, ?_, ?_, ?_⟩ <;>
  (
  unfold evaluateReverse; (try dsimp only)
  (repeat' split) <;> (try simp))
@[simp] theorem updateMismatch_keeps (s : State) :
    (updateMismatch s).takeover = s.takeover ∧ (updateMismatch s).guide = s.guide ∧ (updateMismatch s).streams = s.streams ∧
    (updateMismatch s).panels = s.panels ∧ (updateMismatch s).raster = s.raster ∧ (updateMismatch s).menu = s.menu ∧
    (updateMismatch s).audio = s.audio ∧ (updateMismatch s).chime = s.chime ∧ (updateMismatch s).store = s.store ∧
    (updateMismatch s).links = s.links ∧ (updateMismatch s).uplink = s.uplink ∧ (updateMismatch s).control = s.control ∧
    (updateMismatch s).attention = s.attention ∧ (updateMismatch s).mem = s.mem ∧ (updateMismatch s).pending = s.pending ∧
    (updateMismatch s).out = s.out := by
  refine ⟨?_, ?_, ?_, ?_, ?_, ?_, ?_, ?_, ?_, ?_, ?_, ?_, ?_, ?_, ?_, ?_⟩ <;>
  (
  unfold updateMismatch; (try dsimp only)
  (repeat' split) <;> (try simp))
@[simp] theorem exitSpeedTest_keeps (s : State) :
    (exitSpeedTest s).vehicle = s.vehicle ∧ (exitSpeedTest s).guide = s.guide ∧ (exitSpeedTest s).streams = s.streams ∧
    (exitSpeedTest s).raster = s.raster ∧ (exitSpeedTest s).menu = s.menu ∧ (exitSpeedTest s).chime = s.chime ∧
    (exitSpeedTest s).store = s.store ∧ (exitSpeedTest s).control = s.control ∧ (exitSpeedTest s).mem = s.mem ∧
    (exitSpeedTest s).pending = s.pending := by
  refine ⟨?_, ?_, ?_, ?_, ?_, ?_, ?_, ?_, ?_, ?_⟩ <;>
  (
  unfold exitSpeedTest; (try dsimp only)
  (repeat' split) <;> (try simp))
@[simp] theorem recordStales_keeps (s : State) :
    (recordStales s).menu = s.menu ∧ (recordStales s).control = s.control ∧ (recordStales s).mem = s.mem ∧
    (recordStales s).pending = s.pending := by
  refine ⟨?_, ?_, ?_, ?_⟩ <;>
  (
  unfold recordStales; (try dsimp only)
  (repeat' split) <;> (try simp))
@[simp] theorem debounceExpires_keeps (s : State) :
    (debounceExpires s).menu = s.menu ∧ (debounceExpires s).control = s.control ∧ (debounceExpires s).mem = s.mem ∧
    (debounceExpires s).pending = s.pending := by
  refine ⟨?_, ?_, ?_, ?_⟩ <;>
  (
  unfold debounceExpires; (try dsimp only)
  (repeat' split) <;> (try simp))
@[simp] theorem vehicleReport_keeps (payload : List Byte) (s : State) :
    (vehicleReport payload s).menu = s.menu ∧ (vehicleReport payload s).control = s.control ∧ (vehicleReport payload s).mem = s.mem ∧
    (vehicleReport payload s).pending = s.pending := by
  refine ⟨?_, ?_, ?_, ?_⟩ <;>
  (
  unfold vehicleReport supplyChanges; (try dsimp only)
  (repeat' split) <;> (try simp))
@[simp] theorem openMenu_keeps (k : Seat) (s : State) :
    (openMenu k s).vehicle = s.vehicle ∧ (openMenu k s).takeover = s.takeover ∧ (openMenu k s).guide = s.guide ∧
    (openMenu k s).streams = s.streams ∧ (openMenu k s).panels = s.panels ∧ (openMenu k s).audio = s.audio ∧
    (openMenu k s).chime = s.chime ∧ (openMenu k s).store = s.store ∧ (openMenu k s).links = s.links ∧
    (openMenu k s).uplink = s.uplink ∧ (openMenu k s).control = s.control ∧ (openMenu k s).attention = s.attention ∧
    (openMenu k s).mem = s.mem ∧ (openMenu k s).pending = s.pending ∧ (openMenu k s).out = s.out := by
  refine ⟨?_, ?_, ?_, ?_, ?_, ?_, ?_, ?_, ?_, ?_, ?_, ?_, ?_, ?_, ?_⟩ <;>
  (
  unfold openMenu changeSeat; (try dsimp only)
  (repeat' split) <;> (try simp))
@[simp] theorem closeMenu_keeps (k : Seat) (s : State) :
    (closeMenu k s).vehicle = s.vehicle ∧ (closeMenu k s).takeover = s.takeover ∧ (closeMenu k s).guide = s.guide ∧
    (closeMenu k s).streams = s.streams ∧ (closeMenu k s).panels = s.panels ∧ (closeMenu k s).audio = s.audio ∧
    (closeMenu k s).chime = s.chime ∧ (closeMenu k s).store = s.store ∧ (closeMenu k s).links = s.links ∧
    (closeMenu k s).uplink = s.uplink ∧ (closeMenu k s).control = s.control ∧ (closeMenu k s).attention = s.attention ∧
    (closeMenu k s).mem = s.mem ∧ (closeMenu k s).pending = s.pending ∧ (closeMenu k s).out = s.out := by
  refine ⟨?_, ?_, ?_, ?_, ?_, ?_, ?_, ?_, ?_, ?_, ?_, ?_, ?_, ?_, ?_⟩ <;>
  (
  unfold closeMenu changeSeat; (try dsimp only)
  (repeat' split) <;> (try simp))
@[simp] theorem endProfile_keeps (o : ProfileOutcome) (s : State) :
    (endProfile o s).vehicle = s.vehicle ∧ (endProfile o s).takeover = s.takeover ∧ (endProfile o s).guide = s.guide ∧
    (endProfile o s).streams = s.streams ∧ (endProfile o s).panels = s.panels ∧ (endProfile o s).raster = s.raster ∧
    (endProfile o s).menu = s.menu ∧ (endProfile o s).audio = s.audio ∧ (endProfile o s).chime = s.chime ∧
    (endProfile o s).links = s.links ∧ (endProfile o s).uplink = s.uplink ∧ (endProfile o s).attention = s.attention ∧
    (endProfile o s).mem = s.mem ∧ (endProfile o s).pending = s.pending ∧ (endProfile o s).out = s.out := by
  refine ⟨?_, ?_, ?_, ?_, ?_, ?_, ?_, ?_, ?_, ?_, ?_, ?_, ?_, ?_, ?_⟩ <;>
  (
  unfold endProfile; (try dsimp only)
  (repeat' split) <;> (try simp))
@[simp] theorem cutShort_keeps (s : State) :
    (cutShort s).vehicle = s.vehicle ∧ (cutShort s).takeover = s.takeover ∧ (cutShort s).guide = s.guide ∧
    (cutShort s).streams = s.streams ∧ (cutShort s).panels = s.panels ∧ (cutShort s).raster = s.raster ∧
    (cutShort s).menu = s.menu ∧ (cutShort s).audio = s.audio ∧ (cutShort s).chime = s.chime ∧
    (cutShort s).mem = s.mem ∧ (cutShort s).pending = s.pending ∧ (cutShort s).out = s.out := by
  refine ⟨?_, ?_, ?_, ?_, ?_, ?_, ?_, ?_, ?_, ?_, ?_, ?_⟩ <;>
  (
  unfold cutShort; (try dsimp only)
  (repeat' split) <;> (try simp))
@[simp] theorem profileFetch_keeps (s : State) :
    (profileFetch s).vehicle = s.vehicle ∧ (profileFetch s).takeover = s.takeover ∧ (profileFetch s).guide = s.guide ∧
    (profileFetch s).streams = s.streams ∧ (profileFetch s).panels = s.panels ∧ (profileFetch s).raster = s.raster ∧
    (profileFetch s).menu = s.menu ∧ (profileFetch s).audio = s.audio ∧ (profileFetch s).chime = s.chime ∧
    (profileFetch s).links = s.links ∧ (profileFetch s).uplink = s.uplink ∧ (profileFetch s).attention = s.attention ∧
    (profileFetch s).mem = s.mem ∧ (profileFetch s).pending = s.pending ∧ (profileFetch s).out = s.out := by
  refine ⟨?_, ?_, ?_, ?_, ?_, ?_, ?_, ?_, ?_, ?_, ?_, ?_, ?_, ?_, ?_⟩ <;>
  (
  unfold profileFetch; (try dsimp only)
  (repeat' split) <;> (try simp))
@[simp] theorem profileStart_keeps (s : State) :
    (profileStart s).vehicle = s.vehicle ∧ (profileStart s).takeover = s.takeover ∧ (profileStart s).guide = s.guide ∧
    (profileStart s).streams = s.streams ∧ (profileStart s).panels = s.panels ∧ (profileStart s).raster = s.raster ∧
    (profileStart s).menu = s.menu ∧ (profileStart s).audio = s.audio ∧ (profileStart s).chime = s.chime ∧
    (profileStart s).links = s.links ∧ (profileStart s).uplink = s.uplink ∧ (profileStart s).attention = s.attention ∧
    (profileStart s).mem = s.mem ∧ (profileStart s).pending = s.pending ∧ (profileStart s).out = s.out := by
  refine ⟨?_, ?_, ?_, ?_, ?_, ?_, ?_, ?_, ?_, ?_, ?_, ?_, ?_, ?_, ?_⟩ <;>
  (
  unfold profileStart; (try dsimp only)
  (repeat' split) <;> (try simp))
@[simp] theorem profilePageRead_keeps (token : Nat) (content : Option (List Byte)) (s : State) :
    (profilePageRead token content s).vehicle = s.vehicle ∧ (profilePageRead token content s).takeover = s.takeover ∧ (profilePageRead token content s).guide = s.guide ∧
    (profilePageRead token content s).streams = s.streams ∧ (profilePageRead token content s).panels = s.panels ∧ (profilePageRead token content s).raster = s.raster ∧
    (profilePageRead token content s).menu = s.menu ∧ (profilePageRead token content s).audio = s.audio ∧ (profilePageRead token content s).chime = s.chime ∧
    (profilePageRead token content s).mem = s.mem ∧ (profilePageRead token content s).pending = s.pending ∧ (profilePageRead token content s).out = s.out := by
  refine ⟨?_, ?_, ?_, ?_, ?_, ?_, ?_, ?_, ?_, ?_, ?_, ?_⟩ <;>
  (
  unfold profilePageRead; (try dsimp only)
  (repeat' split) <;> (try simp))

end Sys2Proof.Machine
end

