-- ==== Sys2Proof/Laws/Memory.lean ====
section
/-! SUPPORT. The laws of the frame memory: a write keeps the canonical form, a byte reads as it was last written, and a
write leaves every other byte alone. -/

namespace Sys2Proof.Machine

theorem Memory.mem_cells (c : Host.Cell) : ∀ (bs : List Byte) (a : Nat), c ∈ Memory.cells a bs →
    a ≤ c.1 ∧ c.1 < a + bs.length ∧ c.2 ≠ Memory.unlisted c.1
  | [], a, h => by simp [Memory.cells] at h
  | b :: bs, a, h => by
    unfold Memory.cells at h
    split at h
    · have := Memory.mem_cells c bs (a + 1) h
      simp only [List.length_cons]; exact ⟨by omega, by omega, this.2.2⟩
    · rename_i hb
      rcases List.mem_cons.1 h with rfl | h
      · simp only [List.length_cons]; exact ⟨by omega, by omega, hb⟩
      · have := Memory.mem_cells c bs (a + 1) h
        simp only [List.length_cons]; exact ⟨by omega, by omega, this.2.2⟩

theorem Memory.cells_pairwise : ∀ (bs : List Byte) (a : Nat), (Memory.cells a bs).Pairwise (fun c d => c.1 < d.1)
  | [], _ => by simp [Memory.cells]
  | b :: bs, a => by
    unfold Memory.cells
    split
    · exact Memory.cells_pairwise bs (a + 1)
    · refine List.pairwise_cons.2 ⟨fun d hd => ?_, Memory.cells_pairwise bs (a + 1)⟩
      have := (Memory.mem_cells d bs (a + 1) hd).1
      simp only; omega

/-- A write keeps the canonical form. -/
theorem Memory.writeBlock_wf (m : List Host.Cell) (a : Nat) (bs : List Byte) (h : Memory.wf m) :
    Memory.wf (Memory.writeBlock m a bs) := by
  obtain ⟨hp, hv⟩ := h
  refine ⟨?_, fun c hc => ?_⟩
  · refine List.pairwise_append.2 ⟨hp.filter _, List.pairwise_append.2 ⟨Memory.cells_pairwise bs a, hp.filter _, ?_⟩, ?_⟩
    · intro c hc d hd
      have := Memory.mem_cells c bs a hc
      have := of_decide_eq_true (List.mem_filter.1 hd).2
      omega
    · intro c hc d hd
      have hc' := of_decide_eq_true (List.mem_filter.1 hc).2
      rcases List.mem_append.1 hd with hd | hd
      · have := (Memory.mem_cells d bs a hd).1; omega
      · have := of_decide_eq_true (List.mem_filter.1 hd).2; omega
  · rcases List.mem_append.1 hc with hc | hc
    · exact hv c (List.mem_filter.1 hc).1
    · rcases List.mem_append.1 hc with hc | hc
      · exact (Memory.mem_cells c bs a hc).2.2
      · exact hv c (List.mem_filter.1 hc).1

theorem Memory.find_filter {p : Host.Cell → Bool} {x : Nat} (m : List Host.Cell) (h : ∀ c : Host.Cell, c.1 = x → p c = true) :
    (m.filter p).find? (fun c => c.1 == x) = m.find? (fun c => c.1 == x) := by
  rw [List.find?_filter]
  congr 1
  funext c
  by_cases hc : c.1 = x
  · simp [hc, h c hc]
  · simp [hc]

theorem Memory.find_none {m : List Host.Cell} {x : Nat} (h : ∀ c ∈ m, c.1 ≠ x) : m.find? (fun c => c.1 == x) = none := by
  simpa [List.find?_eq_none] using h

theorem Memory.find_cells : ∀ (bs : List Byte) (a i : Nat) (h : i < bs.length),
    ((Memory.cells a bs).find? fun c => c.1 == a + i) =
      if bs[i] = Memory.unlisted (a + i) then none else some (a + i, bs[i])
  | [], _, _, h => by simp at h
  | b :: bs, a, 0, _ => by
    unfold Memory.cells
    split
    · rename_i hb
      simp only [List.getElem_cons_zero, Nat.add_zero, hb, if_true]
      exact Memory.find_none fun c hc => by have := (Memory.mem_cells c bs (a + 1) hc).1; omega
    · rename_i hb
      simp [hb]
  | b :: bs, a, i + 1, h => by
    have ih := Memory.find_cells bs (a + 1) i (by simpa using h)
    rw [show a + 1 + i = a + (i + 1) by omega] at ih
    unfold Memory.cells
    split
    · simpa using ih
    · rw [List.find?_cons_of_neg (by simp)]
      simpa using ih

/-- A byte written reads as written. -/
theorem Memory.read_writeBlock_inside (m : List Host.Cell) (a i : Nat) (bs : List Byte) (h : i < bs.length) :
    Memory.read (Memory.writeBlock m a bs) (a + i) = bs[i] := by
  have h1 : (m.filter fun c => decide (c.1 < a)).find? (fun c => c.1 == a + i) = none :=
    Memory.find_none fun c hc => by have := of_decide_eq_true (List.mem_filter.1 hc).2; omega
  have h3 : (m.filter fun c => decide (a + bs.length ≤ c.1)).find? (fun c => c.1 == a + i) = none :=
    Memory.find_none fun c hc => by have := of_decide_eq_true (List.mem_filter.1 hc).2; omega
  unfold Memory.read Memory.writeBlock
  rw [List.find?_append, List.find?_append, h1, h3, Memory.find_cells bs a i h]
  by_cases hb : bs[i] = Memory.unlisted (a + i) <;> simp [hb]

/-- A write leaves every byte outside it as it was. -/
theorem Memory.read_writeBlock_outside (m : List Host.Cell) (a x : Nat) (bs : List Byte) (h : x < a ∨ a + bs.length ≤ x) :
    Memory.read (Memory.writeBlock m a bs) x = Memory.read m x := by
  have hc : (Memory.cells a bs).find? (fun c => c.1 == x) = none :=
    Memory.find_none fun c hc => by have := Memory.mem_cells c bs a hc; omega
  unfold Memory.read Memory.writeBlock
  rw [List.find?_append, List.find?_append, hc, Option.none_or]
  rcases h with h | h
  · rw [Memory.find_filter m (x := x) (by simp; omega),
      Memory.find_none (m := m.filter fun c => decide (a + bs.length ≤ c.1))
        fun c hc => by have := of_decide_eq_true (List.mem_filter.1 hc).2; omega]
    simp
  · rw [Memory.find_filter m (p := fun c => decide (a + bs.length ≤ c.1)) (x := x) (by simp; omega),
      Memory.find_none (m := m.filter fun c => decide (c.1 < a))
        fun c hc => by have := of_decide_eq_true (List.mem_filter.1 hc).2; omega]
    simp

theorem Memory.read_filter (m : List Host.Cell) (p : Host.Cell → Bool) (x : Nat) (h : ∀ c : Host.Cell, c.1 = x → p c = true) :
    Memory.read (m.filter p) x = Memory.read m x := by
  unfold Memory.read; rw [Memory.find_filter m h]

/-- A block read is the bytes read one by one. -/
theorem Memory.readBlock_eq (m : List Host.Cell) (a n : Nat) :
    Memory.readBlock m a n = (List.range n).map fun i => Memory.read m (a + i) := by
  unfold Memory.readBlock
  refine List.map_congr_left fun i hi => Memory.read_filter m _ _ fun c hc => ?_
  have := List.mem_range.1 hi
  simp; omega

end Sys2Proof.Machine
end

