-- ==== Sys2Proof/Laws/Ops.lean ====
section
/-! SUPPORT. What each of the operations that many meanings share can do, said once. -/

namespace Sys2Proof.Machine

/-! ### A step -/

theorem step_front (c : Instr) (rest : List Instr) (s : State) :
    step { s with pending := c :: rest } = exec c { s with pending := rest } := rfl

theorem step_empty {s : State} (h : s.pending = []) : step s = .next (idle s) := by simp [step, h]

/-! ### The uplink (R180) -/

/-- The three cases of a REPLY handed over. -/
theorem handReply_cases (p : UplinkPacket) (s : State) :
    (s.links.uplink.state = .up ∧ s.uplink.queue.length < 16 ∧
      handReply p s = { s with uplink.queue := s.uplink.queue ++ [p] }) ∨
    (s.links.uplink.state = .up ∧ 16 ≤ s.uplink.queue.length ∧ handReply p s = { s with uplink.waiting := some p }) ∨
    (s.links.uplink.state ≠ .up ∧
      handReply p s = { s with links.uplink.replyDrop := bump s.links.uplink.replyDrop }) := by
  unfold handReply Config.uplinkPackets
  split
  · rename_i h
    split
    · rename_i h2; exact .inl ⟨h, h2, rfl⟩
    · rename_i h2; exact .inr (.inl ⟨h, by omega, rfl⟩)
  · rename_i h; exact .inr (.inr ⟨h, rfl⟩)

/-- The two cases of a NOTICE handed over. -/
theorem handNotice_cases (b : UplinkBody) (s : State) :
    (s.links.uplink.state = .up ∧ s.uplink.queue.length < 16 ∧
      handNotice b s = { s with uplink.queue := s.uplink.queue ++ [{ body := b, retrains := false }] }) ∨
    (¬(s.links.uplink.state = .up ∧ s.uplink.queue.length < 16) ∧
      handNotice b s = { s with links.uplink.uplinkDrop := bump s.links.uplink.uplinkDrop }) := by
  unfold handNotice Config.uplinkPackets
  split
  · rename_i h; exact .inl ⟨h.1, h.2, rfl⟩
  · rename_i h; exact .inr ⟨h, rfl⟩

theorem handReply_queue_le (p : UplinkPacket) {s : State} (h : s.uplink.queue.length ≤ 16) :
    (handReply p s).uplink.queue.length ≤ 16 := by
  rcases handReply_cases p s with ⟨_, _, e⟩ | ⟨_, _, e⟩ | ⟨_, e⟩ <;> rw [e] <;> simp <;> omega

theorem handNotice_queue_le (b : UplinkBody) {s : State} (h : s.uplink.queue.length ≤ 16) :
    (handNotice b s).uplink.queue.length ≤ 16 := by
  rcases handNotice_cases b s with ⟨_, _, e⟩ | ⟨_, e⟩ <;> rw [e] <;> simp <;> omega

/-! ### Flags (R191) -/

theorem Flag.bit_self (f : Flag) : f.bit.getLsbD f.number = true := by cases f <;> decide

theorem Flag.bit_other {f g : Flag} (h : f ≠ g) : f.bit.getLsbD g.number = false := by
  cases f <;> cases g <;> first | exact absurd rfl h | decide

/-- A flag raised by its owner is raised. -/
@[simp] theorem raiseFlag_raised (f : Flag) (s : State) : (raiseFlag f s).raised f = true := by
  unfold raiseFlag
  split
  · assumption
  · dsimp only
    split <;> simp [State.raised, Flag.bit_self]

/-- Raising one flag leaves every other flag as it is. -/
theorem raiseFlag_raised_other {f g : Flag} (h : f ≠ g) (s : State) : (raiseFlag f s).raised g = s.raised g := by
  unfold raiseFlag
  split
  · rfl
  · dsimp only
    split <;> simp [State.raised, Flag.bit_other h]

theorem raiseFlag_raised_of_raised (f : Flag) {g : Flag} {s : State} (h : s.raised g = true) :
    (raiseFlag f s).raised g = true := by
  by_cases e : f = g
  · rw [e]; exact raiseFlag_raised g s
  · rw [raiseFlag_raised_other e]; exact h

theorem raiseFlag_queue_le (f : Flag) {s : State} (h : s.uplink.queue.length ≤ 16) :
    (raiseFlag f s).uplink.queue.length ≤ 16 := by
  unfold raiseFlag
  split
  · exact h
  · dsimp only
    split
    · exact handNotice_queue_le _ h
    · exact h

/-! ### The array's selection (R156) -/

/-- A busy array selects nothing. -/
theorem storeSelect_busy {s : State} (h : s.store.op ≠ .idle) : storeSelect s = s := by simp [storeSelect, h]

/-- A selection changes the operation in flight, the waiting reads and programs, and the transaction's buffers. -/
theorem storeSelect_cases (s : State) : ∃ op reads txQueue badMarks t,
    storeSelect s = { s with
      store.op := op, store.reads := reads, store.txQueue := txQueue, store.badMarks := badMarks, store.transaction := t } := by
  unfold storeSelect
  (repeat' split) <;> exact ⟨_, _, _, _, _, rfl⟩

/-! ### The array's pages (R153, R157) -/

/-- A page put into the array is found there. -/
theorem find_putPage_same (a : List (Nat × ArrayPage)) (n : Nat) (p : ArrayPage) :
    (putPage a n p).find? (fun e => e.1 == n) = some (n, p) := by
  have h : (a.filter fun e => e.1 < n).find? (fun e => e.1 == n) = none := by
    simp only [List.find?_eq_none, List.mem_filter, decide_eq_true_eq, beq_iff_eq]
    omega
  simp [putPage, List.find?_append, h]

/-- Another page is found as it was. -/
theorem find_putPage_other (a : List (Nat × ArrayPage)) {n m : Nat} (h : m ≠ n) (p : ArrayPage) :
    (putPage a n p).find? (fun e => e.1 == m) = a.find? (fun e => e.1 == m) := by
  have hn : (n == m) = false := by simpa using fun e => h e.symm
  rw [putPage, List.find?_append, List.find?_cons_of_neg (by simp [hn]), List.find?_filter, List.find?_filter]
  induction a with
  | nil => rfl
  | cons e a ih =>
    by_cases he : e.1 = m
    · rcases Nat.lt_or_gt_of_ne h with hlt | hgt
      · simp [List.find?_cons, he, hlt]
      · have hnone : (a.find? fun x => decide (x.1 < n) && decide (x.1 = m)) = none := by
          simp only [List.find?_eq_none, Bool.and_eq_true, decide_eq_true_eq]
          omega
        simp [he, hgt, Nat.not_lt.mpr (Nat.le_of_lt hgt), hnone]
    · simpa [List.find?_cons, he] using ih

/-- The bad-mark write sets the mark it is given, and leaves the page's other bytes (R157). -/
theorem readPage_putMark (b : Fin 256) (mark : Bool) (st : Store) :
    readPage (putMark b mark st).array b 0 = { readPage st.array b 0 with runtimeBad := mark } := by
  simp only [putMark, readPage, find_putPage_same, ArrayPage.content]

/-- The bad-mark write leaves every other page (R157). -/
theorem readPage_putMark_other {b c : Fin 256} {page : Nat} (hp : page < 64) (h : c ≠ b ∨ page ≠ 0) (mark : Bool) (st : Store) :
    readPage (putMark b mark st).array c page = readPage st.array c page := by
  have hn : pageNumber c page ≠ pageNumber b 0 := by
    simp only [pageNumber, Config.pagesPerBlock]
    intro e
    have : c.val = b.val ∧ page = 0 := by omega
    rcases h with h | h
    · exact h (Fin.ext this.1)
    · exact h this.2
  simp only [putMark, readPage, find_putPage_other _ hn]

/-! ### What a millisecond brings about (log entry 19) -/

/-- An event that is due has its effect. -/
@[simp] theorem whenDue_true (event : State → State) (s : State) : whenDue true event s = event s := rfl

/-- An event that is not due has none. -/
@[simp] theorem whenDue_false (event : State → State) (s : State) : whenDue false event s = s := rfl

/-- The inactivity timer after a key (R110, R111, R94): untouched on a closed menu, else restarted, with a request when it
starts or stops by that. -/
theorem touchTimer_cases (k : Seat) (s : State) :
    ((s.seat k).isOpen = false ∧ touchTimer k s = s) ∨
    ((s.seat k).isOpen = true ∧ (s.seat k).restartTimer.timer.isSome = (s.seat k).timer.isSome ∧
      touchTimer k s = s.setSeat k (s.seat k).restartTimer) ∨
    ((s.seat k).isOpen = true ∧ (s.seat k).restartTimer.timer.isSome ≠ (s.seat k).timer.isSome ∧
      touchTimer k s = requestMenu k (s.setSeat k (s.seat k).restartTimer)) := by
  unfold touchTimer changeSeat
  cases ho : (s.seat k).isOpen
  · exact .inl ⟨rfl, by simp [ho]⟩
  · by_cases hs : (s.seat k).restartTimer.timer.isSome = (s.seat k).timer.isSome
    · exact .inr (.inl ⟨rfl, hs, by simp [ho, hs]⟩)
    · exact .inr (.inr ⟨rfl, hs, by simp [ho, hs]⟩)

/-! ### Video admission (R54) -/

/-- A tag number of a descriptor from the right receiver is admitted. -/
theorem admission_video {rx : VideoRx} {t : Fin 32} {d : VideoDescriptor} {s : State} (ht : t ≠ 0)
    (hd : (s.tag t).descriptor = some (.video d)) (hs : d.source = rx) :
    admission rx false t.val s = .ok (t, .video d) := by
  have h0 : t.val ≠ 0 := fun h => ht (Fin.ext h)
  simp [admission, h0, fin?, hd, hs]

theorem admission_audio {t : Fin 32} {d : AudioDescriptor} {s : State} (ht : t ≠ 0)
    (hd : (s.tag t).descriptor = some (.audio d)) : admission .downlink true t.val s = .ok (t, .audio d) := by
  have h0 : t.val ≠ 0 := fun h => ht (Fin.ext h)
  simp [admission, h0, fin?, hd]

/-! ### The writer's choice (R65) -/

theorem writerChoice_cases (r : Ring) :
    (∃ k, r.buffers.findIdx? (fun b => b.state == .free) = some k ∧ writerChoice r = some (k, false)) ∨
    (r.buffers.findIdx? (fun b => b.state == .free) = none ∧
      ((∃ k b, r.latest = some k ∧ r.buffer? k = some b ∧ b.holds = 0 ∧ writerChoice r = some (k, true)) ∨
        writerChoice r = none)) := by
  unfold writerChoice
  split
  · rename_i k h; exact .inl ⟨k, h, rfl⟩
  · rename_i h
    refine .inr ⟨h, ?_⟩
    split
    · exact .inr rfl
    · rename_i k hk
      split
      · rename_i b hb
        split
        · rename_i h0; exact .inl ⟨k, b, hk, hb, h0, rfl⟩
        · exact .inr rfl
      · exact .inr rfl

/-! ### What of a frame is put out (R22, R23) -/

@[simp] theorem FrameInProgress.shown_blank (f : FrameInProgress) (t : Takeover) : (f.shown t).blank = f.blank := rfl
@[simp] theorem FrameInProgress.shown_blanked (f : FrameInProgress) (t : Takeover) : (f.shown t).blanked = f.blanked := rfl
@[simp] theorem FrameInProgress.shown_width (f : FrameInProgress) (t : Takeover) : (f.shown t).width = f.width := rfl
@[simp] theorem FrameInProgress.shown_height (f : FrameInProgress) (t : Takeover) : (f.shown t).height = f.height := rfl
@[simp] theorem FrameInProgress.shown_background (f : FrameInProgress) (t : Takeover) :
    (f.shown t).background = f.background := rfl

theorem FrameInProgress.mem_shown (f : FrameInProgress) (t : Takeover) (u : Surface) :
    u ∈ (f.shown t).surfaces ↔ u ∈ f.surfaces ∧ u.shows.inView (f.viewIn t) = true := List.mem_filter

/-- A frame none of whose surfaces has a view condition, as those of LEFT, of RIGHT and of FRONT in IDLE, is put out as it
was fixed. -/
theorem FrameInProgress.shown_of_always (f : FrameInProgress) (t : Takeover) (h : ∀ u ∈ f.surfaces, u.shows = .always) :
    f.shown t = f := by
  have : f.surfaces.filter (fun u => u.shows.inView (f.viewIn t)) = f.surfaces :=
    List.filter_eq_self.mpr fun u hu => by rw [h u hu]; rfl
  rw [FrameInProgress.shown, this]

end Sys2Proof.Machine
end

