-- ==== Sys2Proof/Laws/Packets.lean ====
section
/-! SUPPORT. Packets laid out as R184 says pass the checks of R176, and what a receiver makes of them. -/

namespace Sys2Proof.Machine

theorem beBytes_length (n x : Nat) : (beBytes n x).length = n := by
  induction n generalizing x with
  | zero => rfl
  | succ n ih => simp [beBytes, ih]

theorem beBytes_two (x : Nat) : beBytes 2 x = [BitVec.ofNat 8 (x / 256), BitVec.ofNat 8 x] := rfl

/-- Two big-endian bytes of a number below 65536 read back as it. -/
theorem beNat_beBytes_two {x : Nat} (h : x < 65536) : beNat [BitVec.ofNat 8 (x / 256), BitVec.ofNat 8 x] = x := by
  simp only [beNat, List.foldl, BitVec.toNat_ofNat]; omega

theorem kind_code (k : PacketKind) : kind? k.code = some k := by cases k <;> rfl

/-- The payload check passes on a payload with its own CRC, and on an empty body (R176, R177). -/
theorem payloadCheck_good (payload : List Byte) :
    payloadCheck (payload ++ (if payload = [] then [] else beBytes 4 (crc32 payload).toNat)) = (payload, true) := by
  by_cases h : payload = []
  · simp [h, payloadCheck]
  · have hl : 1 ≤ payload.length := List.length_pos_of_ne_nil h
    have h4 := beBytes_length 4 (crc32 payload).toNat
    simp only [h, if_false, payloadCheck, List.length_append, h4]
    rw [if_neg (by omega), if_neg (by omega)]
    simp

/-- The payload check fails on a payload with another CRC (R176). -/
theorem payloadCheck_bad {payload crc : List Byte} (h : payload ≠ []) (hc : crc.length = 4)
    (hb : crc ≠ beBytes 4 (crc32 payload).toNat) : payloadCheck (payload ++ crc) = (payload, false) := by
  have hl : 1 ≤ payload.length := List.length_pos_of_ne_nil h
  simp only [payloadCheck, List.length_append, hc]
  rw [if_neg (by omega), if_neg (by omega)]
  simp [hb]

/-- A packet's header and the rest, byte by byte. -/
theorem packetBytes_eq (k : PacketKind) (mark : Byte) (a b : Nat) (c : Byte) (payload : List Byte) :
    packetBytes k mark a b c payload =
      BitVec.ofNat 8 (k.code * 16) :: mark :: BitVec.ofNat 8 (a / 256) :: BitVec.ofNat 8 a :: BitVec.ofNat 8 (b / 256) ::
        BitVec.ofNat 8 b :: c ::
        crc8 [BitVec.ofNat 8 (k.code * 16), mark, BitVec.ofNat 8 (a / 256), BitVec.ofNat 8 a, BitVec.ofNat 8 (b / 256),
          BitVec.ofNat 8 b, c] ::
        (payload ++ if payload = [] then [] else beBytes 4 (crc32 payload).toNat) := by
  simp [packetBytes, beBytes_two]

/-- The checks of R176 on a header of R184 with any body. -/
theorem checkPacket_header {l : Link} {k : PacketKind} (hk : allowedOn l k = true) {a b : Nat} (ha : a < 65536)
    (hb : b < 65536) (mark c : Byte) (body : List Byte) :
    checkPacket l (BitVec.ofNat 8 (k.code * 16) :: mark :: BitVec.ofNat 8 (a / 256) :: BitVec.ofNat 8 a ::
        BitVec.ofNat 8 (b / 256) :: BitVec.ofNat 8 b :: c ::
        crc8 [BitVec.ofNat 8 (k.code * 16), mark, BitVec.ofNat 8 (a / 256), BitVec.ofNat 8 a, BitVec.ofNat 8 (b / 256),
          BitVec.ofNat 8 b, c] :: body) =
      .accepted { kind := k, mark := mark, a := a, b := b, c := c, payload := (payloadCheck body).1,
                  good := (payloadCheck body).2 } := by
  have h1 : (BitVec.ofNat 8 (k.code * 16)).toNat = k.code * 16 := by cases k <;> rfl
  simp only [checkPacket, h1, Nat.mul_mod_left, ne_eq, not_true_eq_false, or_self, if_false,
    Nat.mul_div_cancel _ (by omega : 0 < 16), kind_code, hk, if_true, beNat_beBytes_two ha, beNat_beBytes_two hb]

/-- A packet of R184 on a link that may carry its kind is accepted whole. -/
theorem checkPacket_packetBytes {l : Link} {k : PacketKind} (hk : allowedOn l k = true) {a b : Nat} (ha : a < 65536)
    (hb : b < 65536) (mark c : Byte) (payload : List Byte) :
    checkPacket l (packetBytes k mark a b c payload) =
      .accepted { kind := k, mark := mark, a := a, b := b, c := c, payload := payload, good := true } := by
  rw [packetBytes_eq, checkPacket_header hk ha hb, payloadCheck_good]

/-- The same with a wrong payload CRC: accepted, its payload check failed. -/
theorem checkPacket_badCrc {l : Link} {k : PacketKind} (hk : allowedOn l k = true) {a b : Nat} (ha : a < 65536)
    (hb : b < 65536) (mark c : Byte) {payload crc : List Byte} (h : payload ≠ []) (hc : crc.length = 4)
    (hn : crc ≠ beBytes 4 (crc32 payload).toNat) :
    checkPacket l ((packetBytes k mark a b c payload).take (8 + payload.length) ++ crc) =
      .accepted { kind := k, mark := mark, a := a, b := b, c := c, payload := payload, good := false } := by
  have ht : (packetBytes k mark a b c payload).take (8 + payload.length) ++ crc =
      BitVec.ofNat 8 (k.code * 16) :: mark :: BitVec.ofNat 8 (a / 256) :: BitVec.ofNat 8 a :: BitVec.ofNat 8 (b / 256) ::
        BitVec.ofNat 8 b :: c ::
        crc8 [BitVec.ofNat 8 (k.code * 16), mark, BitVec.ofNat 8 (a / 256), BitVec.ofNat 8 a, BitVec.ofNat 8 (b / 256),
          BitVec.ofNat 8 b, c] :: (payload ++ crc) := by
    rw [packetBytes_eq, Nat.add_comm]; simp
  rw [ht, checkPacket_header hk ha hb, payloadCheck_bad h hc hn]

theorem packetBytes_length (k : PacketKind) (mark : Byte) (a b : Nat) (c : Byte) (payload : List Byte) :
    (packetBytes k mark a b c payload).length = 8 + payload.length + (if payload = [] then 0 else 4) := by
  rw [packetBytes_eq]
  by_cases h : payload = [] <;> (simp [h, beBytes_length]; try omega)

/-- A receiver that takes a packet of R184 hands it to its owner's work. -/
theorem receive_packetBytes {l : Link} {k : PacketKind} (hk : allowedOn l k = true) {a b : Nat} (ha : a < 65536)
    (hb : b < 65536) {payload : List Byte} (hp : payload.length ≤ 3840) {s : State} (hu : (s.link l).state = .up)
    (hs : (s.link l).assembler = .assembling) (mark c : Byte) (work : Packet → State → State) :
    receive l k (packetBytes k mark a b c payload) work s =
      work { kind := k, mark := mark, a := a, b := b, c := c, payload := payload, good := true } s := by
  have hlen : (packetBytes k mark a b c payload).length ≤ Config.maxPacketBytes := by
    rw [packetBytes_length]; unfold Config.maxPacketBytes; split <;> omega
  simp [receive, arrives?, receiving, hu, hs, hlen, checkPacket_packetBytes hk ha hb, countPayload]

/-- A receiver that takes a packet whose payload check fails counts it in PAY_ERR and hands it on (R176). -/
theorem receive_badCrc {l : Link} {k : PacketKind} (hk : allowedOn l k = true) {a b : Nat} (ha : a < 65536)
    (hb : b < 65536) {payload crc : List Byte} (hp : payload.length ≤ 3840) (h : payload ≠ []) (hc : crc.length = 4)
    (hn : crc ≠ beBytes 4 (crc32 payload).toNat) {s : State} (hu : (s.link l).state = .up)
    (hs : (s.link l).assembler = .assembling) (mark c : Byte) (work : Packet → State → State) :
    receive l k ((packetBytes k mark a b c payload).take (8 + payload.length) ++ crc) work s =
      work { kind := k, mark := mark, a := a, b := b, c := c, payload := payload, good := false }
        (s.setLink l { s.link l with payErr := bump (s.link l).payErr }) := by
  have hlen : ((packetBytes k mark a b c payload).take (8 + payload.length) ++ crc).length ≤ Config.maxPacketBytes := by
    rw [List.length_append, hc, List.length_take, packetBytes_length]; unfold Config.maxPacketBytes; omega
  simp only [receive, arrives?, receiving, hu, hs, hlen, checkPacket_badCrc hk ha hb mark c h hc hn, countPayload]
  simp

end Sys2Proof.Machine
end

