-- ==== Sys2Proof/Tests/Slice0.lean ====
section
/-! SUPPORT. Small tests of the model: ill-formed terms, the worked examples of the manual,
and for each statement of Certificates/Slice0/Obligations.lean states and operands that meet its hypotheses. -/

namespace Sys2Proof.Tests

open Machine

-- One after another: each kernel evaluation that waits for another would hold a thread of its own.
set_option Elab.async false

/-! ### States -/

def upLink : LinkRecord := { LinkRecord.reset with state := .up, assembler := .assembling }

/-- The part in RUNNING with every link UP and the store READY. -/
def live : State := { State.reset with
  control.phase := .running, store.state := .ready,
  links := { downlink := upLink, uplink := upLink, camera := upLink, front := upLink, left := upLink, right := upLink } }

theorem running_live : Running live := ⟨by decide, rfl⟩
theorem open_live : Open live := ⟨by decide, rfl, rfl⟩

/-- A takeover in a phase and a view. -/
def taken (p : Phase) (v : View) : State := { live with takeover.phase := p, takeover.view := v }

theorem running_taken (p : Phase) (v : View) : Running (taken p v) := ⟨rfl, rfl⟩

/-- What a step leaves, for a test to look at; the state before where it leaves none. -/
def after (i : Instr) (s : State) : State :=
  match exec i s with
  | .next t => t
  | .fault _ => s
  | .refused _ => s

/-- The status of the last reply in the uplink queue. -/
def lastStatus (s : State) : Option Status :=
  match s.uplink.queue.getLast? with
  | some ⟨.reply _ st _ _, _⟩ => some st
  | _ => none

/-- The result data of the last reply in the uplink queue. -/
def lastData (s : State) : List Byte :=
  match s.uplink.queue.getLast? with
  | some ⟨.reply _ _ _ d, _⟩ => d
  | _ => []

/-! ### WellFormed refuses an ill-formed term, check by check -/

/-- The parameter length that a row table, or a page, gives is that of its counts. -/
theorem test_wellFormed_parameter_length :
    (Instr.rowTableSet 0 ⟨10, [default]⟩).wellFormed = false ∧ (Instr.rowTableSet 0 ⟨11, [default]⟩).wellFormed = true ∧
    (Instr.pageSet 0 0 [] ⟨4, []⟩).wellFormed = false ∧ (Instr.pageSet 0 0 [] ⟨3, []⟩).wellFormed = true := by decide

theorem test_wellFormed_number8 : (Instr.tagClear 0 256).wellFormed = false := by decide
theorem test_wellFormed_number8_top : (Instr.tagClear 0 255).wellFormed = true := by decide
theorem test_wellFormed_number16 : (Instr.assetDelete 0 65536).wellFormed = false := by decide
theorem test_wellFormed_number32 : (Instr.assetBegin 0 1 0 4294967296).wellFormed = false := by decide
theorem test_wellFormed_signed8 : (Instr.guideSet 0 ⟨0, 128, 500, 300, 1, 0⟩).wellFormed = false := by decide
theorem test_wellFormed_signed8_low : (Instr.guideSet 0 ⟨0, -129, 500, 300, 1, 0⟩).wellFormed = false := by decide
theorem test_wellFormed_signed16 :
    (Instr.layerSet 0 ⟨0, 0, 0, 0, .absent, 32768, 0, 1, 1, 0, 0, 0, 0, 0⟩).wellFormed = false := by decide
theorem test_wellFormed_list_length : (Instr.rowTableSet 0 ⟨2561, List.replicate 256 default⟩).wellFormed = false := by
  decide +kernel
theorem test_wellFormed_list_entry : (Instr.proximitySet 0 1 [⟨65536, 0⟩]).wellFormed = false := by decide
theorem test_wellFormed_optional : (Instr.itemSet 0 0 0 ⟨[], .present 256, 0, 0, 0⟩).wellFormed = false := by decide
theorem test_wellFormed_text : (Instr.pageSet 0 0 [256] ⟨4, []⟩).wellFormed = false := by decide
theorem test_wellFormed_steer_count : (Instr.steerTableSet 0 (List.replicate 8 0)).wellFormed = false := by decide
theorem test_wellFormed_steer_entry : (Instr.steerTableSet 0 (List.replicate 9 65536)).wellFormed = false := by decide
theorem test_wellFormed_volume_count : (Instr.volumeTableSet 0 (List.replicate 40 0)).wellFormed = false := by decide
theorem test_wellFormed_chime_entry : (Command.chimeDefine 0 0 none).encodable = false := by decide
theorem test_wellFormed_chime_no_entry : (Command.chimeDefine 0 1 (some default)).encodable = false := by decide
theorem test_wellFormed_asset_data (bs : List Byte) (h : 65536 ≤ bs.length) : (Instr.assetData 0 0 bs).wellFormed = false := by
  simp [Instr.wellFormed, Instr.command?, Command.encodable, fits16]; omega
theorem test_wellFormed_packet : (Instr.vehiclePacket (List.replicate 3853 0)).wellFormed = false := by decide +kernel

/-! ### The manual's worked examples -/

/-- Check values of R177: the nine ASCII digits "123456789". -/
def digits : List Byte := [0x31, 0x32, 0x33, 0x34, 0x35, 0x36, 0x37, 0x38, 0x39]

theorem test_crc8_check_value : crc8 digits = 0xF4#8 := by decide +kernel
theorem test_crc32_check_value : crc32 digits = 0xCBF43926#32 := by decide +kernel

/-- The tables of section 2.8. -/
def steer : Vector Nat 9 := #v[0, 2500, 5400, 8400, 11600, 15000, 18600, 22400, 26400]

def rows : List RowEntry :=
  [⟨500, 700, 260, 640, 7, true⟩, ⟨1500, 520, 180, 640, 5, false⟩, ⟨2500, 430, 120, 640, 3, true⟩,
    ⟨3500, 380, 90, 640, 3, false⟩, ⟨4500, 340, 70, 640, 3, false⟩]

def bands : List GuideBand :=
  [⟨1000, ⟨255, 224, 32, 32⟩⟩, ⟨2000, ⟨255, 240, 176, 0⟩⟩, ⟨3000, ⟨255, 48, 208, 64⟩⟩]

/-- The settings of section 2.8.2, the previous computation having left κ_draw at 6000. -/
def guide28 : Guide :=
  { settings := { mode := .dynamic, polarity := 1, halfWidth := 800, overhang := 900, slew := 600, stopBar := true },
    steerTable := some steer, rowTable := rows, bandTable := bands, kappaDraw := some 6000, record := none }

def vehicle28 : Vehicle :=
  { Vehicle.reset false with steering := 2250, fresh := true, distances := #v[255, 180, 255, 210] }

theorem test_guide_target_curvature :
    [0, 1000, 2250, -3600, 7199, -7800].map (targetCurvature guide28) = [0, 2822, 6900, -11600, 26396, -26400] := by
  decide +kernel

theorem test_guide_polarity :
    targetCurvature { guide28 with settings := { guide28.settings with polarity := -1 } } (-5035) = 17140 := by decide +kernel

theorem test_guide_columns : (computeRecord guide28 vehicle28 false 1280 720).dynamic =
    [⟨442, 858⟩, ⟨525, 813⟩, ⟨587, 779⟩, ⟨623, 767⟩, ⟨650, 762⟩] := by decide +kernel

theorem test_guide_stop_bar : (computeRecord guide28 vehicle28 false 1280 720).stopBar = some ⟨493, ⟨544, 803⟩⟩ := by
  decide +kernel

theorem test_guide_stop_bar_far :
    (computeRecord guide28 { vehicle28 with distances := #v[230, 255, 255, 255] } false 1280 720).stopBar =
      some ⟨448, ⟨575, 786⟩⟩ := by decide +kernel

theorem test_guide_offset_clamped : lateralOffset 26400 8000 1500 = 8000 := by decide +kernel

/-- Rows 610 and 381 of section 2.8.3: the halves of row 610 round away from zero. -/
theorem test_guide_line_rows :
    [columnAt 700 520 442 525 610, columnAt 700 520 858 813 610, columnAt 430 380 587 623 381] = [484, 835, 622] := by
  decide +kernel

/-- Section 4.8.3, scaling: the film on LEFT, and the mirrored camera frame. -/
theorem test_scaling :
    (sourceColumn 513 0 1280 1024 false, scaleCoord 300 0 720 600, sourceColumn 1023 (-100) 1280 1200 false,
      sourceColumn 0 0 1280 1280 true, scaleCoord 799 0 720 800) = (641, 360, 1197, 1279, 719) := by decide +kernel

theorem test_rgb565 : rgb565Sample 0xA5A7 = ⟨165, 182, 58, 255⟩ := by decide +kernel

theorem test_ycbcr422 : (yuvSample 180 100 160, yuvSample 16 128 90, yuvSample 235 128 128) =
    (⟨242, 176, 134, 255⟩, ⟨0, 31, 0, 255⟩, ⟨255, 255, 255, 255⟩) := by decide +kernel

theorem test_blend : blendSample 200 ⟨240, 240, 240, 128⟩ ⟨242, 176, 134⟩ = ⟨241, 201, 176⟩ := by decide +kernel

/-- Section 6.7.1. -/
theorem test_mix :
    (mixFrame ⟨18432, 8192, false, 32768, false⟩ ⟨20000, 20000⟩ (-30000)).left = -27187 ∧
    (mixFrame ⟨32768, 32768, false, 32768, false⟩ ⟨30000, 0⟩ 10000).left = 32767 ∧
    frameSaturations ⟨32768, 32768, false, 32768, false⟩ ⟨30000, 0⟩ 10000 = 1 ∧
    chimePart ⟨8192, 32768, false, 32768, true⟩ 10000 = 2500 := by decide +kernel

/-- The duck gain of section 6.7.2 after n blocks from ms 0. -/
def ducked (n : Nat) : Nat :=
  (Nat.repeat (fun r : ZoneRecord => { r with gain := r.steppedGain }) n { ZoneRecord.reset with demand := .active }).gain

theorem test_duck_ramp : [1, 2, 3, 9, 10].map ducked = [30310, 27852, 25394, 10646, 8192] := by decide +kernel

/-- Section 5.8.2: settling highlight 5 against 4 items with 1 and 3 enabled, then 3 with 0 and 1 enabled. -/
def item (enabled : Bool) : Item := { label := [], icon := none, enabled := enabled, action := .back }

theorem test_settle :
    settle ([false, true, false, true].map item) 5 = 3 ∧ settle ([true, true, false, false].map item) 3 = 1 := by
  decide


/-! ### States and operands that meet the hypotheses of the statements -/

/-- A link record in training, and one in RESYNC. -/
def training (l : Link) : State := live.setLink l .reset
def assembler (l : Link) (a : Assembler) : State := live.setLink l { upLink with assembler := a }

/-- The small stream of section 3.8.3 on tag 9 and ring 1, with a frame in progress or none. -/
def video : VideoDescriptor := ⟨.downlink, 64, 16, .rgb888, 1, 1⟩
def frame (k : Option Nat) (m : LineMark) : FrameContext := ⟨7, 64, 16, .rgb888, 1, 1, .downlink, k, List.replicate 16 m⟩
def buffers (st : BufferState) (holds : Nat) : List Buffer :=
  List.replicate 2 { Buffer.reset with state := st, holds := holds }
def stream (f : Option FrameContext) (r : Ring) : State :=
  (live.setTag 9 { TagRecord.reset with descriptor := some (.video video), frame := f }).setRing 1 r
def ring (latest : Option Nat) (bs : List Buffer) : Ring := ⟨0, 4096, latest, bs⟩
def freeRing : Ring := ring none (buffers .free 0)
def fillingRing : Ring := ring none [{ Buffer.reset with state := .filling }, .reset]

/-- The same stream from the camera, its tag the camera tag, during an engagement. -/
def cameraStream (f : Option FrameContext) : State :=
  { (live.setTag 9 { TagRecord.reset with descriptor := some (.video { video with source := .camera }), frame := f }).setRing 1
      freeRing with takeover.phase := .engaged, takeover.camera.tag := 9 }

/-- A stereo and a mono audio tag for both seats. -/
def sound (stereo : Bool) : State :=
  live.setTag 31 { TagRecord.reset with descriptor := some (.audio ⟨stereo, true, true⟩) }

/-- A queue of 16 uplink packets. -/
def reply (retrains : Bool) : UplinkPacket := ⟨.reply 0 .ok 84 [], retrains⟩
def fullUplink : State := { live with uplink.queue := List.replicate 16 (reply false) }

/-- A wrong payload CRC for a payload of one byte. -/
def badCrc : List Byte := [0, 0, 0, 0]
theorem badCrc_wrong : badCrc.length = 4 ∧ badCrc ≠ beBytes 4 (crc32 [1#8]).toNat := by decide +kernel

theorem witness_VehicleReportStored :
    live.links.downlink.state = .up ∧ live.links.downlink.assembler = .assembling ∧ 65535 < 65536 ∧
    (List.replicate 3840 0#8).length ≤ 3840 ∧ (List.replicate 3840 0#8).length ≠ 10 ∧ ([] : List Byte).length ≠ 10 ∧
    [1#8] ≠ [] ∧ badCrc.length = 4 ∧ badCrc ≠ beBytes 4 (crc32 [1#8]).toNat := by decide +kernel

theorem witness_StaleRecordAndReversePin :
    ({ live with vehicle.fresh := true } : State).vehicle.fresh = true ∧ live.vehicle.fresh = false ∧
    ({ live with vehicle.mismatch := .disagree } : State).vehicle.mismatch ≠ .agree ∧ live.vehicle.mismatchTimer = none ∧
    true ≠ live.vehicle.pinRaw ∧ false = live.vehicle.pinRaw ∧ live.vehicle.debounceTimer.isSome = true ∧
    ({ live with vehicle.debounceTimer := none } : State).vehicle.debounceTimer = none := by decide +kernel

/-- A lingering takeover with a fresh report at the exit speed plus one. -/
def speeding (p : Phase) : State :=
  { taken p .live with vehicle.fresh := true, vehicle.speed := 1001, takeover.lingerTimer := some 1 }

theorem witness_ReverseMovesThePhase :
    (live.vehicle.debounced || (live.vehicle.fresh && decide (live.vehicle.gear = .reverse))) = live.vehicle.reverseAsserted ∧
    (let s := { live with vehicle.debounced := true }
     (s.vehicle.debounced || (s.vehicle.fresh && decide (s.vehicle.gear = .reverse))) ≠ s.vehicle.reverseAsserted) ∧
    live.takeover.phase = .idle ∧ (taken .linger .live).takeover.phase = .linger ∧ (taken .engaged .live).takeover.phase = .engaged ∧
    ({ taken .engaged .live with takeover.settings.linger := 0 } : State).takeover.settings.linger = 0 ∧
    (let s := speeding .engaged; s.vehicle.fresh = true ∧ s.takeover.settings.exitSpeed < s.vehicle.speed) ∧
    (taken .engaged .live).takeover.settings.linger ≠ 0 ∧ (taken .engaged .live).vehicle.fresh = false ∧
    live.panels.front.power ≠ .sleep ∧ live.takeover.settings.engageChime = 255 ∧
    ({ live with takeover.settings.engageChime := 31 } : State).takeover.settings.engageChime = (31 : Fin 32).val ∧
    live.panels.front.requestActive = false ∧
    ({ live with panels.front.requestActive := true } : State).panels.front.requestActive = true := by decide +kernel

/-- The pin asserted against a fresh gear PARK, or the gear alone in REVERSE, with the monitor in a state. -/
def disagreeing (m : Mismatch) : State :=
  { live with vehicle.fresh := true, vehicle.debounced := true, vehicle.gear := .park, vehicle.mismatch := m, vehicle.mismatchTimer := some 0 }

theorem witness_MismatchMonitorTable :
    (disagreeing .agree).vehicle.disagrees = true ∧ (disagreeing .agree).vehicle.mismatch = .agree ∧
    (disagreeing .reported).vehicle.disagrees = true ∧ (disagreeing .reported).vehicle.mismatch ≠ .agree ∧
    live.vehicle.disagrees = false ∧ live.vehicle.mismatch = .agree ∧
    (let s := { live with vehicle.mismatch := .disagree }; s.vehicle.disagrees = false ∧ s.vehicle.mismatch ≠ .agree) ∧
    (disagreeing .disagree).vehicle.mismatch = .disagree ∧ (disagreeing .disagree).vehicle.mismatchTimer.isSome = true ∧
    live.vehicle.mismatch ≠ .disagree := by decide +kernel

/-- A TAKEOVER_SET at the lower ends of its ranges. -/
def lowest : TakeoverSetParams := ⟨100, 10, 100, 0, 0, 0, 0, 0, 0, ⟨224, []⟩, ⟨255, [223]⟩⟩
def lowestSettings : TakeoverSettings := ⟨100, 10, 100, 0, false, 0, 0, 0, false, ⟨224, []⟩, ⟨255, [223]⟩⟩
def cameraParams : CameraSetParams := ⟨31, 1279, 799, 1280, 800, 1⟩

theorem witness_TakeoverAndCameraSettings :
    Open live ∧ (∀ n, live.vehicle.debounceTimer = some n → n < lowestSettings.debounce) ∧
    takeoverSettings? lowest = some lowestSettings ∧
    takeoverSettings? { lowest with freshness := 99 } = none ∧ cameraParams? cameraParams = some ⟨31, 1279, 799, 1280, 800, true⟩ ∧
    cameraParams? { cameraParams with tag := 32 } = none ∧ live.vehicle.fresh = false ∧
    (let s := { live with vehicle.fresh := true, vehicle.age := 100, vehicle.debounceTimer := some 10 }
     s.vehicle.fresh = true ∧ lowestSettings.freshness ≤ s.vehicle.age ∧ s.vehicle.debounceTimer = some 10 ∧
     lowestSettings.debounce ≤ 10) ∧ ({ live with vehicle.age := 99 } : State).vehicle.age < lowestSettings.freshness ∧
    (let s := { cameraStream none with takeover.phase := .idle }
     s.takeover.camera.tag ≠ 31 ∧ s.takeover.camera.tag ≠ 0 ∧ (descriptorOf s.takeover.camera.tag s).isSome = true) ∧
    live.takeover.camera.tag = 0 ∧ descriptorOf 31 live = none ∧
    (descriptorOf 31 (sound true) = some (.audio ⟨true, true, true⟩) ∧ 31 ≠ 0) ∧
    (descriptorOf 9 (cameraStream none)).isSome = true ∧ ({ video with source := .camera } : VideoDescriptor).source = .camera := by
  refine ⟨open_live, ?_, by decide +kernel⟩
  intro n h
  cases h
  decide

theorem witness_DismissAndLingerExits :
    Running (taken .linger .live) ∧ Running (taken .engaged .live) ∧ Running live ∧ (speeding .linger).takeover.phase = .linger ∧
    (speeding .linger).takeover.lingerTimer.isSome = true ∧ live.takeover.phase ≠ .linger ∧
    (speeding .linger).vehicle.fresh = true ∧ (speeding .linger).takeover.settings.exitSpeed < (speeding .linger).vehicle.speed :=
  ⟨running_taken .linger .live, running_taken .engaged .live, running_live, by decide +kernel⟩

theorem witness_CameraViewTimers :
    (∀ v, (taken .engaged v).takeover.phase ≠ .idle ∧ (taken .linger v).takeover.phase ≠ .idle) ∧ live.takeover.phase = .idle ∧
    (let s := { taken .engaged .waiting with takeover.startTimer := some 0, takeover.settings.retrain := true }
     s.takeover.startTimer.isSome = true ∧ s.takeover.settings.retrain = true ∧ s.links.camera.state = .up) ∧
    (let s := { taken .engaged .frozen with takeover.watchdogTimer := some 0 }
     s.takeover.view = .frozen ∧ s.takeover.watchdogTimer.isSome = true) ∧
    (taken .engaged .waiting).takeover.settings.retrain = false :=
  ⟨fun _ => ⟨nofun, nofun⟩, rfl, by decide +kernel⟩

/-- A takeover in a view that last saw frame 40, with its counts. -/
def seen (v : View) (repeats rejoins : Nat) : State :=
  { taken .engaged v with takeover.lastGood := some 40, takeover.repeats := repeats, takeover.rejoins := rejoins }

theorem witness_GoodCameraFrames :
    (seen .waiting 0 0).takeover.view = .waiting ∧ (seen .live 1 0).takeover.lastGood = some 40 ∧
    (seen .live 1 0).takeover.lastGood ≠ some 41 ∧ (seen .live 1 0).takeover.repeats < 2 ∧ 2 ≤ (seen .live 2 0).takeover.repeats ∧
    (seen .lost 0 0).takeover.view = .lost ∧ (seen .frozen 3 0).takeover.rejoins = 0 ∧ 1 ≤ (seen .frozen 3 1).takeover.rejoins ∧
    7 ≤ 7 := by
  decide +kernel

theorem witness_LockedDuringTakeover :
    Running (cameraStream none) ∧ Running live ∧ (cameraStream none).takeover.phase ≠ .idle ∧
    (cameraStream none).takeover.phase = .engaged ∧ 9 = (cameraStream none).takeover.camera.tag ∧
    cameraRing (cameraStream none) = some 1 ∧ (255 ≠ (cameraStream none).takeover.camera.tag ∧
      (∀ r, cameraRing (cameraStream none) = some r → 255 ≠ r.val)) ∧ (taken .linger .live).takeover.camera.tag = 0 ∧
    live.takeover.phase = .idle ∧ Command.identify.code ∉ [1, 2, 4, 20, 21, 22, 30, 31, 32, 33, 85] :=
  ⟨⟨rfl, rfl⟩, running_live, by decide +kernel⟩

/-- A row table of two entries at the ends of the fields' ranges. -/
def rowParams : List RowParams := [⟨0, 799, 1, 0, 1, 0⟩, ⟨8000, 0, 4000, 1279, 15, 1⟩]

theorem witness_GuideSettingsAndTables :
    Open live ∧ (guideSettings? ⟨3, -1, 500, 300, 1, 0⟩).isSome = true ∧ guideSettings? ⟨4, 1, 500, 300, 1, 0⟩ = none ∧
    (let t : Vector Nat 9 := #v[0, 0, 0, 0, 0, 0, 0, 0, 30000]
     (∀ x ∈ t.toList, x ≤ 30000) ∧ t.toList.head? = some 0 ∧ t.toList.Pairwise (· ≤ ·)) ∧
    ([] : List Nat).length ≠ 9 ∧
    (let t : List RowEntry := [⟨0, 799, 1, 0, 1, false⟩, ⟨8000, 0, 4000, 1279, 15, true⟩]
     rowParams.mapM rowEntry? = some t ∧ 2 ≤ t.length ∧ t.length ≤ 32 ∧ t.Pairwise (fun a b => a.d < b.d ∧ b.v < a.v)) ∧
    [rowParams.headD default].mapM rowEntry? = some [⟨0, 799, 1, 0, 1, false⟩] ∧ [(default : RowParams)].mapM rowEntry? = none ∧
    (let b : List GuideBand := [⟨1, default⟩, ⟨10000, default⟩]
     1 ≤ b.length ∧ b.length ≤ 4 ∧ (∀ x ∈ b, 1 ≤ x.limit ∧ x.limit ≤ 10000) ∧ b.Pairwise (fun a b => a.limit < b.limit)) ∧
    (21 = 1 + 10 * rowParams.length ∧ 20 ≠ 1 + 10 * rowParams.length) ∧
    rowEntry? ⟨8000, 799, 4000, 1279, 15, 1⟩ = some ⟨8000, 799, 4000, 1279, 15, true⟩ ∧
    (guideSettings? ⟨1, -1, 500, 300, 1, 0⟩).map (·.mode) = some .static ∧
    4 < (List.replicate 5 (default : GuideBand)).length :=
  ⟨open_live, by decide +kernel⟩

theorem witness_CurvatureTargetAndSlew :
    steer.toList.Pairwise (· ≤ ·) ∧ (∀ x ∈ steer.toList, x ≤ 30000) ∧ steer.toList.head? = some 0 ∧ 7200 ≤ 7200 ∧
    guide28.steerTable = some steer ∧ Guide.reset.steerTable = none ∧ Guide.reset.kappaDraw = none ∧
    guide28.kappaDraw = some 6000 ∧ (6600 - (6000 : Int)).natAbs ≤ guide28.settings.slew ∧
    6000 + (guide28.settings.slew : Int) < 6601 ∧ 5399 < (6000 : Int) - guide28.settings.slew ∧ (6000 : Int).natAbs ≤ 30000 ∧
    (899 < 900 ∧ curvatureMagnitude steer (900 * 7 + 899) ≠ (steer[7] : Nat)) := by
  decide +kernel

theorem witness_GeometryRecordOfOneComputation :
    (computeRecord guide28 vehicle28 false 1280 720).mode = .dynamic ∧
    (computeRecord { guide28 with settings := { guide28.settings with mode := .both } } vehicle28 true 16 16).mode = .both ∧
    (computeRecord Guide.reset vehicle28 false 1280 720).mode = .off ∧ live.vehicle.fresh = false ∧
    (guide28.settings.stopBar = true ∧ vehicle28.fresh = true ∧ (180 : Nat) ∈ vehicle28.distances.toList ∧
      (∀ x ∈ vehicle28.distances.toList, x < 255 → 180 ≤ x) ∧ 2 ≤ rows.length ∧ rows.Pairwise (fun a b => a.d < b.d ∧ b.v < a.v)) ∧
    10 * 50 ≤ (rows.getD 0 default).d ∧ ((rows.getD 0 default).d < 10 * 51 ∧ 10 * 150 ≤ (rows.getD 1 default).d) ∧
    (rows.take 2).getLast? = rows[1]? ∧ (rows.getD 1 default).d < 10 * 151 := by decide +kernel

/-- A TAG_SET of the stream of section 3.8.3. -/
def tagParams : TagSetParams := ⟨9, 0, 0, 64, 16, 1, 1, 1, 0, 0⟩
def unused : State := live.setRing 1 freeRing

theorem witness_TagAndRingCommands :
    Open live ∧ tagParams? tagParams unused = some (9, .video video) ∧ (unused.tag 9).descriptor = none ∧ tagParams? tagParams live = none ∧
    (9 : Fin 32) ≠ 0 ∧ (live.tag 9).descriptor = none ∧ ((stream none freeRing).tag 9).descriptor = some (.video video) ∧
    ((stream none freeRing).tag 9).frame = none ∧ ((stream (some (frame none .unseen)) freeRing).tag 9).frame.isSome = true ∧
    8 ≤ 8 ∧ claims (stream none freeRing) 1 9 = true ∧
    (∃ b ∈ ((live.setRing 1 (ring none (buffers .complete 1))).ring 1).buffers, 0 < b.holds) ∧
    (∀ t, claims unused 1 t = false) ∧ (∀ b ∈ (unused.ring 1).buffers, b.holds = 0) ∧
    ringParamsOk 1 ⟨1, 0, 4, 4096⟩ unused = true ∧ ringParamsOk 1 ⟨1, 0, 5, 4096⟩ unused = false ∧
    tagParams? tagParams (stream none freeRing) = some (9, .video video) ∧
    tagParams? { tagParams with source := 1 } { stream none freeRing with takeover.camera.tag := 9 } = some (9, .video { video with source := .camera }) ∧
    tagParams? ⟨31, 1, 0, 0, 0, 0, 0, 0, 2, 1⟩ (sound true) = some (31, .audio ⟨true, true, false⟩) ∧
    tagParams? ⟨31, 0, 0, 64, 16, 1, 1, 1, 0, 0⟩ ((sound true).setRing 1 freeRing) = some (31, .video video) ∧
    ((sound true).tag 31).descriptor = some (.audio ⟨true, true, true⟩) :=
  ⟨open_live, by decide +kernel⟩

theorem witness_RingOperationsKeepTheLaw :
    RingLawful freeRing ∧ RingLawful fillingRing ∧ RingLawful (ring (some 1) (buffers .complete 0)) ∧
    writerChoice (ring (some 1) (buffers .complete 1)) = none ∧ (ring (some 1) (buffers .complete 0)).latest = some 1 ∧
    writerChoice freeRing = some (0, false) ∧ writerChoice (ring (some 1) (buffers .complete 0)) = some (1, true) ∧
    (∃ b, (ring (some 1) (buffers .complete 1)).buffers[1]? = some b ∧ 1 ≤ b.holds) ∧
    (∃ b, fillingRing.buffers[0]? = some b ∧ b.state = .filling) := by
  have two (P : Nat → Prop) (h0 : P 0) (h1 : P 1) (h : ∀ k, P (k + 2)) : ∀ k, P k
    | 0 => h0
    | 1 => h1
    | k + 2 => h k
  refine ⟨⟨two _ ?_ ?_ ?_, ?_, ?_⟩, ⟨two _ ?_ ?_ ?_, ?_, ?_⟩, ⟨two _ ?_ ?_ ?_, ?_, ?_⟩, by decide +kernel, rfl, by decide +kernel, by decide +kernel,
    ⟨_, rfl, by decide⟩, ⟨_, rfl, rfl⟩⟩ <;> simp [freeRing, fillingRing, ring, buffers, Buffer.reset]

theorem witness_LinePacketIsStagedOrCounted :
    (∀ f : Option FrameContext, ((stream f freeRing).link VideoRx.downlink.link).state = .up) ∧
    (frame none .unseen).buffer = none ∧ (frame (some 0) .unseen).buffer = some 0 ∧ (frame (some 0) .unseen).height ≤ 16 ∧
    (frame (some 0) .unseen).width ≤ 64 ∧ 15 < (frame (some 0) .unseen).height ∧ 63 < (frame (some 0) .unseen).width ∧
    (List.replicate 3 1#8) ≠ [] ∧ (List.replicate 3 1#8).length % (frame (some 0) .unseen).format.unitBytes = 0 ∧
    (List.replicate 3 1#8).length ≤ ((frame (some 0) .unseen).width - 63) * (frame (some 0) .unseen).format.bytesPerPixel ∧
    (live.port .downlink).staging.length < 4 ∧
    4 ≤ (({ live with streams.downlink.staging := List.replicate 4 ⟨9, true, 0, []⟩ } : State).port .downlink).staging.length ∧
    (let pixels := fun (bytes : List Byte) => (bytes.take (bytes.length / 3 * 3)).take ((64 - 63) * 3)
     pixels (List.replicate 4 1#8) = List.replicate 3 1#8 ∧ pixels (List.replicate 6 1#8) ≠ [] ∧ pixels [1#8] = [] ∧
     (frame (some 0) .unseen).format.unitBytes = 3) ∧ [1#8] ≠ [] ∧ badCrc.length = 4 ∧
    badCrc ≠ beBytes 4 (crc32 [1#8]).toNat :=
  ⟨fun _ => rfl, by decide +kernel⟩

theorem witness_LineWriteCompletionWritesTheLine :
    (let l : StagedLine := ⟨9, true, 134217727, [1#8]⟩
     (({ live with streams.camera.staging := [l] } : State).port .camera).staging = [l] ∧ l.address + l.bytes.length ≤ 134217728) ∧
    (live.port .camera).staging = [] ∧
    (let l : StagedLine := ⟨9, true, 134217728, [1#8]⟩; 134217728 < l.address + l.bytes.length) := by decide +kernel

/-- A frame of tag 9 filling buffer 0 of ring 1, counted. -/
def fillingStream : State :=
  (stream (some (frame (some 0) .unseen)) fillingRing).setTag 9 { TagRecord.reset with
    descriptor := some (.video video), frame := some (frame (some 0) .unseen), counters := { TagCounters.zero with frameIn := 1 } }

theorem fillingStream_rings : ∀ n, fillingStream.ring n = if n = 1 then fillingRing else Ring.reset := by decide +kernel
theorem fillingStream_frames :
    ∀ t, (fillingStream.tag t).frame = if t = 9 then some (frame (some 0) .unseen) else none := by decide +kernel
theorem fillingStream_held : heldBuffers fillingStream = [] := by decide +kernel

theorem witness_EveryStepKeepsTheRings :
    RingsLawful fillingStream ∧ (∀ t, FramesBalanced t fillingStream) ∧ (fillingStream.tag 9).counters.frameIn < 4294967295 ∧
    step fillingStream = .next (idle fillingStream) := by
  refine ⟨⟨?_, ?_, ?_, ?_, ?_, ?_⟩, by unfold FramesBalanced; decide +kernel, by decide +kernel, rfl⟩
  · exact fun n => by
      rw [fillingStream_rings]
      split
      · refine ⟨?_, ?_, ?_⟩
        · intro k b h
          match k with
          | 0 => cases h; nofun
          | 1 => cases h; simp [fillingRing, ring, Buffer.reset]
          | k + 2 => simp [fillingRing, ring] at h
        · simp [fillingRing, ring]
        · simp [fillingRing, ring, Buffer.reset]
      · simp [RingLawful, Ring.reset]
  · intro n k b h
    rw [fillingStream_rings] at h
    simp only [fillingStream_frames]
    split at h
    · match k with
      | 0 =>
        simp only [fillingRing, ring, List.getElem?_cons_zero, Option.some.injEq] at h
        subst h
        exact ⟨fun _ => ⟨9, _, rfl, by simp [*, frame], rfl⟩, fun _ => rfl⟩
      | 1 =>
        simp [fillingRing, ring] at h
        subst h
        simp [Buffer.reset, frame]
      | k + 2 => simp [fillingRing, ring] at h
    · simp [Ring.reset] at h
  · intro t c k h hk
    rw [fillingStream_frames] at h
    split at h
    · cases h; cases hk; decide +kernel
    · cases h
  · intro t u c d k ht hu _ _ _
    rw [fillingStream_frames] at ht hu
    split at ht
    · split at hu
      · simp_all
      · cases hu
    · cases ht
  · simp [fillingStream_held]
  · intro n k b h
    rw [fillingStream_held]
    rw [fillingStream_rings] at h
    split at h
    · match k with
      | 0 => cases h; rfl
      | 1 => cases h; rfl
      | k + 2 => simp [fillingRing, ring] at h
    · simp [Ring.reset] at h

theorem witness_FramesBeginAndEnd :
    (live.link VideoRx.downlink.link).state = .up ∧ (live.link VideoRx.camera.link).assembler = .assembling ∧ (9 : Fin 32) ≠ 0 ∧
    video.source = .downlink ∧ ((stream none freeRing).tag 9).descriptor = some (.video video) ∧
    (isCameraTag (stream none freeRing) 9 = false ∧ isCameraTag (cameraStream (some (frame (some 0) .written))) 9 = true ∧
      (cameraStream none).takeover.phase ≠ .idle ∧
      cameraRing (cameraStream (some (frame (some 0) .written))) = some (frame (some 0) .written).ring ∧
      cameraRing (stream none freeRing) = none) ∧
    (((stream none freeRing).tag 9).frame = none ∧ writerChoice freeRing = some (0, false)) ∧
    writerChoice (ring (some 1) (buffers .complete 1)) = none ∧ writerChoice (ring (some 1) (buffers .complete 0)) = some (1, true) ∧
    ((stream (some (frame (some 0) .written)) fillingRing).tag 9).frame = some (frame (some 0) .written) ∧
    8 ≠ (frame (some 0) .written).number ∧ 7 = (frame none .unseen).number ∧ (frame none .unseen).buffer = none ∧
    (frame (some 0) .unseen).damage < ((frame (some 0) .unseen).marks.countP fun m => decide (m ≠ .written)) ∧
    ((frame (some 0) .written).marks.countP fun m => decide (m ≠ .written)) ≤ (frame (some 0) .written).damage ∧
    (fillingRing.latest = none ∧ fillingRing.buffers[0]?.isSome = true) ∧
    (let r := ring (some 1) (buffers .complete 0); r.latest = some 1 ∧ 1 ≠ 0 ∧ r.buffers[1]?.isSome = true) ∧
    ([1#8] ≠ [] ∧ badCrc.length = 4 ∧ badCrc ≠ beBytes 4 (crc32 [1#8]).toNat) ∧
    (32#8 ≠ 0#8 ∧ (∀ t : Fin 32, t.val = (32#8).toNat → (live.tag t).descriptor = none) ∧
     ∀ t : Fin 32, t.val = (31#8).toNat → (live.tag t).descriptor = none) ∧
    ((31 : Fin 32).val = (31#8).toNat ∧ ((sound true).tag 31).descriptor = some (.audio ⟨true, true, true⟩)) ∧
    ((9 : Fin 32).val = (9#8).toNat ∧ video.source ≠ .camera ∧ VideoRx.downlink = .downlink) := by decide +kernel

theorem witness_AudioPacketFillsTheZones :
    (sound true).links.downlink.state = .up ∧ (sound true).links.downlink.assembler = .assembling ∧ (31 : Fin 32) ≠ 0 ∧
    ((sound true).tag 31).descriptor = some (.audio ⟨true, true, true⟩) ∧
    ((sound false).tag 31).descriptor = some (.audio ⟨false, true, true⟩) ∧ [1#8] ≠ [] ∧ badCrc.length = 4 ∧
    badCrc ≠ beBytes 4 (crc32 [1#8]).toNat := by decide +kernel

/-- The panels in a power state. -/
def powered (p : PowerState) : State :=
  { live with panels.front.power := p, panels.left.power := p, panels.right.power := p }

theorem witness_PanelWakeAndSleepCommands :
    Running live ∧ (∀ p q, ((powered p).panel q).power = p) ∧ panel? 3 = none ∧ panel? 2 = some .right ∧
    panel? 0 = some .front ∧ (taken .linger .live).takeover.phase ≠ .idle ∧ live.takeover.phase = .idle ∧
    (∀ q : Panel, (live.link q.link).state = .up) :=
  ⟨running_live, by intro p q; cases q <;> rfl, rfl, rfl, rfl, nofun, rfl, by intro q; cases q <;> rfl⟩

theorem witness_PanelValueCommands :
    Running live ∧ panel? 2 = some .right ∧ 3 ≤ 3 ∧ 101 ≤ 101 ∧ (live.panel .right).power ≠ .active ∧
    ((powered .active).panel .right).level = 50 ∧ ((powered .active).panel .right).level ≠ 100 ∧
    ((powered .active).link Panel.right.link).state = .up ∧ flag? 1 = some true ∧ flag? 2 = none ∧
    (live.panel .right).power = .off ∧ (live.panel .right).width = 1280 ∧ (live.panel .right).rate ≠ 30 ∧
    ¬ ((powered .waking).panel .right).power = .sleep ∧ interpreterFree live = true :=
  ⟨running_live, by decide +kernel⟩

/-- A LAYER_SET of ring 7 on RIGHT at the ends of its ranges. -/
def layerParams : LayerSetParams := ⟨2, 5, 0, 7, .absent, -1280, 799, 2560, 1600, 255, 1, 0, 3, 0⟩
def layer (id : Fin 6) : Layer := ⟨id, .ring 7, -1280, 799, 2560, 1600, 255, true, false⟩

theorem witness_LayerListCommands :
    Running live ∧ panel? 2 = some .right ∧ layerRecord? .right layerParams = some (layer 5) ∧
    placement? 3 0 = some (.above 0) ∧ placement? 4 0 = none ∧ layerRecord? .right { layerParams with layer := 6 } = none ∧
    ringShown [] (layer 5) = false ∧ placementOk [] (layer 5) .keep = true ∧ ringShown [layer 0] (layer 5) = true ∧
    placementOk [] (layer 5) (.above 0) = false ∧
    (∀ x ∈ [layer 0], x.id ≠ (layer 5).id) ∧ [layer 0, layer 5, layer 1] = [layer 0] ++ layer 5 :: [layer 1] ∧
    (∀ y ∈ [layer 0] ++ [layer 1], y.id ≠ (layer 5).id) ∧
    ([layer 0, layer 5, layer 1].filter fun x => x.id ≠ (layer 5).id) = [layer 0] ++ layer 1 :: [] ∧
    (∀ y ∈ [layer 0], y.id ≠ (layer 1).id) ∧ 6 ≤ 6 ∧ 6 ≠ 255 ∧ 5 ≤ 5 :=
  ⟨running_live, by decide +kernel⟩

/-- A panel with a frame in progress: its power state, blank frames ended and pending transition. -/
def inFrame (p : PowerState) (ended : Nat) (t : Transition) : State :=
  { live with panels.left.power := p, panels.left.blankEnded := ended, panels.left.transition := t,
              panels.left.frame := some ⟨true, false, 16, 16, false, false, ⟨0, 0, 0⟩, .waiting, []⟩ }

theorem witness_EndOfFramePowerRules :
    (live.panel .left).frame = none ∧ (∀ p n t, ((inFrame p n t).panel .left).frame.isSome = true ∧
      ((inFrame p n t).panel .left).power = p ∧ ((inFrame p n t).panel .left).blankEnded = n ∧
      ((inFrame p n t).panel .left).transition = t) :=
  ⟨rfl, fun _ _ _ => ⟨rfl, rfl, rfl, rfl⟩⟩

/-- An ACTIVE FRONT panel of one pixel whose frame, begun in WAITING, has the takeover graphic and a camera window that
holds nothing, while the view is what it is. -/
def frontFrame (v : View) : State :=
  { taken .engaged v with panels.front.power := .active, panels.front.frame := some ⟨false, false, 1, 1, false, false, ⟨0, 0, 0⟩,
      .waiting, [⟨0, 0, 1, 1, 255, false, .fill ⟨9, 9, 9⟩, .outOfLive⟩]⟩ }

/-- R22, R23: the graphic of a frame begun in WAITING is put out while the view is not LIVE, and from the view entering
LIVE the window is black. -/
theorem test_window_black_from_live :
    (after (.endOfFrame .front) (frontFrame .waiting)).out.head? = some (.frame .front [[⟨9, 9, 9⟩]]) ∧
    (after (.endOfFrame .front) (frontFrame .live)).out.head? = some (.frame .front [[⟨0, 0, 0⟩]]) := by decide +kernel

theorem witness_FrameStartFixesTheFrame :
    Panel.left ≠ .front ∧ live.takeover.phase = .idle ∧ (taken .engaged .live).takeover.phase ≠ .idle ∧
    (taken .engaged .live).takeover.view = .live ∧ (taken .engaged .lost).takeover.view ≠ .live ∧
    (let s := live.setPanel .left { live.panels.left with
        pendingList := [{ layer 5 with source := .ring 1 }] } |>.setRing 1 (ring (some 1) (buffers .complete 0))
     ((s.panel .left).pendingList.map (·.id)).Nodup ∧ (s.ring 1).latest = some 1 ∧
       ((frameStart .left s).panel .left).hold 5 = some ⟨1, 1⟩) ∧
    (let s := (cameraStream none).setRing 1 (ring (some 1) (buffers .complete 0))
     cameraRing s = some 1 ∧ (s.ring 1).latest = some 1 ∧ s.takeover.phase ≠ .idle) ∧
    (cameraRing (cameraStream none) = some 1 ∧ ((cameraStream none).ring 1).latest = none ∧
     cameraRing (taken .engaged .live) = none) ∧
    (let s := fun (h : Hold) => live.setPanel .left { live.panels.left with
        pendingList := [{ layer 5 with source := .ring 1 }], holds := live.panels.left.holds.set 5 (some h) }
     (∀ h, ((s h).panel .left).hold 5 = some h) ∧ ((s ⟨1, 0⟩).ring 1).latest = none) ∧
    (let u : Surface := ⟨-1, 0, 2, 1, 255, true, .picture 0 2 1 .ycbcr422, .always⟩
     (u.x ≤ -1 ∧ (-1 : Int) < u.x + u.w ∧ u.y ≤ 0 ∧ (0 : Int) < u.y + u.h) ∧ ¬ ((1 : Int) < u.x + u.w)) ∧
    (let l : Sample := ⟨255, 255, 0, 255⟩; 255 ≤ 255 ∧ l.p ≤ 255 ∧ l.r ≤ 255 ∧ l.g ≤ 255 ∧ l.b ≤ 255) := by
  and_intros
  all_goals first | decide +kernel | exact fun _ => rfl

/-- A render in flight. -/
def rendering : State := { live with raster.inFlight := some ⟨.menuL, 16, 16, [], false⟩ }

/-- The store holding a glyph set as asset 2, and the cache loading its page n. -/
def glyphRecord : AssetRecord := ⟨2, .glyphSet, 1, 305664, 0, [0, 1], 0⟩
def glyphStore : State := { live with store.directory := [glyphRecord] }
def loading (n : Nat) : State := { glyphStore with
  raster.cache := .loading, raster.glyphSet := 2, raster.load := some ⟨1, n, some 5⟩ }

theorem witness_GlyphCacheLoads :
    (2 ≠ 0 ∧ 2 = (loading 0).raster.glyphSet ∧ (loading 0).raster.cache ≠ .empty) ∧
    (2 ≠ glyphStore.raster.glyphSet ∧ glyphStore.raster.load = none ∧ glyphAsset 2 glyphStore = some glyphRecord) ∧
    glyphAsset 1023 glyphStore = none ∧
    ((loading 74).raster.load = some ⟨1, 74, some 5⟩ ∧ some 5 ≠ some 6 ∧ (List.replicate 4096 0#8).length = 4096 ∧ 74 ≤ 74) ∧
    (loading 0).raster.load = some ⟨1, 0, some 5⟩ ∧ (3 ≠ 0 ∧ 3 ≠ (loading 0).raster.glyphSet) ∧
    (glyphStore.raster.cache = .empty ∧ ({ glyphStore with raster.cache := .loaded } : State).raster.cache ≠ .empty) ∧
    (glyphStore.raster.inFlight = none ∧
     (let s := { glyphStore with raster.inFlight := some ⟨.menuL, 16, 16, [], true⟩ }
      s.raster.load = none ∧ glyphAsset 2 s = some glyphRecord ∧ s.raster.inFlight = some ⟨.menuL, 16, 16, [], true⟩)) := by
  decide +kernel

/-- The LEFT seat with page 0 of section 5.8.2's items, open or closed, locked or not. -/
def seatState (opened locked : Bool) : State :=
  { live.setPage 0 (some ⟨[], [item false, item true, item true]⟩) with
    menu.left := { SeatContext.reset with isOpen := opened, locked := locked, highlight := 1, timer := some 0 } }

/-- The LEFT seat's menu on page 0 with n pages above it, from page 1 up, open or closed. -/
def stacked (n : Nat) (opened : Bool) : State :=
  { (seatState opened false).setPage 1 (some ⟨[], [item true]⟩) with
    menu.left := { SeatContext.reset with isOpen := opened, above := [⟨1, 0⟩, ⟨2, 0⟩, ⟨3, 0⟩].take (n + 1) } }

/-- Planes requested with nothing in flight, the other seat's menu having been drawn last. -/
def wanting (last : Seat) (ps : List Plane) : State :=
  { ps.foldl (fun s p => s.setPlane p { s.plane p with requested := true }) live with raster.lastSeat := last }

theorem witness_RenderCompletionDrawsThePlane :
    (let r : Render := ⟨.menuL, 16, 16, [], false⟩
     r.width ≤ 1280 ∧ r.height ≤ 800 ∧ rendering.raster.inFlight = some r) ∧ (⟨.menuL, 1280, 800, [], false⟩ : Render).width ≤ 1280 ∧
    live.raster.inFlight = none ∧ (rendering.plane .guide).requested = false ∧ (rendering.plane .takeover).requested = false ∧
    (rendering.plane .menuL).requested = false ∧ (rendering.plane .menuR).requested = false ∧ rendering.raster.load = none ∧
    (live.raster.inFlight = none ∧ (wanting .left [.guide]).raster.guide.requested = true ∧
     (wanting .left [.takeover]).raster.guide.requested = false ∧ (wanting .left [.takeover]).raster.takeover.requested = true ∧
     (∀ k, (wanting k [.menuL, .menuR]).raster.menuL.requested = true ∧ (wanting k [.menuL, .menuR]).raster.menuR.requested = true ∧
       (wanting k [.menuL, .menuR]).raster.lastSeat = k) ∧ (∀ p, (live.plane p).requested = false)) ∧
    (((seatState true false).seat .left).isOpen = true ∧
     ((seatState true false).page ((seatState true false).seat .left).currentPage).isSome = true ∧
     ((seatState false false).seat .left).isOpen = false) ∧
    (live.takeover.phase = .idle ∧ (taken .engaged .waiting).takeover.phase ≠ .idle ∧ (taken .linger .lost).takeover.view = .lost) ∧
    (let s := { rendering with raster.load := some ⟨1, 0, none⟩ }
     s.raster.inFlight = rendering.raster.inFlight ∧ s.raster.load = some ⟨1, 0, none⟩) ∧
    live.guide.record = none ∧
    (∀ m : GeometryRecord, ({ live with guide := { guide28 with record := some m } } : State).guide.record = some m) := by
  and_intros
  all_goals first | decide +kernel | exact fun _ => rfl | exact fun _ => ⟨rfl, rfl, rfl⟩ | exact fun p => by cases p <;> rfl

theorem witness_KeysAtASeat :
    (live.link Seat.left.panel.link).state = .up ∧ (live.link Seat.right.panel.link).assembler = .assembling ∧
    ((seatState true true).seat .left).locked = true ∧ ((seatState true false).seat .left).locked = false ∧ 8 ≤ 8 ∧
    ((seatState false false).seat .left).isOpen = false ∧ ((seatState true false).seat .left).isOpen = true ∧
    (let s := seatState true false
     enabledAbove (s.items 0) 1 = some 2 ∧ enabledBelow (s.items 0) 1 = none ∧ enabledBelow (s.items 0) 2 = some 1 ∧
     enabledAbove (s.items 0) 2 = none ∧ itemEnabled (s.items 0) 0 = false ∧ (s.items 0)[1]? = some (item true) ∧
     s.page 0 ≠ none ∧ s.page 1 = none ∧ (s.seat .left).above = [] ∧ (s.seat .left).settings.root = 0) ∧
    live.page (live.seat .left).settings.root = none ∧
    ((stacked 1 true).seat .left).above = [⟨1, 0⟩] ++ [⟨2, 0⟩] ∧ [(⟨1, 0⟩ : StackEntry)].length ≤ 1 ∧
    4 ≤ ((stacked 3 true).seat .left).depth ∧
    (let u := (stacked 1 true).seat .left
     u.isOpen = true ∧ u.timer.isSome = false ∧ u.settings.inactivity ≠ 0) ∧ ((seatState true false).seat .left).timer.isSome = true ∧
    (live.zone .seatL).settings.volume = 20 ∧ 0 < 20 ∧ 40 ≤ 40 ∧ (live.panel .left).level = 50 ∧
    (let a := [item false, item true]; itemEnabled a 1 = true ∧ itemEnabled a 0 = false ∧ enabledAbove a 0 = some 1) ∧
    (let b := [item true, item false]; itemEnabled b 1 = false ∧ enabledAbove b 1 = none ∧ enabledBelow b 1 = some 0) ∧
    (let c := [item false]; itemEnabled c 0 = false ∧ enabledAbove c 0 = none ∧ enabledBelow c 0 = none) := by decide +kernel

theorem witness_SeatMenuOpensAndCloses :
    ((seatState true false).seat .left).timer.isSome = true ∧ (live.seat .left).timer = none ∧ Running live ∧
    (∀ o l, Running (seatState o l) ∧ ((seatState o l).seat .left).locked = l ∧ ((seatState o l).seat .left).isOpen = o) ∧
    seat? 0 = some .left ∧ seat? 2 = none ∧ (live.page 0) = none ∧ ((seatState false false).page 0).isSome = true :=
  ⟨rfl, rfl, running_live, fun _ _ => ⟨⟨rfl, rfl⟩, rfl, rfl⟩, rfl, rfl, by decide +kernel, by decide +kernel⟩

/-- An item, a page and a MENU_SET at the ends of their ranges. -/
def itemParams : ItemParams := ⟨List.replicate 24 223, .present 255, 1, 0, 15⟩
def menuParams : MenuSetParams := ⟨1, 15, 1279, 799, 64, 24, default, default, default, default, 31, 255, 60, 1023⟩

/-- A closed menu whose highlight the page it shows no longer enables. -/
def closedShown : State := (seatState false false).setPage 0 (some ⟨[], [item true, item false]⟩)

theorem witness_PageAndMenuSettingCommands :
    Running live ∧ (menuPage? [223] (List.replicate 12 itemParams)).isSome = true ∧ menuPage? [224] [itemParams] = none ∧
    (item? itemParams).isSome = true ∧ item? { itemParams with icon := .present 223 } = none ∧ seat? 1 = some .right ∧
    (menuSettings? menuParams).isSome = true ∧ menuSettings? { menuParams with inactivity := 61 } = none ∧
    live.page 15 = none ∧ (((live.setPage 15 (some ⟨[], [item true]⟩)).page 15).map (·.items.length)) = some 1 ∧
    (∀ e ∈ (live.seat .left).stack ++ (live.seat .right).stack, e.page ≠ 15) ∧
    (∀ o, ((stacked 1 o).seat .left).root.page = 0 ∧ ((stacked 1 o).seat .left).isOpen = o ∧ ((stacked 1 o).page 0).isSome = true) ∧
    (let c := (stacked 1 true).seat .left
     c.root.page ≠ 1 ∧ c.above = [] ++ ⟨1, 0⟩ :: [⟨2, 0⟩] ∧ ((stacked 1 true).page 1).isSome = true) ∧
    (live.seat .left).currentPage ≠ 15 ∧ (live.seat .right).currentPage ≠ 15 ∧
    (3 + [223].length + ((List.replicate 12 itemParams).map fun i => 5 + i.label.length + (match i.icon with
      | .present _ => 1
      | .absent => 0
      | .badPresence => 0)).sum = 364 ∧
      ∀ o, ((stacked 1 o).seat .left).isOpen = o ∧ ((stacked 1 o).seat .left).root.page ≠ 1) ∧
    (let c := (seatState true false).seat .left; c.isOpen = true ∧ c.currentPage = 0) ∧
    (let c := (closedShown).seat .left
     c.isOpen = false ∧ c.currentPage = 0 ∧ settle (closedShown.items 0) c.highlight ≠ c.highlight) :=
  ⟨running_live, by decide +kernel⟩

theorem witness_MenusStayLawful : MenusLawful State.reset ∧ step State.reset = .next (idle State.reset) := by
  refine ⟨?_, rfl⟩
  constructor
  · intro n p h; revert n; simp [State.page, State.reset, State.resetOver, Menu.reset]
  · intro k
    constructor
    · cases k <;> decide
    · cases k <;> simp [State.page, State.reset, State.resetOver, Menu.reset]

/-- A zone whose FIFO holds n frames in PLAYING. -/
def playingZone (n : Nat) : ZoneRecord := { ZoneRecord.reset with fifo := List.replicate n ⟨1, 1⟩, fifoState := .playing }

theorem witness_FilmFifoArrivals :
    ZoneRecord.reset.fifo.length ≤ 4096 ∧ (playingZone 4096).fifo.length ≤ 4096 ∧
    ZoneRecord.reset.overflow + (List.replicate 1920 (⟨0, 0⟩ : StereoFrame)).length ≤ 4294967295 ∧
    ZoneRecord.reset.fifo.length < 1024 ∧ (List.replicate 1920 (⟨0, 0⟩ : StereoFrame)).length ≤ 1920 := by decide +kernel

theorem witness_ZoneBlockTakesFilmAndMixes :
    (∀ v, (live.voice v).block.length = 48) ∧ (live.zone .seatL).saturate + 96 ≤ 4294967295 ∧
    (live.zone .seatL).fifoState = .priming ∧ (playingZone 47).fifoState = .playing ∧ (playingZone 47).fifo.length < 48 ∧
    48 ≤ (playingZone 48).fifo.length ∧ Zone.cabin ≠ .seatL ∧
    ((live.zone .cabin).fifo = [] ∧ (live.zone .cabin).fifoState = .priming ∧
     step { live with pending := [.zoneBlockEvent .cabin] } = exec (.zoneBlockEvent .cabin) live) := by
  and_intros
  all_goals first | rfl | decide +kernel

theorem witness_MixArithmetic :
    (let g : MixGains := ⟨32768, 32768, true, 32768, false⟩
     (-32768 : Int) ≤ -32768 ∧ (-32768 : Int) ≤ 32767 ∧ 32768 ≤ 32768 ∧ g.vol ≤ 32768 ∧ g.duck ≤ 32768 ∧ g.mute = true ∧
     g.follows = false) ∧ (let g : MixGains := ⟨32768, 32768, false, 32768, true⟩; g.mute = false ∧ g.follows = true) ∧ -32768 ≤ (⟨-32768, 32767⟩ : StereoFrame).left ∧ (⟨-32768, 32767⟩ : StereoFrame).right ≤ 32767 := by decide

theorem witness_DuckGainBoundsAndRamp :
    (let r := { ZoneRecord.reset with demand := .active }
     r.settings.duckLevel ≤ 32768 ∧ 1 ≤ r.settings.ramp ∧ r.settings.duckLevel ≤ r.gain ∧ r.gain ≤ 32768 ∧ r.target < r.gain) ∧
    (let r := { ZoneRecord.reset with gain := 8192 }
     r.settings.duckLevel ≤ r.gain ∧ r.gain < r.target) ∧ ZoneRecord.reset.gain = ZoneRecord.reset.target ∧
    ({ ZoneRecord.reset with demand := .hold } : ZoneRecord).demand = .hold ∧ ZoneRecord.reset.demand = .none ∧
    ({ ZoneSettings.default with duckLevel := 32768 } : ZoneSettings).duckLevel ≤ 32768 ∧ (live.zone .cabin).gain ≤ 32768 := by decide

/-- SEAT_L in a demand state, with or without a voice's demand, a hold time, and the takeover demand. -/
def demanded (d : DemandState) (voice takeover : Bool) (hold : Nat) : State := { live with
  audio.seatL.demand := d, audio.seatL.voiceDemand := voice, audio.seatL.settings.hold := hold, takeover.duckDemand := takeover }

theorem witness_DuckDemandStates :
    (∀ d v t h, ((demanded d v t h).zone .seatL).demand = d ∧ takeoverDemandOn (demanded d v t h) .seatL = t ∧
      ((demanded d v t h).zone .seatL).settings.hold = h ∧ ((demanded d v t h).zone .seatL).voiceDemand = v ∧
      (demanded d v t h).takeover.duckDemand = t) ∧ Zone.seatL ≠ .cabin :=
  ⟨fun _ _ _ _ => ⟨rfl, rfl, rfl, rfl, rfl⟩, nofun⟩

theorem witness_ZoneSetAndVolumeTable :
    Running live ∧ zone? 2 = some .cabin ∧ zone? 3 = none ∧ (zoneSettings? .cabin ⟨40, 0, 32768, 100, 1000⟩).isSome = true ∧
    zoneSettings? .cabin ⟨40, 1, 32768, 100, 1000⟩ = none ∧ (zoneSettings? .seatL ⟨40, 1, 0, 1, 0⟩).isSome = true ∧
    (∀ x ∈ defaultVolumeTable.toList, x ≤ 32768) ∧ defaultVolumeTable.toList.head? = some 0 ∧
    defaultVolumeTable.toList.Pairwise (· ≤ ·) ∧ (List.replicate 40 0).length ≠ 41 :=
  ⟨running_live, by decide +kernel⟩

/-- The store with chime sounds as assets 2 and 3, and catalogue entries 0 and 31 that play them. -/
def chimeRecord (id : Nat) : AssetRecord := ⟨id, .chimePcm, 1, 4096, 0, [0], 0⟩
def chimeEntry (asset priority : Nat) : ChimeEntry := ⟨asset, 32768, priority, ⟨true, true, false⟩, 255, 0, true, false⟩
def chiming : State := { live with
  store.directory := [chimeRecord 2, chimeRecord 3],
  chime.catalogue := ((live.chime.catalogue.set 0 (some (chimeEntry 2 0))).set 31 (some (chimeEntry 3 7))).set 5 (some (chimeEntry 9 7)) }

/-- A queue entry, and a full queue of entries 1 to 8 of one priority. -/
def queued (id : Fin 32) (priority arrival : Nat) : QueueEntry := ⟨id, ⟨true, true, false⟩, priority, 255, false, arrival⟩
def fullQueue (priority : Nat) : List QueueEntry :=
  [queued 1 priority 0, queued 2 priority 1, queued 3 priority 2, queued 4 priority 3, queued 6 priority 4, queued 7 priority 5,
   queued 8 priority 6, queued 9 priority 7]

/-- A voice of priority 7 that holds both seats, of chime 31 or of another. -/
def held (id : Fin 32) : Voice :=
  { Voice.reset with state := .playing, id := id, zones := ⟨true, true, false⟩, priority := 7, length := 4096, repeats := 255 }
def sounding (id : Fin 32) : State := chiming.setVoice 3 (held id)

/-- Four voices of one priority, all on the seats. -/
def crowded : State := (((sounding 31).setVoice 0 (held 1)).setVoice 1 (held 2)).setVoice 2 (held 3)

theorem witness_ChimePlayIsCheckedAndSettled :
    Running chiming ∧ 32 ≤ 32 ∧ 8 ≤ 8 ∧ zoneSet? 7 = some ⟨true, true, true⟩ ∧ zoneSet? 0 = some ZoneSet.empty ∧
    chiming.chimeEntry 30 = none ∧ chiming.chimeEntry 31 = some (chimeEntry 3 7) ∧
    (⟨false, false, true⟩ : ZoneSet).inter (chimeEntry 3 7).zones = .empty ∧ (chimeEntry 3 7).zones ≠ .empty ∧
    ({ chiming with store.state := .mounting } : State).store.state ≠ .ready ∧ chiming.store.state = .ready ∧
    usableAsset 9 chiming = none ∧ (usableAsset 3 chiming).isSome = true ∧
    uncovered 31 ⟨true, true, false⟩ (sounding 31) = .empty ∧ uncovered 31 ⟨true, true, false⟩ chiming ≠ .empty ∧
    (∃ x ∈ ({ chiming with chime.queue := [queued 31 7 0] } : State).chime.queue, x.id = 31) ∧
    (∀ x ∈ chiming.chime.queue, x.id ≠ 31) ∧ startTest (queued 31 7 0) chiming = true ∧
    startTest (queued 31 7 0) (sounding 4) = false ∧ (enqueue (queued 31 7 0) (sounding 4)).isSome = true ∧
    enqueue (queued 31 7 8) { sounding 4 with chime.queue := fullQueue 7 } = none ∧
    (chimeAsset 5 chiming = none ∧ (chimeAsset 31 chiming).isSome = true ∧ (chiming.voice 0).state = .idle) ∧
    (holder (sounding 31) .seatL = some 3 ∧ victim (sounding 31) = some 3 ∧ victim live = none) ∧
    (((clearTheWay ⟨true, false, false⟩ (sounding 31)).voice 0).state = .idle ∧
     (∀ v, (crowded.voice v).meets ⟨false, false, true⟩ = false ∧ (crowded.voice v).state ≠ .idle) ∧ victim crowded = some 0) ∧
    ((held 31).repeats = 255 ∧ (held 31).stopping = false ∧ (held 31).tailing = false ∧
     ({ held 31 with stopping := true } : Voice).stopping = true) ∧
    (let s := fun (q : List QueueEntry) => endVoice 3 { sounding 31 with chime.queue := q }
     ((s [queued 31 7 0]).chime.queue.find? fun y => y.id == 31) = some (queued 31 7 0) ∧
     (∀ y ∈ (s (fullQueue 7)).chime.queue, y.id ≠ 31) ∧ 8 ≤ (s (fullQueue 7)).chime.queue.length ∧
     (s []).chime.queue = []) :=
  ⟨⟨rfl, rfl⟩, by decide +kernel⟩

theorem witness_ChimeQueueKeepsItsLaw :
    (∀ q, step { live with chime.queue := q } = .next (idle { live with chime.queue := q })) ∧
    QueueLawful [] ∧ QueueLawful (fullQueue 6) ∧ (∀ x ∈ fullQueue 6, x.id ≠ 31) ∧ (fullQueue 6).length = 8 ∧
    (fullQueue 6).getLast? = some (queued 9 6 7) ∧ (queued 9 6 7).priority < (queued 31 7 8).priority ∧
    (queued 31 6 8).priority ≤ (queued 9 6 7).priority := by
  unfold QueueLawful
  exact ⟨fun _ => rfl, by decide +kernel⟩

/-- The proximity function enabled in a state with chime 31 and one band up to 10 cm, an obstacle at x times 10 cm. -/
def near (x : Nat) (p : ProximityState) : State := { chiming with
  vehicle.fresh := true, vehicle.reverseAsserted := true, vehicle.distances := #v[x, 255, 255, 255],
  chime.proximityId := some 31, chime.proximityBands := [⟨10, 0⟩], chime.proximity := p }

theorem witness_ChimeCatalogueStopAndProximityCommands :
    Running live ∧ 32 ≤ 32 ∧ 32 ≠ 255 ∧ (chimeParams? ⟨1023, 32768, 7, 7, 255, 5000, 1, 1⟩).isSome = true ∧
    chimeParams? ⟨1, 32768, 7, 7, 255, 5000, 1, 1⟩ = none ∧ (∃ v, ((sounding 31).voice v).state ≠ .idle ∧ ((sounding 31).voice v).id = 31) ∧
    (∃ e ∈ fullQueue 7, e.id = 1) ∧ (∀ e ∈ fullQueue 7, e.id ≠ 31) ∧ ¬ ((∃ e ∈ live.chime.queue, e.id = 31) ∨ ∃ v, (live.voice v).state ≠ .idle ∧ (live.voice v).id = 31) ∧
    live.chime.proximity = .off ∧
    (let b : List ProximityBand := [⟨10, 5000⟩, ⟨2550, 0⟩]
     31 ≤ 31 ∧ 1 ≤ b.length ∧ b.length ≤ 5 ∧ (∀ x ∈ b, 10 ≤ x.limit ∧ x.limit ≤ 2550 ∧ x.gap ≤ 5000) ∧
     b.Pairwise (fun a b => a.limit < b.limit)) ∧ ¬ 6 ≤ 5 ∧
    ((near 0 .off).chime.proximityId = some 31 ∧ (near 0 .off).vehicle.reverseAsserted = true ∧ (near 0 .off).vehicle.fresh = true) ∧
    (∃ x ∈ (near 0 .off).vehicle.distances.toList, x < 255 ∧ ∃ b ∈ (near 0 .off).chime.proximityBands, 10 * x < b.limit) ∧
    ¬ (∃ x ∈ (near 1 .off).vehicle.distances.toList, x < 255 ∧ ∃ b ∈ (near 1 .off).chime.proximityBands, 10 * x < b.limit) ∧
    ((near 0 .tailing).chime.proximity = .tailing ∧ (near 1 .quiet).chime.proximity = .quiet) ∧ (near 0 .off).chimeEntry 31 = some (chimeEntry 3 7) ∧ live.chimeEntry 31 = none ∧
    (near 0 .off).store.state = .ready ∧ (usableAsset 3 (near 0 .off)).isSome = true ∧ usableAsset 9 (near 0 .off) = none ∧
    startTest ⟨31, ⟨true, true, false⟩, 7, 255, true, 0⟩ (near 0 .off) = true ∧
    (let s := (near 0 .sounding).setVoice 3 { held 31 with proximity := true, state := .gap }
     (s.voice 3).state = .gap ∧ (s.voice 3).proximity = true ∧ ∀ w, (s.voice w).state ≠ .idle ∧ (s.voice w).proximity = true → w = 3) :=
  ⟨running_live, by decide +kernel⟩

/-- A voice with its first page READY, at a position. -/
def ready (st : VoiceState) (pos : Nat) : Voice :=
  { held 31 with state := st, buffer0 := .ready 0 [1, 2], position := pos, gapTimer := some 0, length := 8192 }

/-- Generation 1 of asset 9 retired with n pins. -/
def retiring (n : Nat) : State := { chiming with store.retired := [⟨9, 1, [4], n⟩] }

theorem witness_VoicePlaysItsSamples :
    (live.voice 0).state = .idle ∧ ({ held 31 with stopping := true } : Voice).state ≠ .idle ∧ (ready .loading 0).state = .loading ∧
    (ready .gap 0).stopping = false ∧ (held 31).readyPage ((held 31).position / 2048) = none ∧
    (ready .playing 1999).readyPage ((ready .playing 1999).position / 2048) = some (false, [1, 2]) ∧
    (ready .playing 1999).position % 2048 + 48 < 2048 ∧ (ready .playing 1999).position + 48 < (ready .playing 1999).length / 2 ∧
    (ready .gap 0).gapTimer.isSome = true ∧ (held 31).gapTimer = none ∧ ({ held 31 with tailing := true } : Voice).tailing = true ∧
    (held 31).tailing = false ∧ 2 ≤ (held 31).repeats ∧ (held 31).repeats ≤ 255 ∧ gapOf (held 31) chiming = 0 ∧
    gapOf (held 31) { chiming with chime.catalogue := chiming.chime.catalogue.set 31 (some { chimeEntry 3 7 with gap := 5000 }) } ≠ 0 ∧
    ((ready .playing 2047).position + 1) % 2048 = 0 ∧ (ready .playing 4095).position + 1 = (ready .playing 4095).length / 2 ∧
    ((ready .playing 0).position + 1) % 2048 ≠ 0 ∧ ¬ (ready .playing 0).position + 1 = (ready .playing 0).length / 2 ∧
    (ready .playing 0).stopping = false ∧ (ready .playing 0).buffer1 = .empty ∧
    ({ ready .playing 0 with buffer1 := .reading 1 5 } : Voice).buffer1 = .reading 1 5 ∧
    ({ held 31 with buffer1 := .ready 0 [3] } : Voice).readyPage 0 = some (true, [3]) ∧
    (endVoice 3 { sounding 31 with chime.proximity := .tailing }).chime.proximity = .tailing ∧
    ({ held 31 with proximity := true } : Voice).proximity = true ∧ (held 31).proximity = false ∧
    (let s := near 0 .sounding
     0 ∈ s.vehicle.distances.toList ∧ (∀ y ∈ s.vehicle.distances.toList, 0 ≤ y) ∧
     s.chime.proximityBands = [] ++ ⟨10, 0⟩ :: [] ∧ 10 * 0 < 10) ∧
    (∀ x ∈ (near 1 .sounding).vehicle.distances.toList, x < 255 →
      ∀ b ∈ (near 1 .sounding).chime.proximityBands, b.limit ≤ 10 * x) ∧
    (∃ r ∈ chiming.store.directory, r.id = 2 ∧ r.generation = 1) ∧
    (¬ (∃ r ∈ (retiring 2).store.directory, r.id = 9 ∧ r.generation = 1) ∧
     (∀ n, (retiring n).store.retired = [] ++ ⟨9, 1, [4], n⟩ :: []) ∧
     ∀ r ∈ chiming.store.retired, ¬ (r.id = 9 ∧ r.generation = 1)) := by
  and_intros
  all_goals first | exact fun _ => rfl | decide +kernel

/-- The store with an open transaction of n bytes that has received some. -/
def opened (n received : Nat) : Transaction :=
  { Transaction.reset with state := .opened, id := 2, length := n, reserved := [0], received := received, generation := 1 }
def storing (x : Transaction) : State := { live with store.transaction := x }
def normal (q : List Nat) (marks erase : List (Fin 256)) : State :=
  { live with store.txQueue := q, store.badMarks := marks, store.eraseList := erase }

theorem witness_StoreSelectsInOrder :
    (State.reset.store.state = .unmounted ∧ State.reset.store.op = .idle) ∧ live.store.state ≠ .unmounted ∧
    ({ live with store.op := .badMark 0 } : State).store.op ≠ .idle ∧
    (({ live with store.reads := [⟨.mountCommit, 255, 63⟩] } : State).store.reads = [⟨.mountCommit, 255, 63⟩]) ∧
    ({ live with vehicle.supply := .low } : State).vehicle.supply ≠ .normal ∧ live.vehicle.supply = .normal ∧ live.store.reads = [] ∧
    (normal [63] [] []).store.txQueue = [63] ∧ (normal [] [255] []).store.badMarks = [255] ∧ (normal [] [] [0]).store.eraseList ≠ [] ∧
    (normal [] [] []).store.eraseList = [] ∧
    (let s : State := { live with store.state := .mounting }; s.store.state = .mounting ∧ s.store.reads = []) := by decide +kernel

/-- The mount's end: asset 5 whole in blocks 9 and 8 with its commit page read, an older generation of it whole in block 7
with its commit record on page 0, and a block of asset 6 alone. -/
def mountBlock (b : Fin 256) (id generation sequence count length : Nat) (commit : Option (BitVec 32)) : MountBlock :=
  { block := b, header := { assetId := id, kind := 1, generation := generation, sequence := sequence, blockCount := count,
                            length := length }, commit := commit }
def mounting (left : Nat) : State :=
  { live with
    store.state := .mounting,
    store.mount := { headersLeft := left, commitsLeft := left, commits := [(8, 3#32)], blocks :=
      [mountBlock 7 5 1 0 1 4096 (some 2#32), mountBlock 8 5 2 1 2 300000 none, mountBlock 9 5 2 0 2 300000 none,
       mountBlock 10 6 1 0 2 300000 none] } }

/-- R160, section 8.7.3: the whole group of the highest generation is current with its blocks in sequence order, the other
blocks are discarded, and the commit page of the last block is the only one to read. -/
theorem test_mount_end :
    commitReads (mounting 1).store.mount.blocks = [⟨.mountCommit, 8, 9⟩] ∧
    (mountEnd (mounting 1)).store.directory = [⟨5, .chimePcm, 2, 300000, 3#32, [9, 8], 0⟩] ∧
    (mountEnd (mounting 1)).store.eraseList = [7, 10] := by decide +kernel

theorem witness_PageReadsAreHandedOn :
    (∀ r, live.store.op ≠ .read r) ∧
    (({ live with store.op := .read ⟨.mountHeader, 255, 63⟩ } : State).store.op = .read ⟨.mountHeader, 255, 63⟩) ∧
    (live.voice 3).awaits 0 = none ∧ live.raster.load = none ∧ live.control.profile = none ∧
    ({ held 31 with state := .loading, buffer1 := .reading 0 5 } : Voice).awaits 5 = some (true, 0) ∧
    (let x : Page := ⟨[], 0xFF#8, false, some ⟨1023, 1, 1, 0, 1, 4096⟩, none⟩
     x.factory = 0xFF#8 ∧ x.runtimeBad = false ∧ headerValid ⟨1023, 1, 1, 0, 1, 4096⟩ = true ∧
     headerValid ⟨0, 1, 1, 0, 1, 4096⟩ = false) ∧ (default : Page).header = none ∧
    2 ≤ (mounting 2).store.mount.headersLeft ∧ (mounting 1).store.mount.headersLeft ≤ 1 ∧ 2 ≤ (mounting 2).store.mount.commitsLeft ∧
    (mounting 1).store.mount.commitsLeft ≤ 1 ∧ commitReads (mounting 1).store.mount.blocks ≠ [] ∧ commitReads [] = [] ∧
    ((mounting 1).store.mount.blocks.map (·.block)).Nodup ∧
    ((mounting 1).store.eraseList.Pairwise (· ≤ ·)) ∧ (mounting 1).store.counters.mountDiscard + 4 ≤ 4294967295 :=
  ⟨nofun, by decide +kernel⟩

/-- A program and an erase in flight. -/
def programming (commit isLive : Bool) : State :=
  { storing (opened 4096 4096) with store.op := .program 0 0 default commit isLive }
def erasing : State := { live with store.op := .erase [3, 4], store.eraseList := [3, 4, 7] }

theorem witness_ProgramsErasesAndAbortsComplete :
    ({ erasing with store.aborting := true } : State).store.aborting = true ∧ live.store.aborting = false ∧
    (∀ c l, (programming c l).store.op = .program 0 0 default c l ∧ (programming c l).store.aborting = false ∧
      Running (programming c l) ∧ (programming c l).store.state = .ready) ∧
    (({ live with store.op := .badMark 255 } : State).store.op = .badMark 255) ∧ erasing.store.op = .erase [3, 4] ∧
    (3 : Fin 256) ∉ [(4 : Fin 256)] ∧ (4 : Fin 256) ∈ [(4 : Fin 256)] ∧ erasing.store.counters.eraseFail + 2 ≤ 4294967295 ∧
    (2 ≠ live.raster.glyphSet ∧ live.raster.load = none ∧ glyphStore.asset? 2 = some glyphRecord ∧ glyphRecord.pins = 0) ∧
    (live.links.downlink.state = .up ∧ live.links.downlink.assembler = .assembling ∧ erasing.vehicle.supply ≠ .cranking ∧
      erasing.store.op ≠ .idle ∧ ∀ r, erasing.store.op ≠ .read r) ∧
    live.store.transaction.state = .none ∧ (programming false false).store.transaction.state ≠ .none :=
  ⟨rfl, rfl, fun _ _ => ⟨rfl, rfl, ⟨rfl, rfl⟩, rfl⟩, rfl, rfl, by decide, by decide, by decide +kernel, by decide +kernel,
    ⟨rfl, rfl, nofun, nofun, nofun⟩, rfl, nofun⟩

theorem live_no_free_block : freeFromCursor live = [] := by
  simp only [freeFromCursor, List.filter_eq_nil_iff]
  intro b _
  simp [State.blockSet, live, State.reset, State.resetOver, Store.reset]

theorem one_free_block : 0 < (freeFromCursor { live with store.sets := live.store.sets.set 255 .free }).length := by
  refine List.length_pos_of_mem (a := 255) (List.mem_filter.mpr ⟨List.mem_map.mpr ⟨255, by simp, by decide +kernel⟩, ?_⟩)
  decide +kernel

theorem witness_AssetTransactionCommands :
    Running live ∧ Running (storing (opened 8192 4095)) ∧ (freeFromCursor live).length < (1 + 262143) / 262144 ∧
    (1 + 262143) / 262144 ≤ (freeFromCursor { live with store.sets := live.store.sets.set 255 .free }).length ∧ (storing (opened 1 0)).store.transaction.state ≠ .none ∧
    ({ live with store.state := .mounting } : State).store.state ≠ .ready ∧ beginParamsOk 1023 1 16777216 = true ∧
    beginParamsOk 1023 2 1 = false ∧
    ({ opened 1 1 with state := .finishing } : Transaction).state = .finishing ∧ [1#8].length ≤ 1024 ∧
    (let x := opened 8192 4095
     4094 ≠ x.received ∧ 8192 < x.received + 4098 ∧ x.received + 1 ≤ x.length ∧ (x.buffer 0).busy = false ∧
     x.received % 4096 + 1 ≤ 4096 ∧ (x.buffer 0).bytes.length + 1 ≠ 4096) ∧
    (({ opened 8192 4096 with buffer1 := ⟨.queued 1, []⟩ } : Transaction).buffer 1).busy = true ∧
    (let x := opened 8192 4095
     x.received + 2 ≤ x.length ∧ 4096 - x.received % 4096 < [1#8, 2#8].length ∧ [1#8].length ≤ 4096 - x.received % 4096 ∧
     (x.received + 2 - 1) / 4096 = 1 ∧ (x.buffer 1).busy = false) ∧
    (opened 1 0).received < (opened 1 0).length ∧ (opened 1 1).length ≤ (opened 1 1).received ∧ 0#32 ≠ 1#32 ∧
    ~~~ (opened 1 1).crc = ~~~ (opened 1 1).crc :=
  ⟨running_live, ⟨rfl, rfl⟩, by rw [live_no_free_block]; decide, one_free_block, by decide +kernel⟩

theorem witness_AssetDeleteInfoStatusAndAbort :
    interpreterFree live = true ∧ Running glyphStore ∧ 1024 ≤ 1024 ∧ 1023 ≤ 1023 ∧ glyphStore.store.state = .ready ∧
    glyphStore.asset? 1 = none ∧ glyphStore.asset? 2 = some glyphRecord ∧ glyphRecord.pins = 0 ∧ 1 ≤ ({ glyphRecord with pins := 1 } : AssetRecord).pins ∧
    ({ live with store.state := .unmounted } : State).store.state ≠ .ready ∧ ({ erasing with store.aborting := true } : State).store.aborting = true ∧
    live.store.op = .idle ∧ live.store.transaction.state = .none ∧ (storing (opened 1 0)).store.transaction.state ≠ .none ∧
    erasing.store.op = .erase [3, 4] ∧ erasing.store.transaction.state = .none :=
  ⟨rfl, ⟨rfl, rfl⟩, by decide +kernel⟩

theorem witness_UplinkHandoverAndSending :
    live.links.uplink.state = .up ∧ live.uplink.queue.length < 16 ∧ 16 ≤ fullUplink.uplink.queue.length ∧
    (training .uplink).links.uplink.state ≠ .up ∧
    (let s := { fullUplink with uplink.waiting := some (reply true) }
     s.links.uplink.state = .up ∧ s.uplink.queue = reply false :: List.replicate 15 (reply false) ∧ s.uplink.waiting = some (reply true)) ∧
    (reply false).retrains = false ∧ (reply true).retrains = true ∧ fullUplink.uplink.waiting = none ∧
    (let s := { live with uplink.waiting := some (reply false) }
     s.uplink.waiting = some (reply false) ∧ s.uplink.queue.length < 16) ∧
    (let s := { live with uplink.queue := [reply true], uplink.waiting := some (reply false) }
     s.links.uplink.state = .up ∧ s.uplink.queue = [reply true] ∧ s.uplink.waiting = some (reply false)) ∧
    live.uplink.queue = [] ∧
    ({ live with control.softReset := .arranged } : State).control.softReset = .arranged := by decide +kernel

theorem witness_LinkEventsAndRetrain :
    (∀ l, ((training l).link l).state = .training ∧ (live.link l).state = .up) ∧ Running live ∧ Running (training .uplink) ∧
    link? 5 = some .right ∧ link? 1 = some .uplink ∧ (training .uplink).links.uplink.state ≠ .up ∧ 6 ≤ 6 ∧
    (let s := { live with uplink.waiting := some (reply false), control.softReset := .arranged }
     s.uplink.waiting.isSome = true ∧ s.control.softReset = .arranged) ∧
    (∀ p : Panel, (live.link p.link).state = .up ∧ (live.panel p).requestActive = false ∧
      ((live.setPanel p { live.panel p with requestActive := true }).panel p).requestActive = true) ∧
    live.takeover.phase = .idle ∧ (taken .engaged .live).takeover.phase ≠ .idle ∧
    ((live.setRing 1 (ring (some 1) (buffers .complete 1))).ring 1).buffers[1]?.isSome = true :=
  ⟨by intro l; cases l <;> decide, running_live, ⟨rfl, rfl⟩, rfl, rfl, nofun, by decide, ⟨rfl, rfl⟩,
    fun p => by cases p <;> exact ⟨rfl, rfl, rfl⟩, rfl, nofun, rfl⟩

theorem witness_AssemblerAndDiscardedPackets :
    (∀ a, ((assembler .camera a).link .camera).state = .up ∧ ((assembler .camera a).link .camera).assembler = a) ∧
    (List.replicate 7 0#8).length ≤ 7 ∧ (0x11#8).toNat % 16 ≠ 0 ∧ (0x40#8).toNat % 16 = 0 ∧ (List.replicate 3844 0#8).length ≤ 3844 ∧
    kind? ((0x40#8).toNat / 16) = some .audio ∧ allowedOn .camera .audio = false ∧ kind? ((0x70#8).toNat / 16) = none :=
  ⟨fun _ => ⟨rfl, rfl⟩, by decide +kernel⟩

/-- A control FIFO with a packet in front. -/
def fifo (code : Byte) (params : List Byte) (good : Bool) : State :=
  { live with control.fifo := [⟨0xA5, code, params, good⟩] }

theorem witness_ControlPacketsEnterAndAreTaken :
    live.control.fifo.length < 8 ∧ 8 ≤ ({ live with control.fifo := List.replicate 8 ⟨0, 84, [], true⟩ } : State).control.fifo.length ∧
    [1#8] ≠ [] ∧ badCrc.length = 4 ∧ badCrc ≠ beBytes 4 (crc32 [1#8]).toNat ∧
    (∀ c ps g, interpreterFree (fifo c ps g) = true ∧ (fifo c ps g).control.fifo = [⟨0xA5, c, ps, g⟩] ∧
      (entryWaits (fifo c ps g) && (fifo c ps g).control.profileTurn) = false) ∧
    readCommand 255 = none ∧ (readCommand 84).isSome = true ∧ (readCommand 1).isSome = true ∧ 1 ∉ [18, 23, 75, 81, 84] ∧
    84 ∈ [18, 23, 75, 81, 84] ∧ ({ live with control.phase := .starting } : State).control.phase ≠ .running ∧ live.control.phase = .running ∧
    lockedOut 85 none (taken .linger .live) = true ∧ lockedOut 84 none live = false ∧
    ((readCommand 84).bind fun r => decodeParams r [1#8]) = none ∧
    84 ∉ [32, 41, 51] ∧ ¬ 2 ≤ [0#8].length ∧ 2 ≤ [0#8, 1#8].length ∧
    (∀ q ∈ [(32, []), (32, [2#8]), (41, [0#8]), (41, [0#8, 1#8]), (51, [])], ((readCommand q.1).bind fun r => decodeParams r q.2) = none) ∧
    ((readCommand 84).bind fun r => decodeParams r []) = some .identify :=
  ⟨by decide, by decide, by decide, by decide, badCrc_wrong.2, fun _ _ _ => ⟨rfl, rfl, rfl⟩, by decide +kernel⟩

theorem witness_CommandParametersRoundTrip :
    (Command.itemSet 255 255 ⟨List.replicate 255 255, .present 255, 255, 255, 255⟩).encodable = true ∧
    (Command.assetEnd 0xCBF43926#32).encodable = true ∧ (Command.chimeDefine 31 1 none).encodable = true ∧
    (Command.guideSet ⟨0, -1, 65535, 65535, 65535, 255⟩).encodable = true ∧ [0#8] ≠ [] := by decide +kernel

/-- All flags raised. -/
def flagged : State := { live with attention.flags := 0x0FFF }

theorem witness_RaisedFlagNotice :
    flagged.raised .profileError = true ∧ live.raised .takeover = false ∧ live.unmasked .takeover = true ∧
    ({ live with attention.mask := 0 } : State).unmasked .takeover = false ∧ Flag.takeover ≠ .profileError ∧
    live.raised .profileError = false ∧ live.unmasked .profileError = true ∧ live.links.uplink.state = .up ∧
    ({ live with uplink.queue := List.replicate 14 (reply false) } : State).uplink.queue.length + 1 < 16 := by decide +kernel

theorem witness_AttentionAndMaskCommands :
    Running live ∧ Running flagged ∧ 0x0FFF#16 &&& 0xF000#16 = 0#16 ∧ 0x1000#16 &&& 0xF000#16 ≠ 0#16 ∧
    0x0FFF#16 &&& ~~~ live.attention.mask &&& live.attention.flags = 0#16 ∧
    (let s := { flagged with attention.mask := 0x0FFE }
     0x0FFF#16 &&& ~~~ s.attention.mask &&& s.attention.flags ≠ 0#16) :=
  ⟨running_live, ⟨rfl, rfl⟩, by decide +kernel⟩

theorem witness_ReportsAnsweredInEveryPhase :
    interpreterFree State.reset = true ∧ interpreterFree live = true ∧ counterGroup? 6 = some .control ∧ counterGroup? 0 = some .links ∧
    (clearGroup .links { live with links.left.runt := 7 }).links.left.runt = 0 ∧
    7 ≤ 7 ∧ 2 ≤ 2 := by decide +kernel

/-- A soft reset that has taken effect on n packets, with m packets in the uplink queue. -/
def resetting (n m : Nat) : State :=
  { live with
      control.softReset := .failing (List.replicate n ⟨7, 84, [], true⟩), uplink.queue := List.replicate m (reply false) }

theorem witness_SoftResetCommandAndEffect :
    (∀ n m, (resetting n m).uplink.waiting = none ∧
      (resetting n m).control.softReset = .failing (List.replicate n ⟨7, 84, [], true⟩) ∧
      (resetting n m).links.uplink.state = .up) ∧
    interpreterFree live = true ∧ live.control.phase = .running ∧ live.takeover.phase = .idle ∧ live.uplink.queue.length < 16 ∧
    (interpreterFree fullUplink = true ∧ fullUplink.links.uplink.state = .up ∧ 16 ≤ fullUplink.uplink.queue.length) ∧
    State.reset.control.phase ≠ .running ∧ (taken .linger .live).takeover.phase ≠ .idle ∧ live.asset? 1 = none ∧
    (({ live with store.directory := [{ glyphRecord with id := 1, kind := .profile }] } : State).asset? 1).isSome = true ∧
    (resetting 8 8).uplink.queue.length + 8 ≤ 16 ∧ (resetting 8 9).uplink.queue.length + 7 = 16 ∧
    (storing (opened 1 0)).store.transaction.state ≠ .none ∧ (training .uplink).links.uplink.state ≠ .up :=
  ⟨fun _ _ => ⟨rfl, rfl, rfl⟩, by decide +kernel⟩

theorem witness_FullResetState :
    State.reset.store.op = .idle ∧ erasing.store.op = .erase [3, 4] ∧ (3 : Fin 256) ∈ [(3 : Fin 256), 4] ∧ (5 : Fin 256) ∉ [(3 : Fin 256), 4] ∧
    ({ live with store.op := .badMark 3 } : State).store.op = .badMark 3 ∧
    ({ live with store.op := .read ⟨.mountHeader, 0, 0⟩ } : State).store.op = .read ⟨.mountHeader, 0, 0⟩ ∧
    (programming false true).store.op = .program 0 0 default false true ∧ 0 < 64 ∧ (1 : Fin 256) ≠ 0 := by decide +kernel

/-- A profile of one entry whose packet is given. -/
def entryOf (packet : List Byte) : ProfileRun :=
  { generation := 1, length := 2 + packet.length, offset := 0, bytes := beBytes 2 packet.length ++ packet, nextPage := 1, token := none }
def profiling (packet : List Byte) : State :=
  { live with control.phase := .profile, control.profile := some (entryOf packet) }

/-- A packet of ATTENTION_ACK with the two bytes of a flag word. -/
def ackPacket (flags : List Byte) : List Byte := packetBytes .ctrl 0 0 0 82 flags

theorem witness_ProfileEntryTaken :
    (∀ packet, interpreterFree (profiling packet) = true ∧ (profiling packet).control.phase = .profile ∧
      (profiling packet).control.profile = some (entryOf packet) ∧ (profiling packet).control.fifo = []) ∧
    (∀ n, ({ live with store.directory := [{ glyphRecord with id := 1, kind := .profile, length := n }] } : State).asset? 1 =
      some { glyphRecord with id := 1, kind := .profile, length := n }) ∧
    (entryOf (List.replicate 7 1#8)).bytes = 0#8 :: 7#8 :: List.replicate 7 1#8 ∧
    (let rest := ackPacket [0, 1]
     (entryOf rest).bytes = 0#8 :: 14#8 :: rest ∧ ¬ (14 < 8 ∨ 3852 < 14 ∨ (entryOf rest).length < 0 + 2 + 14) ∧ 14 ≤ rest.length) ∧
    checkPacket .downlink (List.replicate 8 1#8) = .discarded .hdrErr ∧
    checkPacket .downlink (packetBytes .ctrl 0 0 0 85 []) = .accepted ⟨.ctrl, 0, 0, 0, 85, [], true⟩ ∧
    checkPacket .downlink (ackPacket [0, 1]) = .accepted ⟨.ctrl, 0, 0, 0, 82, [0, 1], true⟩ ∧ 82 ∉ [70, 71, 72, 73, 76, 85] ∧
    (answerPacket true ⟨0, 82, [0, 1], true⟩ live).status = .ok ∧ (answerPacket true ⟨0, 82, [16, 0], true⟩ live).status ≠ .ok ∧
    (let p : ProfileRun := { entryOf [] with offset := 1, bytes := [0#8] }
     p.bytes.length < 2 ∧ p.length < p.offset + 2 ∧ p.offset ≠ p.length ∧ p.token = none) ∧
    ({ entryOf [] with offset := 2 } : ProfileRun).offset = (entryOf []).length ∧
    ({ entryOf [] with offset := 0, bytes := [], token := some 0 } : ProfileRun).token.isSome = true ∧
    ¬ ((entryOf []).length < (entryOf []).offset + 2) ∧ live.asset? 1 = none ∧
    ({ entryOf [] with token := some 0 } : ProfileRun).token = some 0 ∧ (entryOf []).token ≠ some 0 ∧
    ((refuse .param live).after = .nothing ∧ (⟨.ok, [], live, .retrainUplink⟩ : Answer).after = .retrainUplink ∧
     (⟨.ok, [], live, .flagsNotice⟩ : Answer).after = .flagsNotice) :=
  ⟨fun _ => ⟨rfl, rfl, rfl, rfl⟩, fun _ => rfl, by decide +kernel⟩

/-! ### What a tick, the TAG_READ of a skipped frame, and a soft reset of a held store do -/

/-- R2, R4: a report and a pin change that came before the millisecond are not overtaken by an older expiry. -/
theorem test_tick_judges_afresh :
    (tick { live with vehicle.fresh := true, vehicle.age := 299 }).vehicle.fresh = false ∧
    (tick { live with vehicle.fresh := true, vehicle.age := 0 }).vehicle.fresh = true := by decide +kernel

/-- R53: a skipped frame is a frame in progress, with a number and no buffer. -/
theorem test_tag_read_skipped : (frameStateBytes (some (frame none .unseen))).take 4 = [2, 0, 7, 0] := by decide +kernel

/-- R94, R115: locking a closed menu changes the context, and a menu render follows. -/
theorem test_menu_lock_requests : (after (.menuLock 0 0 1) rendering).raster.menuL.requested = true := by decide +kernel

/-- R3, R156: the reset's NORMAL supply ends a hold, and the erase that waited begins. -/
theorem test_soft_reset_ends_hold : (after .softResetEffect { resetting 0 0 with
    vehicle.supply := .low, store.eraseList := [3] }).store.op = .erase [3] := by decide +kernel

/-- R94, R111: a bump that starts the stopped timer of an open menu changes the context, and a menu render follows. -/
theorem test_touch_timer_requests :
    (touchTimer .left { stacked 1 true with raster.inFlight := rendering.raster.inFlight }).raster.menuL.requested = true ∧
    (touchTimer .left { seatState true false with raster.inFlight := rendering.raster.inFlight }).raster.menuL.requested = false := by
  decide +kernel

/-- R185, R186: a packet's area of a wrong length is LENGTH, whatever its command. -/
theorem test_lengths_mismatched :
    (∀ p ∈ [⟨0, 31, List.replicate 17 0#8, true⟩, ⟨0, 32, [], true⟩, ⟨0, 32, 2#8 :: List.replicate 19 0#8, true⟩, ⟨0, 41, [0], true⟩,
        ⟨0, 41, [0, 1], true⟩, (⟨0, 51, List.replicate 81 0#8, true⟩ : ControlPacket)],
      (answerPacket false p live).status = .length) := by decide +kernel

/-- R31, R106, R122: at its owner, a length that does not match the counts is PARAM. -/
theorem test_owner_judges_the_length :
    (rowTableSet ⟨21, rowParams⟩ live).status = .ok ∧ (rowTableSet ⟨20, rowParams⟩ live).status = .param ∧
    (pageSet 0 [] ⟨4, [itemParams]⟩ live).status = .param ∧ (volumeTableSet (List.replicate 40 0) live).status = .param := by
  decide +kernel

/-- R14: a frame of the camera tag that completes in another ring than the camera ring is no good camera frame. -/
theorem test_good_frame_in_the_camera_ring :
    (let s := cameraStream (some (frame (some 0) .written))
     isGoodFrame 9 7 s = true ∧
     isGoodFrame 9 7 (s.setTag 9 { s.tag 9 with descriptor := some (.video { video with ring := 2 }) }) = false) := by
  decide +kernel

/-- R134, R144: the last page in play order holds samples, also where the store has one more page for an odd byte. -/
theorem test_odd_byte_has_no_page :
    ({ held 1 with length := 8193 } : Voice).pages = 2 ∧ ({ held 1 with length := 8194 } : Voice).pages = 3 ∧
    ({ held 1 with length := 8193 } : Voice).nextPage 1 = some 0 := by decide

/-- R94, R106: a page that is set settles the highlight of a closed menu on it, and its plane is requested for the change;
the other seat's context does not change. -/
theorem test_page_settles_a_closed_menu :
    (let t := pageChanged 0 { closedShown with raster.inFlight := rendering.raster.inFlight }
     (t.seat .left).highlight = 0 ∧ t.raster.menuL.requested = true ∧ t.raster.menuR.requested = false) := by decide +kernel

/-- R142, R146, R190: a stopping voice dropped at a start raises CHIME_DROPPED and is not counted. -/
theorem test_stopping_voice_dropped :
    (let t := silenceVoice 3 (chiming.setVoice 3 { held 31 with stopping := true })
     t.raised .chimeDropped = true ∧ t.chime.counters.dropped = 0 ∧ (t.voice 3).state = .idle) := by decide +kernel

/-- R157: a bad-mark write cut by a full reset leaves the block as the mount finds it by its header. -/
theorem test_bad_mark_cut_by_reset :
    (after .fullReset { live with store.op := .badMark 3 }).store.array = live.store.array := by decide +kernel

theorem witness_StepRunsTheFrontCommand :
    live.pending = [] ∧ (resetting 8 0).pending = [] ∧ (resetting 8 0).uplink.waiting = none ∧
    (resetting 8 0).control.softReset = .failing (List.replicate 8 ⟨7, 84, [], true⟩) ∧
    (let s := profiling (ackPacket [0, 1])
     s.pending = [] ∧ interpreterFree s = true ∧ entryWaits s = true ∧ s.control.fifo = []) ∧
    (let s := { profiling (ackPacket [0, 1]) with control.profileTurn := false, control.fifo := [⟨7, 84, [], true⟩] }
     s.pending = [] ∧ interpreterFree s = true ∧ s.control.fifo ≠ [] ∧ s.control.profileTurn = false) ∧
    (interpreterFree live = true ∧ entryWaits live = false ∧ live.control.fifo = []) ∧
    (let s := { live with uplink.waiting := some (reply false) }
     s.pending = [] ∧ interpreterFree s = false ∧ s.uplink.waiting ≠ none) ∧
    (let s := { live with
        vehicle.fresh := true, vehicle.age := live.takeover.settings.freshness,
        vehicle.debounceTimer := some live.takeover.settings.debounce, vehicle.mismatchTimer := some 1000,
        takeover.startTimer := some 0, takeover.watchdogTimer := some 0, takeover.lingerTimer := some 0,
        menu.left.timer := some 0, audio.cabin.holdTimer := some 0 }
     s.takeover.settings.freshness ≤ s.vehicle.age ∧ s.vehicle.mismatchTimer = some 1000 ∧ s.takeover.startTimer = some 0 ∧
     (s.seat .left).timer = some 0 ∧ (s.zone .cabin).holdTimer = some 0) ∧
    (let s := { live with
        vehicle.debounceTimer := some (live.takeover.settings.debounce - 1), vehicle.mismatchTimer := some 999 }
     s.vehicle.fresh = false ∧ (∀ n, s.vehicle.debounceTimer = some n → n < s.takeover.settings.debounce) ∧
     (∀ n, s.vehicle.mismatchTimer = some n → n < 1000)) ∧
    (live.takeover.startTimer ≠ some 0 ∧ live.takeover.watchdogTimer ≠ some 0 ∧ live.takeover.lingerTimer ≠ some 0 ∧
     (live.seat .left).timer ≠ some 0 ∧ (live.zone .cabin).holdTimer ≠ some 0 ∧ ((live.voice 0).gapTimer ≠ some 0)) ∧
    (((live.setVoice 0 { held 31 with state := .gap, gapTimer := some 0 }).voice 0).gapTimer = some 0) := by
  and_intros
  all_goals decide +kernel

theorem witness_EveryStepKeepsTheQueuesBounded :
    QueuesBounded live ∧ QueuesBounded fullUplink ∧ step State.reset = .next (idle State.reset) ∧
    step { live with pending := [.storeStatus 0] } = exec (.storeStatus 0) { live with pending := [] } := by
  refine ⟨by unfold QueuesBounded; decide, by unfold QueuesBounded; decide, rfl, rfl⟩

theorem witness_EveryStepKeepsTheMemoryCanonical :
    MemoryCanonical live ∧ MemoryCanonical { live with mem := [(0, 1#8), (134217727, 255#8)] } ∧
    step State.reset = .next (idle State.reset) := by
  refine ⟨by unfold MemoryCanonical; decide, by unfold MemoryCanonical; decide, rfl⟩

end Sys2Proof.Tests
end

section
/-! Raised flags stand (R191): what the Chime Engine and the Takeover Controller do clears no attention flag. -/

namespace Sys2Proof.Machine

variable {g : Flag} {s : State}

/-- A flag's level is read from the attention record alone. -/
theorem raised_of_attention {t : State} (e : t.attention = s.attention) (h : s.raised g = true) : t.raised g = true := by
  rw [State.raised, e]; exact h

/-- A fold keeps a flag raised when each of its steps does. -/
theorem foldl_raised {α : Type} {f : State → α → State}
    (hf : ∀ (u : State) (a : α), u.raised g = true → (f u a).raised g = true) (xs : List α) (h : s.raised g = true) :
    (xs.foldl f s).raised g = true := by
  induction xs generalizing s with
  | nil => exact h
  | cons x xs ih => exact ih (hf s x h)

theorem chimeDropped_raised (h : s.raised g = true) : (chimeDropped s).raised g = true :=
  raiseFlag_raised_of_raised _ (raised_of_attention (by simp) h)

theorem silenceVoice_raised (v : Fin 4) (h : s.raised g = true) : (silenceVoice v s).raised g = true := by
  have ended : (endVoice v s).raised g = true := raised_of_attention (by simp) h
  have gone : (proximityVoiceGone (s.voice v) (endVoice v s)).raised g = true := raised_of_attention (by simp) ended
  have dropped : (if (s.voice v).stopping then raiseFlag .chimeDropped (proximityVoiceGone (s.voice v) (endVoice v s))
      else chimeDropped (proximityVoiceGone (s.voice v) (endVoice v s))).raised g = true := by
    split
    · exact raiseFlag_raised_of_raised _ gone
    · exact chimeDropped_raised gone
  unfold silenceVoice
  dsimp only
  split
  · split
    · exact raised_of_attention (by split <;> simp) ended
    · split
      · exact raised_of_attention (by split <;> simp) ended
      · exact dropped
  · exact dropped

theorem clearTheWay_raised (z : ZoneSet) (h : s.raised g = true) : (clearTheWay z s).raised g = true := by
  unfold clearTheWay
  dsimp only
  have cleared := foldl_raised (g := g) (f := fun s v => if (s.voice v).meets z then silenceVoice v s else s)
    (fun u v hu => by
      split
      · exact silenceVoice_raised v hu
      · exact hu) (List.finRange 4) h
  split
  · exact cleared
  · split
    · exact cleared
    · exact silenceVoice_raised _ cleared

theorem startEntry_raised (e : QueueEntry) (h : s.raised g = true) : (startEntry e s).raised g = true := by
  have cleared := clearTheWay_raised e.zones h
  have kept : (startEntry e s).attention = (clearTheWay e.zones s).attention := by
    unfold startEntry
    dsimp only
    split <;> simp
  exact raised_of_attention kept cleared

theorem purgeEntry_raised (e : QueueEntry) (h : s.raised g = true) : (purgeEntry s e).raised g = true :=
  raised_of_attention (by unfold purgeEntry; split <;> simp) h

theorem examine_raised (q : List QueueEntry) (h : s.raised g = true) : (examine q s).1.raised g = true := by
  induction q generalizing s with
  | nil => exact h
  | cons e q ih =>
    unfold examine
    split
    · exact ih (purgeEntry_raised e h)
    · split
      · dsimp only; exact startEntry_raised e h
      · exact ih h

theorem dispatchFor_raised (n : Nat) (h : s.raised g = true) : (dispatchFor n s).raised g = true := by
  induction n generalizing s with
  | zero => exact h
  | succ n ih =>
    have examined := examine_raised s.chime.queue h
    unfold dispatchFor
    split <;> rename_i e <;> rw [e] at examined
    · exact ih examined
    · exact examined

theorem dispatch_raised (h : s.raised g = true) : (dispatch s).raised g = true := dispatchFor_raised 4096 h

theorem dispatchAfter_raised (before : State) (h : s.raised g = true) : (dispatchAfter before s).raised g = true := by
  unfold dispatchAfter
  split
  · exact h
  · exact dispatch_raised h

theorem enqueue_raised {e : QueueEntry} {t : State} (ht : enqueue e s = some t) (h : s.raised g = true) :
    t.raised g = true := by
  unfold enqueue at ht
  dsimp only at ht
  split at ht
  · injection ht with ht; subst ht
    exact raised_of_attention (by split <;> simp) h
  · split at ht
    · cases ht
    · rename_i l _
      split at ht
      · injection ht with ht; subst ht
        have dropped := chimeDropped_raised (s := removeEntry l s) (g := g) (raised_of_attention (by simp) h)
        exact raised_of_attention (by split <;> simp) dropped
      · cases ht

theorem settleRequest_raised (id : Fin 32) (z : ZoneSet) (c : ChimeEntry) (p : Bool) (h : s.raised g = true) :
    (settleRequest id z c p s).2.raised g = true := by
  have arrived : ({ s with chime.nextArrival := s.chime.nextArrival + 1 } : State).raised g = true := h
  unfold settleRequest
  dsimp only
  generalize (if p = true then 255 else c.repeats) = repeats
  split
  · exact raised_of_attention (by simp) arrived
  · split
    · dsimp only; exact dispatch_raised (raised_of_attention (by simp) arrived)
    · split
      · dsimp only; exact dispatch_raised (startEntry_raised _ arrived)
      · split <;> dsimp only
        · rename_i e
          exact dispatch_raised (enqueue_raised e arrived)
        · exact dispatch_raised arrived

theorem internalRequest_raised (id : Fin 32) (z : Option ZoneSet) (p : Bool) (h : s.raised g = true) :
    (internalRequest id z p s).raised g = true := by
  unfold internalRequest
  split
  · exact raised_of_attention (by simp) h
  · rename_i c _
    split
    · exact raised_of_attention (by simp) h
    · split
      · exact raised_of_attention (by simp) h
      · have settled := settleRequest_raised id (z.getD c.zones) c p h
        split <;> rename_i e <;> rw [e] at settled
        · exact raised_of_attention (by simp) settled
        · exact settled

theorem requestById_raised (id : Nat) (z : Option ZoneSet) (h : s.raised g = true) :
    (requestById id z s).raised g = true := by
  unfold requestById
  split
  · exact h
  · exact internalRequest_raised _ z false h

theorem proximityRequest_raised (h : s.raised g = true) : (proximityRequest s).raised g = true := by
  unfold proximityRequest
  split
  · exact internalRequest_raised _ none true (raised_of_attention (by simp) h)
  · exact raised_of_attention (by simp) h

theorem proximityStop_raised (h : s.raised g = true) : (proximityStop s).raised g = true := by
  have emptied : (setQueue (s.chime.queue.filter fun e => !e.proximity) s).raised g = true :=
    raised_of_attention (by simp) h
  have ended := foldl_raised (g := g)
    (f := fun s v => if (s.voice v).busy && (s.voice v).proximity then endVoice v s else s)
    (fun u v hu => by
      split
      · exact raised_of_attention (by simp) hu
      · exact hu) (List.finRange 4) emptied
  unfold proximityStop
  exact dispatchAfter_raised s (raised_of_attention (by simp) ended)

theorem proximityEvaluate_raised (h : s.raised g = true) : (proximityEvaluate s).raised g = true := by
  unfold proximityEvaluate
  split
  · split
    · exact proximityRequest_raised h
    · exact h
  · split
    · exact h
    · exact proximityStop_raised h

end Sys2Proof.Machine
end

section
/-! The Vehicle State Monitor and the phase: one rule per operation of sections 1.1 to 1.7. -/

namespace Sys2Proof.Machine

/-! ### The mismatch monitor (R6) -/

theorem Vehicle.disagrees_iff (v : Vehicle) : v.disagrees = true ↔ v.fresh = true ∧
    ((v.debounced = true ∧ (v.gear = .park ∨ v.gear = .neutral ∨ v.gear = .drive)) ∨
      (v.debounced = false ∧ v.gear = .reverse)) := by
  unfold Vehicle.disagrees
  cases v.debounced <;> simp [or_assoc]

/-- A record that is not fresh agrees with the pin. -/
theorem Vehicle.disagrees_stale {v : Vehicle} (h : v.fresh = false) : v.disagrees = false := by
  simp [Vehicle.disagrees, h]

theorem updateMismatch_begins {s : State} (hd : s.vehicle.disagrees = true) (hm : s.vehicle.mismatch = .agree) :
    updateMismatch s = { s with vehicle.mismatch := .disagree, vehicle.mismatchTimer := some 0 } := by
  simp [updateMismatch, hd, hm]

theorem updateMismatch_lasts {s : State} (hd : s.vehicle.disagrees = true) (hm : s.vehicle.mismatch ≠ .agree) :
    updateMismatch s = s := by
  unfold updateMismatch
  cases h : s.vehicle.mismatch <;> simp_all

theorem updateMismatch_agrees {s : State} (hd : s.vehicle.disagrees = false) (hm : s.vehicle.mismatch = .agree) :
    updateMismatch s = s := by
  simp [updateMismatch, hd, hm]

theorem updateMismatch_ends {s : State} (hd : s.vehicle.disagrees = false) (hm : s.vehicle.mismatch ≠ .agree) :
    updateMismatch s = { s with vehicle.mismatch := .agree, vehicle.mismatchTimer := none } := by
  unfold updateMismatch
  cases h : s.vehicle.mismatch <;> simp_all

/-- Of the record the monitor changes its own state and timer alone. -/
theorem updateMismatch_vehicle (s : State) : ∃ m t,
    (updateMismatch s).vehicle = { s.vehicle with mismatch := m, mismatchTimer := t } := by
  cases hd : s.vehicle.disagrees <;> by_cases hm : s.vehicle.mismatch = .agree
  · exact ⟨_, _, by rw [updateMismatch_agrees hd hm]⟩
  · exact ⟨_, _, by rw [updateMismatch_ends hd hm]⟩
  · exact ⟨_, _, by rw [updateMismatch_begins hd hm]⟩
  · exact ⟨_, _, by rw [updateMismatch_lasts hd hm]⟩

theorem mismatchExpires_disagree {s : State} (hm : s.vehicle.mismatch = .disagree)
    (ht : s.vehicle.mismatchTimer.isSome = true) : mismatchExpires s = raiseFlag .reverseMismatch { s with
      vehicle.mismatch := .reported, vehicle.mismatchTimer := none } := if_pos ⟨hm, ht⟩

theorem mismatchExpires_other {s : State} (hm : s.vehicle.mismatch ≠ .disagree) : mismatchExpires s = s :=
  if_neg fun h => hm h.1

/-! ### The phase (R9 to R13) -/

theorem overExitSpeed_iff (s : State) :
    overExitSpeed s = true ↔ s.vehicle.fresh = true ∧ s.takeover.settings.exitSpeed < s.vehicle.speed := by
  simp [overExitSpeed]

theorem lingerExpires_linger {s : State} (hp : s.takeover.phase = .linger) (ht : s.takeover.lingerTimer.isSome = true) :
    lingerExpires s = exitTakeover s := if_pos ⟨hp, ht⟩

theorem lingerExpires_other {s : State} (hp : s.takeover.phase ≠ .linger) : lingerExpires s = s :=
  if_neg fun h => hp h.1

theorem exitSpeedTest_exits {s : State} (hp : s.takeover.phase = .linger) (ho : overExitSpeed s = true) :
    exitSpeedTest s = exitTakeover s := if_pos ⟨hp, ho⟩

theorem exitSpeedTest_stays {s : State} (h : ¬(s.takeover.phase = .linger ∧ overExitSpeed s = true)) :
    exitSpeedTest s = s := if_neg h

/-! ### R25's check -/

/-- TAKEOVER_DISMISS is locked in ENGAGED alone. -/
theorem lockedOut_dismiss (first : Option Nat) (s : State) :
    lockedOut 22 first s = decide (s.takeover.phase = .engaged) := by
  cases h : s.takeover.phase <;> simp [lockedOut, h]

theorem runCommand_dismiss {s : State} (h : Running s) (mark : Byte) (hp : s.takeover.phase ≠ .engaged) :
    runCommand mark .takeoverDismiss s = handAnswer mark (BitVec.ofNat 8 22) (takeoverDismiss s) :=
  runCommand_running h mark .takeoverDismiss ((lockedOut_dismiss _ s).trans (decide_eq_false hp))

theorem runCommand_dismiss_locked {s : State} (h : Running s) (mark : Byte) (hp : s.takeover.phase = .engaged) :
    runCommand mark .takeoverDismiss s = replied mark 22 .locked [] s :=
  runCommand_locked h mark .takeoverDismiss ((lockedOut_dismiss _ s).trans (decide_eq_true hp))

/-- Settles O5, row by row of R6's table. -/
theorem mismatchMonitorTable : Obligations.MismatchMonitorTable := by
  unfold Obligations.MismatchMonitorTable
  intro s pin
  refine ⟨s.vehicle.disagrees_iff, updateMismatch_begins, updateMismatch_lasts, updateMismatch_agrees,
    updateMismatch_ends, ?_, ?_, rfl, ?_, rfl, rfl⟩
  · exact fun hm ht => congrArg Host.Outcome.next (mismatchExpires_disagree hm ht)
  · exact fun hm => congrArg Host.Outcome.next (mismatchExpires_other hm)
  · obtain ⟨m, t, hv⟩ := updateMismatch_vehicle s
    rw [hv]

/-- Settles O7: R13's three phases, and the two events of R11 that end LINGER. -/
theorem dismissAndLingerExits : Obligations.DismissAndLingerExits := by
  unfold Obligations.DismissAndLingerExits
  refine ⟨fun mark s hr => ⟨fun hp => ?_, fun hp => ?_, fun hp => ?_⟩, fun s => ⟨?_, ?_, ?_, ?_⟩⟩
  · have answer : takeoverDismiss s = done (exitTakeover s) := by simp [takeoverDismiss, hp]
    exact congrArg Host.Outcome.next ((runCommand_dismiss hr mark (by simp [hp])).trans (by rw [answer, handAnswer_done]))
  · exact congrArg Host.Outcome.next (runCommand_dismiss_locked hr mark hp)
  · have answer : takeoverDismiss s = done s := by simp [takeoverDismiss, hp]
    exact congrArg Host.Outcome.next ((runCommand_dismiss hr mark (by simp [hp])).trans (by rw [answer, handAnswer_done]))
  · exact fun hp ht => congrArg Host.Outcome.next (lingerExpires_linger hp ht)
  · exact fun hp => congrArg Host.Outcome.next (lingerExpires_other hp)
  · exact fun hp hf hs => exitSpeedTest_exits hp ((overExitSpeed_iff s).mpr ⟨hf, hs⟩)
  · intro h
    refine exitSpeedTest_stays ?_
    rw [overExitSpeed_iff]
    rintro ⟨hp, hf, hs⟩
    rcases h with h | h | h
    · exact h hp
    · simp [hf] at h
    · omega

end Sys2Proof.Machine
end

section
/-! The empty queue's step and the clock (log entry 19). -/

namespace Sys2Proof.Machine

/-! ### The idle step -/

/-- The soft reset goes on exactly where it has taken effect and no reply waits (R197). -/
theorem softResetDue_iff (s : State) :
    softResetDue s = true ↔ s.uplink.waiting = none ∧ ∃ rest, s.control.softReset = .failing rest := by
  unfold softResetDue
  cases s.control.softReset <;> simp

/-- A free interpreter has no soft reset under way. -/
theorem softResetDue_free {s : State} (h : interpreterFree s = true) : softResetDue s = false := by
  simp only [interpreterFree, Bool.and_eq_true, beq_iff_eq] at h
  simp [softResetDue, h.2]

theorem idle_softReset {s : State} (h : softResetDue s = true) : idle s = softResetEffect s := if_pos h

theorem idle_entry {s : State} (hf : interpreterFree s = true) (he : entryWaits s = true)
    (ht : s.control.fifo = [] ∨ s.control.profileTurn = true) : idle s = takeEntry s := by
  have turn : (s.control.fifo.isEmpty || s.control.profileTurn) = true := by simpa using ht
  simp [idle, softResetDue_free hf, hf, he, turn]

theorem idle_command {s : State} (hf : interpreterFree s = true) (hq : s.control.fifo ≠ [])
    (ht : entryWaits s = false ∨ s.control.profileTurn = false) : idle s = takeCommand s := by
  have turn : (entryWaits s && (s.control.fifo.isEmpty || s.control.profileTurn)) = false := by
    rcases ht with h | h <;> simp [h, hq]
  simp only [idle, softResetDue_free hf, hf, Bool.true_and, turn]
  simp [hq]

theorem idle_clock {s : State} (hf : interpreterFree s = true) (he : entryWaits s = false) (hq : s.control.fifo = []) :
    idle s = tick s := by
  simp [idle, softResetDue_free hf, hf, he, hq]

theorem idle_clock_busy {s : State} (hf : interpreterFree s = false) (hd : softResetDue s = false) : idle s = tick s := by
  simp [idle, hd, hf]

/-! ### The stages of a millisecond (R2, R4, R6, R11, R15, R16, R110, R126, R145) -/

theorem reached_of_le {t : Option Nat} {n time : Nat} (ht : t = some n) (h : time ≤ n) : reached t time = true := by
  simp [reached, ht, h]

theorem reached_of_lt {t : Option Nat} {time : Nat} (h : ∀ n, t = some n → n < time) : reached t time = false := by
  cases t with
  | none => rfl
  | some n => simpa [reached] using h n rfl

theorem expireRecord_due {s : State} (hf : s.vehicle.fresh = true)
    (ha : s.takeover.settings.freshness ≤ s.vehicle.age) : expireRecord s = recordStales s := by
  simp [expireRecord, hf, ha]

theorem expireRecord_early {s : State}
    (h : s.vehicle.fresh = false ∨ s.vehicle.age < s.takeover.settings.freshness) : expireRecord s = s := by
  rcases h with h | h
  · simp [expireRecord, h]
  · simp [expireRecord, Nat.not_le.mpr h]

theorem expireDebounce_due {s : State} {n : Nat} (ht : s.vehicle.debounceTimer = some n)
    (hn : s.takeover.settings.debounce ≤ n) : expireDebounce s = debounceExpires s := by
  simp [expireDebounce, reached_of_le ht hn]

theorem expireDebounce_early {s : State}
    (h : ∀ n, s.vehicle.debounceTimer = some n → n < s.takeover.settings.debounce) : expireDebounce s = s := by
  simp [expireDebounce, reached_of_lt h]

theorem expireMismatch_due {s : State} {n : Nat} (ht : s.vehicle.mismatchTimer = some n) (hn : 1000 ≤ n) :
    expireMismatch s = mismatchExpires s := by
  simp [expireMismatch, Config.mismatchTime, reached_of_le ht hn]

theorem expireMismatch_early {s : State} (h : ∀ n, s.vehicle.mismatchTimer = some n → n < 1000) :
    expireMismatch s = s := by
  simp [expireMismatch, Config.mismatchTime, reached_of_lt h]

/-- A timer that counts down expires at 0 and at no other value. -/
theorem whenDue_zero {t : Option Nat} (h : t = some 0) (event : State → State) (s : State) :
    whenDue (t == some 0) event s = event s := by
  simp [h]

theorem whenDue_running {t : Option Nat} (h : t ≠ some 0) (event : State → State) (s : State) :
    whenDue (t == some 0) event s = s := by
  simp [beq_false_of_ne h]

/-- The clock's stages one after another. -/
theorem tick_stages (s : State) : tick s =
    let vehicleDone := expireVehicle (advanceTimers s)
    let seatsDone := expireSeat (expireSeat vehicleDone .left) .right
    let voicesDone := voiceTime (voiceTime (voiceTime (voiceTime seatsDone 0) 1) 2) 3
    zoneTime (zoneTime (zoneTime voicesDone .seatL) .seatR) .cabin := by
  simp only [tick, zones, seats, List.foldl_cons, List.foldl_nil]

/-- Settles O1: the front command, the five kinds of idle step, the order of a millisecond, and each of its stages. -/
theorem stepRunsTheFrontCommand : Obligations.StepRunsTheFrontCommand := by
  unfold Obligations.StepRunsTheFrontCommand
  refine ⟨step_front, fun s hp => ⟨?_, ?_, ?_, ?_, ?_⟩, tick_stages, fun s =>
    ⟨?_, ?_, ?_, ?_, ?_, ?_, ?_, ?_, ?_, ?_, ?_, ?_, fun k => ⟨?_, ?_⟩, fun v => ⟨voiceBlock v s, rfl, ?_, ?_⟩,
      fun z => ⟨?_, ?_⟩⟩⟩
  -- the empty queue
  · intro rest hr hw
    rw [step_empty hp, idle_softReset ((softResetDue_iff s).mpr ⟨hw, rest, hr⟩)]; rfl
  · intro hf he ht
    rw [step_empty hp, idle_entry hf he ht]; rfl
  · intro hf hq ht
    rw [step_empty hp, idle_command hf hq ht]; rfl
  · intro hf he hq
    rw [step_empty hp, idle_clock hf he hq]
  · intro hf h
    have notDue : softResetDue s = false := by
      rw [Bool.eq_false_iff, ne_eq, softResetDue_iff]
      rintro ⟨hw, rest, hr⟩
      rcases h with h | h
      · exact h hw
      · exact h rest hr
    rw [step_empty hp, idle_clock_busy hf notDue]
  -- the vehicle's and the takeover's times
  · exact fun hf ha => congrArg Host.Outcome.next (expireRecord_due hf ha).symm
  · exact expireRecord_early
  · exact fun n ht hn => congrArg Host.Outcome.next (expireDebounce_due ht hn).symm
  · exact expireDebounce_early
  · exact fun n ht hn => congrArg Host.Outcome.next (expireMismatch_due ht hn).symm
  · exact expireMismatch_early
  · exact fun h => congrArg Host.Outcome.next (whenDue_zero h startExpires s).symm
  · exact fun h => whenDue_running h startExpires s
  · exact fun h => congrArg Host.Outcome.next (whenDue_zero h watchdogExpires s).symm
  · exact fun h => whenDue_running h watchdogExpires s
  · exact fun h => congrArg Host.Outcome.next (whenDue_zero h lingerExpires s).symm
  · exact fun h => whenDue_running h lingerExpires s
  -- the seats, the voices and the zones
  · exact fun h => congrArg Host.Outcome.next (whenDue_zero h (inactivityExpires k) s).symm
  · exact fun h => whenDue_running h (inactivityExpires k) s
  · exact fun h => congrArg Host.Outcome.next (whenDue_zero h (gapExpires v) (voiceBlock v s)).symm
  · exact fun h => whenDue_running h (gapExpires v) (voiceBlock v s)
  · exact fun h => ⟨holdExpires z s, rfl,
      congrArg (fun t => Host.Outcome.next (zoneBlock z t)) (whenDue_zero h (holdExpires z) s).symm⟩
  · exact fun h => congrArg (fun t => Host.Outcome.next (zoneBlock z t)) (whenDue_running h (holdExpires z) s).symm

end Sys2Proof.Machine
end

section
/-! The vehicle record: reverse asserted, the stale record, the REVERSE pin and VEHICLE packets (R1 to R6). -/

namespace Sys2Proof.Machine

/-! ### Reverse asserted and what it hands on (R5) -/

theorem Vehicle.reversing_eq (v : Vehicle) :
    v.reversing = (v.debounced || (v.fresh && decide (v.gear = .reverse))) := by
  cases h : v.gear <;> simp [Vehicle.reversing, h]

/-- A record that is not fresh leaves reverse asserted to the pin. -/
theorem Vehicle.reversing_stale {v : Vehicle} (h : v.fresh = false) : v.reversing = v.debounced := by
  simp [Vehicle.reversing, h]

theorem evaluateReverse_unchanged {s : State} (h : s.vehicle.reversing = s.vehicle.reverseAsserted) :
    evaluateReverse s = s := if_pos h

theorem evaluateReverse_changed {s : State} (h : s.vehicle.reversing ≠ s.vehicle.reverseAsserted) :
    evaluateReverse s = proximityEvaluate (takeoverReverse s.vehicle.reversing
      { s with vehicle.reverseAsserted := s.vehicle.reversing }) := if_neg h

/-- Of the record the evaluation changes reverse asserted alone. -/
theorem evaluateReverse_vehicle (s : State) :
    (evaluateReverse s).vehicle = { s.vehicle with reverseAsserted := s.vehicle.reversing } := by
  by_cases h : s.vehicle.reversing = s.vehicle.reverseAsserted
  · rw [evaluateReverse_unchanged h, h]
  · rw [evaluateReverse_changed h]; simp

/-! ### An engagement step by step (R9, R12) -/

/-- The takeover's own fields, and the guide's, at the start of an engagement (R9, R36). -/
def beginEngagement (s : State) : State := { s with
  takeover := { s.takeover with
    phase := .engaged, view := .waiting, cause := .none, lastGood := none, repeats := 0, rejoins := 0,
    lingerTimer := none, watchdogTimer := none, startTimer := some s.takeover.settings.startTimeout },
  guide.kappaDraw := none, guide.record := none }

/-- An engagement with its chime requested and its duck demand applied, FRONT not yet woken (R9). -/
def duckedEngagement (s : State) : State :=
  let asked := requestById s.takeover.settings.engageChime none (beginEngagement s)
  if s.takeover.settings.duckRear then applyTakeoverDemand asked else asked

theorem engage_eq (s : State) : engage s =
    raiseFlag .takeover (requestRenders [.takeover] (wakeEffect .front (duckedEngagement s))) := rfl

/-! ### Flags stand across a change of reverse asserted (R191) -/

variable {g : Flag} {s : State}

theorem updateMismatch_raised (h : s.raised g = true) : (updateMismatch s).raised g = true :=
  raised_of_attention (by simp) h

theorem engage_raised (h : s.raised g = true) : (engage s).raised g = true := by
  have asked : (requestById s.takeover.settings.engageChime none (beginEngagement s)).raised g = true :=
    requestById_raised _ none h
  have ducked : (duckedEngagement s).raised g = true :=
    raised_of_attention (by unfold duckedEngagement; split <;> simp) asked
  rw [engage_eq]
  exact raiseFlag_raised_of_raised _ (raised_of_attention (by simp) ducked)

theorem exitTakeover_raised (h : s.raised g = true) : (exitTakeover s).raised g = true :=
  raiseFlag_raised_of_raised _ (raised_of_attention (by simp) h)

theorem takeoverReverse_raised (asserted : Bool) (h : s.raised g = true) : (takeoverReverse asserted s).raised g = true := by
  unfold takeoverReverse
  split
  · exact engage_raised h
  · exact h
  · exact h
  · unfold enterLinger
    dsimp only
    split
    · exact exitTakeover_raised h
    · exact h
  · exact h
  · exact h

theorem evaluateReverse_raised (h : s.raised g = true) : (evaluateReverse s).raised g = true := by
  unfold evaluateReverse
  dsimp only
  split
  · exact h
  · exact proximityEvaluate_raised (takeoverReverse_raised _ h)

/-! ### A stale record (R2) -/

/-- The record as it goes stale, less what is evaluated from it. -/
def Vehicle.staled (v : Vehicle) (freshness : Nat) : Vehicle := { v with fresh := false, age := max v.age freshness }

theorem recordStales_fresh (h : s.vehicle.fresh = true) :
    recordStales s = proximityEvaluate (updateMismatch (evaluateReverse (raiseFlag .steeringStale
      { s with vehicle := s.vehicle.staled s.takeover.settings.freshness }))) := if_pos h

theorem recordStales_stale (h : s.vehicle.fresh = false) : recordStales s = s := by simp [recordStales, h]

/-- The record that goes stale: its values stay, reverse asserted is the pin's, and the monitor is put in AGREE. -/
theorem recordStales_vehicle (h : s.vehicle.fresh = true) : ∃ timer, (recordStales s).vehicle = { s.vehicle with
      fresh := false, age := max s.vehicle.age s.takeover.settings.freshness,
      reverseAsserted := s.vehicle.debounced, mismatch := .agree, mismatchTimer := timer } ∧
    (s.vehicle.mismatch ≠ .agree ∨ s.vehicle.mismatchTimer = none → timer = none) := by
  let stale := s.vehicle.staled s.takeover.settings.freshness
  let t := evaluateReverse (raiseFlag .steeringStale { s with vehicle := stale })
  have ht : t.vehicle = { stale with reverseAsserted := s.vehicle.debounced } := by
    rw [evaluateReverse_vehicle, (raiseFlag_keeps _ _).1, Vehicle.reversing_stale (rfl : stale.fresh = false)]; rfl
  have hs : (recordStales s).vehicle = (updateMismatch t).vehicle := by
    rw [recordStales_fresh h]; exact (proximityEvaluate_keeps _).1
  have agrees : t.vehicle.disagrees = false := Vehicle.disagrees_stale (by rw [ht]; rfl)
  have same : t.vehicle.mismatch = s.vehicle.mismatch := by rw [ht]; rfl
  by_cases hm : s.vehicle.mismatch = .agree
  · refine ⟨s.vehicle.mismatchTimer, ?_, fun h => h.resolve_left (not_not_intro hm)⟩
    rw [hs, updateMismatch_agrees agrees (same.trans hm), ht, ← hm]; rfl
  · refine ⟨none, ?_, fun _ => rfl⟩
    rw [hs, updateMismatch_ends agrees (same.trans_ne hm), ht]; rfl

theorem recordStales_raised (h : s.vehicle.fresh = true) : (recordStales s).raised .steeringStale = true := by
  rw [recordStales_fresh h]
  exact proximityEvaluate_raised (updateMismatch_raised (evaluateReverse_raised (raiseFlag_raised _ _)))

/-! ### The REVERSE pin (R4) -/

theorem pinChanges_same {level : Bool} (h : level = s.vehicle.pinRaw) : pinChanges level s = s := if_pos h

theorem pinChanges_other {level : Bool} (h : level ≠ s.vehicle.pinRaw) : pinChanges level s = { s with
    vehicle.pinRaw := level, vehicle.debounceTimer := some 0 } := if_neg h

theorem debounceExpires_runs (h : s.vehicle.debounceTimer.isSome = true) :
    debounceExpires s = updateMismatch (evaluateReverse { s with
      vehicle.debounced := s.vehicle.pinRaw, vehicle.debounceTimer := none }) := if_pos h

theorem debounceExpires_stopped (h : s.vehicle.debounceTimer = none) : debounceExpires s = s := by
  simp [debounceExpires, h]

/-- Settles O3: the stale record, field by field, and the pin's events. -/
theorem staleRecordAndReversePin : Obligations.StaleRecordAndReversePin := by
  unfold Obligations.StaleRecordAndReversePin
  refine ⟨fun s => ⟨fun hf => ?_, fun hf => congrArg Host.Outcome.next (recordStales_stale hf)⟩, fun level s =>
    ⟨fun h => congrArg Host.Outcome.next (pinChanges_other h), fun h => congrArg Host.Outcome.next (pinChanges_same h),
      fun h => congrArg Host.Outcome.next (debounceExpires_runs h),
      fun h => congrArg Host.Outcome.next (debounceExpires_stopped h)⟩⟩
  obtain ⟨timer, hv, stopped⟩ := recordStales_vehicle hf
  refine ⟨recordStales s, rfl, ?_⟩
  rw [hv]
  exact ⟨rfl, rfl, rfl, rfl, rfl, rfl, rfl, rfl, rfl, stopped, recordStales_raised hf⟩

/-! ### VEHICLE packets (R1, R184) -/

theorem gearOf_toNat (b : Byte) : gearOf b.toNat = if b = 0 then .park else if b = 1 then .reverse
    else if b = 2 then .neutral else if b = 3 then .drive else .unknown := by
  simp only [BitVec.toNat_eq]
  unfold gearOf
  split <;> simp_all

theorem gearOf_reverse (b : Byte) : gearOf b.toNat = .reverse ↔ b = 1 := by
  rw [BitVec.toNat_eq]
  unfold gearOf
  split <;> simp_all

theorem supplyOf_toNat (b : Byte) : supplyOf b.toNat = if b = 0 then .normal else if b = 2 then .cranking else .low := by
  simp only [BitVec.toNat_eq]
  unfold supplyOf
  split <;> simp_all

theorem clampInt_eq {lo hi : Int} (h : lo ≤ hi) (x : Int) : clampInt lo hi x = max lo (min hi x) := by
  unfold clampInt
  split
  · omega
  · split <;> omega

theorem beNat_pair (hi lo : Byte) : beNat [hi, lo] = (hi ++ lo).toNat := by
  rw [BitVec.toNat_append, ← Nat.shiftLeft_add_eq_or_of_lt lo.isLt, Nat.shiftLeft_eq]
  simp [beNat]

theorem signedOf_pair (hi lo : Byte) : signedOf 2 (beNat [hi, lo]) = (hi ++ lo).toInt := by
  rw [beNat_pair, BitVec.toInt_eq_toNat_cond]
  rfl

/-- The record that a payload of 10 bytes leaves, in the terms of section 1.1. -/
theorem Vehicle.withReport_ten (v : Vehicle) (b0 b1 b2 b3 b4 b5 b6 b7 b8 b9 : Byte) :
    v.withReport [b0, b1, b2, b3, b4, b5, b6, b7, b8, b9] = { v with
      gear := if b0 = 0 then .park else if b0 = 1 then .reverse else if b0 = 2 then .neutral
        else if b0 = 3 then .drive else .unknown,
      supply := if b1 = 0 then .normal else if b1 = 2 then .cranking else .low,
      steering := max (-7800) (min 7800 (b2 ++ b3).toInt), speed := (b4 ++ b5).toNat,
      distances := #v[b6.toNat, b7.toNat, b8.toNat, b9.toNat], age := 0, fresh := true } := by
  rw [Vehicle.withReport, gearOf_toNat, supplyOf_toNat, clampInt_eq (by decide), signedOf_pair, beNat_pair]

/-- R5 on the record that a payload of 10 bytes leaves. -/
theorem Vehicle.withReport_reversing (v : Vehicle) (b0 b1 b2 b3 b4 b5 b6 b7 b8 b9 : Byte) :
    (v.withReport [b0, b1, b2, b3, b4, b5, b6, b7, b8, b9]).reversing = (v.debounced || decide (b0 = 1)) := by
  simp only [Vehicle.reversing_eq, Vehicle.withReport, gearOf_reverse, Bool.true_and]

theorem supplyChanges_vehicle (old : Supply) (s : State) : (supplyChanges old s).vehicle = s.vehicle := by
  unfold supplyChanges
  split
  · simp
  · split <;> simp

/-- A report leaves of the record what `withReport` stores, with reverse asserted and the monitor evaluated. -/
theorem vehicleReport_vehicle (payload : List Byte) (s : State) : ∃ m t,
    (vehicleReport payload s).vehicle = { s.vehicle.withReport payload with
      reverseAsserted := (s.vehicle.withReport payload).reversing, mismatch := m, mismatchTimer := t } := by
  let stored := supplyChanges s.vehicle.supply { s with vehicle := s.vehicle.withReport payload }
  obtain ⟨m, t, hm⟩ := updateMismatch_vehicle (evaluateReverse stored)
  refine ⟨m, t, ?_⟩
  have judged : (vehicleReport payload s).vehicle = (updateMismatch (evaluateReverse stored)).vehicle := by
    unfold vehicleReport
    dsimp only
    split <;> simp [stored]
  rw [judged, hm, evaluateReverse_vehicle, supplyChanges_vehicle]

theorem vehicleArrives_report {p : Packet} (hg : p.good = true) (hl : p.payload.length = 10) (s : State) :
    vehicleArrives p s = vehicleReport p.payload s := by
  simp [vehicleArrives, hg, hl]

theorem vehicleArrives_length {p : Packet} (hg : p.good = true) (hl : p.payload.length ≠ 10) (s : State) :
    vehicleArrives p s = { s with links.downlink.length := bump s.links.downlink.length } := by
  simp [vehicleArrives, hg, hl]

theorem vehicleArrives_bad {p : Packet} (hg : p.good = false) (s : State) : vehicleArrives p s = s := by
  simp [vehicleArrives, hg]

/-- Settles O2: a packet of R184 reaches its owner, and the owner's work on 10 bytes is R1's order of effects. -/
theorem vehicleReportStored : Obligations.VehicleReportStored := by
  unfold Obligations.VehicleReportStored
  intro mark c a b b0 b1 b2 b3 b4 b5 b6 b7 b8 b9 payload crc s hu hs ha hb
  have received : ∀ bytes : List Byte, bytes.length ≤ 3840 →
      exec (.vehiclePacket (packetBytes .vehicle mark a b c bytes)) s = .next (vehicleArrives
        { kind := .vehicle, mark := mark, a := a, b := b, c := c, payload := bytes, good := true } s) := fun bytes hl =>
    congrArg Host.Outcome.next (receive_packetBytes (l := .downlink) rfl ha hb hl hu hs mark c vehicleArrives)
  have reported := (received [b0, b1, b2, b3, b4, b5, b6, b7, b8, b9] (by simp)).trans
    (congrArg Host.Outcome.next (vehicleArrives_report rfl rfl s))
  dsimp only
  refine ⟨?_, ⟨_, reported, ?_⟩, fun hl hn => ?_, fun hl hne hc hbad => ?_⟩
  · rw [reported, vehicleReport, Vehicle.withReport_ten]
    simp [supplyChanges]
  · obtain ⟨m, t, hv⟩ := vehicleReport_vehicle [b0, b1, b2, b3, b4, b5, b6, b7, b8, b9] s
    rw [hv, Vehicle.withReport_reversing, Vehicle.withReport_ten]
    exact ⟨rfl, rfl, rfl, rfl, rfl, rfl, rfl, rfl, rfl, rfl, rfl⟩
  · rw [received payload hl, vehicleArrives_length rfl hn]
  · have counted := receive_badCrc (l := .downlink) (k := .vehicle) rfl ha hb hl hne hc hbad hu hs mark c vehicleArrives
    rw [vehicleArrives_bad rfl] at counted
    exact congrArg Host.Outcome.next counted

end Sys2Proof.Machine
end

section
/-! TAKEOVER_SET and CAMERA_SET (R7, R8). -/

namespace Sys2Proof.Machine

/-! ### Parameters in their ranges (R7, R8, R185) -/

theorem flag?_eq (n : Nat) : flag? n = if n ≤ 1 then some (decide (n = 1)) else none := by
  match n with
  | 0 => rfl
  | 1 => rfl
  | n + 2 => simp [flag?]

theorem messageOk_iff (m : Message) : messageOk m = true ↔
    224 ≤ m.icon ∧ m.icon ≤ 255 ∧ m.text.length ≤ 24 ∧ ∀ g ∈ m.text, g ≤ 223 := by
  simp [messageOk, and_assoc]

/-- R7's ranges. -/
def takeoverInRange (p : TakeoverSetParams) : Prop :=
  100 ≤ p.freshness ∧ p.freshness ≤ 1000 ∧ 10 ≤ p.debounce ∧ p.debounce ≤ 200 ∧ 100 ≤ p.startTimeout ∧
  p.startTimeout ≤ 3000 ∧ p.watchdogCode ≤ 7 ∧ p.watchdogAction ≤ 1 ∧ p.linger ≤ 10000 ∧ p.exitSpeed ≤ 3000 ∧
  (p.engageChime ≤ 31 ∨ p.engageChime = 255) ∧ p.duckRear ≤ 1 ∧ messageOk p.starting = true ∧
  messageOk p.unavailable = true

/-- The settings that parameters in their ranges carry, each by the item of its name. -/
def settingsCarried (p : TakeoverSetParams) : TakeoverSettings :=
  { freshness := p.freshness, debounce := p.debounce, startTimeout := p.startTimeout, watchdogCode := p.watchdogCode,
    retrain := decide (p.watchdogAction = 1), linger := p.linger, exitSpeed := p.exitSpeed,
    engageChime := p.engageChime, duckRear := decide (p.duckRear = 1), starting := p.starting,
    unavailable := p.unavailable }

theorem takeoverSettings?_eq_some (p : TakeoverSetParams) (t : TakeoverSettings) :
    takeoverSettings? p = some t ↔ takeoverInRange p ∧ t = settingsCarried p := by
  unfold takeoverSettings? takeoverInRange
  rw [flag?_eq, flag?_eq]
  by_cases hd : p.duckRear ≤ 1 <;> by_cases hw : p.watchdogAction ≤ 1
  · simp [hd, hw, settingsCarried, and_assoc, eq_comm (b := t)]
  all_goals simp [hd, hw]

theorem cameraParams?_eq_some (q : CameraSetParams) (c : CameraSettings) : cameraParams? q = some c ↔
    (q.tag ≤ 31 ∧ q.x ≤ 1279 ∧ q.y ≤ 799 ∧ 1 ≤ q.w ∧ q.w ≤ 1280 ∧ 1 ≤ q.h ∧ q.h ≤ 800 ∧ q.mirror ≤ 1) ∧
    c = { tag := q.tag, x := q.x, y := q.y, w := q.w, h := q.h, mirror := decide (q.mirror = 1) } := by
  unfold cameraParams?
  rw [flag?_eq]
  by_cases hm : q.mirror ≤ 1
  · simp [hm, and_assoc, eq_comm]
  · simp [hm]

/-! ### TAKEOVER_SET (R7, R2, R4) -/

/-- The record's staleness leaves the debounce timer as it runs. -/
theorem recordStales_debounceTimer (s : State) : (recordStales s).vehicle.debounceTimer = s.vehicle.debounceTimer := by
  cases h : s.vehicle.fresh
  · rw [recordStales_stale h]
  · obtain ⟨timer, hv, _⟩ := recordStales_vehicle h
    rw [hv]

section
variable {p : TakeoverSetParams} {t : TakeoverSettings} {s : State}

/-- New settings that leave the record fresh, or find it stale, go on to the debounce. -/
theorem takeoverSet_keepsRecord (h : takeoverSettings? p = some t)
    (hr : s.vehicle.fresh = false ∨ s.vehicle.age < t.freshness) :
    takeoverSet p s = done (whenDue (reached s.vehicle.debounceTimer t.debounce) debounceExpires
      { s with takeover.settings := t }) := by
  have fresh : ¬(s.vehicle.fresh = true ∧ t.freshness ≤ s.vehicle.age) := by
    rintro ⟨hf, ha⟩
    rcases hr with hr | hr
    · simp [hf] at hr
    · omega
  simp only [takeoverSet, h, fresh, if_false]
  cases s.vehicle.debounceTimer <;> simp [reached, whenDue]

/-- New settings that make the record stale do so before the debounce. -/
theorem takeoverSet_stales (h : takeoverSettings? p = some t) (hf : s.vehicle.fresh = true)
    (ha : t.freshness ≤ s.vehicle.age) :
    takeoverSet p s = done (whenDue (reached s.vehicle.debounceTimer t.debounce) debounceExpires
      (recordStales { s with takeover.settings := t })) := by
  have timer := recordStales_debounceTimer { s with takeover.settings := t }
  simp only [takeoverSet, h, hf, ha, and_self, if_true, timer]
  cases s.vehicle.debounceTimer <;> simp [reached, whenDue]

theorem takeoverSet_invalid (h : takeoverSettings? p = none) : takeoverSet p s = refuse .param s := by
  simp [takeoverSet, h]

end

/-! ### CAMERA_SET (R8) -/

section
variable {q : CameraSetParams} {c : CameraSettings} {s : State}

theorem cameraSet_invalid (h : cameraParams? q = none) : cameraSet q s = refuse .param s := by
  simp [cameraSet, h]

theorem cameraSet_inUse (h : cameraParams? q = some c) (hc : c.tag ≠ s.takeover.camera.tag)
    (h0 : s.takeover.camera.tag ≠ 0) (hd : (descriptorOf s.takeover.camera.tag s).isSome = true) :
    cameraSet q s = refuse .inUse s := by
  simp [cameraSet, h, hc, h0, hd]

/-- A CAMERA_SET that keeps the camera tag, or leaves one without a descriptor, is judged by the tag it names. -/
theorem cameraSet_free (h : cameraParams? q = some c) (hf : c.tag = s.takeover.camera.tag ∨
      s.takeover.camera.tag = 0 ∨ descriptorOf s.takeover.camera.tag s = none) :
    cameraSet q s = if c.tag ≠ 0 ∧ ∃ d, descriptorOf c.tag s = some d ∧ isCameraVideo d = false then refuse .param s
      else done { s with takeover.camera := c } := by
  have free : ¬(c.tag ≠ s.takeover.camera.tag ∧ s.takeover.camera.tag ≠ 0 ∧
      (descriptorOf s.takeover.camera.tag s).isSome = true) := by
    rintro ⟨hc, h0, hd⟩
    rcases hf with hf | hf | hf
    · exact hc hf
    · exact h0 hf
    · simp [hf] at hd
  simp only [cameraSet, h, free, if_false]
  cases descriptorOf c.tag s <;> simp

theorem isCameraVideo_iff (d : Descriptor) : isCameraVideo d = true ↔ ∃ v, d = .video v ∧ v.source = .camera := by
  cases d <;> simp [isCameraVideo]

end

/-- Settles O6: the owners' answers, handed over in IDLE, and the ranges of both groups. -/
theorem takeoverAndCameraSettings : Obligations.TakeoverAndCameraSettings := by
  unfold Obligations.TakeoverAndCameraSettings
  intro mark p q s ho
  have takeoverAnswered : ∀ {st u}, takeoverSet p s = ⟨st, [], u, .nothing⟩ →
      exec (.takeoverSet mark p) s = .next (replied mark 21 st [] u) := fun {st u} h =>
    congrArg Host.Outcome.next ((runCommand_open ho mark (.takeoverSet p)).trans (by
      rw [perform, h]; exact handAnswer_plain mark 21 st [] u))
  have cameraAnswered : ∀ {st u}, cameraSet q s = ⟨st, [], u, .nothing⟩ →
      exec (.cameraSet mark q) s = .next (replied mark 20 st [] u) := fun {st u} h =>
    congrArg Host.Outcome.next ((runCommand_open ho mark (.cameraSet q)).trans (by
      rw [perform, h]; exact handAnswer_plain mark 20 st [] u))
  refine ⟨?_, ?_, ?_, ?_, ?_, ?_, ?_, ?_, ?_, ?_, ?_, ?_, ?_⟩
  -- TAKEOVER_SET
  · intro t h hr hd
    exact takeoverAnswered (by rw [takeoverSet_keepsRecord h hr, reached_of_lt hd]; rfl)
  · intro t h hf ha hd
    exact takeoverAnswered (by rw [takeoverSet_stales h hf ha, reached_of_lt hd]; rfl)
  · intro t n h hr hn hd
    exact takeoverAnswered (by rw [takeoverSet_keepsRecord h hr, reached_of_le hn hd]; rfl)
  · intro t n h hf ha hn hd
    exact takeoverAnswered (by rw [takeoverSet_stales h hf ha, reached_of_le hn hd]; rfl)
  · exact fun h => takeoverAnswered (takeoverSet_invalid h)
  · simp only [Option.isSome_iff_exists, takeoverSettings?_eq_some, exists_and_left, exists_eq, and_true,
      takeoverInRange, messageOk_iff]
  · exact fun t h => ((takeoverSettings?_eq_some p t).mp h).2
  -- CAMERA_SET
  · exact fun c h => ((cameraParams?_eq_some q c).mp h).2
  · exact fun h => cameraAnswered (cameraSet_invalid h)
  · exact fun c h hc h0 hd => cameraAnswered (cameraSet_inUse h hc h0 hd)
  · intro c d h hf h0 hd hv
    have other : isCameraVideo d = false := by
      rw [Bool.eq_false_iff, ne_eq, isCameraVideo_iff]
      exact fun ⟨v, e, hs⟩ => hv v e hs
    exact cameraAnswered (by rw [cameraSet_free h hf, if_pos ⟨h0, d, hd, other⟩]; rfl)
  · intro c h hf hc
    have camera : ¬(c.tag ≠ 0 ∧ ∃ d, descriptorOf c.tag s = some d ∧ isCameraVideo d = false) := by
      rintro ⟨h0, d, hd, other⟩
      simp [(isCameraVideo_iff d).mpr (hc.resolve_left h0 d hd)] at other
    exact cameraAnswered (by rw [cameraSet_free h hf, if_neg camera]; rfl)
  · simp only [Option.isSome_iff_exists, cameraParams?_eq_some, exists_and_left, exists_eq, and_true]

end Sys2Proof.Machine
end

section
/-! What R25 refuses while the phase is not IDLE. -/

namespace Sys2Proof.Machine

/-! ### R25's list -/

section
variable {s : State}

/-- The commands that R25 refuses whatever they name. -/
theorem lockedOut_always {code : Nat} (hc : code ∈ [20, 21, 30, 31, 32, 33, 85]) (hp : s.takeover.phase ≠ .idle)
    (first : Option Nat) : lockedOut code first s = true := by
  simp only [List.mem_cons, List.not_mem_nil, or_false] at hc
  rcases hc with rfl | rfl | rfl | rfl | rfl | rfl | rfl <;> simp [lockedOut, hp]

theorem runCommand_lockedAlways (hr : Running s) (hp : s.takeover.phase ≠ .idle) (mark : Byte) (c : Command)
    (hc : c.code ∈ [20, 21, 30, 31, 32, 33, 85]) : runCommand mark c s = replied mark c.code .locked [] s :=
  runCommand_locked hr mark c (lockedOut_always hc hp _)

/-- TAG_SET and TAG_CLEAR are refused where their first byte names the camera tag. -/
theorem lockedOut_tag {code : Nat} (hc : code = 1 ∨ code = 2) (hp : s.takeover.phase ≠ .idle) (n : Nat) :
    lockedOut code (some n) s = decide (s.takeover.camera.tag ≠ 0 ∧ n = s.takeover.camera.tag) := by
  rcases hc with rfl | rfl <;> simp [lockedOut, hp, beq_eq_decide]

/-- RING_SET is refused where its first byte names the camera ring. -/
theorem lockedOut_ring (hp : s.takeover.phase ≠ .idle) (n : Nat) :
    lockedOut 4 (some n) s = decide (∃ r, cameraRing s = some r ∧ n = r.val) := by
  cases h : cameraRing s <;> simp [lockedOut, hp, h, beq_eq_decide]

theorem tagSet_first (p : TagSetParams) (h : p.tag ≤ 255) :
    (Command.tagSet p).params.head?.map (·.toNat) = some p.tag := by
  have byte : p.tag % 256 = p.tag := by omega
  simp [Command.params, u8, byte]

theorem tagClear_first {tag : Nat} (h : tag ≤ 255) : (Command.tagClear tag).params.head?.map (·.toNat) = some tag := by
  have byte : tag % 256 = tag := by omega
  simp [Command.params, u8, byte]

theorem ringSet_first (p : RingSetParams) (h : p.ring ≤ 255) :
    (Command.ringSet p).params.head?.map (·.toNat) = some p.ring := by
  have byte : p.ring % 256 = p.ring := by omega
  simp [Command.params, u8, byte]

/-- TAG_SET and TAG_CLEAR, by the tag they name (R25). -/
theorem runCommand_tag (hr : Running s) (hp : s.takeover.phase ≠ .idle) (mark : Byte) {c : Command} {tag : Nat}
    (hc : c.code = 1 ∨ c.code = 2) (ht : c.params.head?.map (·.toNat) = some tag) :
    (s.takeover.camera.tag ≠ 0 ∧ tag = s.takeover.camera.tag → runCommand mark c s = replied mark c.code .locked [] s) ∧
    (tag ≠ s.takeover.camera.tag ∨ s.takeover.camera.tag = 0 →
      runCommand mark c s = handAnswer mark (BitVec.ofNat 8 c.code) (perform c s)) := by
  have judged := lockedOut_tag hc hp tag
  refine ⟨fun h => runCommand_locked hr mark c ?_, fun h => runCommand_running hr mark c ?_⟩
  · rw [ht, judged]; exact decide_eq_true h
  · rw [ht, judged, decide_eq_false_iff_not]
    exact fun ⟨h0, he⟩ => h.elim (· he) h0

/-- RING_SET, by the ring it names (R25). -/
theorem runCommand_ring (hr : Running s) (hp : s.takeover.phase ≠ .idle) (mark : Byte) {p : RingSetParams}
    (hb : p.ring ≤ 255) :
    ((∃ r, cameraRing s = some r ∧ p.ring = r.val) → runCommand mark (.ringSet p) s = replied mark 4 .locked [] s) ∧
    ((¬ ∃ r, cameraRing s = some r ∧ p.ring = r.val) →
      runCommand mark (.ringSet p) s = handAnswer mark 4#8 (ringSet p s)) := by
  have judged := lockedOut_ring hp p.ring
  rw [← ringSet_first p hb] at judged
  exact ⟨fun h => runCommand_locked hr mark (.ringSet p) (judged.trans (decide_eq_true h)),
    fun h => runCommand_running hr mark (.ringSet p) (judged.trans (decide_eq_false h))⟩

end

/-- Settles O10, by R25's judgement of each command's code and first parameter byte. -/
theorem lockedDuringTakeover : Obligations.LockedDuringTakeover := by
  unfold Obligations.LockedDuringTakeover
  intro mark s hr
  refine ⟨fun hp => ?_, fun c hp => runCommand_running hr mark c (lockedOut_idle hp _ _),
    fun c hc => runCommand_plain hr mark c hc⟩
  have locked : ∀ c : Command, c.code ∈ [20, 21, 30, 31, 32, 33, 85] →
      (.next (runCommand mark c s) : Host.Outcome State Fault Refusal) = .next (replied mark c.code .locked [] s) :=
    fun c hc => congrArg Host.Outcome.next (runCommand_lockedAlways hr hp mark c hc)
  refine ⟨fun p => locked (.cameraSet p) (by simp [Command.code]), fun p => locked (.takeoverSet p) (by simp [Command.code]),
    fun p => locked (.guideSet p) (by simp [Command.code]), fun vs => locked (.steerTableSet vs) (by simp [Command.code]),
    fun rows => locked (.rowTableSet rows) (by simp [Command.code]),
    fun bands => locked (.bandTableSet bands) (by simp [Command.code]), locked .softReset (by simp [Command.code]),
    ?_, ?_, ?_, fun he => congrArg Host.Outcome.next (runCommand_dismiss_locked hr mark he), ?_, ?_, ?_⟩
  · intro p ht h1 h31
    have named := runCommand_tag hr hp mark (c := .tagSet p) (.inl rfl) (tagSet_first p (by omega))
    exact congrArg Host.Outcome.next (named.1 ⟨by omega, ht⟩)
  · intro tag ht h1 h31
    have named := runCommand_tag hr hp mark (c := .tagClear tag) (.inr rfl) (tagClear_first (by omega))
    exact congrArg Host.Outcome.next (named.1 ⟨by omega, ht⟩)
  · intro p r hc hpr
    exact congrArg Host.Outcome.next ((runCommand_ring hr hp mark (by omega)).1 ⟨r, hc, hpr⟩)
  · intro p hb ho
    have named := runCommand_tag hr hp mark (c := .tagSet p) (.inl rfl) (tagSet_first p hb)
    exact congrArg Host.Outcome.next (named.2 ho)
  · intro tag hb ho
    have named := runCommand_tag hr hp mark (c := .tagClear tag) (.inr rfl) (tagClear_first hb)
    exact congrArg Host.Outcome.next (named.2 ho)
  · intro p hb ho
    exact congrArg Host.Outcome.next ((runCommand_ring hr hp mark hb).2 fun ⟨r, hc, e⟩ => ho r hc e)

end Sys2Proof.Machine
end

section
/-! The camera view (R14 to R19, R40). -/

namespace Sys2Proof.Machine

/-! ### LOST (R17 to R19) -/

section
variable {s : State}

theorem handNotice_camera (b : UplinkBody) (s : State) : (handNotice b s).links.camera = s.links.camera := by
  rcases handNotice_cases b s with ⟨_, _, e⟩ | ⟨_, e⟩ <;> rw [e]

/-- Raising a flag leaves the camera link as it is: of the links a dropped notice is counted at the uplink alone. -/
theorem raiseFlag_camera (f : Flag) (s : State) : (raiseFlag f s).links.camera = s.links.camera := by
  unfold raiseFlag
  split
  · rfl
  · dsimp only
    split
    · exact handNotice_camera _ _
    · rfl

/-- The camera link put down leaves the takeover as it is: R18's drop meets the view already LOST (log entry 48). -/
theorem putDown_camera_takeover (s : State) : (putDown .camera s).takeover = s.takeover := by
  unfold putDown leavingEffects
  dsimp only
  split <;> simp

theorem putDown_camera_raised {g : Flag} (h : s.raised g = true) : (putDown .camera s).raised g = true := by
  unfold putDown leavingEffects
  dsimp only
  split
  · exact raiseFlag_raised_of_raised _ (raised_of_attention (by simp) h)
  · exact raised_of_attention (by simp) h

/-- A camera link that was UP is in TRAINING after it is put down (R174). -/
theorem putDown_camera_training (h : s.links.camera.state = .up) :
    (putDown .camera s).links.camera.state = .training := by
  have down : putDown .camera s = raiseFlag .linkError (abandonLink .camera (s.setLink .camera
      { s.link .camera with state := .training, assembler := .off, linkDown := bump (s.link .camera).linkDown })) :=
    if_pos h
  rw [down, raiseFlag_camera]
  simp [State.setLink]

/-- The view as R17 has it in LOST, less what follows it. -/
def Takeover.lost (t : Takeover) (cause : LostCause) : Takeover :=
  { t with view := .lost, cause := cause, rejoins := 0, startTimer := none, watchdogTimer := none }

/-- LOST with its flag and its render request, before the link's retrain (R19). -/
def lostAsked (cause : LostCause) (s : State) : State :=
  requestRenders [.takeover] (raiseFlag .cameraView { s with takeover := s.takeover.lost cause })

theorem lostAsked_takeover (cause : LostCause) (s : State) : (lostAsked cause s).takeover = s.takeover.lost cause := by
  simp [lostAsked]

theorem requestRenders_raised {g : Flag} (ps : List Plane) (h : s.raised g = true) :
    (requestRenders ps s).raised g = true := raised_of_attention (by simp) h

theorem lostAsked_raised (cause : LostCause) (s : State) : (lostAsked cause s).raised .cameraView = true :=
  requestRenders_raised _ (raiseFlag_raised _ _)

theorem lostAsked_camera (cause : LostCause) (s : State) : (lostAsked cause s).links.camera = s.links.camera := by
  simp [lostAsked, raiseFlag_camera]

theorem enterLost_plain {cause : LostCause} (h : s.takeover.settings.retrain = false) :
    enterLost cause s = lostAsked cause s := by
  unfold enterLost
  simp [h]; rfl

theorem enterLost_retrain {cause : LostCause} (h : s.takeover.settings.retrain = true) :
    enterLost cause s = putDown .camera (lostAsked cause s) := if_pos h

theorem enterLost_takeover (cause : LostCause) (s : State) : (enterLost cause s).takeover = s.takeover.lost cause := by
  cases h : s.takeover.settings.retrain
  · rw [enterLost_plain h, lostAsked_takeover]
  · rw [enterLost_retrain h, putDown_camera_takeover, lostAsked_takeover]

theorem enterLost_raised (cause : LostCause) (s : State) : (enterLost cause s).raised .cameraView = true := by
  cases h : s.takeover.settings.retrain
  · rw [enterLost_plain h]; exact lostAsked_raised cause s
  · rw [enterLost_retrain h]; exact putDown_camera_raised (lostAsked_raised cause s)

/-! ### The events that lose the picture (R15 to R17) -/

theorem startExpires_waiting (hp : s.takeover.phase ≠ .idle) (hv : s.takeover.view = .waiting)
    (ht : s.takeover.startTimer.isSome = true) : startExpires s = enterLost .startTimeout s := if_pos ⟨ht, hv, hp⟩

theorem startExpires_other (hv : s.takeover.view ≠ .waiting) : startExpires s = s := if_neg fun h => hv h.2.1

theorem watchdogExpires_shown (hp : s.takeover.phase ≠ .idle) (hv : s.takeover.view = .live ∨ s.takeover.view = .frozen)
    (ht : s.takeover.watchdogTimer.isSome = true) : watchdogExpires s = enterLost .watchdog s := by
  rcases hv with hv | hv <;> simp [watchdogExpires, ht, hp, hv]

theorem watchdogExpires_other (hv : s.takeover.view = .waiting ∨ s.takeover.view = .lost) : watchdogExpires s = s := by
  rcases hv with hv | hv <;> simp [watchdogExpires, hv]

theorem viewLinkDown_idle (hp : s.takeover.phase = .idle) : viewLinkDown s = s := if_pos hp

theorem viewLinkDown_shown (hp : s.takeover.phase ≠ .idle) (hv : s.takeover.view = .live ∨ s.takeover.view = .frozen) :
    viewLinkDown s = enterLost .linkDown s := by
  rcases hv with hv | hv <;> simp [viewLinkDown, hp, hv]

theorem viewLinkDown_other (hv : s.takeover.view = .waiting ∨ s.takeover.view = .lost) : viewLinkDown s = s := by
  rcases hv with hv | hv <;> simp [viewLinkDown, hv]

end

/-- Settles O8: the entry to LOST, and the three events in each view. -/
theorem cameraViewTimers : Obligations.CameraViewTimers := by
  unfold Obligations.CameraViewTimers
  refine fun s => ⟨viewLinkDown_idle, fun hp => ⟨fun cause => ⟨enterLost_takeover cause s, enterLost_raised cause s,
    enterLost_plain, fun hr => ?_, fun hr hu => ?_⟩, ?_, ?_, ?_, ?_, viewLinkDown_shown hp, viewLinkDown_other⟩⟩
  · exact ⟨enterLost_retrain hr, by rw [enterLost_retrain hr]; simp; rfl⟩
  · have up : (lostAsked cause s).links.camera.state = .up := by rw [lostAsked_camera]; exact hu
    rw [enterLost_retrain hr]
    exact putDown_camera_training up
  · exact fun hv ht => congrArg Host.Outcome.next (startExpires_waiting hp hv ht)
  · exact fun hv => congrArg Host.Outcome.next (startExpires_other hv)
  · exact fun hv ht => congrArg Host.Outcome.next (watchdogExpires_shown hp hv ht)
  · exact fun hv => congrArg Host.Outcome.next (watchdogExpires_other hv)

/-! ### Good camera frames (R14 to R17) -/

theorem Guide.effectiveMode_ne_off (g : Guide) :
    g.effectiveMode ≠ .off ↔ g.rowTable ≠ [] ∧ g.bandTable ≠ [] ∧ g.settings.mode ≠ .off := by
  unfold Guide.effectiveMode
  by_cases hr : g.rowTable = [] <;> by_cases hb : g.bandTable = [] <;> simp [hr, hb]

/-- R40 at an entry to LIVE. -/
theorem requestGuide_live {s : State} (h : s.takeover.view = .live) : requestGuide s =
    if s.guide.rowTable ≠ [] ∧ s.guide.bandTable ≠ [] ∧ s.guide.settings.mode ≠ .off then requestRenders [.guide] s
    else s := by
  simp only [requestGuide, h, true_and, Guide.effectiveMode_ne_off]

theorem requestGuide_raised {g : Flag} {s : State} (h : s.raised g = true) : (requestGuide s).raised g = true :=
  raised_of_attention (by simp) h

theorem goodFrame_waiting {s : State} (h : s.takeover.view = .waiting) (n : Nat) :
    goodFrame n s = firstLive { s with takeover.lastGood := some n } := by simp [goodFrame, h]

theorem goodFrame_live {s : State} (h : s.takeover.view = .live) (n : Nat) :
    goodFrame n s = countRepeat (decide (s.takeover.lastGood = some n)) { s with takeover.lastGood := some n } := by
  simp [goodFrame, h]

theorem goodFrame_lost {s : State} (h : s.takeover.view = .lost) (n : Nat) :
    goodFrame n s = countRejoin (decide (s.takeover.lastGood = some n)) { s with takeover.lastGood := some n } := by
  simp [goodFrame, h]

theorem goodFrame_frozen {s : State} (h : s.takeover.view = .frozen) (n : Nat) :
    goodFrame n s = countRejoin (decide (s.takeover.lastGood = some n))
      (restartWatchdog { s with takeover.lastGood := some n }) := by
  simp [goodFrame, h]

theorem countRepeat_new (s : State) : countRepeat false s = restartWatchdog { s with takeover.repeats := 0 } := rfl

theorem countRepeat_again {s : State} (h : s.takeover.repeats < 2) :
    countRepeat true s = restartWatchdog { s with takeover.repeats := s.takeover.repeats + 1 } := by
  have below : s.takeover.repeats + 1 < 3 := by omega
  simp [countRepeat, below]

theorem countRepeat_third {s : State} (h : 2 ≤ s.takeover.repeats) : countRepeat true s = enterFrozen s := by
  have reached : ¬ s.takeover.repeats + 1 < 3 := by omega
  simp [countRepeat, reached]

theorem countRejoin_repeat (s : State) : countRejoin true s = { s with takeover.rejoins := 0 } := rfl

theorem countRejoin_first {s : State} (h : s.takeover.rejoins = 0) :
    countRejoin false s = { s with takeover.rejoins := 1 } := by
  simp [countRejoin, h]

theorem countRejoin_second {s : State} (h : 1 ≤ s.takeover.rejoins) : countRejoin false s = rejoinLive s := by
  have reached : ¬ s.takeover.rejoins + 1 < 2 := by omega
  simp [countRejoin, reached]

/-- Settles O9, view by view. -/
theorem goodCameraFrames : Obligations.GoodCameraFrames := by
  unfold Obligations.GoodCameraFrames
  refine ⟨by decide, fun s n => ⟨?_, ?_, ?_, ?_, ?_, ?_, ?_, ?_, ?_⟩⟩
  · intro hv
    rw [goodFrame_waiting hv, firstLive]
    exact ⟨by simp [restartWatchdog], requestGuide_live rfl⟩
  · intro hv hn
    rw [goodFrame_live hv, decide_eq_false hn]
    exact countRepeat_new _
  · intro hv hn hr
    rw [goodFrame_live hv, decide_eq_true hn]
    exact countRepeat_again (by exact hr)
  · intro hv hn hr
    have frozen : goodFrame n s = enterFrozen { s with takeover.lastGood := some n } := by
      rw [goodFrame_live hv, decide_eq_true hn]
      exact countRepeat_third (by exact hr)
    rw [frozen]
    exact ⟨by simp [enterFrozen, restartWatchdog], requestRenders_raised _ (raiseFlag_raised _ _), rfl⟩
  · intro hv hn
    rw [goodFrame_lost hv, decide_eq_true hn]
    exact countRejoin_repeat _
  · intro hv hn
    rw [goodFrame_frozen hv, decide_eq_true hn]
    exact countRejoin_repeat _
  · intro hv hn hr
    rw [goodFrame_lost hv, decide_eq_false hn]
    exact countRejoin_first (by exact hr)
  · intro hv hn hr
    rw [goodFrame_frozen hv, decide_eq_false hn]
    exact countRejoin_first (by exact hr)
  · intro hv hn hr
    have live : goodFrame n s = rejoinLive { s with takeover.lastGood := some n } := by
      rcases hv with hv | hv
      · rw [goodFrame_lost hv, decide_eq_false hn]
        exact countRejoin_second (by exact hr)
      · rw [goodFrame_frozen hv, decide_eq_false hn]
        exact countRejoin_second (by exact hr)
    rw [live]
    exact ⟨by simp [rejoinLive, restartWatchdog], requestGuide_raised (raiseFlag_raised _ _),
      requestGuide_live (by simp [restartWatchdog])⟩

end Sys2Proof.Machine
end

section
/-! What a frame start and a release of readers leave of a panel record and of the takeover (R67, R77, R85 to R87). -/

namespace Sys2Proof.Machine

theorem panel_of_panels {s t : State} (h : t.panels = s.panels) (p : Panel) : t.panel p = s.panel p := by
  cases p <;> simp [State.panel, h]

theorem releaseHold_panel (h : Hold) (s : State) (p : Panel) : (releaseHold h s).panel p = s.panel p :=
  panel_of_panels (by simp) p

theorem pickUp_panel (n : Fin 8) (h : Option Hold) (s : State) (p : Panel) : (pickUp n h s).2.panel p = s.panel p :=
  panel_of_panels (by simp) p

theorem cameraLayerStart_panel (s : State) (p : Panel) : (cameraLayerStart s).panel p = s.panel p :=
  panel_of_panels (by simp) p

theorem dropCameraHold_panel (s : State) (p : Panel) : (dropCameraHold s).panel p = s.panel p :=
  panel_of_panels (by simp) p

/-- A panel record less what its readers hold. -/
def PanelRecord.unheld (r : PanelRecord) : PanelRecord := { r with holds := Vector.replicate 6 none }

/-- The takeover less what the camera layer holds. -/
def Takeover.unheld (t : Takeover) : Takeover := { t with cameraHold := none }

section
variable (p : Panel) (s : State)

theorem setHold_unheld (id : Fin 6) (h : Option Hold) : ((setHold p id h s).panel p).unheld = (s.panel p).unheld := by
  simp [setHold, PanelRecord.unheld]

theorem dropHold_unheld (id : Fin 6) : ((dropHold p id s).panel p).unheld = (s.panel p).unheld := by
  unfold dropHold
  split
  · rfl
  · rw [setHold_unheld, releaseHold_panel]

theorem releaseStale_unheld (id : Fin 6) : ((releaseStale p id s).panel p).unheld = (s.panel p).unheld := by
  unfold releaseStale
  split
  · rfl
  · split
    · rfl
    · exact dropHold_unheld p s id

theorem pickUpLayer_unheld (l : Layer) : ((pickUpLayer p l s).panel p).unheld = (s.panel p).unheld := by
  unfold pickUpLayer
  split
  · rw [setHold_unheld, pickUp_panel]
  · rfl
  · rfl

/-- A frame start's settling changes of its panel's record the active list, which is loaded, and the holds (R85, R86). -/
theorem settleReaders_unheld : ((settleReaders p s).panel p).unheld =
    { (s.panel p).unheld with activeList := (s.panel p).pendingList } := by
  have swapped := fun (u : State) => foldl_keeps (fun u => u.panels) (fun u q => swapPlane q u) (fun u q => by simp)
    (ownedPlanes p) u
  have picked := fun (ls : List Layer) (u : State) => foldl_keeps (fun u => (u.panel p).unheld)
    (fun u l => pickUpLayer p l u) (fun u l => pickUpLayer_unheld p u l) ls u
  have released := fun (u : State) => foldl_keeps (fun u => (u.panel p).unheld)
    (fun u id => releaseStale p id u) (fun u id => releaseStale_unheld p u id) (List.finRange 6) u
  unfold settleReaders
  dsimp only
  rw [panel_of_panels (swapped _)]
  cases p
  · rw [cameraLayerStart_panel, picked, released, State.panel_setPanel]; rfl
  · rw [picked, released, State.panel_setPanel]; rfl
  · rw [picked, released, State.panel_setPanel]; rfl

/-- The panel's record after a frame start: all but the active list, the holds and the frame is as it was. -/
theorem frameStart_unheld : ((frameStart p s).panel p).unheld = { (s.panel p).unheld with
    activeList := (s.panel p).pendingList, frame := some (frameOf p (settleReaders p s)) } := by
  have settled := settleReaders_unheld p s
  simp only [frameStart, State.panel_setPanel]
  simp only [PanelRecord.unheld, PanelRecord.mk.injEq] at settled ⊢
  simp [settled]

theorem frameStart_power : ((frameStart p s).panel p).power = (s.panel p).power :=
  (congrArg PanelRecord.power (frameStart_unheld p s) :)

theorem frameStart_transition : ((frameStart p s).panel p).transition = (s.panel p).transition :=
  (congrArg PanelRecord.transition (frameStart_unheld p s) :)

theorem frameStart_blankEnded : ((frameStart p s).panel p).blankEnded = (s.panel p).blankEnded :=
  (congrArg PanelRecord.blankEnded (frameStart_unheld p s) :)

theorem frameStart_outBacklight : ((frameStart p s).panel p).outBacklight = (s.panel p).outBacklight :=
  (congrArg PanelRecord.outBacklight (frameStart_unheld p s) :)

theorem frameStart_requestActive : ((frameStart p s).panel p).requestActive = (s.panel p).requestActive :=
  (congrArg PanelRecord.requestActive (frameStart_unheld p s) :)

/-- The frame that a frame start begins is blank exactly where the panel is not ACTIVE (R76, R87). -/
theorem frameStart_frame : ∃ f, ((frameStart p s).panel p).frame = some f ∧
    f.blank = decide ((s.panel p).power ≠ .active) := by
  refine ⟨_, (congrArg PanelRecord.frame (frameStart_unheld p s) :), ?_⟩
  have power : ((settleReaders p s).panel p).power = (s.panel p).power :=
    (congrArg PanelRecord.power (settleReaders_unheld p s) :)
  simp [frameOf, power]

end

/-! ### The camera layer's hold (R23) -/

theorem cameraLayerStart_unheld (s : State) : (cameraLayerStart s).takeover.unheld = s.takeover.unheld := by
  unfold cameraLayerStart dropCameraHold
  dsimp only
  split
  · split <;> simp [Takeover.unheld]
  · split
    · split <;> simp [Takeover.unheld]
    · simp [Takeover.unheld]

/-- A frame start changes of the takeover what the camera layer holds, and nothing else. -/
theorem frameStart_takeover (p : Panel) (s : State) : (frameStart p s).takeover.unheld = s.takeover.unheld := by
  have swapped := fun (u : State) => foldl_keeps (fun u => u.takeover) (fun u q => swapPlane q u) (fun u q => by simp)
    (ownedPlanes p) u
  have picked := fun (ls : List Layer) (u : State) => foldl_keeps (fun u => u.takeover)
    (fun u l => pickUpLayer p l u) (fun u l => by simp) ls u
  have released := fun (u : State) => foldl_keeps (fun u => u.takeover)
    (fun u id => releaseStale p id u) (fun u id => by simp) (List.finRange 6) u
  unfold frameStart settleReaders
  dsimp only
  rw [State.setPanel_takeover, swapped]
  cases p
  · rw [cameraLayerStart_unheld, picked, released, State.setPanel_takeover]
  · rw [picked, released, State.setPanel_takeover]
  · rw [picked, released, State.setPanel_takeover]

/-! ### The release of a panel's readers (R77) -/

theorem dropHold_hold (p : Panel) (id j : Fin 6) (s : State) :
    ((dropHold p id s).panel p).hold j = if j = id then none else (s.panel p).hold j := by
  unfold dropHold
  split
  · rename_i h
    by_cases e : j = id
    · simp [e, h]
    · simp [e]
  · rw [setHold, State.panel_setPanel, releaseHold_panel]
    simp only [PanelRecord.hold]
    by_cases e : j = id
    · simp [e]
    · have ne : id.val ≠ j.val := fun h => e (Fin.ext h.symm)
      simp [e, ne]

theorem foldl_dropHold_hold (p : Panel) (ids : List (Fin 6)) (j : Fin 6) (s : State) :
    ((ids.foldl (fun s id => dropHold p id s) s).panel p).hold j = if j ∈ ids then none else (s.panel p).hold j := by
  induction ids generalizing s with
  | nil => simp
  | cons id ids ih =>
    rw [List.foldl_cons, ih, dropHold_hold]
    by_cases e : j = id <;> by_cases m : j ∈ ids <;> simp [e, m]

theorem dropCameraHold_none (s : State) : (dropCameraHold s).takeover.cameraHold = none := by
  unfold dropCameraHold
  split
  · assumption
  · simp

theorem releaseReaders_hold (p : Panel) (id : Fin 6) (s : State) : ((releaseReaders p s).panel p).hold id = none := by
  have dropped := foldl_dropHold_hold p (List.finRange 6) id s
  rw [if_pos (List.mem_finRange id)] at dropped
  unfold releaseReaders
  cases p
  · rw [dropCameraHold_panel]; exact dropped
  · exact dropped
  · exact dropped

theorem releaseReaders_unheld (p : Panel) (s : State) : ((releaseReaders p s).panel p).unheld = (s.panel p).unheld := by
  have dropped := foldl_keeps (fun u => (u.panel p).unheld) (fun u id => dropHold p id u)
    (fun u id => dropHold_unheld p u id) (List.finRange 6) s
  unfold releaseReaders
  cases p
  · rw [dropCameraHold_panel]; exact dropped
  · exact dropped
  · exact dropped

theorem releaseReaders_front (s : State) : (releaseReaders .front s).takeover.cameraHold = none :=
  dropCameraHold_none _

end Sys2Proof.Machine
end

section
/-! The end of a frame (R73, R76, R90). -/

namespace Sys2Proof.Machine

/-- The blank frames a panel has ended by the end of a frame (R76). -/
def blanksEnded (r : PanelRecord) (f : FrameInProgress) : Nat := if f.blank then r.blankEnded + 1 else r.blankEnded

/-- The state with a frame put out whole, before the power rules act (log entry 10). -/
def putOut (p : Panel) (f : FrameInProgress) (s : State) : State :=
  emit (.frame p (outputRows (settledMemory s) (f.shown s.takeover))) s

theorem putOut_panel (p q : Panel) (f : FrameInProgress) (s : State) : (putOut p f s).panel q = s.panel q :=
  panel_of_panels (by simp [putOut]) q

theorem putOut_link (p : Panel) (f : FrameInProgress) (s : State) (l : Link) : (putOut p f s).link l = s.link l := by
  cases l <;> rfl

/-! ### The power rules (R76), by the record of the panel -/

section
variable {p : Panel} {f : FrameInProgress} {s : State} {r : PanelRecord}

theorem powerRules_active (hr : s.panel p = r) (h : r.power = .active) : powerRules p f s = s := by
  simp [powerRules, hr, h]

/-- Too few blank frames: the count alone moves on. -/
theorem powerRules_counts (hr : s.panel p = r)
    (h : r.power = .waking ∧ blanksEnded r f < 3 ∨ r.power = .dozing ∧ blanksEnded r f < 2) :
    powerRules p f s = s.setPanel p { r with blankEnded := blanksEnded r f } := by
  unfold blanksEnded at *
  rcases h with ⟨hp, hb⟩ | ⟨hp, hb⟩ <;> simp only [powerRules, hr, hp, hb, if_true]

theorem powerRules_dozes (hr : s.panel p = r) (hp : r.power = .waking) (hb : 3 ≤ blanksEnded r f)
    (ht : r.transition = .sleep) :
    powerRules p f s = s.setPanel p { r with power := .dozing, blankEnded := 0, transition := .none } := by
  unfold blanksEnded at hb
  simp only [powerRules, hr, hp, Nat.not_lt.mpr hb, ht, if_false, if_true]

theorem powerRules_activates (hr : s.panel p = r) (hp : r.power = .waking) (hb : 3 ≤ blanksEnded r f)
    (ht : r.transition ≠ .sleep) : powerRules p f s = sendBacklight p r.level
      (s.setPanel p { r with power := .active, blankEnded := blanksEnded r f, transition := .none }) := by
  unfold blanksEnded at *
  simp only [powerRules, hr, hp, Nat.not_lt.mpr hb, ht, if_false]

/-- DOZING ends in SLEEP, and from there in WAKING when a wake is pending. -/
theorem powerRules_sleeps (hr : s.panel p = r) (hp : r.power = .dozing) (hb : 2 ≤ blanksEnded r f) :
    powerRules p f s =
      let slept := enterSleep p (s.setPanel p { r with blankEnded := blanksEnded r f })
      if r.transition = .wake then enterWaking p slept else slept := by
  unfold blanksEnded at *
  simp only [powerRules, hr, hp, Nat.not_lt.mpr hb, if_false]

/-! ### The next frame (R73) -/

theorem endOfFrame_none (h : (s.panel p).frame = none) : endOfFrame p s = s := by simp [endOfFrame, h]

/-- A panel that goes on producing starts its next frame on what the power rules leave. -/
theorem endOfFrame_goesOn (h : (s.panel p).frame = some f) (hd : ¬((s.panel p).power = .dozing ∧
      2 ≤ blanksEnded (s.panel p) f)) (hp : producing (powerRules p f (putOut p f s)) p = true) :
    endOfFrame p s = frameStart p (powerRules p f (putOut p f s)) := by
  have awake : dozeEnds (s.panel p) f = false := decide_eq_false hd
  unfold putOut at *
  simp only [endOfFrame, h, awake, hp]
  simp

/-- A panel whose DOZING ends starts no frame but that of its own wake. -/
theorem endOfFrame_dozeEnds (h : (s.panel p).frame = some f) (hd : (s.panel p).power = .dozing)
    (hb : 2 ≤ blanksEnded (s.panel p) f) : endOfFrame p s = powerRules p f (putOut p f s) := by
  have ends : dozeEnds (s.panel p) f = true := decide_eq_true ⟨hd, hb⟩
  unfold putOut
  simp only [endOfFrame, h, ends, if_true]

theorem producing_of_power (h : (s.panel p).power = .waking ∨ (s.panel p).power = .active ∨
    (s.panel p).power = .dozing) : producing s p = true := by
  rcases h with h | h | h <;> simp [producing, h]

end

/-! ### Backlight and SLEEP -/

theorem sendBacklight_panel (p : Panel) (n : Nat) (s : State) :
    (sendBacklight p n s).panel p = { s.panel p with outBacklight := n } := by
  unfold sendBacklight
  dsimp only
  split
  · rw [panel_of_panels (s := s.setPanel p { s.panel p with outBacklight := n }) (by simp), State.panel_setPanel]
  · rw [State.panel_setPanel]

theorem sendBacklight_out (p : Panel) (n : Nat) (s : State) : (sendBacklight p n s).out =
    if (s.link p.link).state = .up then .backlight p n :: s.out else s.out := by
  unfold sendBacklight
  dsimp only
  split
  · simp [emit]
  · simp

/-- The record of a panel that has entered SLEEP, but for what its readers hold, which is nothing (R77). -/
theorem enterSleep_unheld (p : Panel) (s : State) : ((enterSleep p s).panel p).unheld =
    { (s.panel p).unheld with power := .sleep, transition := .none, frame := none } := by
  rw [enterSleep, releaseReaders_unheld, State.panel_setPanel]; rfl

theorem enterSleep_hold (p : Panel) (id : Fin 6) (s : State) : ((enterSleep p s).panel p).hold id = none := by
  rw [enterSleep, releaseReaders_hold]

theorem enterSleep_cameraHold {p : Panel} (h : p = .front) (s : State) : (enterSleep p s).takeover.cameraHold = none := by
  rw [h, enterSleep, releaseReaders_front]

theorem enterWaking_panel (p : Panel) (s : State) :
    ((enterWaking p s).panel p).power = .waking ∧ ((enterWaking p s).panel p).blankEnded = 0 ∧
    ((enterWaking p s).panel p).transition = .none ∧
    ∃ g, ((enterWaking p s).panel p).frame = some g ∧ g.blank = true := by
  obtain ⟨g, hg, hb⟩ := frameStart_frame p
    (s.setPanel p { s.panel p with power := .waking, transition := .none, blankEnded := 0 })
  unfold enterWaking
  rw [frameStart_power, frameStart_blankEnded, frameStart_transition]
  simp only [State.panel_setPanel] at hb ⊢
  exact ⟨trivial, trivial, trivial, g, hg, hb⟩

/-- A panel record taken on with a backlight message, and a frame started on it. -/
theorem frameStart_lit (p : Panel) (n : Nat) (r : PanelRecord) (s : State) :
    let t := frameStart p (sendBacklight p n (s.setPanel p r))
    (t.panel p).power = r.power ∧ (t.panel p).outBacklight = n ∧ (t.panel p).transition = r.transition ∧
    t.out = (if (s.link p.link).state = .up then .backlight p n :: s.out else s.out) ∧
    ∃ g, (t.panel p).frame = some g ∧ g.blank = decide (r.power ≠ .active) := by
  have lit : (sendBacklight p n (s.setPanel p r)).panel p = { r with outBacklight := n } := by
    rw [sendBacklight_panel, State.panel_setPanel]
  obtain ⟨g, hg, hb⟩ := frameStart_frame p (sendBacklight p n (s.setPanel p r))
  dsimp only
  rw [frameStart_power, frameStart_outBacklight, frameStart_transition, lit]
  rw [lit] at hb
  exact ⟨rfl, rfl, rfl, by simp [sendBacklight_out], g, hg, hb⟩

/-! ### What is put out (R22, R23, R58, R90) -/

/-- The surfaces that a view lets through, condition by condition (R22). -/
theorem Shows.inView_eq (v : View) (c : Shows) : c.inView v = match c with
    | .always => true
    | .inLive => decide (v = .live)
    | .outOfLive => decide (v ≠ .live) := by
  cases c <;> rfl

/-- Settles O24: the frame as it is put out, and then the power rules case by case with what the next frame start keeps. -/
theorem endOfFramePowerRules : Obligations.EndOfFramePowerRules := by
  unfold Obligations.EndOfFramePowerRules
  intro p f s r view shown lines settled rows s1 ended
  have hs1 : putOut p f s = s1 := by
    have hshown : f.shown s.takeover = shown := by
      simp only [FrameInProgress.shown, Shows.inView_eq]; rfl
    simp only [putOut, hshown]; rfl
  have hr : s1.panel p = r := hs1 ▸ putOut_panel p p f s
  have hl : s1.link p.link = s.link p.link := hs1 ▸ putOut_link p f s p.link
  refine ⟨fun h => congrArg Host.Outcome.next (endOfFrame_none h), fun h => ?_⟩
  have goesOn : ∀ t, powerRules p f s1 = t → ¬(r.power = .dozing ∧ 2 ≤ ended) →
      ((t.panel p).power = .waking ∨ (t.panel p).power = .active ∨ (t.panel p).power = .dozing) →
      exec (.endOfFrame p) s = .next (frameStart p t) := fun t ht hd hp => by
    rw [← hs1] at ht
    subst ht
    exact congrArg Host.Outcome.next (endOfFrame_goesOn h hd (producing_of_power hp))
  have stops : ∀ t, powerRules p f s1 = t → r.power = .dozing → 2 ≤ ended → exec (.endOfFrame p) s = .next t :=
    fun t ht hd hb => by
      rw [← hs1] at ht
      subst ht
      exact congrArg Host.Outcome.next (endOfFrame_dozeEnds h hd hb)
  refine ⟨?_, ?_, ?_, ?_, ?_, ?_⟩
  · intro hp
    exact goesOn _ (powerRules_active hr hp) (by simp [hp]) (by simp [hr, hp])
  · intro hc
    refine goesOn _ (powerRules_counts hr hc) ?_ ?_
    · rintro ⟨hd, hb⟩
      rcases hc with ⟨hp, _⟩ | ⟨_, hlt⟩
      · simp [hp] at hd
      · omega
    · rcases hc with ⟨hp, _⟩ | ⟨hp, _⟩ <;> simp [hp]
  · intro hp hb ht
    exact goesOn _ (powerRules_dozes hr hp hb ht) (by simp [hp]) (by simp)
  · intro hp hb ht
    refine ⟨_, goesOn _ (powerRules_activates hr hp hb ht) (by simp [hp]) (by simp [sendBacklight_panel]), ?_⟩
    obtain ⟨power, backlight, transition, out, g, hg, hblank⟩ := frameStart_lit p r.level
      { r with power := .active, blankEnded := ended, transition := .none } s1
    exact ⟨power, backlight, transition, by rw [← hl]; exact out, g, hg, hblank⟩
  · intro hp hb ht
    have asleep := enterSleep_unheld p (s1.setPanel p { r with blankEnded := ended })
    refine ⟨_, stops _ ((powerRules_sleeps hr hp hb).trans (if_neg ht)) hp hb, (congrArg PanelRecord.power asleep :),
      (congrArg PanelRecord.transition asleep :), (congrArg PanelRecord.frame asleep :), by simp,
      fun id => enterSleep_hold p id _, fun front => enterSleep_cameraHold front _⟩
  · intro hp hb ht
    refine ⟨_, stops _ ((powerRules_sleeps hr hp hb).trans (if_pos ht)) hp hb, ?_⟩
    obtain ⟨power, count, transition, frame⟩ := enterWaking_panel p
      (enterSleep p (s1.setPanel p { r with blankEnded := ended }))
    exact ⟨power, count, transition, by simp, frame⟩

end Sys2Proof.Machine
end

section
/-! The phase under reverse asserted (R5, R9 to R12, R20, R21). -/

namespace Sys2Proof.Machine

section
variable (s : State)

/-! ### Where reverse asserted is handed on (R9 to R11) -/

theorem takeoverReverse_idle {s : State} (h : s.takeover.phase = .idle) :
    takeoverReverse true s = engage s ∧ takeoverReverse false s = s := by
  simp [takeoverReverse, h]

theorem takeoverReverse_linger {s : State} (h : s.takeover.phase = .linger) :
    takeoverReverse false s = s ∧ takeoverReverse true s = reengage s := by
  simp [takeoverReverse, h]

theorem takeoverReverse_engaged {s : State} (h : s.takeover.phase = .engaged) :
    takeoverReverse true s = s ∧ takeoverReverse false s = enterLinger s := by
  simp [takeoverReverse, h]

/-! ### The start of an engagement (R9, R20) -/

theorem requestById_none (z : Option ZoneSet) {id : Nat} (h : 32 ≤ id) : requestById id z s = s := by
  simp [requestById, fin?, Nat.not_lt.mpr h]

theorem requestById_some (z : Option ZoneSet) (i : Fin 32) : requestById i.val z s = internalRequest i z false s := by
  simp [requestById, fin?]

theorem applyTakeoverDemand_takeover : (applyTakeoverDemand s).takeover = { s.takeover with duckDemand := true } := by
  simp [applyTakeoverDemand]

theorem duckedEngagement_takeover : (duckedEngagement s).takeover = { (beginEngagement s).takeover with
    duckDemand := s.takeover.settings.duckRear || s.takeover.duckDemand } := by
  unfold duckedEngagement
  dsimp only
  split <;> rename_i h
  · simp [applyTakeoverDemand_takeover, h]
  · rw [Bool.not_eq_true] at h
    simp [h]; rfl

/-- Everything of an engagement but the takeover's own fields and the guide's is the chime's and the zones' work. -/
theorem duckedEngagement_keeps : (duckedEngagement s).guide = (beginEngagement s).guide ∧
    (duckedEngagement s).panels = s.panels := by
  unfold duckedEngagement
  dsimp only
  split <;> simp [beginEngagement]

theorem Takeover.eq_of_unheld {t u : Takeover} (h : t.unheld = u.unheld) : t = { u with cameraHold := t.cameraHold } := by
  simp only [Takeover.unheld, Takeover.mk.injEq] at h
  cases t
  simp_all

/-- A wake changes of the takeover at most what the camera layer holds, and that only out of SLEEP (R20, R23). -/
theorem wakeEffect_takeover (p : Panel) : (wakeEffect p s).takeover.unheld = s.takeover.unheld := by
  unfold wakeEffect
  dsimp only
  split
  · rfl
  · rw [enterWaking, frameStart_takeover, State.setPanel_takeover]
  · rw [State.setPanel_takeover]
  · rfl
  · rw [State.setPanel_takeover]

theorem wakeEffect_awake {p : Panel} {s : State} (h : (s.panel p).power ≠ .sleep) :
    (wakeEffect p s).takeover = s.takeover := by
  unfold wakeEffect
  dsimp only
  split
  · rfl
  · contradiction
  · rw [State.setPanel_takeover]
  · rfl
  · rw [State.setPanel_takeover]

theorem wakeEffect_requestActive (p : Panel) :
    ((wakeEffect p s).panel p).requestActive = (s.panel p).requestActive := by
  unfold wakeEffect
  dsimp only
  split
  · rfl
  · rw [enterWaking, frameStart_requestActive, State.panel_setPanel]
  · rw [State.panel_setPanel]
  · rfl
  · rw [State.panel_setPanel]

theorem engage_takeover_eq : (engage s).takeover = (wakeEffect .front (duckedEngagement s)).takeover := by
  rw [engage_eq]; simp

theorem engage_panels : (engage s).panels = (wakeEffect .front (duckedEngagement s)).panels := by
  rw [engage_eq]; simp

theorem engage_guide : (engage s).guide = (beginEngagement s).guide := by
  rw [engage_eq]; simp [(duckedEngagement_keeps s).1]

/-! ### The return to IDLE (R12, R21) -/

/-- The takeover's own fields at the return to IDLE, the duck demand still applied (R12). -/
def leaveEngagement (s : State) : State := { s with takeover := { s.takeover with
  phase := .idle, view := .waiting, cause := .none, lingerTimer := none, startTimer := none, watchdogTimer := none } }

theorem exitTakeover_eq : exitTakeover s =
    raiseFlag .takeover (frontToRequested (withdrawTakeoverDemand (leaveEngagement s))) := rfl

theorem withdrawTakeoverDemand_takeover :
    (withdrawTakeoverDemand s).takeover = { s.takeover with duckDemand := false } := by
  unfold withdrawTakeoverDemand
  split
  · simp
  · rename_i h
    rw [Bool.not_eq_true] at h
    rw [← h]

theorem exitTakeover_takeover : (exitTakeover s).takeover = { s.takeover with
    phase := .idle, view := .waiting, cause := .none, lingerTimer := none, startTimer := none, watchdogTimer := none,
    duckDemand := false } := by
  simp [exitTakeover_eq, withdrawTakeoverDemand_takeover, leaveEngagement]

theorem sleepEffect_requestActive (p : Panel) :
    ((sleepEffect p s).panel p).requestActive = (s.panel p).requestActive := by
  unfold sleepEffect
  dsimp only
  split
  · rfl
  · rfl
  · rw [State.panel_setPanel]
  · rw [sendBacklight_panel, State.panel_setPanel]
  · rw [State.panel_setPanel]

theorem frontToRequested_requestActive :
    (frontToRequested s).panels.front.requestActive = s.panels.front.requestActive := by
  unfold frontToRequested
  split
  · rfl
  · exact sleepEffect_requestActive s .front

/-! ### FRONT's wake and return by its power state (R20, R21, R75) -/

/-- FRONT woken, by the record it has (R20). -/
theorem wakeEffect_front {s : State} {r : PanelRecord} (hr : s.panels.front = r) : wakeEffect .front s =
    match r.power with
      | .off => s
      | .sleep => frameStart .front (s.setPanel .front { r with power := .waking, transition := .none, blankEnded := 0 })
      | .waking => s.setPanel .front { r with transition := .none }
      | .active => s
      | .dozing => s.setPanel .front { r with transition := .wake } := by
  subst hr
  rfl

/-- FRONT put on its way to SLEEP, by the record it has (R21, R75). -/
theorem sleepEffect_front {s : State} {r : PanelRecord} (hr : s.panels.front = r) : sleepEffect .front s =
    match r.power with
      | .off => s
      | .sleep => s
      | .waking => s.setPanel .front { r with transition := .sleep }
      | .active =>
        let dozing := s.setPanel .front { r with power := .dozing, blankEnded := 0, outBacklight := 0 }
        if s.links.front.state = .up then { dozing with out := .backlight .front 0 :: s.out } else dozing
      | .dozing => s.setPanel .front { r with transition := .none } := by
  subst hr
  rfl

end

/-- Settles O4: the phase table, what an engagement and its end leave, and R9's and R12's actions in their order. -/
theorem reverseMovesThePhase : Obligations.ReverseMovesThePhase := by
  unfold Obligations.ReverseMovesThePhase
  refine ⟨fun s => ?_, fun s => ⟨?_, ?_⟩, fun s => ?_⟩
  · rw [← Vehicle.reversing_eq]
    refine ⟨fun h => evaluateReverse_unchanged h, fun h => evaluateReverse_changed h, takeoverReverse_idle,
      takeoverReverse_linger, fun hp => ⟨(takeoverReverse_engaged hp).1, ?_, ?_⟩⟩
    · intro h
      rw [(takeoverReverse_engaged hp).2]
      rw [← overExitSpeed_iff] at h
      exact if_pos h
    · rintro ⟨hl, hs⟩
      rw [(takeoverReverse_engaged hp).2]
      refine if_neg ?_
      rw [overExitSpeed_iff]
      rintro (h | ⟨hf, ho⟩)
      · exact hl h
      · rcases hs with hs | hs
        · simp [hf] at hs
        · omega
  -- what an engagement leaves
  · have woken := wakeEffect_takeover (duckedEngagement s) .front
    refine ⟨?_, fun hp => ?_, ?_, ?_, raiseFlag_raised _ _, by simp, by simp⟩
    · rw [engage_takeover_eq, Takeover.eq_of_unheld woken, duckedEngagement_takeover]; rfl
    · have awake : ((duckedEngagement s).panel .front).power ≠ .sleep := by
        rw [panel_of_panels (duckedEngagement_keeps s).2]; exact hp
      rw [engage_takeover_eq, wakeEffect_awake awake, duckedEngagement_takeover]; rfl
    · rw [engage_guide]; rfl
    · rw [engage_guide]; rfl
  -- what the return to IDLE leaves
  · exact ⟨exitTakeover_takeover s, raiseFlag_raised _ _, by simp, by simp, by simp⟩
  -- the actions in their order
  · intro x r engaged asked ducked woken home freed returned
    have panels : ducked.panels.front = r := congrArg Panels.front (duckedEngagement_keeps s).2
    obtain ⟨freedPanels, freedLinks, freedOut⟩ :
        freed.panels.front = r ∧ freed.links = s.links ∧ freed.out = s.out := by
      simp [freed, home, r]
    refine ⟨?_, fun h => ?_, fun i h => ?_, fun h => ?_, fun h => ?_, ?_, ?_⟩
    · have front : wakeEffect .front ducked = woken := (wakeEffect_front panels).trans rfl
      rw [← front]
      exact engage_eq s
    · exact requestById_none engaged none (by omega)
    · have named : asked = requestById i.val none engaged := by rw [← h]
      rw [named, requestById_some]
    · have stays : freed.panels.front.requestActive = true := (congrArg _ freedPanels).trans h
      exact (exitTakeover_eq s).trans (congrArg (raiseFlag .takeover) (if_pos stays))
    · have asked : frontToRequested freed = sleepEffect .front freed := by
        simp [frontToRequested, freedPanels, h]
      have front : sleepEffect .front freed = returned := by
        have effect := sleepEffect_front freedPanels
        rw [freedLinks, freedOut] at effect
        exact effect
      rw [← front, ← asked]
      exact exitTakeover_eq s
    · rw [engage_panels]
      exact (wakeEffect_requestActive ducked .front).trans (congrArg PanelRecord.requestActive panels)
    · have exited : (exitTakeover s).panels = (frontToRequested freed).panels := by
        rw [exitTakeover_eq]; simp [freed, home, leaveEngagement, x]
      rw [exited, frontToRequested_requestActive, freedPanels]

end Sys2Proof.Machine
end

section
/-! The guide commands (R28 to R32): which settings and tables are valid, and what each command answers. -/

namespace Sys2Proof.Machine

/-! ### Lists whose neighbours are in order -/

theorem eachToNext_iff_isChain {α : Type} (r : α → α → Bool) (xs : List α) :
    eachToNext r xs = true ↔ xs.IsChain (fun a b => r a b = true) := by
  match xs with
  | [] => simp [eachToNext]
  | [_] => simp [eachToNext]
  | a :: b :: rest => simp [eachToNext, eachToNext_iff_isChain r (b :: rest)]

/-- Under a transitive relation the neighbours' order is the order of every two entries. -/
theorem eachToNext_iff_pairwise {α : Type} {r : α → α → Bool}
    (trans : ∀ a b c, r a b = true → r b c = true → r a c = true) (xs : List α) :
    eachToNext r xs = true ↔ xs.Pairwise (fun a b => r a b = true) := by
  have : Trans (fun a b => r a b = true) (fun a b => r a b = true) (fun a b => r a b = true) := ⟨trans _ _ _⟩
  rw [eachToNext_iff_isChain, List.isChain_iff_pairwise]

theorem eachToNext_le (xs : List Nat) : eachToNext (fun a b => decide (a ≤ b)) xs = true ↔ xs.Pairwise (· ≤ ·) := by
  simpa using eachToNext_iff_pairwise (r := fun a b : Nat => decide (a ≤ b)) (by simp; omega) xs

theorem eachToNext_rows (rows : List RowEntry) : eachToNext (fun a b => decide (a.d < b.d ∧ b.v < a.v)) rows = true ↔
    rows.Pairwise (fun a b => a.d < b.d ∧ b.v < a.v) := by
  simpa using eachToNext_iff_pairwise (r := fun a b : RowEntry => decide (a.d < b.d ∧ b.v < a.v)) (by simp; omega) rows

theorem eachToNext_limits (bands : List GuideBand) : eachToNext (fun a b => decide (a.limit < b.limit)) bands = true ↔
    bands.Pairwise (fun a b => a.limit < b.limit) := by
  simpa using eachToNext_iff_pairwise (r := fun a b : GuideBand => decide (a.limit < b.limit)) (by simp; omega) bands

/-! ### An answer in RUNNING and IDLE -/

theorem runCommand_open_done {s t : State} {c : Command} (h : Open s) (mark : Byte) (answer : perform c s = done t) :
    runCommand mark c s = replied mark c.code .ok [] t := by
  rw [runCommand_open h, answer, handAnswer_done]

theorem runCommand_open_refuse {s : State} {c : Command} {st : Status} (h : Open s) (mark : Byte)
    (answer : perform c s = refuse st s) : runCommand mark c s = replied mark c.code st [] s := by
  rw [runCommand_open h, answer, handAnswer_refuse]

/-! ### GUIDE_SET (R28) -/

/-- A mode's number in GUIDE_SET. -/
def GuideMode.code : GuideMode → Nat
  | .off => 0
  | .static => 1
  | .dynamic => 2
  | .both => 3

theorem guideMode?_eq_some (n : Nat) (m : GuideMode) : guideMode? n = some m ↔ n = m.code := by
  match n with
  | 0 | 1 | 2 | 3 => cases m <;> simp [guideMode?, GuideMode.code]
  | n + 4 => cases m <;> simp [guideMode?, GuideMode.code]

theorem guideMode?_isSome (n : Nat) : (∃ m, guideMode? n = some m) ↔ n ≤ 3 := by
  simp only [guideMode?_eq_some]
  refine ⟨fun ⟨m, h⟩ => by cases m <;> simp [h, GuideMode.code], fun h => ?_⟩
  match n with
  | 0 => exact ⟨.off, rfl⟩
  | 1 => exact ⟨.static, rfl⟩
  | 2 => exact ⟨.dynamic, rfl⟩
  | 3 => exact ⟨.both, rfl⟩

/-- R28's ranges of the items that are stored as they come. -/
def guideInRange (p : GuideSetParams) : Prop :=
  (p.polarity = 1 ∨ p.polarity = -1) ∧ 500 ≤ p.halfWidth ∧ p.halfWidth ≤ 1200 ∧ 300 ≤ p.overhang ∧ p.overhang ≤ 1500 ∧
  1 ≤ p.slew ∧ p.slew ≤ 30000 ∧ p.stopBar ≤ 1

theorem guideSettings?_eq_some (p : GuideSetParams) (t : GuideSettings) : guideSettings? p = some t ↔
    guideMode? p.mode = some t.mode ∧ guideInRange p ∧ t = {
      mode := t.mode, polarity := p.polarity, halfWidth := p.halfWidth, overhang := p.overhang, slew := p.slew,
      stopBar := decide (p.stopBar = 1) } := by
  obtain ⟨mode, _, _, _, _, _⟩ := t
  unfold guideSettings? guideInRange
  rw [flag?_eq]
  by_cases hb : p.stopBar ≤ 1
  · cases guideMode? p.mode <;> simp [hb, and_assoc, eq_comm]
    tauto
  · simp [hb]

theorem guideSettings?_isSome (p : GuideSetParams) : (guideSettings? p).isSome = true ↔ p.mode ≤ 3 ∧ guideInRange p := by
  rw [← guideMode?_isSome, Option.isSome_iff_exists]
  constructor
  · rintro ⟨t, h⟩
    obtain ⟨mode, range, -⟩ := (guideSettings?_eq_some p t).mp h
    exact ⟨⟨_, mode⟩, range⟩
  · rintro ⟨⟨m, mode⟩, range⟩
    exact ⟨_, (guideSettings?_eq_some p ⟨m, _, _, _, _, _⟩).mpr ⟨mode, range, rfl⟩⟩

/-! ### STEER_TABLE_SET (R30) -/

theorem table?_toList {n : Nat} (t : Vector Nat n) : table? n t.toList = some t := by
  simp [table?, Vector.toList]

theorem table?_length {n : Nat} {xs : List Nat} (h : xs.length ≠ n) : table? n xs = none := by simp [table?, h]

theorem table?_exists {n : Nat} {xs : List Nat} (h : xs.length = n) : ∃ t : Vector Nat n, table? n xs = some t :=
  ⟨_, dif_pos h⟩

/-- R30's conditions on the values, less their number. -/
def steerValuesOk (values : List Nat) : Prop :=
  (∀ x ∈ values, x ≤ 30000) ∧ values.head? = some 0 ∧ values.Pairwise (· ≤ ·)

theorem steerTableSet_some {values : List Nat} {t : Vector Nat 9} (h : table? 9 values = some t) (s : State) :
    (steerValuesOk values → steerTableSet values s = done { s with guide.steerTable := some t }) ∧
    (¬ steerValuesOk values → steerTableSet values s = refuse .param s) := by
  have nonempty : values ≠ [] := by rintro rfl; simp [table?] at h
  have check : (values.all (· ≤ 30000) && values.headD 0 == 0 && eachToNext (fun a b => a ≤ b) values) = true ↔
      steerValuesOk values := by
    obtain ⟨x, xs, rfl⟩ := List.exists_cons_of_ne_nil nonempty
    rw [Bool.and_eq_true, eachToNext_le]
    simp [steerValuesOk, and_assoc]
  simp only [steerTableSet, h]
  exact ⟨fun ok => if_pos (check.mpr ok), fun bad => if_neg (bad ∘ check.mp)⟩

theorem steerTableSet_valid {t : Vector Nat 9} (h : steerValuesOk t.toList) (s : State) :
    steerTableSet t.toList s = done { s with guide.steerTable := some t } :=
  (steerTableSet_some (table?_toList t) s).1 h

theorem steerTableSet_invalid {values : List Nat} (h : ¬ (values.length = 9 ∧ steerValuesOk values)) (s : State) :
    steerTableSet values s = refuse .param s := by
  by_cases hl : values.length = 9
  · obtain ⟨t, ht⟩ := table?_exists hl
    exact (steerTableSet_some ht s).2 fun ok => h ⟨hl, ok⟩
  · simp [steerTableSet, table?_length hl]

/-! ### ROW_TABLE_SET (R31) -/

theorem rowEntry?_eq_some (e : RowParams) (r : RowEntry) : rowEntry? e = some r ↔
    r = { d := e.d, v := e.v, scale := e.scale, c := e.c, w := e.w, marker := decide (e.marker = 1) } ∧
      e.d ≤ 8000 ∧ e.v ≤ 799 ∧ 1 ≤ e.scale ∧ e.scale ≤ 4000 ∧ e.c ≤ 1279 ∧ 1 ≤ e.w ∧ e.w ≤ 15 ∧ e.marker ≤ 1 := by
  unfold rowEntry?
  rw [flag?_eq]
  by_cases hm : e.marker ≤ 1
  · simp [hm, and_comm, and_assoc, eq_comm]
  · simp [hm]

theorem rowTable?_eq_some (rows : List RowParams) (t : List RowEntry) : rowTable? rows = some t ↔
    rows.mapM rowEntry? = some t ∧ 2 ≤ t.length ∧ t.length ≤ 32 ∧ t.Pairwise (fun a b => a.d < b.d ∧ b.v < a.v) := by
  unfold rowTable?
  simp only [eachToNext_rows, Option.bind_eq_bind, Option.bind_eq_some_iff, Option.ite_none_right_eq_some,
    Option.some.injEq]
  constructor
  · rintro ⟨_, hm, ok, rfl⟩
    exact ⟨hm, ok⟩
  · rintro ⟨hm, ok⟩
    exact ⟨t, hm, ok, rfl⟩

theorem rowTable?_eq_none {rows : List RowParams} (h : ∀ t, rows.mapM rowEntry? = some t →
    t.length < 2 ∨ 32 < t.length ∨ ¬ t.Pairwise (fun a b => a.d < b.d ∧ b.v < a.v)) : rowTable? rows = none := by
  refine Option.eq_none_iff_forall_ne_some.mpr fun t ht => ?_
  obtain ⟨hm, two, most, order⟩ := (rowTable?_eq_some rows t).mp ht
  rcases h t hm with few | many | out
  · omega
  · omega
  · exact out order

theorem rowTableSet_length {rows : SizedList RowParams} (h : rows.length ≠ 1 + 10 * rows.entries.length) (s : State) :
    rowTableSet rows s = refuse .param s := if_pos h

theorem rowTableSet_sized {rows : SizedList RowParams} (h : rows.length = 1 + 10 * rows.entries.length) (s : State) :
    (∀ t, rowTable? rows.entries = some t → rowTableSet rows s = done { s with guide.rowTable := t }) ∧
    (rowTable? rows.entries = none → rowTableSet rows s = refuse .param s) := by
  have sized : ¬ rows.length ≠ rowTableLength rows.entries := not_not_intro h
  exact ⟨fun t ht => by simp [rowTableSet, sized, ht], fun ht => by simp [rowTableSet, sized, ht]⟩

/-! ### BAND_TABLE_SET (R32) -/

theorem bandsOk_iff (bands : List GuideBand) : bandsOk bands = true ↔ 1 ≤ bands.length ∧ bands.length ≤ 4 ∧
    (∀ b ∈ bands, 1 ≤ b.limit ∧ b.limit ≤ 10000) ∧ bands.Pairwise (fun a b => a.limit < b.limit) := by
  unfold bandsOk
  rw [Bool.and_eq_true, eachToNext_limits]
  simp [and_assoc]

/-- Settles O11, command by command: the owner's answer over valid and over other parameters, handed over. -/
theorem guideSettingsAndTables : Obligations.GuideSettingsAndTables := by
  unfold Obligations.GuideSettingsAndTables
  intro mark p values length rows bands s hs
  have ok : ∀ {c : Command} {t : State}, perform c s = done t → (.next (runCommand mark c s) :
      Host.Outcome State Fault Refusal) = .next (replied mark c.code .ok [] t) :=
    fun answer => congrArg Host.Outcome.next (runCommand_open_done hs mark answer)
  have param : ∀ {c : Command}, perform c s = refuse .param s → (.next (runCommand mark c s) :
      Host.Outcome State Fault Refusal) = .next (replied mark c.code .param [] s) :=
    fun answer => congrArg Host.Outcome.next (runCommand_open_refuse hs mark answer)
  refine ⟨?_, ?_, guideSettings?_isSome p, ?_, rowEntry?_eq_some, ?_, ?_, ?_, ?_, ?_, ?_⟩
  · intro t ht
    exact ok (c := .guideSet p) (by simp [perform, guideSet, ht])
  · intro hn
    exact param (c := .guideSet p) (by simp [perform, guideSet, hn])
  · intro t ht
    obtain ⟨mode, -, fields⟩ := (guideSettings?_eq_some p t).mp ht
    exact ⟨fields, (guideMode?_eq_some _ _).mp mode⟩
  · rintro t rfl bounded first rising
    exact ok (c := .steerTableSet t.toList) (steerTableSet_valid ⟨bounded, first, rising⟩ s)
  · intro bad
    exact param (c := .steerTableSet values) (steerTableSet_invalid bad s)
  · intro t sized read two most order
    exact ok (c := .rowTableSet ⟨length, rows⟩)
      ((rowTableSet_sized sized s).1 t ((rowTable?_eq_some rows t).mpr ⟨read, two, most, order⟩))
  · intro bad
    refine param (c := .rowTableSet ⟨length, rows⟩) ?_
    by_cases sized : length = 1 + 10 * rows.length
    · exact (rowTableSet_sized sized s).2 (rowTable?_eq_none (bad.resolve_left (not_not_intro sized)))
    · exact rowTableSet_length sized s
  · intro one most limits rising
    exact ok (c := .bandTableSet bands) (if_pos ((bandsOk_iff bands).mpr ⟨one, most, limits, rising⟩))
  · intro bad
    refine param (c := .bandTableSet bands) (if_neg ?_)
    rw [bandsOk_iff]
    rintro ⟨one, most, limits, rising⟩
    rcases bad with none | many | ⟨b, hb, out⟩ | out
    · omega
    · omega
    · have := limits b hb
      omega
    · exact out rising

end Sys2Proof.Machine
end

section
/-! The target curvature and the drawn curvature (R34 to R36). -/

namespace Sys2Proof.Machine

/-! ### The magnitude of the target curvature (R34) -/

section
variable {t : Vector Nat 9}

theorem getD_toList {i : Nat} (h : i < 9) : t.toList.getD i 0 = t[i] := by simp [List.getD, h]

/-- Between two values of the table the magnitude is interpolated. -/
theorem curvatureMagnitude_segment {i x : Nat} (hi : i < 8) (hx : x < 900) :
    curvatureMagnitude t (900 * i + x) = (t[i] : Nat) + nearestDiv ((((t[i + 1] : Nat) : Int) - (t[i] : Nat)) * x) 900 := by
  have inside : ¬ 7200 ≤ 900 * i + x := by omega
  have index : (900 * i + x) / 900 = i := by omega
  have rest : ((900 * i + x : Nat) : Int) - 900 * (i : Int) = x := by omega
  simp only [curvatureMagnitude, inside, if_false, index, rest, getD_toList (show i < 9 by omega),
    getD_toList (show i + 1 < 9 by omega)]

theorem curvatureMagnitude_last {a : Nat} (h : 7200 ≤ a) : curvatureMagnitude t a = (t[8] : Nat) := by
  simp [curvatureMagnitude, h]

/-- An angle below the table's end lies in one of its eight segments. -/
theorem segment_of_lt {a : Nat} (h : a < 7200) : ∃ i x, i < 8 ∧ x < 900 ∧ a = 900 * i + x :=
  ⟨a / 900, a % 900, by omega, by omega, by omega⟩

theorem nearestDiv_of_nonneg {a b : Int} (h : 0 ≤ a) : nearestDiv a b = (2 * a + b) / (2 * b) := if_pos h

theorem table_le (rising : t.toList.Pairwise (· ≤ ·)) {i j : Nat} (hij : i ≤ j) (hj : j < 9) : t[i] ≤ t[j] := by
  rcases Nat.eq_or_lt_of_le hij with rfl | lt
  · exact Nat.le_refl _
  · rw [← Vector.getElem_toList (by simp; omega), ← Vector.getElem_toList (by simpa using hj)]
    exact List.pairwise_iff_getElem.mp rising i j _ _ lt

/-- Over a rising table the interpolation rounds half up (R34, section 6.2). -/
theorem curvatureMagnitude_rising (rising : t.toList.Pairwise (· ≤ ·)) {i x : Nat} (hi : i < 8) (hx : x < 900) :
    curvatureMagnitude t (900 * i + x) =
      (t[i] : Nat) + (2 * ((((t[i + 1] : Nat) : Int) - (t[i] : Nat)) * x) + 900) / 1800 := by
  have step : (t[i] : Nat) ≤ t[i + 1] := table_le rising (by omega) (by omega)
  rw [curvatureMagnitude_segment hi hx, nearestDiv_of_nonneg (Int.mul_nonneg (by omega) (by omega))]
  rfl

/-- Within a segment the magnitude lies between the values at its ends. -/
theorem curvatureMagnitude_between (rising : t.toList.Pairwise (· ≤ ·)) {i x : Nat} (hi : i < 8) (hx : x < 900) :
    ((t[i] : Nat) : Int) ≤ curvatureMagnitude t (900 * i + x) ∧
      curvatureMagnitude t (900 * i + x) ≤ (t[i + 1] : Nat) := by
  have step : (t[i] : Nat) ≤ t[i + 1] := table_le rising (by omega) (by omega)
  rw [curvatureMagnitude_rising rising hi hx]
  generalize hd : ((t[i + 1] : Nat) : Int) - (t[i] : Nat) = d
  have low : 0 ≤ d * (x : Int) := Int.mul_nonneg (by omega) (by omega)
  have high : d * (x : Int) ≤ d * 900 := Int.mul_le_mul_of_nonneg_left (by omega) (by omega)
  omega

/-- Within a segment the magnitude does not fall. -/
theorem curvatureMagnitude_segment_mono (rising : t.toList.Pairwise (· ≤ ·)) {i x y : Nat} (hi : i < 8) (hxy : x ≤ y)
    (hy : y < 900) : curvatureMagnitude t (900 * i + x) ≤ curvatureMagnitude t (900 * i + y) := by
  have step : (t[i] : Nat) ≤ t[i + 1] := table_le rising (by omega) (by omega)
  rw [curvatureMagnitude_rising rising hi (by omega), curvatureMagnitude_rising rising hi hy]
  generalize hd : ((t[i + 1] : Nat) : Int) - (t[i] : Nat) = d
  have : d * (x : Int) ≤ d * (y : Int) := Int.mul_le_mul_of_nonneg_left (by omega) (by omega)
  omega

theorem curvatureMagnitude_mem (rising : t.toList.Pairwise (· ≤ ·)) (a : Nat) :
    0 ≤ curvatureMagnitude t a ∧ curvatureMagnitude t a ≤ (t[8] : Nat) := by
  by_cases h : 7200 ≤ a
  · simp [curvatureMagnitude_last h]
  · obtain ⟨i, x, hi, hx, rfl⟩ := segment_of_lt (Nat.not_le.mp h)
    have between := curvatureMagnitude_between rising hi hx
    have last : (t[i + 1] : Nat) ≤ t[8] := table_le rising (by omega) (by omega)
    omega

theorem curvatureMagnitude_mono (rising : t.toList.Pairwise (· ≤ ·)) {a b : Nat} (hab : a ≤ b) :
    curvatureMagnitude t a ≤ curvatureMagnitude t b := by
  by_cases hb : 7200 ≤ b
  · rw [curvatureMagnitude_last hb]
    exact (curvatureMagnitude_mem rising a).2
  · obtain ⟨i, x, hi, hx, rfl⟩ := segment_of_lt (show a < 7200 by omega)
    obtain ⟨j, y, hj, hy, rfl⟩ := segment_of_lt (Nat.not_le.mp hb)
    rcases Nat.eq_or_lt_of_le (show i ≤ j by omega) with rfl | lt
    · exact curvatureMagnitude_segment_mono rising hi (by omega) hy
    · have ends := (curvatureMagnitude_between rising hi hx).2
      have begins := (curvatureMagnitude_between rising hj hy).1
      have across : (t[i + 1] : Nat) ≤ t[j] := table_le rising (by omega) (by omega)
      omega

theorem curvatureMagnitude_at (i : Fin 9) : curvatureMagnitude t (900 * i.val) = (t[i] : Nat) := by
  obtain ⟨i, hi⟩ := i
  rcases Nat.lt_or_eq_of_le (Nat.le_of_lt_succ hi) with lt | rfl
  · simpa [nearestDiv] using curvatureMagnitude_segment (t := t) (x := 0) lt (by omega)
  · exact curvatureMagnitude_last (Nat.le_refl 7200)

end

theorem targetCurvature_table {g : Guide} {t : Vector Nat 9} (h : g.steerTable = some t) (theta : Int) :
    targetCurvature g theta = theta.sign * g.settings.polarity * curvatureMagnitude t theta.natAbs := by
  simp [targetCurvature, h]

theorem targetCurvature_empty {g : Guide} (h : g.steerTable = none) (theta : Int) : targetCurvature g theta = 0 := by
  simp [targetCurvature, h]

theorem sign_eq_ite (theta : Int) : theta.sign = if theta = 0 then 0 else if 0 < theta then 1 else -1 := by
  rcases Int.lt_trichotomy theta 0 with h | rfl | h
  · rw [Int.sign_eq_neg_one_of_neg h, if_neg (by omega), if_neg (by omega)]
  · rfl
  · rw [Int.sign_eq_one_of_pos h, if_neg (by omega), if_pos h]

/-! ### The drawn curvature (R35) -/

section
variable {g : Guide} {k target : Int}

theorem drawnCurvature_unset (h : g.kappaDraw = none) : drawnCurvature g target = max (-30000) (min 30000 target) := by
  simp only [drawnCurvature, h, clampInt_eq (show (-30000 : Int) ≤ 30000 by omega)]

/-- From a drawn curvature the next one is the target within the slew limit, else the limit's move toward it. -/
theorem drawnCurvature_set (h : g.kappaDraw = some k) : drawnCurvature g target = max (-30000) (min 30000
    (if (target - k).natAbs ≤ g.settings.slew then target
      else if k < target then k + g.settings.slew else k - g.settings.slew)) := by
  simp only [drawnCurvature, h, clampInt_eq (show (-30000 : Int) ≤ 30000 by omega)]

theorem drawnCurvature_near (h : g.kappaDraw = some k) (hn : (target - k).natAbs ≤ g.settings.slew) :
    drawnCurvature g target = max (-30000) (min 30000 target) := by
  rw [drawnCurvature_set h, if_pos hn]

theorem drawnCurvature_above (h : g.kappaDraw = some k) (ha : k + g.settings.slew < target) :
    drawnCurvature g target = max (-30000) (min 30000 (k + g.settings.slew)) := by
  rw [drawnCurvature_set h, if_neg (by omega), if_pos (by omega)]

theorem drawnCurvature_below (h : g.kappaDraw = some k) (hb : target < k - g.settings.slew) :
    drawnCurvature g target = max (-30000) (min 30000 (k - g.settings.slew)) := by
  rw [drawnCurvature_set h, if_neg (by omega), if_neg (by omega)]

theorem drawnCurvature_bounded (g : Guide) (target : Int) : (drawnCurvature g target).natAbs ≤ 30000 := by
  rw [drawnCurvature, clampInt_eq (by omega)]
  omega

theorem drawnCurvature_moves (h : g.kappaDraw = some k) (hk : k.natAbs ≤ 30000) :
    (drawnCurvature g target - k).natAbs ≤ g.settings.slew := by
  rw [drawnCurvature_set h]
  split
  · omega
  · split <;> omega

end

/-- Settles O12, from the magnitude's segments, the four cases of the drawn curvature, and what the phase changes leave. -/
theorem curvatureTargetAndSlew : Obligations.CurvatureTargetAndSlew := by
  unfold Obligations.CurvatureTargetAndSlew
  refine ⟨fun g t theta a b rising bounded _ => ⟨curvatureMagnitude_at,
    fun i x hx => curvatureMagnitude_rising rising i.isLt hx, curvatureMagnitude_last, curvatureMagnitude_mono rising,
    (curvatureMagnitude_mem rising a).1, ?_, ?_, ?_, fun h => targetCurvature_empty h theta⟩,
    fun g k target s => ⟨drawnCurvature_unset, drawnCurvature_near, drawnCurvature_above, drawnCurvature_below,
      drawnCurvature_bounded g target, drawnCurvature_moves, ?_, by simp, by simp, rfl⟩⟩
  · have last : t[8] ≤ 30000 := bounded _ (by simp)
    have most := (curvatureMagnitude_mem rising a).2
    omega
  · intro h
    rw [targetCurvature_table h, sign_eq_ite]
  · intro h
    simp [targetCurvature_table h]
  · rw [engage_guide]
    rfl

end Sys2Proof.Machine
end

section
/-! One guide computation: the geometry record and its stop bar (R37 to R39, R46). -/

namespace Sys2Proof.Machine

/-! ### The nearest obstacle (R46, R148) -/

theorem nearestObstacle_none {distances : Vector Nat 4} (h : ∀ x ∈ distances.toList, 255 ≤ x) :
    nearestObstacle distances = none := by
  have clear : distances.toList.filter (· < 255) = [] :=
    List.filter_eq_nil_iff.mpr fun x hx => by simpa using h x hx
  simp [nearestObstacle, clear]

theorem nearestObstacle_least {distances : Vector Nat 4} {code : Nat} (hc : code < 255)
    (hm : code ∈ distances.toList) (least : ∀ x ∈ distances.toList, x < 255 → code ≤ x) :
    nearestObstacle distances = some (10 * code) := by
  have smallest : (distances.toList.filter (· < 255)).min? = some code :=
    List.min?_eq_some_iff.mpr ⟨List.mem_filter.mpr ⟨hm, decide_eq_true hc⟩, fun x hx => by
      obtain ⟨mem, below⟩ := List.mem_filter.mp hx
      exact least x mem (of_decide_eq_true below)⟩
  simp [nearestObstacle, smallest]

/-! ### The stop bar (R46) -/

section
variable {d : Nat} {rows : List RowEntry} {cols : List Columns}

theorem stopBarAt_first {e : RowEntry} {c : Columns} (hr : rows[0]? = some e) (hc : cols[0]? = some c)
    (rowsLength : 2 ≤ rows.length) (colsLength : 2 ≤ cols.length) (hd : d ≤ e.d) :
    stopBarAt d rows cols = some { row := e.v, columns := c } := by
  match rows, cols, rowsLength, colsLength with
  | e0 :: _ :: _, c0 :: _ :: _, _, _ =>
    cases hr
    cases hc
    simp [stopBarAt, hd]

/-- The bar between two entries, on the row that its distance gives and in that row's columns (R46, R42). -/
def segmentBar (d : Nat) (e0 e1 : RowEntry) (c0 c1 : Columns) : StopBar :=
  let row : Int := (e0.v : Int) +
    nearestDiv (((e1.v : Int) - (e0.v : Int)) * ((d : Int) - (e0.d : Int))) ((e1.d : Int) - (e0.d : Int))
  { row := row,
    columns := { left := columnAt e0.v e1.v c0.left c1.left row, right := columnAt e0.v e1.v c0.right c1.right row } }

theorem stopBarAt_cons {e0 e1 : RowEntry} {c0 c1 : Columns} (hd : e0.d < d) :
    stopBarAt d (e0 :: e1 :: rows) (c0 :: c1 :: cols) =
      if d ≤ e1.d then some (segmentBar d e0 e1 c0 c1) else stopBarAt d (e1 :: rows) (c1 :: cols) := by
  simp only [stopBarAt, if_neg (Nat.not_le.mpr hd)]
  rfl

/-- Over entries of rising distance the bar lies in the segment whose distances hold the obstacle's. -/
theorem stopBarAt_segment {j : Nat} {e0 e1 : RowEntry} {c0 c1 : Columns} (rising : rows.Pairwise fun a b => a.d < b.d)
    (hr0 : rows[j]? = some e0) (hr1 : rows[j + 1]? = some e1) (hc0 : cols[j]? = some c0) (hc1 : cols[j + 1]? = some c1)
    (h0 : e0.d < d) (h1 : d ≤ e1.d) : stopBarAt d rows cols = some (segmentBar d e0 e1 c0 c1) := by
  induction j generalizing rows cols with
  | zero =>
    match rows, cols with
    | _ :: _ :: _, _ :: _ :: _ =>
      cases hr0; cases hr1; cases hc0; cases hc1
      rw [stopBarAt_cons h0, if_pos h1]
    | _ :: [], _ => cases hr1
    | _, _ :: [] => cases hc1
    | [], _ => cases hr0
    | _, [] => cases hc0
  | succ j ih =>
    match rows, cols with
    | first :: second :: rest, _ :: _ :: _ =>
      obtain ⟨begins, rest'⟩ := List.pairwise_cons.mp rising
      have mem : e0 ∈ second :: rest := List.mem_of_getElem? hr0
      have passed : first.d < d := (begins e0 mem).trans h0
      have next : ¬ d ≤ second.d := by
        rcases List.mem_cons.mp mem with rfl | later
        · omega
        · have := (List.pairwise_cons.mp rest').1 e0 later
          omega
      rw [stopBarAt_cons passed, if_neg next]
      exact ih rest' hr0 hr1 hc0 hc1
    | _ :: [], _ => cases hr0
    | _, _ :: [] => cases hc0
    | [], _ => cases hr0
    | _, [] => cases hc0

theorem stopBarAt_beyond (h : ∀ e ∈ rows, e.d < d) : stopBarAt d rows cols = none := by
  induction rows generalizing cols with
  | nil => simp [stopBarAt]
  | cons e0 rest ih =>
    match rest, cols with
    | e1 :: rest, c0 :: c1 :: cols =>
      have next : ¬ d ≤ e1.d := Nat.not_le.mpr (h e1 (by simp))
      rw [stopBarAt_cons (h e0 (by simp)), if_neg next]
      exact ih fun e he => h e (List.mem_cons_of_mem _ he)
    | [], _ => simp [stopBarAt]
    | _, [] => simp [stopBarAt]
    | _, [_] => simp [stopBarAt]

/-- In a list whose distances rise, no entry lies beyond the last. -/
theorem le_last_of_rising {e : RowEntry} (rising : rows.Pairwise fun a b => a.d < b.d) (hl : rows.getLast? = some e) :
    ∀ x ∈ rows, x.d ≤ e.d := by
  obtain ⟨before, rfl⟩ := List.getLast?_eq_some_iff.mp hl
  intro x hx
  rcases List.mem_append.mp hx with earlier | last
  · exact Nat.le_of_lt ((List.pairwise_append.mp rising).2.2 x earlier e (by simp))
  · rw [List.mem_singleton.mp last]

end

/-! ### The record (R37 to R39) -/

theorem lateralOffset_eq (kappa : Int) (d overhang : Nat) : lateralOffset kappa d overhang = max (-8000) (min 8000
    (nearestDiv (kappa * (d : Int) * ((d : Int) + 2 * (overhang : Int))) 200000000)) :=
  clampInt_eq (by omega) _

section
variable {g : Guide} {v : Vehicle} {mirror : Bool} {width height : Nat}

/-- The columns that the stop bar and the markers take: the dynamic lines' in DYNAMIC and BOTH, the static ones' in STATIC. -/
def GeometryRecord.lines (r : GeometryRecord) : List Columns := if r.mode = .static then r.static else r.dynamic

theorem computeRecord_dynamic (h : g.effectiveMode = .dynamic ∨ g.effectiveMode = .both) :
    (computeRecord g v mirror width height).dynamic = g.rowTable.map fun e =>
      entryColumns g mirror e (lateralOffset (computeRecord g v mirror width height).kappaDraw e.d g.settings.overhang) := by
  rcases h with h | h <;> simp [computeRecord, h, GuideMode.hasDynamic]

theorem computeRecord_static (h : g.effectiveMode = .static ∨ g.effectiveMode = .both) :
    (computeRecord g v mirror width height).static = g.rowTable.map fun e => entryColumns g mirror e 0 := by
  rcases h with h | h <;> simp [computeRecord, h, GuideMode.hasStatic]

theorem computeRecord_lines_length (h : g.effectiveMode ≠ .off) :
    (computeRecord g v mirror width height).lines.length = g.rowTable.length := by
  have mode : (computeRecord g v mirror width height).mode = g.effectiveMode := rfl
  unfold GeometryRecord.lines
  rw [mode]
  cases hm : g.effectiveMode with
  | off => exact absurd hm h
  | static => simp [computeRecord_static (.inl hm)]
  | dynamic => simp [computeRecord_dynamic (.inl hm)]
  | both => simp [computeRecord_dynamic (.inr hm)]

theorem computeRecord_noStopBar (h : g.settings.stopBar = false ∨ g.effectiveMode = .off ∨ v.fresh = false ∨
    nearestObstacle v.distances = none) : (computeRecord g v mirror width height).stopBar = none := by
  rcases h with h | h | h | h <;> simp [computeRecord, h]

theorem computeRecord_stopBar {d : Nat} (enabled : g.settings.stopBar = true) (on : g.effectiveMode ≠ .off)
    (fresh : v.fresh = true) (hd : nearestObstacle v.distances = some d) :
    (computeRecord g v mirror width height).stopBar =
      stopBarAt d g.rowTable (computeRecord g v mirror width height).lines := by
  cases hm : g.effectiveMode with
  | off => exact absurd hm on
  | static | dynamic | both =>
    simp [computeRecord, GeometryRecord.lines, enabled, fresh, hd, hm, GuideMode.hasDynamic]

end

/-- Settles O13: the record's fields as computed, and the stop bar by where the obstacle lies among the entries. -/
theorem geometryRecordOfOneComputation : Obligations.GeometryRecordOfOneComputation := by
  unfold Obligations.GeometryRecordOfOneComputation
  intro s width height g m t column theta drawn offset
  refine ⟨computeRecord g s.vehicle s.takeover.camera.mirror width height, rfl, rfl, rfl, rfl, rfl, rfl,
    fun hm => ?_, fun hm => ?_, fun h => computeRecord_noStopBar ?_, ?_⟩
  · simp only [computeRecord_dynamic hm, entryColumns, imageColumn, lateralOffset_eq]
    rfl
  · simp only [computeRecord_static hm, entryColumns, imageColumn, Int.add_zero]
    rfl
  · refine h.imp id (Or.imp id (Or.imp id fun clear => nearestObstacle_none ?_))
    simp [clear]
  · intro code enabled on fresh hc hm least two ordered d lines
    rw [computeRecord_stopBar enabled on fresh (nearestObstacle_least hc hm least)]
    have rising : g.rowTable.Pairwise fun a b => a.d < b.d := ordered.imp And.left
    refine ⟨fun e c he hcol hd => ?_, fun j e0 e1 c0 c1 he0 he1 hc0 hc1 h0 h1 => ?_, fun e he hd => ?_⟩
    · exact stopBarAt_first he hcol two (by rw [computeRecord_lines_length on]; exact two) hd
    · exact stopBarAt_segment rising he0 he1 hc0 hc1 h0 h1
    · exact stopBarAt_beyond fun x hx => Nat.lt_of_le_of_lt (le_last_of_rising rising he x hx) hd

end Sys2Proof.Machine
end

section
/-! What a drawn plane buffer holds (R93, R96), and what a drawing operation sets (R41, R103). -/

namespace Sys2Proof.Machine

/-! ### Rows of one length, one after another -/

section
variable {α : Type} {f : Nat → List α} {n : Nat}

theorem length_flatMap_range (hf : ∀ i, (f i).length = n) (h : Nat) : ((List.range h).flatMap f).length = h * n := by
  simp [List.length_flatMap, hf]

theorem getElem?_flatMap_range (hf : ∀ i, (f i).length = n) {h y k : Nat} (hy : y < h) (hk : k < n) :
    ((List.range h).flatMap f)[y * n + k]? = (f y)[k]? := by
  induction h with
  | zero => omega
  | succ h ih =>
    rw [List.range_succ, List.flatMap_append, List.flatMap_singleton]
    rcases Nat.lt_or_eq_of_le (Nat.le_of_lt_succ hy) with lt | rfl
    · have within : y * n + k < h * n := calc
        y * n + k < (y + 1) * n := by rw [Nat.add_mul]; omega
        _ ≤ h * n := Nat.mul_le_mul_right n lt
      rw [List.getElem?_append_left (by rw [length_flatMap_range hf]; exact within), ih lt]
    · rw [List.getElem?_append_right (by rw [length_flatMap_range hf]; omega), length_flatMap_range hf]
      simp

end

/-! ### The bytes of a plane (R93) -/

section
variable (m : List Host.Cell) (w h : Nat) (ops : List DrawOp)

theorem argbBytes_length (c : Argb) : (argbBytes c).length = 4 := rfl

theorem planeRow_length (y : Nat) :
    ((List.range w).flatMap fun x : Nat => argbBytes (planePixel m ops x y)).length = w * 4 :=
  length_flatMap_range (fun _ => argbBytes_length _) w

theorem planeBytes_eq : planeBytes m w h ops = (List.range h).flatMap fun y : Nat =>
    (List.range w).flatMap fun x : Nat => argbBytes (planePixel m ops x y) := by
  simp [planeBytes, List.flatMap_assoc]

theorem planeBytes_length : (planeBytes m w h ops).length = w * h * 4 := by
  rw [planeBytes_eq, length_flatMap_range (planeRow_length m w ops), ← Nat.mul_assoc, Nat.mul_comm h w]

theorem planeBytes_getElem? {x y k : Nat} (hx : x < w) (hy : y < h) (hk : k < 4) :
    (planeBytes m w h ops)[(y * w + x) * 4 + k]? = (argbBytes (planePixel m ops x y))[k]? := by
  have within : x * 4 + k < w * 4 := by omega
  rw [show (y * w + x) * 4 + k = y * (w * 4) + (x * 4 + k) by ring, planeBytes_eq,
    getElem?_flatMap_range (planeRow_length m w ops) hy within, getElem?_flatMap_range (fun _ => argbBytes_length _) hx hk]

theorem Memory.read_writeBlock_getElem? {a i : Nat} {bs : List Byte} {b : Byte} (h : bs[i]? = some b) :
    Memory.read (Memory.writeBlock m a bs) (a + i) = b := by
  obtain ⟨hi, rfl⟩ := List.getElem?_eq_some_iff.mp h
  exact Memory.read_writeBlock_inside m a i bs hi

/-- Each pixel of a written plane reads as it was drawn. -/
theorem readArgbAt_planeBytes (base : Nat) {x y : Nat} (hx : x < w) (hy : y < h) :
    readArgbAt (Memory.writeBlock m base (planeBytes m w h ops)) (base + (y * w + x) * 4) = planePixel m ops x y := by
  have byte : ∀ {k : Nat} {b : Byte}, k < 4 → (argbBytes (planePixel m ops x y))[k]? = some b →
      Memory.read (Memory.writeBlock m base (planeBytes m w h ops)) (base + ((y * w + x) * 4 + k)) = b :=
    fun hk hb => Memory.read_writeBlock_getElem? m ((planeBytes_getElem? m w h ops hx hy hk).trans hb)
  rw [readArgbAt, Nat.add_assoc base, Nat.add_assoc base, Nat.add_assoc base]
  exact congr (congr (congr (congrArg Argb.mk (byte (k := 0) (by omega) rfl)) (byte (k := 1) (by omega) rfl))
    (byte (k := 2) (by omega) rfl)) (byte (k := 3) (by omega) rfl)

end

/-! ### Drawing operations (R41, R103) -/

section
variable (m : List Host.Cell)

theorem planePixel_append (ops : List DrawOp) (op : DrawOp) (X Y : Int) : planePixel m (ops ++ [op]) X Y =
    match op.colourAt m X Y with | some c => c | none => planePixel m ops X Y := by
  unfold planePixel
  rw [List.reverse_append, List.reverse_singleton, List.singleton_append, List.findSome?_cons]
  cases op.colourAt m X Y <;> rfl

theorem inBox_iff (x y w h X Y : Int) : inBox x y w h X Y = true ↔ x ≤ X ∧ X < x + w ∧ y ≤ Y ∧ Y < y + h := by
  simp [inBox, and_assoc]

theorem colourAt_rect (x y w h X Y : Int) (c : Argb) : (DrawOp.rect x y w h c).colourAt m X Y =
    if x ≤ X ∧ X < x + w ∧ y ≤ Y ∧ Y < y + h then some c else none := by
  simp only [DrawOp.colourAt, inBox_iff]

theorem colourAt_glyph (x y X Y : Int) (code : Nat) (c : Argb) : (DrawOp.glyph x y code c).colourAt m X Y =
    if (x ≤ X ∧ X < x + 16 ∧ y ≤ Y ∧ Y < y + 24) ∧ glyphInk m code (X - x).toNat (Y - y).toNat = true then some c
    else none := by
  simp only [DrawOp.colourAt, Bool.and_eq_true, inBox_iff]

theorem colourAt_icon (x y X Y : Int) (code : Nat) :
    let pixel := readArgbAt m (iconAddress code + ((Y - y).toNat * 48 + (X - x).toNat) * 4)
    (DrawOp.icon x y code).colourAt m X Y =
      if (x ≤ X ∧ X < x + 48 ∧ y ≤ Y ∧ Y < y + 48) ∧ pixel.a ≠ 0 then some pixel else none := by
  simp only [DrawOp.colourAt, inBox_iff]
  split <;> rename_i h
  · simp [h]
  · simp [h]

theorem colourAt_box (x y w h X Y : Int) (c : Argb) : (DrawOp.box x y w h c).colourAt m X Y =
    if (x ≤ X ∧ X < x + w ∧ y ≤ Y ∧ Y < y + h) ∧ (Y = y ∨ Y = y + h - 1 ∨ X = x ∨ X = x + w - 1) then some c
    else none := by
  simp only [DrawOp.colourAt, Bool.and_eq_true, Bool.or_eq_true, inBox_iff, beq_iff_eq, or_assoc]

end

end Sys2Proof.Machine
end

section
/-! The Raster Engine's order of service and its completions (R94 to R96, R101). -/

namespace Sys2Proof.Machine

/-! ### Requests (R94) -/

/-- A state with its four planes given. -/
def State.withPlanes (s : State) (f : Plane → PlaneRecord) : State :=
  { s with raster.guide := f .guide, raster.takeover := f .takeover, raster.menuL := f .menuL, raster.menuR := f .menuR }

theorem State.withPlanes_plane (s : State) : s.withPlanes s.plane = s := rfl

theorem State.plane_withPlanes (s : State) (f : Plane → PlaneRecord) (q : Plane) : (s.withPlanes f).plane q = f q := by
  cases q <;> rfl

theorem State.setPlane_withPlanes (s : State) (f : Plane → PlaneRecord) (p : Plane) (r : PlaneRecord) :
    (s.withPlanes f).setPlane p r = s.withPlanes fun q => if q = p then r else f q := by
  cases p <;> rfl

/-- The flags of the planes that are asked for, set one after another. -/
theorem foldl_request (ps : List Plane) (s : State) (f : Plane → PlaneRecord) :
    ps.foldl (fun u p => u.setPlane p { u.plane p with requested := true }) (s.withPlanes f) =
      s.withPlanes fun q => if q ∈ ps then { f q with requested := true } else f q := by
  induction ps generalizing f with
  | nil => simp
  | cons p ps ih =>
    rw [List.foldl_cons, State.plane_withPlanes, State.setPlane_withPlanes, ih]
    congr 1
    funext q
    by_cases hq : q = p
    · subst hq
      by_cases hm : q ∈ ps <;> simp [hm]
    · simp [hq]

theorem requestRenders_eq (ps : List Plane) (s : State) : requestRenders ps s = engineTake (s.withPlanes fun q =>
    if q ∈ ps then { s.plane q with requested := true } else s.plane q) := by
  rw [requestRenders]
  conv_lhs => rw [← s.withPlanes_plane]
  rw [foldl_request]

/-! ### The order of service (R95) -/

theorem engineTake_busy {s : State} (h : s.raster.inFlight ≠ none) : engineTake s = s := by
  obtain ⟨r, hr⟩ := Option.ne_none_iff_exists'.mp h
  simp [engineTake, hr]

theorem nextPlane_none {s : State} (h : ∀ q, (s.plane q).requested = false) : nextPlane s.raster = none := by
  have guide : s.raster.guide.requested = false := h .guide
  have takeover : s.raster.takeover.requested = false := h .takeover
  have menuL : s.raster.menuL.requested = false := h .menuL
  have menuR : s.raster.menuR.requested = false := h .menuR
  simp [nextPlane, guide, takeover, menuL, menuR]

theorem engineTake_unasked {s : State} (h : ∀ q, (s.plane q).requested = false) : engineTake s = s := by
  unfold engineTake
  split
  · rfl
  · rw [nextPlane_none h]

/-- R95's first plane: GUIDE, TAKEOVER, then a menu plane, of two the one of the seat not drawn last. -/
def comesFirst (x : Raster) : Plane → Prop
  | .guide => x.guide.requested = true
  | .takeover => x.guide.requested = false ∧ x.takeover.requested = true
  | .menuL => x.guide.requested = false ∧ x.takeover.requested = false ∧ x.menuL.requested = true ∧
    (x.menuR.requested = true → x.lastSeat = .right)
  | .menuR => x.guide.requested = false ∧ x.takeover.requested = false ∧ x.menuR.requested = true ∧
    (x.menuL.requested = true → x.lastSeat = .left)

theorem nextPlane_first {x : Raster} {p : Plane} (h : comesFirst x p) : nextPlane x = some p := by
  cases p with
  | guide => exact if_pos h
  | takeover =>
    obtain ⟨guide, takeover⟩ := h
    simp [nextPlane, guide, takeover]
  | menuL =>
    obtain ⟨guide, takeover, menuL, last⟩ := h
    cases menuR : x.menuR.requested
    · simp [nextPlane, guide, takeover, menuL, menuR]
    · simp [nextPlane, guide, takeover, menuL, menuR, last menuR]
  | menuR =>
    obtain ⟨guide, takeover, menuR, last⟩ := h
    cases menuL : x.menuL.requested
    · simp [nextPlane, guide, takeover, menuL, menuR]
    · simp [nextPlane, guide, takeover, menuL, menuR, last menuL]

theorem engineTake_first {s : State} {p : Plane} (idle : s.raster.inFlight = none) (h : comesFirst s.raster p) :
    engineTake s = startRender p s := by
  simp [engineTake, idle, nextPlane_first h]

/-! ### A completion (R96, R101) -/

theorem PlaneRecord.completed_spec (d : DrawnSize) (q : PlaneRecord) : (q.completed d).back = .done ∧
    (q.completed d).frontOne = q.frontOne ∧ (q.completed d).frontSize = q.frontSize ∧
    (q.completed d).requested = q.requested ∧
    (if q.frontOne then (q.completed d).drawn0 else (q.completed d).drawn1) = some d := by
  obtain ⟨frontOne, _, _, _, _⟩ := q
  cases frontOne <;> exact ⟨rfl, rfl, rfl, rfl, rfl⟩

theorem resumeGlyphLoad_reading {s : State} (h : ∀ l, s.raster.load = some l → l.token.isSome = true) :
    resumeGlyphLoad s = s := by
  cases hl : s.raster.load with
  | none => simp [resumeGlyphLoad, hl]
  | some l =>
    have reading : l.token ≠ none := Option.isSome_iff_ne_none.mp (h l hl)
    simp [resumeGlyphLoad, hl, reading]

theorem resumeGlyphLoad_waiting {s : State} {l : GlyphLoad} (hl : s.raster.load = some l) (ht : l.token = none) :
    resumeGlyphLoad s = issueAssetRead (.glyph s.store.nextToken) s.raster.glyphSet l.generation l.page { s with
      store.nextToken := s.store.nextToken + 1, raster.load := some { l with token := some s.store.nextToken } } := by
  simp only [resumeGlyphLoad, hl, ht, if_true]
  rfl

/-- The state of a completed render, before the glyph load and the engine go on. -/
def renderDrawn (r : Render) (s : State) : State :=
  { s with
    mem := Memory.writeBlock s.mem (planeBuffer r.plane (!(s.plane r.plane).frontOne))
      (planeBytes s.mem r.width r.height r.ops),
    raster.inFlight := none,
    raster.fallbackGlyph := bumpBy s.raster.fallbackGlyph (r.ops.countP DrawOp.isBox) }.setPlane r.plane
      ((s.plane r.plane).completed ⟨r.width, r.height⟩)

theorem completeRender_eq (r : Render) (s : State) : completeRender r s = engineTake (resumeGlyphLoad (renderDrawn r s)) := by
  cases r with | mk plane _ _ _ _ => cases plane <;> rfl

theorem renderDrawn_load (r : Render) (s : State) : (renderDrawn r s).raster.load = s.raster.load := by
  cases r with | mk plane _ _ _ _ => cases plane <;> rfl

theorem renderDrawn_glyphSet (r : Render) (s : State) : (renderDrawn r s).raster.glyphSet = s.raster.glyphSet := by
  cases r with | mk plane _ _ _ _ => cases plane <;> rfl

theorem renderDrawn_store (r : Render) (s : State) : (renderDrawn r s).store = s.store := by
  simp [renderDrawn]

theorem exec_renderCompletion {r : Render} {s : State} (h : s.raster.inFlight = some r) :
    exec .renderCompletion s = .next (completeRender r s) := by
  show execRenderCompletion s = _
  simp [execRenderCompletion, h]

theorem exec_renderCompletion_idle {s : State} (h : s.raster.inFlight = none) : exec .renderCompletion s = .next s := by
  show execRenderCompletion s = _
  simp [execRenderCompletion, h]

end Sys2Proof.Machine
end

section
/-! What the renders of the planes draw (R41 to R47, R104, R116). -/

namespace Sys2Proof.Machine

/-! ### Menu planes (R116) -/

section
variable {loaded : Bool} {c : SeatContext} {pages : Vector (Option MenuPage) 16}

theorem menuOps_closed (h : c.isOpen = false) : menuOps loaded c pages = [] := by simp [menuOps, h]

theorem menuOps_absent (h : pages[c.currentPage] = none) : menuOps loaded c pages = [] := by simp [menuOps, h]

theorem menuOps_open {q : MenuPage} (h : c.isOpen = true) (hq : pages[c.currentPage] = some q) :
    menuOps loaded c pages =
      let t := c.settings
      [.rect t.x t.y t.width ((q.items.length + 1) * t.rowHeight) t.background,
        .rect t.x ((t.y : Int) + ((c.highlight + 1 : Nat) : Int) * t.rowHeight) t.width t.rowHeight t.highlight] ++
        menuRowOps loaded t 0 none q.title t.text ++ menuItemOps loaded t q.items := by
  simp [menuOps, h, hq]

end

/-! ### The takeover graphic (R104) -/

section
variable {t : Takeover}

theorem takeoverMessage_hidden (h : t.phase = .idle ∨ t.view = .live) : takeoverMessage t = none := by
  unfold takeoverMessage
  rcases h with h | h
  · simp [h]
  · cases hp : t.phase <;> simp [h]

theorem takeoverMessage_waiting (hp : t.phase ≠ .idle) (hv : t.view = .waiting) :
    takeoverMessage t = some t.settings.starting := by
  unfold takeoverMessage
  cases h : t.phase <;> simp_all

/-- A message is drawn on black, centred, or without a loaded cache as grey alone (R104). -/
theorem takeoverOps_message {q : Message} (h : takeoverMessage t = some q) (loaded : Bool) (width height : Nat) :
    takeoverOps loaded t width height =
      if loaded then
        [.rect 0 0 width height black, .icon (floorDiv ((width : Int) - 48) 2) (floorDiv height 2 - 56) q.icon] ++
          textOps loaded (floorDiv ((width : Int) - 16 * q.text.length) 2) (floorDiv height 2 + 8) q.text white
      else [.rect 0 0 width height grey] := by
  cases loaded <;> simp [takeoverOps, h]

theorem takeoverMessage_noPicture (hp : t.phase ≠ .idle) (hv : t.view = .lost ∨ t.view = .frozen) :
    takeoverMessage t = some t.settings.unavailable := by
  unfold takeoverMessage
  rcases hv with hv | hv <;> cases h : t.phase <;> simp_all

end

/-! ### The guide's lines and bars (R42 to R47) -/

section
variable (bands : List GuideBand) (height : Nat)

/-- The colour that an entry's line and bar have in an image of a height: its band's, and none beyond the image (R42, R43). -/
def entryColour (e : RowEntry) : Option Argb := if height ≤ e.v then none else bandColour bands e.d

/-- One segment of a line: in its entry's colour, a run on each row above the next entry's row up to this entry's (R42). -/
def segmentRuns (faded : Bool) (e0 e1 : RowEntry) (x0 x1 : Int) : List DrawOp :=
  match entryColour bands height e0 with
  | none => []
  | some c => (List.range (e0.v - e1.v)).map fun n =>
    let v : Int := (e1.v : Int) + 1 + n
    lineRun e0.w (columnAt e0.v e1.v x0 x1 v) v (if faded then halfAlpha c else c)

theorem segmentOps_eq (faded : Bool) (e0 e1 : RowEntry) (x0 x1 : Int) :
    segmentOps bands height faded e0 e1 x0 x1 = segmentRuns bands height faded e0 e1 x0 x1 := by
  unfold segmentOps segmentRuns entryColour
  by_cases beyond : height ≤ e0.v <;> cases bandColour bands e0.d <;> simp [beyond]

/-- The segment from an entry to the next one: nothing where the record lacks a column of either (log entry 14). -/
def segmentAt (faded : Bool) (rows : List RowEntry) (xs : List Int) (i : Nat) : List DrawOp :=
  match rows[i]?, rows[i + 1]?, xs[i]?, xs[i + 1]? with
  | some e0, some e1, some x0, some x1 => segmentRuns bands height faded e0 e1 x0 x1
  | _, _, _, _ => []

/-- A line is drawn segment by segment (R42). -/
theorem lineOps_eq (faded : Bool) (rows : List RowEntry) (xs : List Int) : lineOps bands height faded rows xs =
    (List.range (rows.length - 1)).flatMap (segmentAt bands height faded rows xs) := by
  induction rows generalizing xs with
  | nil => rfl
  | cons e0 rows ih =>
    match rows, xs with
    | [], _ => simp [lineOps]
    | _ :: _, [] => simp [lineOps, segmentAt]
    | _ :: _, [_] => simp [lineOps, segmentAt]
    | e1 :: rest, x0 :: x1 :: xs =>
      have segments : (e0 :: e1 :: rest).length - 1 = rest.length + 1 := rfl
      rw [lineOps, ih, segmentOps_eq, segments, List.range_succ_eq_map, List.flatMap_cons, List.flatMap_map]
      rfl

/-- An entry's marker bar, in its entry's colour (R45). -/
def markerBar (e : RowEntry) (x : Columns) : List DrawOp :=
  match entryColour bands height e with
  | none => []
  | some c => if e.marker then [barOp x e.v e.w c] else []

theorem markerOps_cons (e : RowEntry) (rest : List RowEntry) (x : Columns) (cols : List Columns) :
    markerOps bands height (e :: rest) (x :: cols) = markerBar bands height e x ++ markerOps bands height rest cols := by
  unfold markerBar entryColour
  rw [markerOps]
  by_cases beyond : height ≤ e.v
  · cases bandColour bands e.d <;> simp [beyond]
  · cases bandColour bands e.d <;> simp [beyond, Nat.not_le.mp beyond]

/-- The marker bar of the entry with a number: nothing where the record lacks its columns (log entry 14). -/
def markerAt (rows : List RowEntry) (cols : List Columns) (i : Nat) : List DrawOp :=
  match rows[i]?, cols[i]? with
  | some e, some x => markerBar bands height e x
  | _, _ => []

/-- The markers are drawn entry by entry (R45). -/
theorem markerOps_eq (rows : List RowEntry) (cols : List Columns) : markerOps bands height rows cols =
    (List.range rows.length).flatMap (markerAt bands height rows cols) := by
  induction rows generalizing cols with
  | nil => rfl
  | cons e rest ih =>
    match cols with
    | [] => simp [markerOps, markerAt]
    | x :: cols =>
      rw [markerOps_cons, ih, List.length_cons, List.range_succ_eq_map, List.flatMap_cons, List.flatMap_map]
      rfl

theorem stopBarOps_eq (b : Option StopBar) : stopBarOps bands b =
    match b, bands with
    | some b, c :: _ => [barOp b.columns b.row 4 c.colour]
    | _, _ => [] := by
  cases b <;> cases bands <;> rfl

end

/-- The left and the right line through an image's columns (R42). -/
def linePair (bands : List GuideBand) (height : Nat) (faded : Bool) (rows : List RowEntry) (cols : List Columns) :
    List DrawOp :=
  lineOps bands height faded rows (cols.map (·.left)) ++ lineOps bands height faded rows (cols.map (·.right))

/-- What a GUIDE render draws, mode by mode (R41, R44 to R47). -/
theorem guideOps_eq (g : Guide) (r : GeometryRecord) :
    let lines := fun faded cols => linePair g.bandTable r.height faded g.rowTable cols
    let markers := fun cols => markerOps g.bandTable r.height g.rowTable cols
    let stop := stopBarOps g.bandTable r.stopBar
    guideOps g r = match r.mode with
      | .off => []
      | .static => lines true r.static ++ markers r.static ++ stop
      | .dynamic => lines false r.dynamic ++ markers r.dynamic ++ stop
      | .both => lines true r.static ++ lines false r.dynamic ++ markers r.dynamic ++ stop := by
  cases h : r.mode <;> simp [guideOps, linePair, h, GuideMode.hasStatic, GuideMode.hasDynamic]

/-- Settles O26: the completion, the drawing operations, the order of service, then each plane's drawing. -/
theorem renderCompletionDrawsThePlane : Obligations.RenderCompletionDrawsThePlane := by
  unfold Obligations.RenderCompletionDrawsThePlane
  refine ⟨fun r s _ _ => ⟨exec_renderCompletion_idle, fun hr => ?_, fun d q => q.completed_spec d⟩,
    fun m ops op X Y x y w h code c => ?_, fun s ps p => ?_, fun s k p => ?_, fun s r hr => ?_, fun s h => ?_⟩
  -- a completion: the back buffer drawn, the waiting glyph load and the engine going on
  · have load := renderDrawn_load r s
    have token : (renderDrawn r s).store.nextToken = s.store.nextToken := by rw [renderDrawn_store]
    have done : exec .renderCompletion s = .next (engineTake (resumeGlyphLoad (renderDrawn r s))) := by
      rw [exec_renderCompletion hr, completeRender_eq]
    refine ⟨Memory.writeBlock s.mem (planeBuffer r.plane (!(s.plane r.plane).frontOne))
        (planeBytes s.mem r.width r.height r.ops), ⟨fun reading => ?_, fun l hl ht => ?_⟩, fun x y hx hy => ?_, fun a ha => ?_⟩
    · rw [done, resumeGlyphLoad_reading (load ▸ reading)]
      rfl
    · rw [done, resumeGlyphLoad_waiting (load.trans hl) ht, token, renderDrawn_glyphSet]
      rfl
    · exact readArgbAt_planeBytes s.mem r.width r.height r.ops _ hx hy
    · exact Memory.read_writeBlock_outside _ _ _ _ (by rw [planeBytes_length]; exact ha)
  -- what an operation sets
  · exact ⟨⟨planePixel_append m ops op X Y, rfl⟩, colourAt_rect m x y w h X Y c, colourAt_glyph m x y X Y code c,
      colourAt_icon m x y X Y code, colourAt_box m x y w h X Y c⟩
  -- requests and the order of service
  · intro x asked first
    refine ⟨requestRenders_eq ps s, ?_, fun idle hf => ?_⟩
    · rintro (busy | unasked)
      · exact engineTake_busy busy
      · exact engineTake_unasked unasked
    · have served : comesFirst s.raster p := by cases p <;> exact hf
      rw [engineTake_first idle served]
      cases p <;> rfl
  -- a menu plane and the takeover graphic
  · intro loaded text seat t rowAt line menu graphic width height message
    have lineOf : ∀ n icon codes c, menuRowOps loaded t n icon codes c = line n icon codes c :=
      fun n icon codes c => by cases icon <;> rfl
    have menuEq : menu.width = (s.panel k.panel).width ∧ menu.height = (s.panel k.panel).height ∧
        menu.ops = menuOps loaded seat s.menu.pages := by cases k <;> exact ⟨rfl, rfl, rfl⟩
    have graphicOps : graphic.ops = takeoverOps loaded s.takeover s.panels.front.width s.panels.front.height := rfl
    have messageOf : ∀ q, takeoverMessage s.takeover = some q → graphic.ops = message q :=
      fun q hq => takeoverOps_message hq loaded _ _
    obtain ⟨menuWidth, menuHeight, menuDraws⟩ := menuEq
    refine ⟨by cases p <;> exact ⟨rfl, rfl⟩, ⟨menuWidth, menuHeight, ?_, ?_⟩, rfl, rfl, ?_, ?_, ?_⟩
    · rw [menuDraws]
      rintro (closed | absent)
      · exact menuOps_closed closed
      · exact menuOps_absent absent
    · intro q isOpen present
      rw [menuDraws, menuOps_open isOpen present]
      simp only [menuItemOps, ← lineOf]
      rfl
    · intro hidden
      rw [graphicOps, takeoverOps, takeoverMessage_hidden hidden]
    · exact fun hp hv => messageOf _ (takeoverMessage_waiting hp hv)
    · exact fun hp hv => messageOf _ (takeoverMessage_noPicture hp hv)
  -- GUIDE, mode by mode
  · intro rows band line bar marked stop lines render
    have linesOf : ∀ faded cols, linePair s.guide.bandTable r.height faded s.guide.rowTable cols = lines faded cols :=
      fun faded cols => by rw [linePair, lineOps_eq, lineOps_eq]; rfl
    have markedOf : ∀ cols, markerOps s.guide.bandTable r.height s.guide.rowTable cols = marked cols :=
      fun cols => by rw [markerOps_eq]; rfl
    have stopOf : stopBarOps s.guide.bandTable r.stopBar = stop := stopBarOps_eq _ _
    have draws := guideOps_eq s.guide r
    simp only [linesOf, markedOf, stopOf] at draws
    have ops : render.ops = guideOps s.guide r := by simp [render, renderOf, hr]
    refine ⟨by simp [render, renderOf, guideSize, hr], by simp [render, renderOf, guideSize, hr],
      fun h => ?_, fun h => ?_, fun h => ?_, fun h => ?_⟩ <;>
    · rw [ops, draws, h]
  · simp [renderOf, h]

end Sys2Proof.Machine
end

section
/-! The law of one ring (R64) and the operations that keep it (R65 to R68). -/

namespace Sys2Proof.Machine

/-! ### The law, buffer by buffer -/

/-- What R64 asks of one buffer, which is the latest or is not: only a COMPLETE buffer is held, and the latest is
COMPLETE. -/
def Buffer.lawful (b : Buffer) (isLatest : Prop) : Prop :=
  (b.state ≠ .complete → b.holds = 0) ∧ (isLatest → b.state = .complete)

/-- A ring keeps the law when each of its buffers does and its latest is one of them. -/
theorem ringLawful_iff (r : Ring) : RingLawful r ↔
    (∀ k (b : Buffer), r.buffers[k]? = some b → b.lawful (r.latest = some k)) ∧ ∀ k, r.latest = some k → k < r.buffers.length := by
  constructor
  · rintro ⟨free, latest, filling⟩
    refine ⟨fun k b hb => ⟨fun hs => ?_, fun hl => ?_⟩, fun k hl => ?_⟩
    · cases hb' : b.state with
      | free => exact (free k b hb hb').1
      | filling => exact filling b (List.mem_of_getElem? hb) hb'
      | complete => exact absurd hb' hs
    · obtain ⟨x, hx, hc⟩ := latest k hl
      rwa [Option.some.inj (hb.symm.trans hx)]
    · obtain ⟨x, hx, -⟩ := latest k hl
      exact (List.getElem?_eq_some_iff.mp hx).1
  · rintro ⟨each, inside⟩
    refine ⟨fun k b hb hf => ⟨(each k b hb).1 (by simp [hf]), fun hl => ?_⟩, fun k hl => ?_, fun b hb hf => ?_⟩
    · exact absurd ((each k b hb).2 hl) (by simp [hf])
    · have hk := List.getElem?_eq_getElem (inside k hl)
      exact ⟨_, hk, (each k _ hk).2 hl⟩
    · obtain ⟨k, hk⟩ := List.getElem?_of_mem hb
      exact (each k b hk).1 (by simp [hf])

variable {r : Ring} {k : Nat} {b : Buffer}

theorem RingLawful.buffer (h : RingLawful r) (hb : r.buffers[k]? = some b) : b.lawful (r.latest = some k) :=
  ((ringLawful_iff r).mp h).1 k b hb

theorem RingLawful.latest_lt (h : RingLawful r) (hl : r.latest = some k) : k < r.buffers.length :=
  ((ringLawful_iff r).mp h).2 k hl

theorem Ring.buffers_modify (r : Ring) (k j : Nat) (f : Buffer → Buffer) :
    (r.modify k f).buffers[j]? = if j = k then r.buffers[j]?.map f else r.buffers[j]? := by
  rw [Ring.modify, List.getElem?_modify]
  by_cases h : j = k
  · simp [h]
  · simp [h, Ne.symm h]

/-- A change of one buffer, with the latest moved to it, away from it, or left, keeps the law when the changed buffer keeps
it. -/
theorem RingLawful.modify {f : Buffer → Buffer} {latest : Option Nat} (h : RingLawful r)
    (hf : ∀ b, r.buffers[k]? = some b → (f b).lawful (latest = some k))
    (hk : latest = some k → k < r.buffers.length) (hl : ∀ j, j ≠ k → latest = some j → r.latest = some j) :
    RingLawful { r.modify k f with latest := latest } := by
  refine (ringLawful_iff _).mpr ⟨fun j b hb => ?_, fun j hj => ?_⟩
  · replace hb : (r.modify k f).buffers[j]? = some b := hb
    rw [Ring.buffers_modify] at hb
    split at hb
    case isTrue e =>
      obtain ⟨x, hx, rfl⟩ := Option.map_eq_some_iff.mp hb
      subst e
      exact hf x hx
    case isFalse e => exact ⟨(h.buffer hb).1, fun hj => (h.buffer hb).2 (hl j e hj)⟩
  · simp only [Ring.modify, List.length_modify]
    by_cases e : j = k
    · exact e ▸ hk (e ▸ hj)
    · exact h.latest_lt (hl j e hj)

/-- A change of one buffer that leaves the latest where it is. -/
theorem RingLawful.modify_same {f : Buffer → Buffer} (h : RingLawful r)
    (hf : ∀ b, r.buffers[k]? = some b → (f b).lawful (r.latest = some k)) : RingLawful (r.modify k f) :=
  h.modify hf (fun hl => h.latest_lt hl) fun _ _ hl => hl

/-! ### The writer's choice (R65) -/

/-- A buffer number that `findIdx?` gives for FREE is that of a FREE buffer. -/
theorem free_of_findIdx? (h : r.buffers.findIdx? (fun b => b.state == .free) = some k) :
    ∃ b, r.buffers[k]? = some b ∧ b.state = .free := by
  obtain ⟨hk, hf, -⟩ := List.findIdx?_eq_some_iff_getElem.mp h
  exact ⟨_, List.getElem?_eq_getElem hk, by simpa using hf⟩

theorem findIdx?_free_none : r.buffers.findIdx? (fun b => b.state == .free) = none ↔ ∀ b ∈ r.buffers, b.state ≠ .free := by
  simp [List.findIdx?_eq_none_iff]

theorem writerChoice_free_iff : writerChoice r = some (k, false) ↔
    r.buffers.findIdx? (fun b => b.state == .free) = some k := by
  rcases writerChoice_cases r with ⟨j, hj, e⟩ | ⟨hn, ⟨j, b, -, -, -, e⟩ | e⟩ <;> simp [*]

theorem writerChoice_overwrite_iff : writerChoice r = some (k, true) ↔ r.latest = some k ∧
    (∀ b ∈ r.buffers, b.state ≠ .free) ∧ ∃ b, r.buffers[k]? = some b ∧ b.holds = 0 := by
  rw [← findIdx?_free_none]
  rcases writerChoice_cases r with ⟨j, hj, e⟩ | ⟨hn, ⟨j, b, hl, hb, h0, e⟩ | e⟩
  · simp [e, hj]
  · rw [e, hl]
    constructor
    · rintro ⟨⟩
      exact ⟨rfl, hn, b, hb, h0⟩
    · rintro ⟨⟨⟩, -⟩
      rfl
  · refine ⟨fun c => absurd (e.symm.trans c) (by simp), ?_⟩
    rintro ⟨hl, -, b, hb, h0⟩
    simp [writerChoice, hn, hl, Ring.buffer?, hb, h0] at e

theorem writerChoice_none_iff : writerChoice r = none ↔ (∀ b ∈ r.buffers, b.state ≠ .free) ∧
    ∀ j b, r.latest = some j → r.buffers[j]? = some b → 1 ≤ b.holds := by
  rw [← findIdx?_free_none]
  constructor
  · intro e
    rcases writerChoice_cases r with ⟨j, hj, e'⟩ | ⟨hn, -⟩
    · exact absurd (e.symm.trans e') (by simp)
    · refine ⟨hn, fun j b hl hb => Nat.pos_of_ne_zero fun h0 => ?_⟩
      simp [writerChoice, hn, hl, Ring.buffer?, hb, h0] at e
  · rintro ⟨hn, held⟩
    rcases writerChoice_cases r with ⟨j, hj, -⟩ | ⟨-, ⟨j, b, hl, hb, h0, -⟩ | e⟩
    · simp [hn] at hj
    · exact absurd (held j b hl hb) (by omega)
    · exact e

/-! ### The operations of R65 to R68 -/

/-- A taken buffer is FILLING and keeps its hold count. -/
@[simp] theorem Buffer.taken_state (n : Nat) (d : VideoDescriptor) (b : Buffer) : (b.taken n d).state = .filling := rfl
@[simp] theorem Buffer.taken_holds (n : Nat) (d : VideoDescriptor) (b : Buffer) : (b.taken n d).holds = b.holds := rfl

/-- The buffer that the writer takes is unheld. -/
theorem RingLawful.taken_unheld (h : RingLawful r) {overwrites : Bool} (hc : writerChoice r = some (k, overwrites)) :
    ∃ b, r.buffers[k]? = some b ∧ b.holds = 0 := by
  cases overwrites with
  | false =>
    obtain ⟨b, hb, hf⟩ := free_of_findIdx? (writerChoice_free_iff.mp hc)
    exact ⟨b, hb, (h.buffer hb).1 (by simp [hf])⟩
  | true => exact (writerChoice_overwrite_iff.mp hc).2.2

theorem RingLawful.take_free (h : RingLawful r) (hc : writerChoice r = some (k, false)) (n : Nat) (d : VideoDescriptor) :
    RingLawful (r.modify k (Buffer.taken n d)) := by
  obtain ⟨x, hx, hf⟩ := free_of_findIdx? (writerChoice_free_iff.mp hc)
  obtain ⟨y, hy, h0⟩ := h.taken_unheld hc
  refine h.modify_same fun b hb => ⟨fun _ => ?_, fun hl => ?_⟩
  · rw [Buffer.taken_holds, Option.some.inj (hb.symm.trans hy), h0]
  · exact absurd ((h.buffer hx).2 hl) (by simp [hf])

theorem RingLawful.take_latest (h : RingLawful r) (hc : writerChoice r = some (k, true)) (n : Nat) (d : VideoDescriptor) :
    RingLawful { r.modify k (Buffer.taken n d) with latest := none } := by
  obtain ⟨y, hy, h0⟩ := h.taken_unheld hc
  refine h.modify (fun b hb => ⟨fun _ => ?_, by simp⟩) (by simp) (by simp)
  rw [Buffer.taken_holds, Option.some.inj (hb.symm.trans hy), h0]

/-- A hold of the latest. -/
theorem RingLawful.hold (h : RingLawful r) (hl : r.latest = some k) : RingLawful (r.hold k) :=
  h.modify_same fun _ hb => ⟨fun hs => absurd ((h.buffer hb).2 hl) hs, (h.buffer hb).2⟩

/-- A release of a held buffer. -/
theorem RingLawful.release (h : RingLawful r) (held : ∃ b, r.buffers[k]? = some b ∧ 1 ≤ b.holds) :
    RingLawful (r.release k) := by
  obtain ⟨x, hx, hh⟩ := held
  refine h.modify_same fun b hb => ?_
  obtain rfl := Option.some.inj (hb.symm.trans hx)
  have complete : b.state = .complete := by
    by_contra hs
    have := (h.buffer hb).1 hs
    omega
  split
  case isTrue free => exact ⟨fun _ => by simp only; omega, fun hl => absurd hl free.2⟩
  case isFalse => exact ⟨fun hs => absurd complete hs, fun _ => complete⟩

/-- A FILLING buffer is unheld and not the latest. -/
theorem RingLawful.filling (h : RingLawful r) (hb : r.buffers[k]? = some b) (hf : b.state = .filling) :
    b.holds = 0 ∧ r.latest ≠ some k :=
  ⟨(h.buffer hb).1 (by simp [hf]), fun hl => by simp [(h.buffer hb).2 hl] at hf⟩

/-- A FILLING buffer goes FREE. -/
theorem RingLawful.free (h : RingLawful r) (hb : r.buffers[k]? = some b) (hf : b.state = .filling) :
    RingLawful (r.modify k fun b => { b with state := .free }) := by
  refine h.modify_same fun x hx => ?_
  obtain rfl := Option.some.inj (hb.symm.trans hx)
  exact ⟨fun _ => (h.filling hb hf).1, fun hl => absurd hl (h.filling hb hf).2⟩

/-- The ring as R66 leaves it of the previous latest: none, and freed when unheld. -/
def Ring.retired (r : Ring) : Ring :=
  { (match r.latest with
    | none => r
    | some j => r.retire j) with latest := none }

theorem Ring.complete_eq (r : Ring) (k damaged : Nat) : r.complete k damaged =
    { r.retired.modify k (fun b => { b with state := .complete, damaged := damaged }) with latest := some k } := by
  cases h : r.latest <;> simp [Ring.complete, Ring.retired, Ring.modify, h]

theorem Ring.retired_none (h : r.latest = none) : r.retired = r := by
  obtain ⟨base, stride, latest, buffers⟩ := r
  obtain rfl : latest = none := h
  rfl

theorem Ring.retired_some {j : Nat} (h : r.latest = some j) : r.retired =
    { r.modify j (fun b => if b.holds = 0 then { b with state := .free } else b) with latest := none } := by
  simp [Ring.retired, h, Ring.retire]

theorem Ring.retired_length (r : Ring) : r.retired.buffers.length = r.buffers.length := by
  unfold Ring.retired Ring.retire Ring.modify
  split <;> simp

theorem RingLawful.retired (h : RingLawful r) : RingLawful r.retired := by
  cases hl : r.latest with
  | none => rwa [Ring.retired_none hl]
  | some j =>
    rw [Ring.retired_some hl]
    refine h.modify (fun b hb => ⟨fun hs => ?_, by simp⟩) (by simp) (by simp)
    split at hs
    case isTrue h0 => rw [if_pos h0]; exact h0
    case isFalse => exact absurd ((h.buffer hb).2 hl) hs

/-- A buffer becomes COMPLETE and the latest. -/
theorem RingLawful.complete (h : RingLawful r) (hk : k < r.buffers.length) (damaged : Nat) :
    RingLawful (r.complete k damaged) := by
  rw [Ring.complete_eq]
  exact h.retired.modify (fun _ _ => ⟨fun hs => absurd rfl hs, fun _ => rfl⟩) (fun _ => by rwa [Ring.retired_length])
    fun j hj e => absurd (Option.some.inj e).symm hj

/-- A ring with no latest whose buffers are all as after reset. -/
theorem RingLawful.fresh (base stride count : Nat) : RingLawful
    { base := base, stride := stride, latest := none, buffers := List.replicate count Buffer.reset } := by
  refine (ringLawful_iff _).mpr ⟨fun k b hb => ?_, by simp⟩
  obtain ⟨-, rfl⟩ : k < count ∧ Buffer.reset = b := by simpa [List.getElem?_replicate] using hb
  exact ⟨fun _ => rfl, by simp⟩

/-- Settles O16: each choice of the writer by its own condition, each operation by the buffer it changes. -/
theorem ringOperationsKeepTheLaw : Obligations.RingOperationsKeepTheLaw := by
  unfold Obligations.RingOperationsKeepTheLaw
  intro r k n damaged d h
  refine ⟨fun _ => writerChoice_free_iff, fun _ => writerChoice_overwrite_iff, writerChoice_none_iff,
    fun hc => h.take_free hc n d, fun hc => h.take_latest hc n d, h.hold, h.release, ?_, RingLawful.fresh⟩
  rintro ⟨b, hb, hf⟩
  exact ⟨h.complete (List.getElem?_eq_some_iff.mp hb).1 damaged, rfl, h.free hb hf⟩

end Sys2Proof.Machine
end

section
/-! What the laws of tags, rings and the frame memory read of a state, and one walk through every command, event and idle
step for all of them (R64 to R68, R70, section 4.1). -/

namespace Sys2Proof.Machine

/-! ### What the laws read -/

/-- The tags, the rings, what the layers of the panels and the camera layer hold, and the frame memory. -/
structure RingView where
  tags : Vector TagRecord 32
  rings : Vector Ring 8
  front : Vector (Option Hold) 6
  left : Vector (Option Hold) 6
  right : Vector (Option Hold) 6
  camera : Option Hold
  mem : List Host.Cell

def State.ringView (s : State) : RingView :=
  { tags := s.streams.tags, rings := s.streams.rings, front := s.panels.front.holds, left := s.panels.left.holds,
    right := s.panels.right.holds, camera := s.takeover.cameraHold, mem := s.mem }

theorem ringView_of_blocks {s t : State} (streams : t.streams = s.streams) (panels : t.panels = s.panels)
    (camera : t.takeover.cameraHold = s.takeover.cameraHold) (mem : t.mem = s.mem) : t.ringView = s.ringView := by
  simp [State.ringView, *]

/-- A panel record replaced by one with the same holds. -/
theorem ringView_setPanel {p : Panel} {r : PanelRecord} {s : State} (h : r.holds = (s.panel p).holds) :
    (s.setPanel p r).ringView = s.ringView := by
  cases p <;> simp_all [State.ringView, State.setPanel, State.panel]

theorem ringView_setPort (rx : VideoRx) (q : VideoPort) (s : State) : (s.setPort rx q).ringView = s.ringView := by
  cases rx <;> rfl

/-- A backlight message and a sleep change no hold (R75, R80). -/
theorem ringView_sendBacklight (p : Panel) (level : Nat) (s : State) : (sendBacklight p level s).ringView = s.ringView := by
  have set : (s.setPanel p { s.panel p with outBacklight := level }).ringView = s.ringView := ringView_setPanel rfl
  unfold sendBacklight
  split <;> exact set

theorem ringView_sleepEffect (p : Panel) (s : State) : (sleepEffect p s).ringView = s.ringView := by
  unfold sleepEffect
  dsimp only
  split
  case h_1 => rfl
  case h_2 => rfl
  case h_3 => exact ringView_setPanel rfl
  case h_4 => exact (ringView_sendBacklight _ _ _).trans (ringView_setPanel rfl)
  case h_5 => exact ringView_setPanel rfl

theorem tag_of_ringView {s u : State} (h : u.ringView = s.ringView) (t : Fin 32) : u.tag t = s.tag t := by
  have : u.streams.tags = s.streams.tags := congrArg RingView.tags h
  simp [State.tag, this]

theorem ring_of_ringView {s u : State} (h : u.ringView = s.ringView) (n : Fin 8) : u.ring n = s.ring n := by
  have : u.streams.rings = s.streams.rings := congrArg RingView.rings h
  simp [State.ring, this]

theorem hold_of_ringView {s u : State} (h : u.ringView = s.ringView) (p : Panel) (id : Fin 6) :
    (u.panel p).hold id = (s.panel p).hold id := by
  have front := congrArg RingView.front h
  have left := congrArg RingView.left h
  have right := congrArg RingView.right h
  simp only [State.ringView] at front left right
  cases p <;> simp [State.panel, PanelRecord.hold, front, left, right]

theorem cameraHold_of_ringView {s u : State} (h : u.ringView = s.ringView) :
    u.takeover.cameraHold = s.takeover.cameraHold := congrArg RingView.camera h

/-- Two tag records with frames in progress in one place and the same counts of R70. -/
structure TagRecord.Alike (a b : TagRecord) : Prop where
  frame : a.frame.map (fun c => (c.ring, c.buffer)) = b.frame.map (fun c => (c.ring, c.buffer))
  frameIn : a.counters.frameIn = b.counters.frameIn
  frameDone : a.counters.frameDone = b.counters.frameDone
  frameDamaged : a.counters.frameDamaged = b.counters.frameDamaged
  mismatch : a.counters.mismatch = b.counters.mismatch
  frameAbandoned : a.counters.frameAbandoned = b.counters.frameAbandoned
  frameSkip : a.counters.frameSkip = b.counters.frameSkip

/-- The marks of a frame in progress are no part of what the laws read. -/
theorem TagRecord.alike_marked {r : TagRecord} {c : FrameContext} (hc : r.frame = some c) (marks : List LineMark) :
    TagRecord.Alike { r with frame := some { c with marks := marks } } r := ⟨by simp [hc], rfl, rfl, rfl, rfl, rfl, rfl⟩

/-- What a step must keep of a law `P` at each of the places where tags, rings, holds or the frame memory change, for the
step to end in `Q`. FRAME and a clearing of the counters come last in their step, and there `Q` is enough. -/
structure StepInvariant (P Q : State → Prop) : Prop where
  view : ∀ {s t}, t.ringView = s.ringView → P s → P t
  viewAfter : ∀ {s t}, t.ringView = s.ringView → Q s → Q t
  after : ∀ {s}, P s → Q s
  write : ∀ {s} (a : Nat) (bs : List Byte), P s → P { s with mem := Memory.writeBlock s.mem a bs }
  reset : ∀ {s t}, t.ringView = { State.reset.ringView with mem := s.mem } → P s → P t
  dropHold : ∀ {s} (p : Panel) (id : Fin 6), P s → P (dropHold p id s)
  dropCameraHold : ∀ {s}, P s → P (dropCameraHold s)
  pickUpLayer : ∀ {s} (p : Panel) (l : Layer), P s → P (pickUpLayer p l s)
  cameraLayerStart : ∀ {s}, P s → P (cameraLayerStart s)
  retag : ∀ {s t r}, r.Alike (s.tag t) → P s → P (s.setTag t r)
  abandonFrame : ∀ {s} (t : Fin 32), P s → P (abandonFrame t s)
  endFrame : ∀ {s} (t : Fin 32) (rx : VideoRx) (n : Nat), P s → P (endFrame t rx n s)
  ringSet : ∀ {s} (p : RingSetParams), P s → P (ringSet p s).state
  beginFrame : ∀ {s} (t : Fin 32) (rx : VideoRx) (n : Nat) (d : VideoDescriptor), P s → Q (beginFrame t rx n d s)
  clearTags : ∀ {s}, P s → Q (clearGroup .streams s)

namespace StepInvariant

variable {P Q : State → Prop} (h : StepInvariant P Q) {s t : State}
include h

/-- A record update outside what the law reads. -/
theorem outside (hs : P s) (e : t.ringView = s.ringView) : P t := h.view e hs

theorem outsideAfter (hs : Q s) (e : t.ringView = s.ringView) : Q t := h.viewAfter e hs

/-- What changes none of the blocks that the law reads. -/
theorem elsewhere (hs : P s) (blocks : t.streams = s.streams ∧ t.panels = s.panels ∧
    t.takeover.cameraHold = s.takeover.cameraHold ∧ t.mem = s.mem) : P t :=
  h.view (ringView_of_blocks blocks.1 blocks.2.1 blocks.2.2.1 blocks.2.2.2) hs

theorem elsewhereAfter (hs : Q s) (blocks : t.streams = s.streams ∧ t.panels = s.panels ∧
    t.takeover.cameraHold = s.takeover.cameraHold ∧ t.mem = s.mem) : Q t :=
  h.viewAfter (ringView_of_blocks blocks.1 blocks.2.1 blocks.2.2.1 blocks.2.2.2) hs

theorem setPanel {p : Panel} {r : PanelRecord} (hs : P s) (holds : r.holds = (s.panel p).holds) : P (s.setPanel p r) :=
  h.view (ringView_setPanel holds) hs

theorem raiseFlag (f : Flag) (hs : P s) : P (raiseFlag f s) := h.elsewhere hs (by simp)

theorem emit (o : Output) (hs : P s) : P (emit o s) := h.elsewhere hs (by simp)

theorem setLink (l : Link) (r : LinkRecord) (hs : P s) : P (s.setLink l r) := h.elsewhere hs (by simp)

theorem setPort (rx : VideoRx) (q : VideoPort) (hs : P s) : P (s.setPort rx q) := h.view (ringView_setPort rx q s) hs

theorem countPort (rx : VideoRx) (f : AdmissionCounters → AdmissionCounters) (hs : P s) : P (countPort rx f s) :=
  h.setPort rx _ hs

omit h in
/-- A fold keeps what each of its steps keeps. -/
theorem foldl {α : Type} {f : State → α → State} (hf : ∀ {s} a, P s → P (f s a)) (xs : List α) (hs : P s) :
    P (xs.foldl f s) := List.foldlRecOn xs f hs fun _ hu a _ => hf a hu

/-! ### Panels (R67, R72 to R77, R85, R86) -/

theorem releaseReaders (p : Panel) (hs : P s) : P (releaseReaders p s) := by
  have released : P ((List.finRange 6).foldl (fun s id => Machine.dropHold p id s) s) := foldl (fun id => h.dropHold p id) _ hs
  cases p with
  | front => exact h.dropCameraHold released
  | left => exact released
  | right => exact released

theorem releaseStale (p : Panel) (id : Fin 6) (hs : P s) : P (releaseStale p id s) := by
  unfold Machine.releaseStale
  split
  · exact hs
  · split
    · exact hs
    · exact h.dropHold p id hs

theorem settleReaders (p : Panel) (hs : P s) : P (settleReaders p s) := by
  have loaded : P (s.setPanel p { s.panel p with activeList := (s.panel p).pendingList }) := h.setPanel hs rfl
  have released := foldl (fun id => h.releaseStale p id) (List.finRange 6) loaded
  have picked := foldl (fun l => h.pickUpLayer p l)
    (((List.finRange 6).foldl (fun s id => Machine.releaseStale p id s)
      (s.setPanel p { s.panel p with activeList := (s.panel p).pendingList })).panel p).activeList released
  refine foldl (f := fun s q => swapPlane q s) (fun _ hu => h.elsewhere hu (by simp)) _ ?_
  cases p with
  | front => exact h.cameraLayerStart picked
  | left => exact picked
  | right => exact picked

theorem frameStart (p : Panel) (hs : P s) : P (frameStart p s) := h.setPanel (h.settleReaders p hs) rfl

theorem enterWaking (p : Panel) (hs : P s) : P (enterWaking p s) := h.frameStart p (h.setPanel hs rfl)

theorem enterSleep (p : Panel) (hs : P s) : P (enterSleep p s) := h.releaseReaders p (h.setPanel hs rfl)

theorem sendBacklight (p : Panel) (level : Nat) (hs : P s) : P (sendBacklight p level s) :=
  h.view (ringView_sendBacklight p level s) hs

theorem setLevel (p : Panel) (level : Nat) (hs : P s) : P (setLevel p level s) := by
  have set : P (s.setPanel p { s.panel p with level := level }) := h.setPanel hs rfl
  unfold Machine.setLevel
  dsimp only
  split
  · exact h.sendBacklight p level set
  · exact set

theorem wakeEffect (p : Panel) (hs : P s) : P (wakeEffect p s) := by
  unfold Machine.wakeEffect
  dsimp only
  split
  case h_1 => exact hs
  case h_2 => exact h.enterWaking p hs
  case h_3 => exact h.setPanel hs rfl
  case h_4 => exact hs
  case h_5 => exact h.setPanel hs rfl

theorem sleepEffect (p : Panel) (hs : P s) : P (sleepEffect p s) := h.view (ringView_sleepEffect p s) hs

theorem frontToRequested (hs : P s) : P (frontToRequested s) := by
  unfold Machine.frontToRequested
  split
  · exact hs
  · exact h.sleepEffect .front hs

theorem panelOff (p : Panel) (hs : P s) : P (panelOff p s) := by
  unfold Machine.panelOff
  exact h.raiseFlag _ (h.releaseReaders p (h.setPanel hs rfl))

theorem panelUp (p : Panel) (hs : P s) : P (panelUp p s) := by
  have lit := h.sendBacklight p 0 (h.setPanel (p := p) hs rfl
    (r := { s.panel p with power := .sleep, transition := .none, blankEnded := 0 }))
  unfold Machine.panelUp
  split
  · exact h.enterWaking p lit
  · exact lit

theorem powerRules (p : Panel) (f : FrameInProgress) (hs : P s) : P (powerRules p f s) := by
  unfold Machine.powerRules
  dsimp only
  generalize (if f.blank = true then (s.panel p).blankEnded + 1 else (s.panel p).blankEnded) = ended
  split
  case h_1 => exact hs
  case h_2 => exact hs
  case h_3 => exact hs
  case h_4 =>
    split
    · exact h.setPanel hs rfl
    · split
      · exact h.setPanel hs rfl
      · exact h.sendBacklight p _ (h.setPanel hs rfl)
  case h_5 =>
    split
    · exact h.setPanel hs rfl
    · have asleep := h.enterSleep p (h.setPanel (p := p) hs rfl (r := { s.panel p with blankEnded := ended }))
      split
      · exact h.enterWaking p asleep
      · exact asleep

theorem endOfFrame (p : Panel) (hs : P s) : P (endOfFrame p s) := by
  unfold Machine.endOfFrame
  split
  · exact hs
  · rename_i f _
    have ruled : P (Machine.powerRules p f (Machine.emit (.frame p (outputRows (settledMemory s) (f.shown s.takeover))) s)) :=
      h.powerRules p f (h.elsewhere hs (by simp))
    dsimp only
    split
    · exact ruled
    · split
      · exact h.frameStart p ruled
      · exact ruled

/-! ### Frames in progress (R54 to R61) -/

theorem abandonLink (rx : VideoRx) (hs : P s) : P (abandonLink rx s) := by
  refine foldl (fun {s} t hu => ?_) _ hs
  split
  · split
    · exact h.abandonFrame t hu
    · exact hu
  · exact hu

/-- A line's mark. -/
theorem markLine (t : Fin 32) (line : Nat) (m : LineMark) (hs : P s) : P (markLine t line m s) := by
  unfold Machine.markLine
  split
  · exact hs
  · rename_i c hc
    exact h.retag (TagRecord.alike_marked hc _) hs

theorem stageLine (u : Fin 32) (rx : VideoRx) (line address : Nat) (bytes : List Byte) (hs : P s) :
    P (stageLine u rx line address bytes s) := by
  unfold Machine.stageLine
  split
  · exact h.markLine u line _ (h.setPort rx _ hs)
  · exact h.markLine u line _ (h.countPort rx _ hs)

theorem lineArrives (u : Fin 32) (rx : VideoRx) (p : Packet) (hs : P s) : P (lineArrives u rx p s) := by
  unfold Machine.lineArrives
  split
  · exact h.countPort rx _ hs
  · rename_i c _
    split
    · exact hs
    · have trailed : P (if hasTrail c p.payload then countTrail rx.link s else s) := by
        split
        · exact h.elsewhere hs (by simp)
        · exact hs
      split
      · exact h.countPort rx _ hs
      · split
        · exact h.markLine u _ _ hs
        · dsimp only
          split
          · exact trailed
          · exact h.stageLine u rx _ _ _ trailed

/-- AUDIO_IN is none of the counts of R70. -/
theorem audioArrives (u : Fin 32) (d : AudioDescriptor) (p : Packet) (hs : P s) : P (audioArrives u d p s) := by
  have trailed : P (if p.payload.length % d.frameBytes ≠ 0 then countTrail .downlink s else s) := by
    split
    · exact h.elsewhere hs (by simp)
    · exact hs
  have counted : P (countTag u (fun c => { c with audioIn := bump c.audioIn })
      (if p.payload.length % d.frameBytes ≠ 0 then countTrail .downlink s else s)) :=
    h.retag ⟨rfl, rfl, rfl, rfl, rfl, rfl, rfl⟩ trailed
  unfold Machine.audioArrives
  dsimp only
  split <;> split <;> exact h.elsewhere counted (by simp)

/-! ### Links (R174, R181) -/

theorem leavingEffects (l : Link) (hs : P s) : P (leavingEffects l s) := by
  cases l with
  | downlink => exact h.raiseFlag _ (h.abandonLink .downlink hs)
  | uplink => exact h.raiseFlag _ (h.elsewhere hs (by simp))
  | camera => exact h.raiseFlag _ (h.abandonLink .camera hs)
  | front => exact h.panelOff .front hs
  | left => exact h.panelOff .left hs
  | right => exact h.panelOff .right hs

theorem putDown (l : Link) (hs : P s) : P (putDown l s) := by
  unfold Machine.putDown
  dsimp only
  split
  · exact h.leavingEffects l (h.elsewhere hs (by simp))
  · exact h.elsewhere hs (by simp)

theorem enterLost (cause : LostCause) (hs : P s) : P (enterLost cause s) := by
  unfold Machine.enterLost
  dsimp only
  split
  · exact h.putDown .camera (h.elsewhere hs (by simp))
  · exact h.elsewhere hs (by simp)

theorem viewLinkDown (hs : P s) : P (viewLinkDown s) := by
  unfold Machine.viewLinkDown
  split
  · exact hs
  · split
    case h_1 => exact h.enterLost _ hs
    case h_2 => exact h.enterLost _ hs
    case h_3 => exact hs
    case h_4 => exact hs

theorem linkDrops (l : Link) (hs : P s) : P (linkDrops l s) := by
  have down := h.putDown l hs
  unfold Machine.linkDrops
  dsimp only
  split
  · split
    · exact h.viewLinkDown down
    · exact down
  · exact down

theorem lossOfLock (l : Link) (hs : P s) : P (lossOfLock l s) := by
  unfold Machine.lossOfLock
  split
  · exact h.linkDrops l hs
  · exact hs

theorem reachUp (l : Link) (hs : P s) : P (reachUp l s) := by
  unfold Machine.reachUp
  split
  · have up : P (s.setLink l { s.link l with state := .up }) := h.setLink l _ hs
    cases l with
    | downlink => exact h.setLink .downlink _ up
    | uplink => exact h.emit _ up
    | camera => exact h.setLink .camera _ up
    | front => exact h.panelUp .front up
    | left => exact h.panelUp .left (h.setLink .left _ up)
    | right => exact h.panelUp .right (h.setLink .right _ up)
  · exact hs

end StepInvariant
end Sys2Proof.Machine
end

section
/-! The walk through every command, event and idle step, for the laws that read tags, rings, holds and the frame memory. -/

namespace Sys2Proof.Machine
namespace StepInvariant

variable {P Q : State → Prop} (h : StepInvariant P Q) {s t : State}
include h

/-! ### The takeover and the vehicle (R1 to R19) -/

theorem engage (hs : P s) : P (engage s) := by
  have ducked : P (duckedEngagement s) := by
    refine h.elsewhere hs ⟨?_, ?_, by rw [duckedEngagement_takeover]; rfl, ?_⟩ <;>
    · unfold duckedEngagement beginEngagement
      split <;> simp
  have woken := h.wakeEffect .front ducked
  have asked : P (requestRenders [.takeover] (Machine.wakeEffect .front (duckedEngagement s))) := h.elsewhere woken (by simp)
  rw [engage_eq]
  exact h.raiseFlag _ asked

theorem exitTakeover (hs : P s) : P (exitTakeover s) := by
  have left : P (leaveEngagement s) := h.outside hs rfl
  have withdrawn : P (withdrawTakeoverDemand (leaveEngagement s)) :=
    h.elsewhere left (by simp [withdrawTakeoverDemand_takeover])
  rw [exitTakeover_eq]
  exact h.raiseFlag _ (h.frontToRequested withdrawn)

theorem takeoverReverse (asserted : Bool) (hs : P s) : P (takeoverReverse asserted s) := by
  have lingered : P { s with takeover.phase := .linger, takeover.lingerTimer := some s.takeover.settings.linger } :=
    h.outside hs rfl
  unfold Machine.takeoverReverse
  split
  case h_1 => exact h.engage hs
  case h_2 => exact hs
  case h_3 => exact hs
  case h_4 =>
    unfold enterLinger
    dsimp only
    split
    · exact h.exitTakeover lingered
    · exact lingered
  case h_5 => exact h.outside hs rfl
  case h_6 => exact hs

theorem evaluateReverse (hs : P s) : P (evaluateReverse s) := by
  unfold Machine.evaluateReverse
  dsimp only
  split
  · exact hs
  · have turned := h.takeoverReverse s.vehicle.reversing
      (h.outside (t := { s with vehicle.reverseAsserted := s.vehicle.reversing }) hs rfl)
    exact h.elsewhere turned (by simp)

theorem updateMismatch (hs : P s) : P (updateMismatch s) := h.elsewhere hs (by simp)

theorem proximityEvaluate (hs : P s) : P (proximityEvaluate s) := h.elsewhere hs (by simp)

theorem recordStales (hs : P s) : P (recordStales s) := by
  by_cases hf : s.vehicle.fresh = true
  · rw [recordStales_fresh hf]
    exact h.proximityEvaluate (h.updateMismatch (h.evaluateReverse (h.raiseFlag _ (h.outside hs rfl))))
  · rwa [recordStales_stale (by simpa using hf)]

theorem debounceExpires (hs : P s) : P (debounceExpires s) := by
  unfold Machine.debounceExpires
  split
  · exact h.updateMismatch (h.evaluateReverse (h.outside hs rfl))
  · exact hs

theorem supplyChanges (old : Supply) (hs : P s) : P (supplyChanges old s) := by
  unfold Machine.supplyChanges
  split
  · exact h.elsewhere hs (by simp)
  · split
    · exact h.elsewhere hs (by simp)
    · exact hs

theorem exitSpeedTest (hs : P s) : P (exitSpeedTest s) := by
  unfold Machine.exitSpeedTest
  split
  · exact h.exitTakeover hs
  · exact hs

theorem vehicleArrives (p : Packet) (hs : P s) : P (vehicleArrives p s) := by
  unfold Machine.vehicleArrives
  split
  · exact hs
  · split
    · exact h.outside hs rfl
    · have taken : P { s with vehicle := s.vehicle.withReport p.payload } := h.outside hs rfl
      have tested := h.exitSpeedTest (h.updateMismatch (h.evaluateReverse (h.supplyChanges s.vehicle.supply taken)))
      unfold vehicleReport
      dsimp only
      split
      · exact h.elsewhere tested (by simp)
      · exact h.proximityEvaluate tested

theorem takeoverSet (p : TakeoverSetParams) (hs : P s) : P (takeoverSet p s).state := by
  cases hp : takeoverSettings? p with
  | none => rwa [takeoverSet_invalid hp]
  | some t =>
    have set : P { s with takeover.settings := t } := h.outside hs rfl
    have staled : P (if s.vehicle.fresh = true ∧ t.freshness ≤ s.vehicle.age
        then Machine.recordStales { s with takeover.settings := t } else { s with takeover.settings := t }) := by
      split
      · exact h.recordStales set
      · exact set
    simp only [Machine.takeoverSet, hp, done]
    split
    · exact staled
    · split
      · exact h.debounceExpires staled
      · exact staled

theorem startExpires (hs : P s) : P (startExpires s) := by
  unfold Machine.startExpires
  split
  · exact h.enterLost _ hs
  · exact hs

theorem watchdogExpires (hs : P s) : P (watchdogExpires s) := by
  unfold Machine.watchdogExpires
  split
  · split
    case h_1 => exact h.enterLost _ hs
    case h_2 => exact h.enterLost _ hs
    case h_3 => exact hs
    case h_4 => exact hs
  · exact hs

theorem lingerExpires (hs : P s) : P (lingerExpires s) := by
  unfold Machine.lingerExpires
  split
  · exact h.exitTakeover hs
  · exact hs

theorem mismatchExpires (hs : P s) : P (mismatchExpires s) := by
  unfold Machine.mismatchExpires
  split
  · exact h.raiseFlag _ (h.outside hs rfl)
  · exact hs

theorem restartWatchdog (hs : P s) : P (restartWatchdog s) := h.outside hs rfl

theorem requestGuide (hs : P s) : P (requestGuide s) := h.elsewhere hs (by simp)

theorem countRejoin (isRepeat : Bool) (hs : P s) : P (countRejoin isRepeat s) := by
  unfold Machine.countRejoin
  split
  · exact h.outside hs rfl
  · split
    · exact h.outside hs rfl
    · exact h.requestGuide (h.raiseFlag _ (h.restartWatchdog (h.outside hs rfl)))

theorem countRepeat (isRepeat : Bool) (hs : P s) : P (countRepeat isRepeat s) := by
  unfold Machine.countRepeat
  split
  · exact h.restartWatchdog (h.outside hs rfl)
  · split
    · exact h.restartWatchdog (h.outside hs rfl)
    · have frozen := h.raiseFlag .cameraView (h.restartWatchdog (h.outside (t := { s with
        takeover.view := .frozen, takeover.repeats := 3, takeover.rejoins := 0 }) hs rfl))
      unfold enterFrozen
      exact h.elsewhere frozen (by simp)

theorem goodFrame (n : Nat) (hs : P s) : P (goodFrame n s) := by
  have noted : P { s with takeover.lastGood := some n } := h.outside hs rfl
  unfold Machine.goodFrame
  dsimp only
  split
  case h_1 => exact h.requestGuide (h.restartWatchdog (h.outside hs rfl))
  case h_2 => exact h.countRepeat _ noted
  case h_3 => exact h.countRejoin _ noted
  case h_4 => exact h.countRejoin _ (h.restartWatchdog noted)

/-! ### Packets (R54 to R61, R111, R175, R176, R186) -/

/-- A packet's arrival, where its owner's work ends in `R`. -/
theorem receive {R : State → Prop} (l : Link) (k : PacketKind) (bytes : List Byte) {work : Packet → State → State}
    (stays : P s → R s) (works : ∀ {u} p, P u → R (work p u)) (hs : P s) : R (receive l k bytes work s) := by
  unfold Machine.receive
  split
  · exact stays hs
  · refine works _ ?_
    unfold countPayload
    split
    · exact hs
    · exact h.setLink l _ hs

/-- An admitted video packet, where its work ends in `R`. -/
theorem admitVideo {R : State → Prop} (rx : VideoRx) (p : Packet) {work : Fin 32 → VideoDescriptor → State → State}
    (stays : ∀ {u}, P u → R u) (works : ∀ t d, R (work t d s)) (hs : P s) : R (admitVideo rx p work s) := by
  unfold Machine.admitVideo
  split
  · exact stays (h.countPort rx _ hs)
  · exact works _ _
  · exact stays hs

theorem frameArrives (rx : VideoRx) (p : Packet) (hs : P s) : Q (frameArrives rx p s) := by
  refine h.admitVideo rx p h.after (fun t d => ?_) hs
  have begun : Q (Machine.beginFrame t rx p.a d s) := h.beginFrame t rx p.a d hs
  dsimp only
  split
  · unfold guideFrame
    split
    · exact begun
    · exact h.elsewhereAfter begun (by simp [computeGuide])
  · exact begun

theorem videoLine (rx : VideoRx) (p : Packet) (hs : P s) : P (videoLine rx p s) :=
  h.admitVideo rx p id (fun t _ => h.lineArrives t rx p hs) hs

theorem fendArrives (rx : VideoRx) (p : Packet) (hs : P s) : P (fendArrives rx p s) := by
  refine h.admitVideo rx p id (fun t _ => ?_) hs
  have ended := h.endFrame t rx p.a hs
  dsimp only
  split
  · exact h.goodFrame _ ended
  · exact ended

theorem soundArrives (p : Packet) (hs : P s) : P (soundArrives p s) := by
  unfold Machine.soundArrives
  split
  · exact h.countPort _ _ hs
  · exact h.audioArrives _ _ p hs
  · exact hs

theorem controlArrives (p : Packet) (hs : P s) : P (controlArrives p s) := by
  unfold Machine.controlArrives
  split <;> exact h.outside hs rfl

theorem lineWritten (rx : VideoRx) {u : State} (hw : lineWritten rx s = .ok u) (hs : P s) : P u := by
  unfold Machine.lineWritten at hw
  split at hw
  · cases hw
    exact hs
  · split at hw
    · cases hw
      exact h.setPort rx _ (h.write _ _ hs)
    · cases hw

theorem endFlag (l : Link) (hs : P s) : P (endFlag l s) := by
  unfold Machine.endFlag
  dsimp only
  split
  · exact hs
  · split
    · exact h.setLink l _ hs
    · exact h.setLink l _ hs
    · exact hs
    · exact hs

theorem overlong (l : Link) (hs : P s) : P (overlong l s) := by
  unfold Machine.overlong
  dsimp only
  split
  · exact h.setLink l _ hs
  · exact hs

theorem discardPacket (l : Link) (bytes : List Byte) (hs : P s) : P (discardPacket l bytes s) := by
  unfold Machine.discardPacket
  split
  · split
    · exact hs
    · exact h.setLink l _ hs
  · exact hs

/-! ### Menus and keys (R106 to R115) -/

theorem setSeat (k : Seat) (c : SeatContext) (hs : P s) : P (s.setSeat k c) := h.elsewhere hs (by simp)

theorem setZone (z : Zone) (r : ZoneRecord) (hs : P s) : P (s.setZone z r) := h.elsewhere hs (by simp)

theorem requestRenders (ps : List Plane) (hs : P s) : P (requestRenders ps s) := h.elsewhere hs (by simp)

theorem changeSeat (k : Seat) (c : SeatContext) (hs : P s) : P (changeSeat k c s) :=
  h.requestRenders _ (h.setSeat k c hs)

theorem closeMenu (k : Seat) (hs : P s) : P (closeMenu k s) := h.changeSeat k _ hs

theorem inactivityExpires (k : Seat) (hs : P s) : P (inactivityExpires k s) := by
  unfold Machine.inactivityExpires
  split
  · exact h.closeMenu k hs
  · exact hs

theorem popPage (k : Seat) (hs : P s) : P (popPage k s) := by
  unfold Machine.popPage
  dsimp only
  split
  · exact h.closeMenu k hs
  · exact h.changeSeat k _ hs

theorem volumeStep (k : Seat) (up : Bool) (hs : P s) : P (volumeStep k up s).state := by
  have set : ∀ v, P (setVolume k.zone v s) := fun v => h.setZone _ _ hs
  unfold Machine.volumeStep
  dsimp only
  split
  · split
    · exact hs
    · exact set _
  · split
    · exact hs
    · exact set _

theorem brightnessStep (k : Seat) (up : Bool) (hs : P s) : P (brightnessStep k up s).state := by
  unfold Machine.brightnessStep
  dsimp only
  split
  · split
    · exact hs
    · exact h.setLevel _ _ hs
  · split
    · exact hs
    · exact h.setLevel _ _ hs

theorem pushPage (k : Seat) (n : Fin 16) (hs : P s) : P (pushPage k n s).state := by
  unfold Machine.pushPage
  dsimp only
  split
  · exact hs
  · exact h.changeSeat k _ hs

theorem performAction (k : Seat) (a : Action) (hs : P s) : P (performAction k a s).state := by
  cases a with
  | subpage n => exact h.pushPage k n hs
  | report code =>
    have sent : P (handNotice (.select k (s.seat k).currentPage.val (s.seat k).highlight code) s) := h.elsewhere hs (by simp)
    exact sent
  | volumeUp => exact h.volumeStep k true hs
  | volumeDown => exact h.volumeStep k false hs
  | brightnessUp => exact h.brightnessStep k true hs
  | brightnessDown => exact h.brightnessStep k false hs
  | back => exact h.popPage k hs
  | close => exact h.closeMenu k hs

theorem moveHighlight (k : Seat) (target : Option Nat) (hs : P s) : P (moveHighlight k target s).state := by
  cases target with
  | none => exact hs
  | some i => exact h.changeSeat k _ hs

theorem selectItem (k : Seat) (hs : P s) : P (selectItem k s).state := by
  unfold Machine.selectItem
  split
  · exact hs
  · split
    · exact h.performAction k _ hs
    · exact hs

theorem menuKey (k : Seat) (hs : P s) : P (menuKey k s).state := by
  unfold Machine.menuKey
  dsimp only
  split
  · exact h.closeMenu k hs
  · split
    · exact hs
    · exact h.changeSeat k _ hs

theorem keyEffect (k : Seat) (code : Nat) (hs : P s) : P (keyEffect k code s).state := by
  unfold Machine.keyEffect
  dsimp only
  split
  case h_1 => exact h.moveHighlight k _ hs
  case h_2 => exact h.moveHighlight k _ hs
  case h_3 => exact h.selectItem k hs
  case h_4 => exact h.popPage k hs
  case h_5 => exact h.menuKey k hs
  case h_6 => exact h.volumeStep k true hs
  case h_7 => exact h.volumeStep k false hs

theorem touchTimer (k : Seat) (hs : P s) : P (touchTimer k s) := by
  rcases touchTimer_cases k s with ⟨-, e⟩ | ⟨-, -, e⟩ | ⟨-, -, e⟩ <;> rw [e]
  · exact hs
  · exact h.setSeat k _ hs
  · exact h.changeSeat k _ hs

theorem keyArrives (k : Seat) (code : Nat) (hs : P s) : P (keyArrives k code s) := by
  unfold Machine.keyArrives
  dsimp only
  split
  · exact h.setSeat k _ hs
  · split
    · exact h.setSeat k _ hs
    · split
      · exact hs
      · have touched := h.touchTimer k (h.keyEffect k code hs)
        unfold keyChime
        exact h.elsewhere touched (by simp)

theorem pageChanged (n : Fin 16) (hs : P s) : P (pageChanged n s) := by
  have settled : P (seats.foldl (fun s k => settleSeat n k s) s) := by
    refine foldl (fun {u} k hu => ?_) seats hs
    unfold settleSeat
    dsimp only
    split
    · exact h.setSeat k _ hu
    · exact hu
  unfold Machine.pageChanged
  dsimp only
  split
  · exact settled
  · exact h.requestRenders _ settled

end StepInvariant
end Sys2Proof.Machine
end

section
/-! The walk through every command, event and idle step, for the laws that read tags, rings, holds and the frame memory:
zones and chimes, the asset store, the control interpreter, and the step. -/

namespace Sys2Proof.Machine
namespace StepInvariant

variable {P Q : State → Prop} (h : StepInvariant P Q) {s t : State}
include h

/-! ### Zones and chimes (R118 to R151) -/

theorem holdExpires (z : Zone) (hs : P s) : P (holdExpires z s) := by
  unfold Machine.holdExpires
  dsimp only
  split
  · exact h.setZone z _ hs
  · exact hs

theorem setVoice (v : Fin 4) (r : Voice) (hs : P s) : P (s.setVoice v r) := h.elsewhere hs (by simp)

theorem finishVoice (v : Fin 4) (hs : P s) : P (finishVoice v s) := h.elsewhere hs (by simp)

theorem playSample (v : Fin 4) (run : BlockRun) (hs : P s) : P (playSample v run s).2 := by
  unfold Machine.playSample
  dsimp only
  split
  · exact hs
  · split
    · exact hs
    · have moved : P (s.setVoice v { s.voice v with position := (s.voice v).position + 1 }) := h.setVoice v _ hs
      dsimp only
      split
      · exact h.elsewhere moved (by simp)
      · exact moved

theorem playSamples (v : Fin 4) (n : Nat) (run : BlockRun) (hs : P s) : P (playSamples v n run s).2 := by
  induction n generalizing run s with
  | zero => exact hs
  | succ n ih => exact ih _ (h.playSample v run hs)

theorem enterGap (v : Fin 4) (repeats : Nat) (hs : P s) : P (enterGap v repeats s) := by
  unfold Machine.enterGap
  dsimp only
  split <;> exact h.setVoice v _ hs

theorem endPlay (v : Fin 4) (hs : P s) : P (endPlay v s) := by
  unfold Machine.endPlay
  dsimp only
  split
  · exact h.finishVoice v hs
  · split
    · exact h.enterGap v _ hs
    · split
      · exact h.finishVoice v hs
      · exact h.enterGap v _ hs

theorem countChime (f : ChimeCounters → ChimeCounters) (hs : P s) : P (countChime f s) := h.elsewhere hs (by simp)

theorem playBlock (v : Fin 4) (hs : P s) : P (playBlock v s) := by
  have played := h.playSamples v Config.blockFrames ⟨[], false, false⟩ hs
  unfold Machine.playBlock
  dsimp only
  generalize Machine.playSamples v Config.blockFrames ⟨[], false, false⟩ s = q at played ⊢
  have put : P (q.2.setVoice v { q.2.voice v with block := q.1.samples.reverse }) := h.setVoice v _ played
  have counted : P (if q.1.short = true then
      Machine.countChime (fun c => { c with underrun := bump c.underrun })
        (q.2.setVoice v { q.2.voice v with block := q.1.samples.reverse })
      else q.2.setVoice v { q.2.voice v with block := q.1.samples.reverse }) := by
    split
    · exact h.countChime _ put
    · exact put
  split
  · exact h.endPlay v counted
  · exact counted

theorem voiceBlock (v : Fin 4) (hs : P s) : P (voiceBlock v s) := by
  unfold Machine.voiceBlock
  dsimp only
  split
  case h_1 => exact hs
  case h_2 =>
    split
    · exact h.finishVoice v hs
    · exact h.setVoice v _ hs
  case h_3 =>
    split
    · exact h.finishVoice v hs
    · exact h.setVoice v _ hs
  case h_4 =>
    split
    · exact h.finishVoice v hs
    · exact h.playBlock v hs

theorem gapExpires (v : Fin 4) (hs : P s) : P (gapExpires v s) := by
  unfold Machine.gapExpires
  dsimp only
  split
  · exact h.setVoice v _ hs
  · exact hs

theorem voicePageRead (v : Fin 4) (token : Nat) (content : Option (List Byte)) (hs : P s) :
    P (voicePageRead v token content s) := by
  unfold Machine.voicePageRead
  dsimp only
  split
  · exact hs
  · split
    · exact h.finishVoice v (h.countChime _ hs)
    · exact h.setVoice v _ hs

theorem chimePlay (id mask : Nat) (hs : P s) : P (chimePlay id mask s).state := by
  have settled : ∀ i z c, P (settleRequest i z c false s).2 := fun i z c => h.elsewhere hs (by simp)
  unfold Machine.chimePlay
  split
  · rename_i i m _ _
    split
    · exact hs
    · rename_i c _
      dsimp only
      generalize (if m.isEmpty = true then c.zones else m.inter c.zones) = z
      split
      · exact hs
      · split
        · exact hs
        · split
          · exact hs
          · have request := settled i z c
            generalize settleRequest i z c false s = q at request ⊢
            split <;> exact request
  · exact hs

theorem dispatchAfter (before : State) (hs : P s) : P (dispatchAfter before s) := h.elsewhere hs (by simp)

theorem setProximity (p : ProximityState) (hs : P s) : P (setProximity p s) := h.elsewhere hs (by simp)

theorem chimeStop (id : Nat) (hs : P s) : P (chimeStop id s).state := by
  have stops : ∀ {u} (v : Fin 4) (named : Bool), P u →
      P (if ((u.voice v).busy && named) = true then u.setVoice v { u.voice v with stopping := true } else u) := by
    intro u v named hu
    split
    · exact h.setVoice v _ hu
    · exact hu
  have suspends : ∀ {u} (c : Bool), P u → P (if c = true then Machine.setProximity .suspended u else u) := by
    intro u c hu
    cases c
    · exact hu
    · exact h.setProximity _ hu
  have cleared : ∀ q, P (setQueue q s) := fun q => h.elsewhere hs (by simp)
  unfold Machine.chimeStop
  split
  · exact hs
  · refine h.dispatchAfter s ?_
    exact suspends _ (foldl (fun v => stops v _) _ (cleared _))

theorem proximitySet (id : Nat) (bands : List ProximityBand) (hs : P s) : P (proximitySet id bands s).state := by
  have stopped : P (proximityStop s) := h.elsewhere hs (by simp)
  unfold Machine.proximitySet
  split
  · exact hs
  · dsimp only
    generalize proximityStop s = u at stopped
    exact h.proximityEvaluate (h.outside stopped rfl)

theorem chimeDefine (id option : Nat) (p : Option ChimeParams) (hs : P s) : P (chimeDefine id option p s).state := by
  have set : ∀ i e, P (setChimeEntry i e s) := fun i e => h.outside hs rfl
  unfold Machine.chimeDefine
  split
  · exact hs
  · split
    · exact hs
    · split
      · split
        · exact hs
        · exact set _ _
      · split
        · split
          · exact hs
          · split
            · exact hs
            · exact set _ _
        · exact hs

theorem zoneSet (zone option : Nat) (p : ZoneParams) (hs : P s) : P (zoneSet zone option p s).state := by
  unfold Machine.zoneSet
  split
  · exact hs
  · split
    · exact hs
    · split
      · exact hs
      · split
        · exact hs
        · exact h.setZone _ _ hs

theorem volumeTableSet (values : List Nat) (hs : P s) : P (volumeTableSet values s).state := by
  unfold Machine.volumeTableSet
  split
  · exact hs
  · split
    · exact h.outside hs rfl
    · exact hs

/-! ### The asset store (R154 to R173) -/

theorem storeSelect (hs : P s) : P (storeSelect s) := h.elsewhere hs (by simp)

theorem finishOp (hs : P s) : P (finishOp s) := h.elsewhere hs (by simp)

theorem arrayReady (hs : P s) : P (arrayReady s) := by
  unfold Machine.arrayReady
  split
  · exact h.storeSelect (h.outside hs rfl)
  · exact hs

theorem setBlock (c : BlockSet) (b : Fin 256) (hs : P s) : P (setBlock c b s) := h.elsewhere hs (by simp)

theorem mountDiscard (b : Fin 256) (hs : P s) : P (mountDiscard b s) := h.setBlock _ b (h.outside hs rfl)

theorem placeHeader (b : Fin 256) (content : Option Page) (hs : P s) : P (placeHeader b content s) := by
  unfold Machine.placeHeader
  split
  · exact h.setBlock _ b hs
  · exact h.setBlock _ b hs
  · exact h.mountDiscard b hs
  · exact h.outside hs rfl

theorem mountEnd (hs : P s) : P (mountEnd s) := by
  have placed : ∀ kept : List (Fin 256), P (s.store.mount.blocks.foldl (fun s b =>
      if kept.contains b.block then Machine.setBlock .current b.block s else Machine.mountDiscard b.block s) s) := by
    refine fun kept => foldl (fun b hu => ?_) _ hs
    split
    · exact h.setBlock _ _ hu
    · exact h.mountDiscard _ hu
  have mounted : ∀ {u} records, P u → P (Machine.raiseFlag .storeMounted { u with
      store.state := .ready, store.directory := records, store.cursor := 0, store.mount := .reset }) :=
    fun _ hu => h.raiseFlag _ (h.outside hu rfl)
  have ready := mounted (currentRecords s.store.mount) (placed ((currentRecords s.store.mount).flatMap (·.blocks)))
  unfold Machine.mountEnd
  exact h.elsewhere ready (by simp)

theorem headersRead (hs : P s) : P (headersRead s) := by
  unfold Machine.headersRead
  dsimp only
  split
  · exact h.mountEnd hs
  · exact h.outside hs rfl

theorem noteGeneration (content : Option Page) (hs : P s) : P (noteGeneration content s) := by
  unfold Machine.noteGeneration
  split
  · split
    · exact h.outside hs rfl
    · exact hs
  · exact hs

theorem headerRead (b : Fin 256) (content : Option Page) (hs : P s) : P (headerRead b content s) := by
  have noted := h.noteGeneration content (h.placeHeader b content
    (h.outside (t := { s with store.mount.headersLeft := s.store.mount.headersLeft - 1 }) hs rfl))
  unfold Machine.headerRead
  dsimp only
  split
  · exact h.headersRead noted
  · exact noted

theorem commitRead (b : Fin 256) (content : Option Page) (hs : P s) : P (commitRead b content s) := by
  unfold Machine.commitRead
  dsimp only
  split
  · exact h.mountEnd (h.outside hs rfl)
  · exact h.outside hs rfl

/-- A glyph page goes into the frame memory (R99, R102). -/
theorem glyphPageRead (token : Nat) (content : Option (List Byte)) (hs : P s) : P (glyphPageRead token content s) := by
  unfold Machine.glyphPageRead
  split
  · exact hs
  · rename_i l _
    split
    · exact hs
    · split
      · have failed : P { s with raster.glyphLoadFail := bump s.raster.glyphLoadFail } := h.outside hs rfl
        exact h.elsewhere failed (by simp)
      · rename_i bytes
        have written := h.write (Config.glyphBase + l.page * Config.pageBytes) (glyphPageBytes l.page bytes) hs
        dsimp only
        split
        · exact h.elsewhere written (by simp)
        · exact h.elsewhere written (by simp)

/-- A render goes into the frame memory (R96). -/
theorem completeRender (r : Render) (hs : P s) : P (completeRender r s) := by
  have written := h.write (planeBuffer r.plane (!(s.plane r.plane).frontOne)) (planeBytes s.mem r.width r.height r.ops) hs
  have drawn : P (renderDrawn r s) := by
    unfold renderDrawn
    exact h.elsewhere written (by simp)
  rw [completeRender_eq]
  exact h.elsewhere drawn (by simp)

theorem handRead (r : ReadRequest) (content : Option Page) (hs : P s) : P (handRead r content s) := by
  unfold Machine.handRead
  dsimp only
  split
  case h_1 => exact h.headerRead _ _ hs
  case h_2 => exact h.commitRead _ _ hs
  case h_3 => exact h.voicePageRead _ _ _ hs
  case h_4 => exact h.glyphPageRead _ _ hs
  case h_5 => exact h.elsewhere hs (by simp)

theorem readCompletes (failed : Bool) (hs : P s) : P (readCompletes failed s) := by
  unfold Machine.readCompletes
  split
  · split
    · exact h.finishOp (h.handRead _ _ (h.outside hs rfl))
    · exact h.finishOp (h.handRead _ _ hs)
  · exact hs

theorem retirePrevious (id : Nat) (hs : P s) : P (retirePrevious id s) := by
  unfold Machine.retirePrevious
  split
  · exact hs
  · split
    · exact h.elsewhere hs (by simp)
    · exact h.elsewhere hs (by simp)

theorem commitGeneration (hs : P s) : P (commitGeneration s) := by
  have retired := h.retirePrevious s.store.transaction.id hs
  unfold Machine.commitGeneration
  exact h.elsewhere retired (by simp)

theorem programFails (b : Fin 256) (hs : P s) : P (programFails b s) := by
  unfold Machine.programFails
  exact h.elsewhere hs (by simp)

theorem programVerified (b : Fin 256) (page : Nat) (commit : Bool) (hs : P s) : P (programVerified b page commit s) := by
  unfold Machine.programVerified
  dsimp only
  split
  · exact h.commitGeneration (h.outside hs rfl)
  · exact h.outside hs rfl

theorem programCompletes (verified : Option (Fin 8)) (hs : P s) : P (programCompletes verified s) := by
  unfold Machine.programCompletes
  split
  · exact hs
  · split
    · dsimp only
      split
      · split
        · exact h.finishOp (h.programVerified _ _ _ (h.outside hs rfl))
        · exact h.finishOp (h.outside hs rfl)
      · split
        · exact h.finishOp (h.programFails _ (h.outside hs rfl))
        · exact h.finishOp (h.outside hs rfl)
    · dsimp only
      split <;> exact h.finishOp (h.outside hs rfl)
    · exact hs

theorem blockErased (failed : Bool) (b : Fin 256) (hs : P s) : P (blockErased failed b s) := by
  unfold Machine.blockErased
  dsimp only
  split
  · exact h.elsewhere hs (by simp)
  · exact h.elsewhere hs (by simp)

theorem eraseCompletes (failedBlocks : List (Fin 256)) (hs : P s) : P (eraseCompletes failedBlocks s) := by
  unfold Machine.eraseCompletes
  split
  · exact hs
  · split
    · exact h.finishOp (foldl (fun b hu => h.blockErased _ b hu) _ hs)
    · exact hs

theorem abortCompletes (hs : P s) : P (abortCompletes s) := by
  unfold Machine.abortCompletes
  split
  · exact h.finishOp (h.outside hs rfl)
  · exact hs

end StepInvariant
end Sys2Proof.Machine
end

section
/-! The end of the walk: commands and their answers, profile entries, resets, the clock and the step (R25, R186 to R197,
log entry 19). -/

namespace Sys2Proof.Machine

/-! ### What of an answer and of a reset the laws read -/

/-- The uplink's retrain touches nothing that the laws read (R181, R182). -/
theorem ringView_retrain_uplink (s : State) : (retrain .uplink s).ringView = s.ringView := by
  unfold retrain linkDrops putDown leavingEffects
  dsimp only
  split <;> exact ringView_of_blocks (by simp) (by simp) (by simp) (by simp)

theorem ringView_appendWaiting (s : State) : (appendWaiting s).ringView = s.ringView := by
  unfold appendWaiting
  split
  · rfl
  · exact ringView_of_blocks (by simp) (by simp) (by simp) (by simp)

/-- So a send completion touches nothing that the laws read. -/
theorem ringView_sendCompletes (s : State) : (sendCompletes s).ringView = s.ringView := by
  unfold sendCompletes
  split
  · split
    · rfl
    · have appended : ∀ u, (appendWaiting (emit u { s with uplink.queue := s.uplink.queue.tail })).ringView = s.ringView :=
        fun u => ringView_appendWaiting _
      rename_i p rest hq
      simp only [hq, List.tail_cons] at appended
      dsimp only
      split
      · exact (ringView_retrain_uplink _).trans (appended _)
      · exact appended _
  · rfl

theorem ringView_waitingAppends (s : State) : (waitingAppends s).ringView = s.ringView := by
  unfold waitingAppends
  split
  · split
    · exact ringView_appendWaiting s
    · exact ringView_sendCompletes s
  · rfl

/-- An answer's reply and what follows it (R187). -/
theorem ringView_handAnswer (mark code : Byte) (a : Answer) : (handAnswer mark code a).ringView = a.state.ringView := by
  have replied : ∀ q, (handReply q a.state).ringView = a.state.ringView := fun q =>
    ringView_of_blocks (by simp) (by simp) (by simp) (by simp)
  unfold handAnswer
  dsimp only
  split
  case h_1 => exact replied _
  case h_2 => exact replied _
  case h_3 => exact ringView_of_blocks (by simp) (by simp) (by simp) (by simp)
  case h_4 => split <;> exact replied _

theorem ringView_suppressReply (a : Answer) : (suppressReply a).ringView = a.state.ringView := by
  unfold suppressReply
  split
  case h_1 => rfl
  case h_2 => exact ringView_retrain_uplink _
  case h_3 => exact ringView_of_blocks (by simp) (by simp) (by simp) (by simp)
  case h_4 => rfl

theorem ringView_rejectEntry (s : State) : (rejectEntry s).ringView = s.ringView :=
  ringView_of_blocks (by simp [rejectEntry]) (by simp [rejectEntry]) (by simp [rejectEntry]) (by simp [rejectEntry])

theorem ringView_skipEntry (l : Nat) (s : State) : (skipEntry l s).ringView = s.ringView := by
  unfold skipEntry
  split <;> rfl

theorem ringView_afterEntry (s : State) : (afterEntry s).ringView = s.ringView := by
  unfold afterEntry
  split
  · rfl
  · split <;> exact ringView_of_blocks (by simp) (by simp) (by simp) (by simp)

theorem ringView_supplyChanges (old : Supply) (s : State) : (supplyChanges old s).ringView = s.ringView := by
  unfold supplyChanges
  split
  · exact ringView_of_blocks (by simp) (by simp) (by simp) (by simp)
  · split
    · exact ringView_of_blocks (by simp) (by simp) (by simp) (by simp)
    · rfl

/-- A soft reset of the store leaves the frame memory. -/
theorem softResetStore_mem (s : State) : (softResetStore s).mem = s.mem := by
  have released : ∀ u : State, (releasePins u).mem = u.mem := by
    intro u
    have voices := foldl_keeps State.mem (fun s (v : Fin 4) =>
      if (s.voice v).busy then unpinAsset (s.voice v).asset (s.voice v).generation s else s)
      (fun s v => by split <;> simp) (List.finRange 4) u
    unfold releasePins
    dsimp only
    split <;> simp [voices]
  unfold softResetStore
  dsimp only
  rw [released]
  split <;> simp

/-- After a soft reset no panel holds a buffer (R92). -/
theorem ringView_softResetPanel (p : Panel) (s : State) : (softResetPanel p s).ringView =
    (s.setPanel p (s.panel p).softReset).ringView := ringView_sleepEffect p _

theorem ringView_softResetPanels (s : State) :
    (softResetPanel .right (softResetPanel .left (softResetPanel .front s))).ringView =
      { s.ringView with
        front := Vector.replicate 6 none, left := Vector.replicate 6 none, right := Vector.replicate 6 none } := by
  have right : ∀ u : State, (softResetPanel .right u).ringView = { u.ringView with right := Vector.replicate 6 none } :=
    ringView_softResetPanel .right
  have left : ∀ u : State, (softResetPanel .left u).ringView = { u.ringView with left := Vector.replicate 6 none } :=
    ringView_softResetPanel .left
  have front : ∀ u : State, (softResetPanel .front u).ringView = { u.ringView with front := Vector.replicate 6 none } :=
    ringView_softResetPanel .front
  rw [right, left, front]

/-- A soft reset leaves tags, rings and holds as a full reset does, and the frame memory as it was (R69, R92, R197). -/
theorem ringView_softResetBlocks (s : State) :
    (softResetBlocks s).ringView = { State.reset.ringView with mem := s.mem } := by
  unfold softResetBlocks
  dsimp only
  rw [ringView_softResetPanels, ringView_supplyChanges]
  simp only [State.ringView, softResetStore_mem]
  rfl

theorem ringView_softResetEnds (s : State) : (softResetEnds s).ringView = { State.reset.ringView with mem := s.mem } := by
  rw [← ringView_softResetBlocks, softResetEnds]
  exact ringView_of_blocks (by simp) (by simp) (by simp) (by simp)

theorem ringView_failPackets (ps : List ControlPacket) (s : State) : (failPackets ps s).ringView = s.ringView ∨
    (failPackets ps s).ringView = { State.reset.ringView with mem := s.mem } := by
  induction ps generalizing s with
  | nil => exact .inr (ringView_softResetEnds s)
  | cons p rest ih =>
    have replied : (handReply (failedReply p) s).ringView = s.ringView :=
      ringView_of_blocks (by simp) (by simp) (by simp) (by simp)
    have mem : (handReply (failedReply p) s).mem = s.mem := by simp
    unfold failPackets
    dsimp only
    split
    · exact .inl replied
    · rw [← replied, ← mem]
      exact ih _

/-- SOFT_RESET_EFFECT changes nothing that the laws read, or resets it (R197). -/
theorem ringView_softResetEffect (s : State) : (softResetEffect s).ringView = s.ringView ∨
    (softResetEffect s).ringView = { State.reset.ringView with mem := s.mem } := by
  unfold softResetEffect
  split
  · exact .inl rfl
  · split
    · exact .inl rfl
    · exact .inl rfl
    · exact ringView_failPackets _ s

namespace StepInvariant

variable {P Q : State → Prop} (h : StepInvariant P Q) {s t : State}
include h

/-! ### Commands (R50 to R197) -/

theorem tagSet (p : TagSetParams) (hs : P s) : P (tagSet p s).state := by
  unfold Machine.tagSet
  split
  · exact hs
  · rename_i u d _
    have kept : P (if changesVideo (s.tag u).descriptor d then Machine.abandonFrame u s else s) := by
      split
      · exact h.abandonFrame u hs
      · exact hs
    exact foldl (fun z hu => h.elsewhere hu (by simp)) _ (h.retag ⟨rfl, rfl, rfl, rfl, rfl, rfl, rfl⟩ kept)

theorem tagClear (tag : Nat) (hs : P s) : P (tagClear tag s).state := by
  unfold Machine.tagClear
  split
  · exact hs
  · rename_i u _
    split
    · exact hs
    · split
      · exact hs
      · exact foldl (fun z hu => h.elsewhere hu (by simp)) _
          (h.retag ⟨rfl, rfl, rfl, rfl, rfl, rfl, rfl⟩ (h.abandonFrame u hs))

omit h in
theorem tagRead (tag : Nat) (hs : P s) : P (tagRead tag s).state := by
  unfold Machine.tagRead
  split
  · exact hs
  · split <;> exact hs

theorem panelSet (q : PanelSetParams) (hs : P s) : P (panelSet q s).state := by
  unfold Machine.panelSet
  split
  · split
    · dsimp only
      split
      · exact hs
      · rename_i p mx my _ _ _ _ _
        have set : P (s.setPanel p { s.panel p with
          width := q.width, height := q.height, rate := q.rate, mirrorX := mx, mirrorY := my,
          background := q.background }) := h.setPanel hs rfl
        dsimp only [done]
        split
        · exact h.requestRenders _ set
        · exact set
    · exact hs
  · exact hs

theorem panelWake (panel : Nat) (hs : P s) : P (panelWake panel s).state := by
  unfold Machine.panelWake
  split
  · exact hs
  · exact h.wakeEffect _ (h.setPanel hs rfl)

theorem panelSleep (panel : Nat) (hs : P s) : P (panelSleep panel s).state := by
  unfold Machine.panelSleep
  split
  · exact hs
  · dsimp only [done]
    split
    · exact h.setPanel hs rfl
    · exact h.sleepEffect _ (h.setPanel hs rfl)

theorem panelBlank (panel : Nat) (blanked : Bool) (hs : P s) : P (panelBlank panel blanked s).state := by
  unfold Machine.panelBlank
  split
  · exact hs
  · exact h.setPanel hs rfl

theorem panelLevel (panel level : Nat) (hs : P s) : P (panelLevel panel level s).state := by
  unfold Machine.panelLevel
  split
  · exact hs
  · split
    · exact hs
    · exact h.setLevel _ _ hs

theorem layerSet (q : LayerSetParams) (hs : P s) : P (layerSet q s).state := by
  unfold Machine.layerSet
  split
  · exact hs
  · dsimp only
    split
    · split
      · exact hs
      · exact h.setPanel hs rfl
    · exact hs

theorem layerClear (panel layer : Nat) (hs : P s) : P (layerClear panel layer s).state := by
  unfold Machine.layerClear
  split
  · exact hs
  · split
    · exact h.setPanel hs rfl
    · split
      · exact hs
      · exact h.setPanel hs rfl

omit h in
theorem panelRead (panel : Nat) (hs : P s) : P (panelRead panel s).state := by
  unfold Machine.panelRead
  split <;> exact hs

theorem cameraSet (p : CameraSetParams) (hs : P s) : P (cameraSet p s).state := by
  unfold Machine.cameraSet
  split
  · exact hs
  · split
    · exact hs
    · split
      · split
        · exact hs
        · exact h.outside hs rfl
      · exact h.outside hs rfl

theorem takeoverDismiss (hs : P s) : P (takeoverDismiss s).state := by
  unfold Machine.takeoverDismiss
  split
  · exact h.exitTakeover hs
  · exact hs
  · exact hs

theorem guideSet (p : GuideSetParams) (hs : P s) : P (guideSet p s).state := by
  unfold Machine.guideSet
  split
  · exact hs
  · exact h.outside hs rfl

theorem steerTableSet (values : List Nat) (hs : P s) : P (steerTableSet values s).state := by
  unfold Machine.steerTableSet
  split
  · exact hs
  · split
    · exact h.outside hs rfl
    · exact hs

theorem rowTableSet (rows : SizedList RowParams) (hs : P s) : P (rowTableSet rows s).state := by
  unfold Machine.rowTableSet
  split
  · exact hs
  · split
    · exact hs
    · exact h.outside hs rfl

theorem bandTableSet (bands : List GuideBand) (hs : P s) : P (bandTableSet bands s).state := by
  unfold Machine.bandTableSet
  split
  · exact h.outside hs rfl
  · exact hs

theorem menuSet (p : MenuSetParams) (hs : P s) : P (menuSet p s).state := by
  unfold Machine.menuSet
  split
  · rename_i k t _ _
    have set : P (setGlyphSet p.glyphSet (s.setSeat k ((s.seat k).withSettings t))) := h.elsewhere hs (by simp)
    exact h.requestRenders _ set
  · exact hs

theorem pageSet (page : Nat) (title : List Nat) (items : SizedList ItemParams) (hs : P s) :
    P (pageSet page title items s).state := by
  unfold Machine.pageSet
  split
  · exact hs
  · split
    · exact h.pageChanged _ (h.outside hs rfl)
    · exact hs

theorem itemSet (page item : Nat) (p : ItemParams) (hs : P s) : P (itemSet page item p s).state := by
  unfold Machine.itemSet
  split
  · split
    · exact hs
    · split
      · exact hs
      · exact h.pageChanged _ (h.outside hs rfl)
  · exact hs

theorem pageClear (page : Nat) (hs : P s) : P (pageClear page s).state := by
  unfold Machine.pageClear
  split
  · exact hs
  · split
    · exact hs
    · rename_i n _ _
      have left : P (seats.foldl (fun s k => s.setSeat k ((s.seat k).withoutPage n s.items)) (s.setPage n none)) :=
        foldl (fun k hu => h.setSeat k _ hu) seats (h.outside hs rfl)
      dsimp only [done]
      split
      · exact left
      · exact h.requestRenders _ left

theorem menuOpen (seat : Nat) (hs : P s) : P (menuOpen seat s).state := by
  unfold Machine.menuOpen
  split
  · exact hs
  · dsimp only
    split
    · exact hs
    · split
      · exact hs
      · exact h.changeSeat _ _ hs

theorem menuClose (seat : Nat) (hs : P s) : P (menuClose seat s).state := by
  unfold Machine.menuClose
  split
  · exact hs
  · dsimp only [done]
    split
    · exact h.closeMenu _ hs
    · exact hs

theorem menuLock (seat locked : Nat) (hs : P s) : P (menuLock seat locked s).state := by
  unfold Machine.menuLock
  split
  · split
    · exact hs
    · dsimp only [done]
      split
      · exact h.closeMenu _ (h.setSeat _ _ hs)
      · exact h.changeSeat _ _ hs
  · exact hs

theorem setBlocks (c : BlockSet) (bs : List (Fin 256)) (hs : P s) : P (setBlocks c bs s) := h.elsewhere hs (by simp)

theorem clearFlags (fs : BitVec 16) (hs : P s) : P (clearFlags fs s) := h.elsewhere hs (by simp)

theorem assetBegin (id kind length : Nat) (hs : P s) : P (assetBegin id kind length s).state := by
  have opened : ∀ cursor generation transaction, P { s with
      store.cursor := cursor, store.nextGeneration := generation, store.transaction := transaction } :=
    fun _ _ _ => h.outside hs rfl
  unfold Machine.assetBegin
  dsimp only [report, refuse]
  split
  · exact hs
  · split
    · exact hs
    · split
      · exact hs
      · split
        · exact hs
        · split
          · exact hs
          · exact h.clearFlags _ (h.setBlocks _ _ (opened _ _ _))

theorem fillPage (p : Nat) (bytes : List Byte) (hs : P s) : P (fillPage p bytes s) := by
  unfold Machine.fillPage
  dsimp only
  split
  · exact h.storeSelect (h.outside hs rfl)
  · exact h.outside hs rfl

theorem assetData (offset : Nat) (bytes : List Byte) (hs : P s) : P (assetData offset bytes s).state := by
  have received : ∀ crc, P { s with store.transaction := { s.store.transaction with
    received := s.store.transaction.received + bytes.length, crc := crc } } := fun _ => h.outside hs rfl
  unfold Machine.assetData
  dsimp only [refuseExpecting, report]
  split
  · exact hs
  · split
    · exact hs
    · split
      · exact hs
      · split
        · exact hs
        · split
          · exact hs
          · split
            · exact hs
            · split
              · exact hs
              · have filled := fun p bs crc => h.fillPage p bs (received crc)
                dsimp only
                split
                · exact filled _ _ _
                · exact h.fillPage _ _ (filled _ _ _)

theorem assetEnd (crc : BitVec 32) (hs : P s) : P (assetEnd crc s).state := by
  unfold Machine.assetEnd
  dsimp only [refuseExpecting]
  split
  · exact hs
  · split
    · exact hs
    · split
      · exact hs
      · split
        · exact hs
        · dsimp only
          split
          · exact h.elsewhere hs (by simp)
          · exact h.storeSelect (h.outside hs rfl)

theorem joinErase (bs : List (Fin 256)) (hs : P s) : P (joinErase bs s) := h.elsewhere hs (by simp)

theorem assetDelete (id : Nat) (hs : P s) : P (assetDelete id s).state := by
  unfold Machine.assetDelete
  split
  · exact hs
  · split
    · exact hs
    · split
      · exact hs
      · split
        · exact hs
        · exact h.joinErase _ (h.outside hs rfl)

omit h in
theorem assetInfo (id : Nat) (hs : P s) : P (assetInfo id s).state := by
  unfold Machine.assetInfo
  split
  · exact hs
  · split
    · exact hs
    · split <;> exact hs

theorem storeAbort (hs : P s) : P (storeAbort s).state := by
  have aborted : P (abortOperation .abort s) := h.elsewhere hs (by simp)
  unfold Machine.storeAbort
  split
  · exact hs
  · split
    · exact hs
    · dsimp only
      split
      · have failed : P (failTransaction .abort (abortOperation .abort s)) := h.elsewhere aborted (by simp)
        exact failed
      · exact aborted

theorem linkRetrain (link : Nat) (hs : P s) : P (linkRetrain link s).state := by
  unfold Machine.linkRetrain
  split
  · exact hs
  · split
    · exact hs
    · exact h.linkDrops .uplink hs
  · exact h.linkDrops _ hs

/-- COUNTERS_READ may clear the tags' counters (R189). -/
theorem countersRead (group clear : Nat) (hs : P s) : Q (countersRead group clear s).state := by
  unfold Machine.countersRead
  split
  · rename_i g c _ _
    cases c with
    | false => exact h.after hs
    | true =>
      cases g with
      | streams => exact h.clearTags hs
      | _ => exact h.after (h.outside hs rfl)
  · exact h.after hs

theorem attentionAck (f : BitVec 16) (hs : P s) : P (attentionAck f s).state := by
  unfold Machine.attentionAck
  split
  · exact h.outside hs rfl
  · exact hs

theorem noticeMaskSet (m : BitVec 16) (hs : P s) : P (noticeMaskSet m s).state := by
  unfold Machine.noticeMaskSet
  split
  · exact h.outside hs rfl
  · exact hs

/-- A command performed by its owner. -/
theorem perform (c : Command) (hs : P s) : Q (perform c s).state := by
  cases c with
  | tagSet p => exact h.after (h.tagSet p hs)
  | tagClear t => exact h.after (h.tagClear t hs)
  | tagRead t => exact h.after (tagRead t hs)
  | ringSet p => exact h.after (h.ringSet p hs)
  | panelSet p => exact h.after (h.panelSet p hs)
  | panelWake p => exact h.after (h.panelWake p hs)
  | panelSleep p => exact h.after (h.panelSleep p hs)
  | panelBlank p => exact h.after (h.panelBlank p true hs)
  | panelShow p => exact h.after (h.panelBlank p false hs)
  | panelLevel p l => exact h.after (h.panelLevel p l hs)
  | layerSet p => exact h.after (h.layerSet p hs)
  | layerClear p l => exact h.after (h.layerClear p l hs)
  | panelRead p => exact h.after (panelRead p hs)
  | cameraSet p => exact h.after (h.cameraSet p hs)
  | takeoverSet p => exact h.after (h.takeoverSet p hs)
  | takeoverDismiss => exact h.after (h.takeoverDismiss hs)
  | takeoverRead => exact h.after hs
  | guideSet p => exact h.after (h.guideSet p hs)
  | steerTableSet vs => exact h.after (h.steerTableSet vs hs)
  | rowTableSet rows => exact h.after (h.rowTableSet rows hs)
  | bandTableSet bands => exact h.after (h.bandTableSet bands hs)
  | menuSet p => exact h.after (h.menuSet p hs)
  | pageSet n title items => exact h.after (h.pageSet n title items hs)
  | pageClear n => exact h.after (h.pageClear n hs)
  | itemSet n i p => exact h.after (h.itemSet n i p hs)
  | menuOpen k => exact h.after (h.menuOpen k hs)
  | menuClose k => exact h.after (h.menuClose k hs)
  | menuLock k l => exact h.after (h.menuLock k l hs)
  | zoneSet z o p => exact h.after (h.zoneSet z o p hs)
  | volumeTableSet vs => exact h.after (h.volumeTableSet vs hs)
  | chimeDefine n o p => exact h.after (h.chimeDefine n o p hs)
  | chimePlay n z => exact h.after (h.chimePlay n z hs)
  | chimeStop n => exact h.after (h.chimeStop n hs)
  | proximitySet n bands => exact h.after (h.proximitySet n bands hs)
  | assetBegin n k l => exact h.after (h.assetBegin n k l hs)
  | assetData o bs => exact h.after (h.assetData o bs hs)
  | assetEnd c => exact h.after (h.assetEnd c hs)
  | assetDelete n => exact h.after (h.assetDelete n hs)
  | assetInfo n => exact h.after (assetInfo n hs)
  | storeStatus => exact h.after hs
  | storeAbort => exact h.after (h.storeAbort hs)
  | linkRetrain l => exact h.after (h.linkRetrain l hs)
  | countersRead g c => exact h.countersRead g c hs
  | attentionAck f => exact h.after (h.attentionAck f hs)
  | noticeMaskSet m => exact h.after (h.noticeMaskSet m hs)
  | identify => exact h.after hs
  | softReset => exact h.after hs

/-! ### The control interpreter (R186, R187, R194) -/

theorem answerPacket (inProfile : Bool) (p : ControlPacket) (hs : P s) : Q (answerPacket inProfile p s).state := by
  unfold Machine.answerPacket
  split
  · exact h.after hs
  · split
    · exact h.after hs
    · split
      · exact h.after hs
      · split
        · exact h.after hs
        · exact h.perform _ hs

theorem runCommand (mark : Byte) (c : Command) (hs : P s) : Q (runCommand mark c s) := by
  have answered : Q (answerCommand c s).state := by
    unfold answerCommand
    split
    · exact h.after hs
    · exact h.perform c hs
  unfold Machine.runCommand
  split
  · exact h.viewAfter (ringView_handAnswer _ _ _) answered
  · exact h.after hs

theorem takeCommand (hs : P s) : Q (takeCommand s) := by
  unfold Machine.takeCommand
  split
  · exact h.after hs
  · split
    · exact h.viewAfter (ringView_handAnswer _ _ _) (h.answerPacket false _ (h.outside hs rfl))
    · exact h.after hs

theorem runEntry (packet : List Byte) (hs : P s) : Q (runEntry packet s) := by
  have rejected : Q (rejectEntry s) := h.viewAfter (ringView_rejectEntry s) (h.after hs)
  unfold Machine.runEntry
  split
  · exact rejected
  · split
    · exact rejected
    · dsimp only
      generalize hp : ControlPacket.mk _ _ _ _ = p
      have executed : Q (suppressReply (Machine.answerPacket true p s)) :=
        h.viewAfter (ringView_suppressReply _) (h.answerPacket true p hs)
      split
      · exact h.outsideAfter executed rfl
      · exact h.viewAfter (ringView_rejectEntry _) executed

theorem takeEntry (hs : P s) : Q (takeEntry s) := by
  have cut : Q (cutShort s) := h.after (h.elsewhere hs (by simp))
  unfold Machine.takeEntry
  split
  · split
    · exact h.after hs
    · split
      · exact cut
      · split
        · exact cut
        · exact h.viewAfter (ringView_afterEntry _) (h.runEntry _ (h.view (ringView_skipEntry _ _) (h.outside hs rfl)))
  · exact h.after hs

theorem softResetEffect (hs : P s) : P (softResetEffect s) := by
  rcases ringView_softResetEffect s with e | e
  · exact h.view e hs
  · exact h.reset e hs

/-! ### The clock (log entry 19) -/

omit h in
theorem whenDue {due : Bool} {event : State → State} (hs : P s) (he : P (event s)) : P (whenDue due event s) := by
  cases due
  · exact hs
  · exact he

theorem expireVehicle (hs : P s) : P (expireVehicle s) := by
  have record : ∀ {u}, P u → P (expireRecord u) := fun hu => whenDue hu (h.recordStales hu)
  have debounce : ∀ {u}, P u → P (expireDebounce u) := fun hu => whenDue hu (h.debounceExpires hu)
  have mismatch : ∀ {u}, P u → P (expireMismatch u) := fun hu => whenDue hu (h.mismatchExpires hu)
  have start : ∀ {u}, P u → P (expireStart u) := fun hu => whenDue hu (h.startExpires hu)
  have watchdog : ∀ {u}, P u → P (expireWatchdog u) := fun hu => whenDue hu (h.watchdogExpires hu)
  have linger : ∀ {u}, P u → P (expireLinger u) := fun hu => whenDue hu (h.lingerExpires hu)
  exact linger (watchdog (start (mismatch (debounce (record hs)))))

theorem tick (hs : P s) : P (tick s) := by
  have seat : ∀ {u} k, P u → P (expireSeat u k) := fun k hu => whenDue hu (h.inactivityExpires k hu)
  have voice : ∀ {u} v, P u → P (voiceTime u v) := fun v hu =>
    whenDue (h.voiceBlock v hu) (h.gapExpires v (h.voiceBlock v hu))
  have zone : ∀ {u} z, P u → P (zoneTime u z) := fun {u} z hu => by
    have held := whenDue (due := (u.zone z).holdTimer == some 0) hu (h.holdExpires z hu)
    unfold zoneTime
    exact h.elsewhere held (by simp)
  have advanced : P (advanceTimers s) := h.outside hs rfl
  exact foldl zone zones (foldl voice [0, 1, 2, 3] (foldl seat seats (h.expireVehicle advanced)))

theorem idle (hs : P s) : Q (idle s) := by
  unfold Machine.idle
  split
  · exact h.after (h.softResetEffect hs)
  · split
    · exact h.takeEntry hs
    · split
      · exact h.takeCommand hs
      · exact h.after (h.tick hs)

/-! ### The step -/

theorem pinChanges (level : Bool) (hs : P s) : P (pinChanges level s) := by
  unfold Machine.pinChanges
  split
  · exact hs
  · exact h.outside hs rfl

/-- Every command and event: `u` is its next state. -/
theorem exec (i : Instr) {u : State} (hs : P s) (he : exec i s = .next u) : Q u := by
  have ends : ∀ {v}, Host.Outcome.next v = (Host.Outcome.next u : Host.Outcome State Fault Refusal) → Q v → Q u :=
    fun e hv => Host.Outcome.next.inj e ▸ hv
  cases i with
  | fullReset => exact ends he (h.after (h.reset (s := s) (t := Machine.fullReset s) rfl hs))
  | softResetEffect => exact ends he (h.after (h.softResetEffect hs))
  | reversePinChange level => exact ends he (h.after (h.pinChanges level hs))
  | debounceExpiry => exact ends he (h.after (h.debounceExpires hs))
  | vehiclePacket bytes => exact ends he (h.receive _ _ _ h.after (fun p hu => h.after (h.vehicleArrives p hu)) hs)
  | recordStale => exact ends he (h.after (h.recordStales hs))
  | mismatchTimerExpiry => exact ends he (h.after (h.mismatchExpires hs))
  | startTimerExpiry => exact ends he (h.after (h.startExpires hs))
  | watchdogExpiry => exact ends he (h.after (h.watchdogExpires hs))
  | lingerTimerExpiry => exact ends he (h.after (h.lingerExpires hs))
  | linkLock link => exact ends he (h.after (h.reachUp link hs))
  | linkLossOfLock link => exact ends he (h.after (h.lossOfLock link hs))
  | framePacket rx bytes => exact ends he (h.receive _ _ _ h.after (fun p hu => h.frameArrives rx p hu) hs)
  | linePacket rx bytes => exact ends he (h.receive _ _ _ h.after (fun p hu => h.after (h.videoLine rx p hu)) hs)
  | fendPacket rx bytes => exact ends he (h.receive _ _ _ h.after (fun p hu => h.after (h.fendArrives rx p hu)) hs)
  | audioPacket bytes => exact ends he (h.receive _ _ _ h.after (fun p hu => h.after (h.soundArrives p hu)) hs)
  | ctrlPacket bytes => exact ends he (h.receive _ _ _ h.after (fun p hu => h.after (h.controlArrives p hu)) hs)
  | keyPacket seat bytes => exact ends he (h.receive _ _ _ h.after (fun p hu => h.after (h.keyArrives seat p.a hu)) hs)
  | lineWriteCompletion rx =>
    simp only [Machine.exec, execLineWriteCompletion] at he
    split at he
    · rename_i v hw
      exact ends he (h.after (h.lineWritten rx hw hs))
    · cases he
  | endOfFrame panel => exact ends he (h.after (h.endOfFrame panel hs))
  | renderCompletion =>
    simp only [Machine.exec, execRenderCompletion] at he
    split at he
    · exact ends he (h.after hs)
    · exact ends he (h.after (h.completeRender _ hs))
  | zoneBlockEvent zone => exact ends he (h.after (h.elsewhere hs (by simp)))
  | voiceBlockEvent voice => exact ends he (h.after (h.voiceBlock voice hs))
  | gapTimerExpiry voice => exact ends he (h.after (h.gapExpires voice hs))
  | holdTimerExpiry zone => exact ends he (h.after (h.holdExpires zone hs))
  | inactivityTimerExpiry seat => exact ends he (h.after (h.inactivityExpires seat hs))
  | arrayReady => exact ends he (h.after (h.arrayReady hs))
  | pageReadCompletion failed => exact ends he (h.after (h.readCompletes failed hs))
  | pageProgramCompletion verifiedPass => exact ends he (h.after (h.programCompletes verifiedPass hs))
  | eraseCompletion failedBlocks => exact ends he (h.after (h.eraseCompletes failedBlocks hs))
  | abortCompletion => exact ends he (h.after (h.abortCompletes hs))
  | commandTake => exact ends he (h.takeCommand hs)
  | waitingReplyAppend => exact ends he (h.after (h.view (ringView_waitingAppends s) hs))
  | sendCompletion => exact ends he (h.after (h.view (ringView_sendCompletes s) hs))
  | profileEntry => exact ends he (h.takeEntry hs)
  | resyncEndFlag link => exact ends he (h.after (h.endFlag link hs))
  | overlongPacket link => exact ends he (h.after (h.overlong link hs))
  | arrivedPacketDiscarded link bytes => exact ends he (h.after (h.discardPacket link bytes hs))
  | _ => exact ends he (h.runCommand _ _ hs)

/-- Every step ends in `Q`. -/
theorem step {u : State} (hs : P s) (he : step s = .next u) : Q u := by
  unfold Machine.step at he
  split at he
  · rename_i i rest _
    have popped : P { s with pending := rest } := h.outside hs rfl
    exact h.exec i popped he
  · exact Host.Outcome.next.inj he ▸ h.idle hs

end StepInvariant
end Sys2Proof.Machine
end

section
/-! The frame memory: its canonical form over every step, and the write of a staged line (R58, section 4.1). -/

namespace Sys2Proof.Machine

/-- RING_SET leaves the state or replaces a ring's record. -/
theorem ringSet_cases (p : RingSetParams) (s : State) : (ringSet p s).state = s ∨
    ∃ n : Fin 8, p.ring = n.val ∧ (∀ t, claims s n t = false) ∧ (∀ b ∈ (s.ring n).buffers, b.holds = 0) ∧
      (ringSet p s).state = s.setRing n
        { base := p.base, stride := p.stride, latest := none, buffers := List.replicate p.count .reset } := by
  unfold ringSet
  split
  · exact .inl rfl
  · rename_i n hn
    split
    · exact .inl rfl
    · rename_i free
      split
      · exact .inl rfl
      · refine .inr ⟨n, ?_, fun t => ?_, fun b hb => ?_, rfl⟩
        · unfold fin? at hn
          split at hn
          · exact congrArg Fin.val (Option.some.inj hn)
          · cases hn
        · simp only [List.any_eq_true, not_or, not_exists, not_and, Bool.not_eq_true] at free
          exact free.1 t (List.mem_finRange t)
        · simp only [List.any_eq_true, not_or, not_exists, not_and, decide_eq_true_eq, Nat.not_lt] at free
          exact Nat.le_zero.mp (free.2 b hb)

/-- A state with the same frame memory has it in the same form. -/
theorem MemoryCanonical.of_mem {s t : State} (h : MemoryCanonical s) (e : t.mem = s.mem) :
    MemoryCanonical t := by
  unfold MemoryCanonical
  rw [e]
  exact h

/-- Of all that a step does only a render, a glyph page and a staged line write the frame memory, and a write keeps its
canonical form. -/
theorem memoryCanonical_stepInvariant : StepInvariant MemoryCanonical MemoryCanonical where
  view e h := h.of_mem (congrArg RingView.mem e)
  viewAfter e h := h.of_mem (congrArg RingView.mem e)
  after h := h
  write a bs h := Memory.writeBlock_wf _ a bs h
  reset e h := h.of_mem (congrArg RingView.mem e)
  dropHold _ _ h := h.of_mem (by simp)
  dropCameraHold h := h.of_mem (by simp)
  pickUpLayer _ _ h := h.of_mem (by simp)
  cameraLayerStart h := h.of_mem (by simp)
  retag _ h := h.of_mem (by simp)
  abandonFrame _ h := h.of_mem (by simp)
  endFrame _ _ _ h := h.of_mem (by simp)
  ringSet {s} p h := by
    rcases ringSet_cases p s with e | ⟨n, -, -, -, e⟩ <;> rw [e]
    · exact h
    · exact h.of_mem (by simp)
  beginFrame _ _ _ _ h := h.of_mem (by simp)
  clearTags h := h.of_mem rfl

/-- Settles O60: every write of a step keeps the canonical form. -/
theorem everyStepKeepsTheMemoryCanonical : Obligations.EveryStepKeepsTheMemoryCanonical := by
  unfold Obligations.EveryStepKeepsTheMemoryCanonical
  exact fun _ _ canonical stepped => memoryCanonical_stepInvariant.step canonical stepped

/-! ### The write completion (R58) -/

theorem exec_lineWriteCompletion {rx : VideoRx} {s t : State} (h : lineWritten rx s = .ok t) :
    exec (.lineWriteCompletion rx) s = .next t := by
  simp [exec, execLineWriteCompletion, h]

/-- Settles O18: the completion by the place of the oldest staged line, its bytes by the laws of a write. -/
theorem lineWriteCompletionWritesTheLine : Obligations.LineWriteCompletionWritesTheLine := by
  unfold Obligations.LineWriteCompletionWritesTheLine
  refine fun rx l rest s => ⟨fun staged inside => ?_, fun empty => ?_, fun staged outside => ?_⟩
  · refine ⟨Memory.writeBlock s.mem l.address l.bytes, exec_lineWriteCompletion ?_,
      fun i b hb => Memory.read_writeBlock_getElem? _ hb, fun a ha => Memory.read_writeBlock_outside _ _ _ _ ha⟩
    simp [lineWritten, staged, Config.frameMemoryBytes, inside, writeStaged]
  · exact exec_lineWriteCompletion (by simp [lineWritten, empty])
  · simp [exec, execLineWriteCompletion, lineWritten, staged, Config.frameMemoryBytes, Nat.not_le.mpr outside]

end Sys2Proof.Machine
end

section
/-! Frames in progress: what each operation of R55, R59, R60 and R65 makes of the tags and the rings. -/

namespace Sys2Proof.Machine

variable {s : State} {t u : Fin 32} {c : FrameContext}

/-! ### Tags, rings and ports, written twice and read back -/

@[simp] theorem State.setTag_setTag (s : State) (t : Fin 32) (a b : TagRecord) :
    (s.setTag t a).setTag t b = s.setTag t b := by
  simp [State.setTag]

theorem State.setTag_setRing (s : State) (t : Fin 32) (a : TagRecord) (n : Fin 8) (r : Ring) :
    (s.setTag t a).setRing n r = (s.setRing n r).setTag t a := rfl

/-- The record a tag's counters are changed in (R70). -/
theorem countTag_setTag (s : State) (t : Fin 32) (a : TagRecord) (f : TagCounters → TagCounters) :
    countTag t f (s.setTag t a) = s.setTag t { a with counters := f a.counters } := by
  simp [countTag]

/-! ### A frame leaves progress (R59, R60) -/

@[simp] theorem freeBuffer_tag (c : FrameContext) (s : State) (t : Fin 32) : (freeBuffer c s).tag t = s.tag t := by
  unfold freeBuffer
  split <;> simp

@[simp] theorem dropStaged_tag (u : Fin 32) (rx : VideoRx) (s : State) : (dropStaged u rx s).tag t = s.tag t := by
  simp [dropStaged]

@[simp] theorem dropStaged_ring (u : Fin 32) (rx : VideoRx) (s : State) (n : Fin 8) :
    (dropStaged u rx s).ring n = s.ring n := by
  simp [dropStaged]

@[simp] theorem settleStaged_tag (u : Fin 32) (rx : VideoRx) (s : State) : (settleStaged u rx s).tag t = s.tag t := by
  simp [settleStaged]

@[simp] theorem settleStaged_ring (u : Fin 32) (rx : VideoRx) (s : State) (n : Fin 8) :
    (settleStaged u rx s).ring n = s.ring n := by
  simp [settleStaged]

/-- A frame discarded: its staged lines gone, its buffer FREE, its count made. -/
theorem discardFrame_eq (t : Fin 32) (c : FrameContext) (f : TagCounters → TagCounters) (s : State) :
    discardFrame t c f s = (freeBuffer c (dropStaged t c.link s)).setTag t
      { s.tag t with frame := none, counters := f (s.tag t).counters } := by
  simp [discardFrame, countTag_setTag]

@[simp] theorem discardFrame_tag (t : Fin 32) (c : FrameContext) (f : TagCounters → TagCounters) (s : State) :
    (discardFrame t c f s).tag t = { s.tag t with frame := none, counters := f (s.tag t).counters } := by
  rw [discardFrame_eq, State.tag_setTag]

theorem discardFrame_tag_ne (h : u ≠ t) (c : FrameContext) (f : TagCounters → TagCounters) (s : State) :
    (discardFrame t c f s).tag u = s.tag u := by
  simp [discardFrame_eq, State.tag_setTag_ne _ _ _ _ h]

theorem discardFrame_ring (t : Fin 32) (c : FrameContext) (f : TagCounters → TagCounters) (s : State) (n : Fin 8) :
    (discardFrame t c f s).ring n = (freeBuffer c s).ring n := by
  rw [discardFrame_eq, State.setTag_ring]
  unfold freeBuffer
  split
  · simp
  · by_cases h : n = c.ring
    · simp [h]
    · simp [State.ring_setRing_ne _ _ _ _ h]

theorem abandonFrame_none (h : (s.tag t).frame = none) : abandonFrame t s = s := by simp [abandonFrame, h]

theorem abandonFrame_some (h : (s.tag t).frame = some c) : abandonFrame t s =
    discardFrame t c (fun k => { k with frameAbandoned := bump k.frameAbandoned }) s := by simp [abandonFrame, h]

/-- After an abandoning the tag has no frame in progress. -/
@[simp] theorem abandonFrame_frame (t : Fin 32) (s : State) : ((abandonFrame t s).tag t).frame = none := by
  cases h : (s.tag t).frame with
  | none => rw [abandonFrame_none h, h]
  | some c => rw [abandonFrame_some h, discardFrame_tag]

theorem abandonFrame_tag_ne (h : u ≠ t) (s : State) : (abandonFrame t s).tag u = s.tag u := by
  cases hf : (s.tag t).frame with
  | none => rw [abandonFrame_none hf]
  | some c => rw [abandonFrame_some hf, discardFrame_tag_ne h]

/-! ### A frame begins (R55, R65) -/

/-- The context of a frame that begins (section 3.3). -/
def newFrame (rx : VideoRx) (number : Nat) (d : VideoDescriptor) (buffer : Option Nat) : FrameContext :=
  { number := number, width := d.width, height := d.height, format := d.format, ring := d.ring, damage := d.damage,
    link := rx, buffer := buffer, marks := List.replicate d.height .unseen }

/-- A new frame begins once the tag's frame in progress is abandoned. -/
theorem beginFrame_abandon (t : Fin 32) (rx : VideoRx) (n : Nat) (d : VideoDescriptor) (s : State) :
    beginFrame t rx n d s = beginFrame t rx n d (abandonFrame t s) := by
  unfold beginFrame
  rw [abandonFrame_none (abandonFrame_frame t s)]

theorem beginFrame_skipped (h : (s.tag t).frame = none) {d : VideoDescriptor} (hw : writerChoice (s.ring d.ring) = none)
    (rx : VideoRx) (n : Nat) : beginFrame t rx n d s = s.setTag t { s.tag t with
      frame := some (newFrame rx n d none),
      counters := { (s.tag t).counters with frameIn := bump (s.tag t).counters.frameIn } } := by
  simp [beginFrame, abandonFrame_none h, loadFrame, hw, countTag_setTag, newFrame]

theorem beginFrame_free (h : (s.tag t).frame = none) {d : VideoDescriptor} {k : Nat}
    (hw : writerChoice (s.ring d.ring) = some (k, false)) (rx : VideoRx) (n : Nat) : beginFrame t rx n d s =
      (s.setRing d.ring ((s.ring d.ring).modify k (Buffer.taken n d))).setTag t { s.tag t with
        frame := some (newFrame rx n d (some k)),
        counters := { (s.tag t).counters with frameIn := bump (s.tag t).counters.frameIn } } := by
  simp [beginFrame, abandonFrame_none h, loadFrame, hw, countTag_setTag, newFrame]

theorem beginFrame_overwrites (h : (s.tag t).frame = none) {d : VideoDescriptor} {k : Nat}
    (hw : writerChoice (s.ring d.ring) = some (k, true)) (rx : VideoRx) (n : Nat) : beginFrame t rx n d s =
      (s.setRing d.ring { (s.ring d.ring).modify k (Buffer.taken n d) with latest := none }).setTag t { s.tag t with
        frame := some (newFrame rx n d (some k)),
        counters := { (s.tag t).counters with
          frameIn := bump (s.tag t).counters.frameIn,
          frameOverwrite := bump (s.tag t).counters.frameOverwrite } } := by
  simp [beginFrame, abandonFrame_none h, loadFrame, hw, countTag_setTag, newFrame]

theorem beginFrame_tag_ne (h : u ≠ t) (rx : VideoRx) (n : Nat) (d : VideoDescriptor) (s : State) :
    (beginFrame t rx n d s).tag u = s.tag u := by
  rw [beginFrame_abandon, ← abandonFrame_tag_ne h s]
  have none := abandonFrame_frame t s
  cases hw : writerChoice ((abandonFrame t s).ring d.ring) with
  | none => rw [beginFrame_skipped none hw, State.tag_setTag_ne _ _ _ _ h]
  | some q =>
    obtain ⟨k, overwrites⟩ := q
    cases overwrites with
    | false => rw [beginFrame_free none hw, State.tag_setTag_ne _ _ _ _ h, State.setRing_tag]
    | true => rw [beginFrame_overwrites none hw, State.tag_setTag_ne _ _ _ _ h, State.setRing_tag]

/-! ### A frame ends (R59, R66) -/

/-- The counts of a completed frame (R59, R66). -/
def TagCounters.completed (k : TagCounters) (r : Ring) : TagCounters :=
  { k with frameDone := bump k.frameDone, frameUnshown := if r.unshown then bump k.frameUnshown else k.frameUnshown }

theorem fendCase_orphan (h : (s.tag t).frame = none) (n : Nat) : fendCase t n s = .orphan := by simp [fendCase, h]

theorem fendCase_mismatch (h : (s.tag t).frame = some c) {n : Nat} (hn : n ≠ c.number) : fendCase t n s = .mismatch c := by
  simp [fendCase, h, hn]

theorem fendCase_skipped (h : (s.tag t).frame = some c) (hb : c.buffer = none) : fendCase t c.number s = .skipped c := by
  simp [fendCase, h, hb]

theorem fendCase_damaged (h : (s.tag t).frame = some c) {k : Nat} (hb : c.buffer = some k) (hd : c.damage < damagedLines c) :
    fendCase t c.number s = .damaged c := by
  simp [fendCase, h, hb, hd]

theorem fendCase_complete (h : (s.tag t).frame = some c) {k : Nat} (hb : c.buffer = some k) (hd : damagedLines c ≤ c.damage) :
    fendCase t c.number s = .complete c k := by
  simp [fendCase, h, hb, Nat.not_lt.mpr hd]

/-- The five cases of R59. -/
theorem fendCase_cases (t : Fin 32) (n : Nat) (s : State) : ((s.tag t).frame = none ∧ fendCase t n s = .orphan) ∨
    ∃ c, (s.tag t).frame = some c ∧ (fendCase t n s = .mismatch c ∨ fendCase t n s = .skipped c ∨
      fendCase t n s = .damaged c ∨ ∃ k, c.buffer = some k ∧ fendCase t n s = .complete c k) := by
  cases h : (s.tag t).frame with
  | none => exact .inl ⟨rfl, fendCase_orphan h n⟩
  | some c =>
    refine .inr ⟨c, rfl, ?_⟩
    by_cases hn : n = c.number
    · subst hn
      cases hb : c.buffer with
      | none => exact .inr (.inl (fendCase_skipped h hb))
      | some k =>
        rcases Nat.lt_or_ge c.damage (damagedLines c) with hd | hd
        · exact .inr (.inr (.inl (fendCase_damaged h hb hd)))
        · exact .inr (.inr (.inr ⟨k, rfl, fendCase_complete h hb hd⟩))
    · exact .inl (fendCase_mismatch h hn)

theorem endFrame_orphan {n : Nat} (h : fendCase t n s = .orphan) (rx : VideoRx) :
    endFrame t rx n s = countPort rx (fun c => { c with orphan := bump c.orphan }) s := by
  simp [endFrame, h]

theorem endFrame_mismatch {n : Nat} (h : fendCase t n s = .mismatch c) (rx : VideoRx) :
    endFrame t rx n s = discardFrame t c (fun k => { k with mismatch := bump k.mismatch }) s := by
  simp [endFrame, h]

theorem endFrame_skipped {n : Nat} (h : fendCase t n s = .skipped c) (rx : VideoRx) :
    endFrame t rx n s = discardFrame t c (fun k => { k with frameSkip := bump k.frameSkip }) s := by
  simp [endFrame, h]

theorem endFrame_damaged {n : Nat} (h : fendCase t n s = .damaged c) (rx : VideoRx) :
    endFrame t rx n s = discardFrame t c (fun k => { k with frameDamaged := bump k.frameDamaged }) s := by
  simp [endFrame, h]

theorem endFrame_complete {n k : Nat} (h : fendCase t n s = .complete c k) (rx : VideoRx) :
    endFrame t rx n s = ((settleStaged t c.link s).setRing c.ring ((s.ring c.ring).complete k (damagedLines c))).setTag t
      { s.tag t with frame := none, counters := (s.tag t).counters.completed (s.ring c.ring) } := by
  simp [endFrame, h, State.setTag_setRing, countTag_setTag, TagCounters.completed]

end Sys2Proof.Machine
end

section
/-! The conservation of every tag's frames (R70), through every step. -/

namespace Sys2Proof.Machine

/-! ### Readers change no tag (R67, R68) -/

@[simp] theorem setHold_tag (p : Panel) (id : Fin 6) (h : Option Hold) (s : State) (t : Fin 32) :
    (setHold p id h s).tag t = s.tag t := by simp [setHold]

@[simp] theorem releaseHold_tag (h : Hold) (s : State) (t : Fin 32) : (releaseHold h s).tag t = s.tag t := rfl

@[simp] theorem takeHold_tag (h : Hold) (s : State) (t : Fin 32) : (takeHold h s).tag t = s.tag t := rfl

@[simp] theorem pickUp_tag (n : Fin 8) (held : Option Hold) (s : State) (t : Fin 32) :
    (pickUp n held s).2.tag t = s.tag t := by
  unfold pickUp
  split
  · rfl
  · dsimp only
    split
    · rfl
    · split <;> simp

@[simp] theorem dropHold_tag (p : Panel) (id : Fin 6) (s : State) (t : Fin 32) : (dropHold p id s).tag t = s.tag t := by
  unfold dropHold
  split <;> simp

@[simp] theorem dropCameraHold_tag (s : State) (t : Fin 32) : (dropCameraHold s).tag t = s.tag t := by
  unfold dropCameraHold
  split <;> rfl

@[simp] theorem pickUpLayer_tag (p : Panel) (l : Layer) (s : State) (t : Fin 32) :
    (pickUpLayer p l s).tag t = s.tag t := by
  unfold pickUpLayer
  split <;> simp

@[simp] theorem cameraLayerStart_tag (s : State) (t : Fin 32) : (cameraLayerStart s).tag t = s.tag t := by
  unfold cameraLayerStart
  split
  · simp
  · split
    · simp
    · exact pickUp_tag _ _ _ t

theorem tag_of_reset {s u : State} (e : u.ringView = { State.reset.ringView with mem := s.mem }) (t : Fin 32) :
    u.tag t = .reset := by
  have tags : u.streams.tags = Vector.replicate 32 .reset := congrArg RingView.tags e
  simp [State.tag, tags]

theorem clearTags_tag (s : State) (t : Fin 32) :
    (clearGroup .streams s).tag t = { s.tag t with counters := .zero } := by
  simp [clearGroup, State.tag]

/-! ### The sum of R70 -/

/-- `FramesBalanced`, of a tag's record. -/
def TagRecord.balanced (r : TagRecord) : Prop :=
  r.counters.frameIn = r.counters.frameDone + r.counters.frameDamaged + r.counters.mismatch + r.counters.frameAbandoned
    + r.counters.frameSkip + (if r.frame.isSome then 1 else 0)

theorem framesBalanced_iff (t : Fin 32) (s : State) : FramesBalanced t s ↔ (s.tag t).balanced := Iff.rfl

/-- The sum, with room for one more frame. -/
def TagRecord.conserved (r : TagRecord) : Prop := r.balanced ∧ r.counters.frameIn < 4294967295

theorem TagRecord.conserved_reset : TagRecord.reset.conserved := ⟨rfl, by decide⟩

theorem bump_eq {n : Nat} (h : n < 4294967295) : bump n = n + 1 := by
  simp only [bump, Config.counterMax]
  omega

theorem TagRecord.Alike.conserved {a b : TagRecord} (e : a.Alike b) (h : b.conserved) : a.conserved := by
  have frame : a.frame.isSome = b.frame.isSome := by simpa using congrArg Option.isSome e.frame
  obtain ⟨sum, room⟩ := h
  refine ⟨?_, e.frameIn ▸ room⟩
  simpa [TagRecord.balanced, frame, e.frameIn, e.frameDone, e.frameDamaged, e.mismatch, e.frameAbandoned, e.frameSkip] using sum

/-- A frame in progress that ends is counted once (R59, R60). -/
theorem TagRecord.conserved.ended {r : TagRecord} (h : r.conserved) {c : FrameContext} (hc : r.frame = some c)
    {k : TagCounters} (frameIn : k.frameIn = r.counters.frameIn)
    (one : k.frameDone + k.frameDamaged + k.mismatch + k.frameAbandoned + k.frameSkip =
      r.counters.frameDone + r.counters.frameDamaged + r.counters.mismatch + r.counters.frameAbandoned
        + r.counters.frameSkip + 1) : { r with frame := none, counters := k }.conserved := by
  obtain ⟨sum, room⟩ := h
  simp only [TagRecord.balanced, hc, Option.isSome_some, ↓reduceIte] at sum
  refine ⟨?_, by simpa [frameIn] using room⟩
  simp only [TagRecord.balanced, Option.isSome_none, Bool.false_eq_true, ↓reduceIte]
  omega

/-- No count of R70 is above FRAME_IN. -/
theorem TagRecord.conserved.below {r : TagRecord} (h : r.conserved) :
    r.counters.frameDone < 4294967295 ∧ r.counters.frameDamaged < 4294967295 ∧ r.counters.mismatch < 4294967295 ∧
      r.counters.frameAbandoned < 4294967295 ∧ r.counters.frameSkip < 4294967295 := by
  obtain ⟨sum, room⟩ := h
  simp only [TagRecord.balanced] at sum
  refine ⟨?_, ?_, ?_, ?_, ?_⟩ <;> omega

/-- A frame that begins when none is in progress is one more of both sides (R55). -/
theorem TagRecord.conserved.begun {r : TagRecord} (h : r.conserved) (hn : r.frame = none) (c : FrameContext) (overwrite : Nat) :
    { r with frame := some c, counters := { r.counters with
      frameIn := bump r.counters.frameIn, frameOverwrite := overwrite } }.balanced := by
  obtain ⟨sum, room⟩ := h
  simp only [TagRecord.balanced, hn, Option.isSome_none, Bool.false_eq_true, ↓reduceIte] at sum
  simp only [TagRecord.balanced, bump_eq room, Option.isSome_some, ↓reduceIte]
  omega

variable {s : State} {t : Fin 32}

theorem abandonFrame_conserved (h : (s.tag t).conserved) (u : Fin 32) : ((abandonFrame u s).tag t).conserved := by
  by_cases e : t = u
  · subst e
    cases hc : (s.tag t).frame with
    | none => rwa [abandonFrame_none hc]
    | some c =>
      rw [abandonFrame_some hc, discardFrame_tag]
      have below := h.below
      exact h.ended hc rfl (by simp only [bump_eq below.2.2.2.1]; omega)
  · rwa [abandonFrame_tag_ne e]

theorem endFrame_conserved (h : (s.tag t).conserved) (u : Fin 32) (rx : VideoRx) (n : Nat) :
    ((endFrame u rx n s).tag t).conserved := by
  obtain ⟨doneMax, damagedMax, mismatchMax, -, skipMax⟩ := h.below
  rcases fendCase_cases u n s with ⟨-, e⟩ | ⟨c, hc, e | e | e | ⟨k, -, e⟩⟩
  · rw [endFrame_orphan e]
    simpa [countPort] using h
  all_goals by_cases hu : t = u
  · subst hu
    rw [endFrame_mismatch e, discardFrame_tag]
    exact h.ended hc rfl (by simp only [bump_eq mismatchMax]; omega)
  · rwa [endFrame_mismatch e, discardFrame_tag_ne hu]
  · subst hu
    rw [endFrame_skipped e, discardFrame_tag]
    exact h.ended hc rfl (by simp only [bump_eq skipMax]; omega)
  · rwa [endFrame_skipped e, discardFrame_tag_ne hu]
  · subst hu
    rw [endFrame_damaged e, discardFrame_tag]
    exact h.ended hc rfl (by simp only [bump_eq damagedMax]; omega)
  · rwa [endFrame_damaged e, discardFrame_tag_ne hu]
  · subst hu
    rw [endFrame_complete e, State.tag_setTag]
    exact h.ended hc rfl (by simp only [TagCounters.completed, bump_eq doneMax]; omega)
  · rw [endFrame_complete e, State.tag_setTag_ne _ _ _ _ hu]
    simpa using h

theorem beginFrame_balanced (h : (s.tag t).conserved) (u : Fin 32) (rx : VideoRx) (n : Nat) (d : VideoDescriptor) :
    ((beginFrame u rx n d s).tag t).balanced := by
  by_cases hu : t = u
  · subst hu
    rw [beginFrame_abandon]
    have none := abandonFrame_frame t s
    have conserved := abandonFrame_conserved h t
    cases hw : writerChoice ((abandonFrame t s).ring d.ring) with
    | none =>
      rw [beginFrame_skipped none hw, State.tag_setTag]
      exact conserved.begun none _ _
    | some q =>
      obtain ⟨k, overwrites⟩ := q
      cases overwrites with
      | false =>
        rw [beginFrame_free none hw, State.tag_setTag]
        exact conserved.begun none _ _
      | true =>
        rw [beginFrame_overwrites none hw, State.tag_setTag]
        exact conserved.begun none _ _
  · rw [beginFrame_tag_ne hu]
    exact h.1

/-- The sum of R70 through a step: a FRAME can use up the room, and COUNTERS_READ clears both sides but not the frame. -/
theorem conserved_stepInvariant (t : Fin 32) : StepInvariant (fun s => (s.tag t).conserved)
    (fun s => (s.tag t).balanced ∨ (s.tag t).counters = .zero) where
  view e h := by rwa [tag_of_ringView e]
  viewAfter e h := by rwa [tag_of_ringView e]
  after h := .inl h.1
  write _ _ h := h
  reset e _ := by
    rw [tag_of_reset e]
    exact TagRecord.conserved_reset
  dropHold _ _ h := by simpa using h
  dropCameraHold h := by simpa using h
  pickUpLayer _ _ h := by simpa using h
  cameraLayerStart h := by simpa using h
  retag {s u r} e h := by
    by_cases hu : t = u
    · subst hu
      rw [State.tag_setTag]
      exact e.conserved h
    · rwa [State.tag_setTag_ne _ _ _ _ hu]
  abandonFrame u h := abandonFrame_conserved h u
  endFrame u rx n h := endFrame_conserved h u rx n
  ringSet {s} p h := by
    rcases ringSet_cases p s with e | ⟨n, -, -, -, e⟩ <;> rw [e]
    · exact h
    · exact h
  beginFrame u rx n d h := .inl (beginFrame_balanced h u rx n d)
  clearTags {s} _ := .inr (by rw [clearTags_tag])

end Sys2Proof.Machine
end

section
/-! The law of the frame rings over tags and readers (R64 to R68), through every step. -/

namespace Sys2Proof.Machine

/-! ### The law, place by place -/

/-- A tag's frame in progress fills a buffer of a ring. -/
def Fills (s : State) (n : Fin 8) (k : Nat) (t : Fin 32) : Prop :=
  (s.tag t).frame.map (fun c => (c.ring, c.buffer)) = some (n, some k)

theorem fills_iff {s : State} {n : Fin 8} {k : Nat} {t : Fin 32} :
    Fills s n k t ↔ ∃ c, (s.tag t).frame = some c ∧ c.ring = n ∧ c.buffer = some k := by
  simp [Fills, Option.map_eq_some_iff]

/-- What tags and readers make of one place of a ring: only one frame fills it; a buffer there is FILLING just when one
does and counts its readers; a place past the ring's end has neither. -/
def PlaceLaw (place : Option Buffer) (fills : Fin 32 → Prop) (held : Nat) : Prop :=
  (∀ t u, fills t → fills u → t = u) ∧
  (place = none → (∀ t, ¬ fills t) ∧ held = 0) ∧
  ∀ b, place = some b → (b.state = .filling ↔ ∃ t, fills t) ∧ b.holds = held

/-- Every ring keeps R64 and every place its law, `held` telling how many readers hold each buffer. -/
structure LawfulWith (held : Hold → Nat) (s : State) : Prop where
  rings : ∀ n, RingLawful (s.ring n)
  places : ∀ n k, PlaceLaw (s.ring n).buffers[k]? (Fills s n k) (held ⟨n, k⟩)

theorem ringsLawful_iff (s : State) : RingsLawful s ↔ LawfulWith (fun h => (heldBuffers s).count h) s := by
  constructor
  · intro law
    refine ⟨law.rings, fun n k => ⟨fun t u ht hu => ?_, fun none => ⟨fun t ht => ?_, ?_⟩, fun b hb => ⟨?_, law.holds n k b hb⟩⟩⟩
    · obtain ⟨c, hc, rfl, hk⟩ := fills_iff.mp ht
      obtain ⟨d, hd, same, hk'⟩ := fills_iff.mp hu
      exact law.alone t u c d k hc hd same.symm hk hk'
    · obtain ⟨c, hc, rfl, hk⟩ := fills_iff.mp ht
      exact absurd (law.frames t c k hc hk) (by simpa using none)
    · refine List.count_eq_zero.mpr fun mem => absurd (law.readers _ mem) (by simpa using none)
    · simp only [fills_iff]
      exact law.filling n k b hb
  · intro law
    refine ⟨law.rings, fun n k b hb => ?_, fun t c k hc hk => ?_, fun t u c d k hc hd same hk hk' => ?_, fun h mem => ?_,
      fun n k b hb => ((law.places n k).2.2 b hb).2⟩
    · simpa only [fills_iff] using ((law.places n k).2.2 b hb).1
    · by_contra none
      exact ((law.places c.ring k).2.1 (by simpa using none)).1 t (fills_iff.mpr ⟨c, hc, rfl, hk⟩)
    · exact (law.places c.ring k).1 t u (fills_iff.mpr ⟨c, hc, rfl, hk⟩) (fills_iff.mpr ⟨d, hd, same.symm, hk'⟩)
    · by_contra none
      exact List.count_eq_zero.mp ((law.places h.ring h.buffer).2.1 (by simpa using none)).2 mem

variable {held held' : Hold → Nat} {s u : State} {n : Fin 8} {r : Ring} {k : Nat} {t : Fin 32} {c : FrameContext}

/-- A state with the same rings, frames in progress and readers. -/
theorem LawfulWith.congr (law : LawfulWith held s) (rings : ∀ n, u.ring n = s.ring n)
    (frames : ∀ n k t, Fills u n k t ↔ Fills s n k t) (readers : ∀ h, held' h = held h) : LawfulWith held' u := by
  have fills : ∀ n k, Fills u n k = Fills s n k := fun n k => funext fun t => propext (frames n k t)
  refine ⟨fun n => ?_, fun n k => ?_⟩
  · rw [rings]
    exact law.rings n
  · rw [rings, fills, readers]
    exact law.places n k

/-- One ring replaced: the law of the others stays, and the new ring's is shown. -/
theorem LawfulWith.replace (law : LawfulWith held s) (rings : ∀ m, u.ring m = (s.setRing n r).ring m) (lawful : RingLawful r)
    (others : ∀ m, m ≠ n → ∀ k, (∀ t, Fills u m k t ↔ Fills s m k t) ∧ held' ⟨m, k⟩ = held ⟨m, k⟩)
    (places : ∀ k, PlaceLaw r.buffers[k]? (Fills u n k) (held' ⟨n, k⟩)) : LawfulWith held' u := by
  have each : ∀ m, RingLawful (u.ring m) ∧ ∀ k, PlaceLaw (u.ring m).buffers[k]? (Fills u m k) (held' ⟨m, k⟩) := by
    intro m
    by_cases e : m = n
    · subst e
      rw [rings, State.ring_setRing]
      exact ⟨lawful, places⟩
    · rw [rings, State.ring_setRing_ne _ _ _ _ e]
      refine ⟨law.rings m, fun k => ?_⟩
      rw [show Fills u m k = Fills s m k from funext fun t => propext ((others m e k).1 t), (others m e k).2]
      exact law.places m k
  exact ⟨fun m => (each m).1, fun m k => (each m).2 k⟩

/-- One buffer changed: its place must keep the law, the others keep theirs. -/
theorem LawfulWith.modify {f : Buffer → Buffer} (law : LawfulWith held s) (rings : ∀ m, u.ring m = (s.setRing n r).ring m)
    (lawful : RingLawful r) (buffers : r.buffers = ((s.ring n).modify k f).buffers)
    (others : ∀ m j, ¬ (m = n ∧ j = k) → (∀ t, Fills u m j t ↔ Fills s m j t) ∧ held' ⟨m, j⟩ = held ⟨m, j⟩)
    (place : PlaceLaw ((s.ring n).buffers[k]?.map f) (Fills u n k) (held' ⟨n, k⟩)) : LawfulWith held' u := by
  refine law.replace rings lawful (fun m hm j => others m j (fun e => hm e.1)) fun j => ?_
  rw [buffers, Ring.buffers_modify]
  split
  case isTrue e =>
    subst e
    exact place
  case isFalse e =>
    have same := others n j (fun e' => e e'.2)
    rw [show Fills u n j = Fills s n j from funext fun t => propext (same.1 t), same.2]
    exact law.places n j

/-- A buffer that no frame fills and that is not FILLING. -/
theorem PlaceLaw.of_unfilled {b : Buffer} {fills : Fin 32 → Prop} {held : Nat} (none : ∀ t, ¬ fills t)
    (state : b.state ≠ .filling) (holds : b.holds = held) : PlaceLaw (some b) fills held := by
  refine ⟨fun t _ ht => absurd ht (none t), by simp, fun x hx => ?_⟩
  obtain rfl := Option.some.inj hx
  exact ⟨⟨fun e => absurd e state, fun ⟨t, ht⟩ => absurd ht (none t)⟩, holds⟩

theorem LawfulWith.buffer (law : LawfulWith held s) {b : Buffer} (hb : (s.ring n).buffers[k]? = some b) :
    (b.state = .filling ↔ ∃ t, Fills s n k t) ∧ b.holds = held ⟨n, k⟩ := (law.places n k).2.2 b hb

theorem LawfulWith.unfilled (law : LawfulWith held s) {b : Buffer} (hb : (s.ring n).buffers[k]? = some b)
    (state : b.state ≠ .filling) (t : Fin 32) : ¬ Fills s n k t := fun ht => state ((law.buffer hb).1.mpr ⟨t, ht⟩)

theorem LawfulWith.held_buffer (law : LawfulWith held s) (readers : 0 < held ⟨n, k⟩) :
    ∃ b, (s.ring n).buffers[k]? = some b ∧ b.holds = held ⟨n, k⟩ := by
  cases hb : (s.ring n).buffers[k]? with
  | none => exact absurd ((law.places n k).2.1 hb).2 (by omega)
  | some b => exact ⟨b, rfl, (law.buffer hb).2⟩

/-- A frame in progress fills a FILLING buffer, and no other frame does. -/
theorem LawfulWith.filled (law : LawfulWith held s) (ht : Fills s n k t) :
    (∃ b, (s.ring n).buffers[k]? = some b ∧ b.state = .filling ∧ b.holds = held ⟨n, k⟩) ∧ ∀ v, Fills s n k v → v = t := by
  refine ⟨?_, fun v hv => (law.places n k).1 v t hv ht⟩
  cases hb : (s.ring n).buffers[k]? with
  | none => exact absurd ht (((law.places n k).2.1 hb).1 t)
  | some b => exact ⟨b, rfl, (law.buffer hb).1.mpr ⟨t, ht⟩, (law.buffer hb).2⟩

/-! ### Readers (R67, R68) -/

theorem LawfulWith.release (law : LawfulWith held s) (h : Hold) (one : ∀ g, held' g + [h].count g = held g) :
    LawfulWith held' (releaseHold h s) := by
  obtain ⟨n, k⟩ := h
  have here : held' ⟨n, k⟩ + 1 = held ⟨n, k⟩ := by simpa using one ⟨n, k⟩
  obtain ⟨b, hb, holds⟩ := law.held_buffer (n := n) (k := k) (by omega)
  have complete : b.state = .complete := by
    by_contra hs
    have := ((law.rings n).buffer hb).1 hs
    omega
  refine law.modify (fun _ => rfl) ((law.rings n).release ⟨b, hb, by omega⟩) rfl (fun m j e => ⟨fun _ => Iff.rfl, ?_⟩) ?_
  · have ne : (⟨n, k⟩ : Hold) ≠ ⟨m, j⟩ := fun e' => e (by simp_all)
    simpa [ne] using one ⟨m, j⟩
  · rw [hb]
    refine PlaceLaw.of_unfilled (law.unfilled hb (by simp [complete])) ?_ ?_
    · dsimp only
      split <;> simp [complete]
    · dsimp only
      split <;> simp only <;> omega

theorem LawfulWith.take (law : LawfulWith held s) (latest : (s.ring n).latest = some k)
    (one : ∀ g, held' g = held g + [⟨n, k⟩].count g) : LawfulWith held' (takeHold ⟨n, k⟩ s) := by
  have here : held' ⟨n, k⟩ = held ⟨n, k⟩ + 1 := by simpa using one ⟨n, k⟩
  obtain ⟨b, hb, complete⟩ := (law.rings n).2.1 _ latest
  refine law.modify (fun _ => rfl) ((law.rings n).hold latest) rfl (fun m j e => ⟨fun _ => Iff.rfl, ?_⟩) ?_
  · have ne : (⟨n, k⟩ : Hold) ≠ ⟨m, j⟩ := fun e' => e (by simp_all)
    simpa [ne] using one ⟨m, j⟩
  · rw [hb]
    refine PlaceLaw.of_unfilled (law.unfilled hb (by simp [complete])) (by simp [complete]) ?_
    rw [here, ← (law.buffer hb).2]

theorem releaseHold_latest (h : Hold) (s : State) (n : Fin 8) : ((releaseHold h s).ring n).latest = (s.ring n).latest := by
  unfold releaseHold
  by_cases e : n = h.ring
  · subst e
    simp [Ring.release, Ring.modify]
  · rw [State.ring_setRing_ne _ _ _ _ e]

/-- A reader keeps what it holds, or takes the latest up after it released another buffer, if it held one. -/
theorem pickUp_cases (n : Fin 8) (old : Option Hold) (s : State) : pickUp n old s = (old, s) ∨
    ∃ k, (s.ring n).latest = some k ∧ (old = none ∧ pickUp n old s = (some ⟨n, k⟩, takeHold ⟨n, k⟩ s) ∨
      ∃ h, old = some h ∧ h ≠ ⟨n, k⟩ ∧ pickUp n old s = (some ⟨n, k⟩, takeHold ⟨n, k⟩ (releaseHold h s))) := by
  unfold pickUp
  split
  · exact .inl rfl
  · rename_i k latest
    dsimp only
    split
    · exact .inl rfl
    · rename_i other
      refine .inr ⟨k, latest, ?_⟩
      cases old with
      | none => exact .inl ⟨rfl, rfl⟩
      | some h => exact .inr ⟨h, rfl, fun e => other (by rw [e]), rfl⟩

/-- A reader that picks up: its old hold goes and its new one comes. -/
theorem LawfulWith.pickUp (law : LawfulWith held s) (n : Fin 8) (old : Option Hold)
    (one : ∀ g, held' g + old.toList.count g = held g + (pickUp n old s).1.toList.count g) :
    LawfulWith held' (pickUp n old s).2 := by
  rcases pickUp_cases n old s with e | ⟨k, latest, ⟨rfl, e⟩ | ⟨h, rfl, ne, e⟩⟩ <;> rw [e] at one ⊢
  · exact law.congr (fun _ => rfl) (fun _ _ _ => Iff.rfl) fun g => Nat.add_right_cancel (one g)
  · exact law.take latest (by simpa using one)
  · simp only [Option.toList_some] at one
    have apart : ∀ g, [h].count g ≤ held g := fun g => by
      by_cases eg : h = g
      · have := one g
        subst eg
        simp only [List.count_singleton_self, List.count_singleton, beq_iff_eq, Ne.symm ne, ↓reduceIte] at this
        rw [List.count_singleton_self]
        omega
      · simp [eg]
    refine LawfulWith.take (held := fun g => held g - [h].count g) (law.release h fun g => ?_)
      (by rw [releaseHold_latest, latest]) fun g => ?_
    · exact Nat.sub_add_cancel (apart g)
    · have := one g
      have := apart g
      omega

end Sys2Proof.Machine
end

section
/-! Frames and readers at work, and the law of the rings through every step (R64 to R68). -/

namespace Sys2Proof.Machine

variable {held held' : Hold → Nat} {s u : State} {n : Fin 8} {r : Ring} {k : Nat} {t : Fin 32} {c : FrameContext}

/-! ### Frames in progress (R55, R59, R60, R65, R66) -/

/-- The other tags' frames stay where they are. -/
theorem fills_of_ne (others : ∀ v, v ≠ t → u.tag v = s.tag v) {v : Fin 32} (hv : v ≠ t) : Fills u n k v ↔ Fills s n k v := by
  rw [Fills, Fills, others v hv]

theorem fills_of_frame (hc : (s.tag t).frame = some c) : Fills s n k t ↔ c.ring = n ∧ c.buffer = some k := by
  simp [Fills, hc]

theorem not_fills_of_none (h : (s.tag t).frame = none) : ¬ Fills s n k t := by simp [Fills, h]

/-- A frame that ends leaves the places that it did not fill as they are. -/
theorem fills_ended (hc : (s.tag t).frame = some c) (ended : (u.tag t).frame = none)
    (others : ∀ v, v ≠ t → u.tag v = s.tag v) (elsewhere : ¬ (c.ring = n ∧ c.buffer = some k)) (v : Fin 32) :
    Fills u n k v ↔ Fills s n k v := by
  by_cases e : v = t
  · subst e
    rw [fills_of_frame hc]
    exact iff_of_false (not_fills_of_none ended) elsewhere
  · exact fills_of_ne others e

/-- No frame fills the buffer that the ended frame filled. -/
theorem LawfulWith.vacated (law : LawfulWith held s) (hc : (s.tag t).frame = some c) (hk : c.buffer = some k)
    (ended : (u.tag t).frame = none) (others : ∀ v, v ≠ t → u.tag v = s.tag v) (v : Fin 32) : ¬ Fills u c.ring k v := by
  by_cases e : v = t
  · subst e
    exact not_fills_of_none ended
  · rw [fills_of_ne others e]
    exact fun hv => e ((law.filled ((fills_of_frame hc).mpr ⟨rfl, hk⟩)).2 v hv)

theorem LawfulWith.discard (law : LawfulWith held s) (hc : (s.tag t).frame = some c) (f : TagCounters → TagCounters) :
    LawfulWith held (discardFrame t c f s) := by
  have ended : ((discardFrame t c f s).tag t).frame = none := by rw [discardFrame_tag]
  have others : ∀ v, v ≠ t → (discardFrame t c f s).tag v = s.tag v := fun v hv => discardFrame_tag_ne hv c f s
  cases hk : c.buffer with
  | none =>
    refine law.congr (fun m => ?_) (fun m j => fills_ended hc ended others (by simp [hk])) fun _ => rfl
    rw [discardFrame_ring, freeBuffer, hk]
  | some k =>
    obtain ⟨⟨b, hb, filling, holds⟩, -⟩ := law.filled ((fills_of_frame hc).mpr ⟨rfl, hk⟩)
    refine law.modify (n := c.ring) (k := k) (fun m => ?_) ((law.rings c.ring).free hb filling) rfl
      (fun m j e => ⟨fills_ended hc ended others fun e' => e ⟨e'.1.symm, ?_⟩, rfl⟩) ?_
    · rw [discardFrame_ring, freeBuffer, hk]
    · exact Option.some.inj (e'.2.symm.trans hk)
    · rw [hb]
      exact PlaceLaw.of_unfilled (law.vacated hc hk ended others) (by simp) holds

theorem LawfulWith.abandon (law : LawfulWith held s) (t : Fin 32) : LawfulWith held (abandonFrame t s) := by
  cases hc : (s.tag t).frame with
  | none => rwa [abandonFrame_none hc]
  | some c =>
    rw [abandonFrame_some hc]
    exact law.discard hc _

/-- The latest before, retired, keeps its place's law: no frame fills it. -/
theorem PlaceLaw.retired {fills : Fin 32 → Prop} {count j : Nat} (lawful : RingLawful r)
    (place : PlaceLaw r.buffers[j]? fills count) : PlaceLaw r.retired.buffers[j]? fills count := by
  cases latest : r.latest with
  | none => rwa [Ring.retired_none latest]
  | some i =>
    rw [Ring.retired_some latest, Ring.buffers_modify]
    split
    case isFalse => exact place
    case isTrue e =>
      subst e
      obtain ⟨b, hb, complete⟩ := lawful.2.1 _ latest
      obtain ⟨filling, holds⟩ := place.2.2 b hb
      have none : ∀ t, ¬ fills t := fun t ht => by
        have := filling.mpr ⟨t, ht⟩
        simp [complete] at this
      rw [hb]
      refine PlaceLaw.of_unfilled none ?_ ?_
      · dsimp only
        split <;> simp [complete]
      · dsimp only
        split <;> exact holds

theorem LawfulWith.finish (law : LawfulWith held s) (hc : (s.tag t).frame = some c) (hk : c.buffer = some k) (damaged : Nat)
    (rings : ∀ m, u.ring m = (s.setRing c.ring ((s.ring c.ring).complete k damaged)).ring m)
    (ended : (u.tag t).frame = none) (others : ∀ v, v ≠ t → u.tag v = s.tag v) : LawfulWith held u := by
  have lawful := law.rings c.ring
  obtain ⟨⟨b, hb, -, -⟩, -⟩ := law.filled ((fills_of_frame hc).mpr ⟨rfl, hk⟩)
  have inside : k < (s.ring c.ring).buffers.length := (List.getElem?_eq_some_iff.mp hb).1
  refine law.replace rings (lawful.complete inside damaged)
    (fun m hm j => ⟨fills_ended hc ended others fun e => hm e.1.symm, rfl⟩) fun j => ?_
  have place := (law.places c.ring j).retired lawful
  rw [Ring.complete_eq, Ring.buffers_modify]
  split
  case isTrue e =>
    subst e
    obtain ⟨x, hx⟩ : ∃ x, (s.ring c.ring).retired.buffers[j]? = some x :=
      ⟨_, List.getElem?_eq_getElem (by rwa [Ring.retired_length])⟩
    rw [hx]
    exact PlaceLaw.of_unfilled (law.vacated hc hk ended others) (by simp) (place.2.2 x hx).2
  case isFalse e =>
    have same : Fills u c.ring j = Fills s c.ring j := funext fun v => propext
      (fills_ended hc ended others (fun e' => e (Option.some.inj (e'.2.symm.trans hk))) v)
    rwa [same]

theorem LawfulWith.fend (law : LawfulWith held s) (t : Fin 32) (rx : VideoRx) (n : Nat) :
    LawfulWith held (endFrame t rx n s) := by
  rcases fendCase_cases t n s with ⟨-, e⟩ | ⟨c, hc, e | e | e | ⟨k, hk, e⟩⟩
  · rw [endFrame_orphan e]
    exact law.congr (by simp [countPort]) (by simp [Fills, countPort]) fun _ => rfl
  · rw [endFrame_mismatch e]
    exact law.discard hc _
  · rw [endFrame_skipped e]
    exact law.discard hc _
  · rw [endFrame_damaged e]
    exact law.discard hc _
  · rw [endFrame_complete e]
    refine law.finish hc hk (damagedLines c) (fun m => ?_) (by simp) fun v hv => ?_
    · by_cases hm : m = c.ring
      · subst hm
        simp
      · simp [State.ring_setRing_ne _ _ _ _ hm]
    · simp [State.tag_setTag_ne _ _ _ _ hv]

/-- The buffer that the writer takes is FREE or COMPLETE. -/
theorem RingLawful.taken_not_filling (h : RingLawful r) {overwrites : Bool} (hc : writerChoice r = some (k, overwrites)) :
    ∃ b, r.buffers[k]? = some b ∧ b.state ≠ .filling := by
  cases overwrites with
  | false =>
    obtain ⟨b, hb, free⟩ := free_of_findIdx? (writerChoice_free_iff.mp hc)
    exact ⟨b, hb, by simp [free]⟩
  | true =>
    obtain ⟨b, hb, complete⟩ := h.2.1 k (writerChoice_overwrite_iff.mp hc).1
    exact ⟨b, hb, by simp [complete]⟩

/-- A frame that begins in a buffer of its ring. -/
theorem LawfulWith.start (law : LawfulWith held s) (none : (s.tag t).frame = none) {overwrites : Bool}
    (choice : writerChoice (s.ring n) = some (k, overwrites)) {number : Nat} {d : VideoDescriptor}
    (rings : ∀ m, u.ring m = (s.setRing n r).ring m) (lawful : RingLawful r)
    (buffers : r.buffers = ((s.ring n).modify k (Buffer.taken number d)).buffers)
    (hc : (u.tag t).frame = some c) (ring : c.ring = n) (buffer : c.buffer = some k)
    (others : ∀ v, v ≠ t → u.tag v = s.tag v) : LawfulWith held u := by
  obtain ⟨b, hb, state⟩ := (law.rings n).taken_not_filling choice
  have filler : ∀ v, Fills u n k v ↔ v = t := by
    intro v
    by_cases e : v = t
    · subst e
      exact iff_of_true ((fills_of_frame hc).mpr ⟨ring, buffer⟩) rfl
    · rw [fills_of_ne others e]
      exact iff_of_false (law.unfilled hb state v) e
  refine law.modify rings lawful buffers (fun m j e => ⟨fun v => ?_, rfl⟩) ?_
  · by_cases hv : v = t
    · subst hv
      rw [fills_of_frame hc]
      exact iff_of_false (fun e' => e ⟨e'.1.symm.trans ring, Option.some.inj (e'.2.symm.trans buffer)⟩) (not_fills_of_none none)
    · exact fills_of_ne others hv
  · rw [hb]
    refine ⟨fun v w hv hw => ((filler v).mp hv).trans ((filler w).mp hw).symm, by simp, fun x hx => ?_⟩
    obtain rfl := Option.some.inj hx
    exact ⟨iff_of_true rfl ⟨t, (filler t).mpr rfl⟩, (law.buffer hb).2⟩

theorem LawfulWith.begin (law : LawfulWith held s) (t : Fin 32) (rx : VideoRx) (n : Nat) (d : VideoDescriptor) :
    LawfulWith held (beginFrame t rx n d s) := by
  rw [beginFrame_abandon]
  replace law := law.abandon t
  have none := abandonFrame_frame t s
  generalize abandonFrame t s = w at law none
  cases choice : writerChoice (w.ring d.ring) with
  | none =>
    rw [beginFrame_skipped none choice]
    refine law.congr (fun _ => rfl) (fun m j v => ?_) fun _ => rfl
    by_cases hv : v = t
    · subst hv
      exact iff_of_false (by simp [Fills, newFrame]) (not_fills_of_none none)
    · rw [Fills, Fills, State.tag_setTag_ne _ _ _ _ hv]
  | some q =>
    obtain ⟨k, overwrites⟩ := q
    cases overwrites with
    | false =>
      rw [beginFrame_free none choice]
      exact law.start none choice (fun _ => rfl) ((law.rings d.ring).take_free choice n d) rfl
        (congrArg TagRecord.frame (State.tag_setTag ..)) rfl rfl fun v hv => State.tag_setTag_ne _ _ _ _ hv
    | true =>
      rw [beginFrame_overwrites none choice]
      exact law.start none choice (fun _ => rfl) ((law.rings d.ring).take_latest choice n d) rfl
        (congrArg TagRecord.frame (State.tag_setTag ..)) rfl rfl fun v hv => State.tag_setTag_ne _ _ _ _ hv

/-! ### The readers' slots (R67, R23) -/

/-- One value of a function changed: what its list of holds counts changes by that value. -/
theorem count_filterMap_change {α : Type} [DecidableEq α] {l : List α} (nodup : l.Nodup) {a : α} (mem : a ∈ l)
    {f g : α → Option Hold} (same : ∀ b, b ≠ a → g b = f b) (h : Hold) :
    (l.filterMap g).count h + (f a).toList.count h = (l.filterMap f).count h + (g a).toList.count h := by
  have split : ∀ f : α → Option Hold, (l.filterMap f).count h =
      (f a).toList.count h + ((l.erase a).filterMap f).count h := by
    intro f
    rw [((List.perm_cons_erase mem).filterMap f).count_eq, List.filterMap_cons]
    cases f a with
    | none => simp
    | some x => rw [← List.count_append]; rfl
  have rest : (l.erase a).filterMap g = (l.erase a).filterMap f :=
    List.filterMap_congr fun b hb => same b ((nodup.mem_erase_iff.mp hb).1)
  rw [split f, split g, rest]
  omega

/-- What the layer ids of a panel hold. -/
def panelHolds (p : Panel) (s : State) : List Hold := (List.finRange 6).filterMap fun id => (s.panel p).hold id

theorem count_heldBuffers (s : State) (h : Hold) : (heldBuffers s).count h = (panelHolds .front s).count h +
    (panelHolds .left s).count h + (panelHolds .right s).count h + s.takeover.cameraHold.toList.count h := by
  simp [heldBuffers, panelHolds, List.count_append, Nat.add_assoc]

theorem hold_setHold (p : Panel) (id j : Fin 6) (x : Option Hold) (s : State) :
    ((setHold p id x s).panel p).hold j = if j = id then x else (s.panel p).hold j := by
  simp only [setHold, State.panel_setPanel, PanelRecord.hold, Fin.getElem_fin, Vector.getElem_set]
  by_cases e : j = id
  · simp [e]
  · simp [e, Fin.val_ne_of_ne (Ne.symm e)]

theorem panelHolds_setHold_ne {p q : Panel} (ne : q ≠ p) (id : Fin 6) (x : Option Hold) (s : State) :
    panelHolds q (setHold p id x s) = panelHolds q s := by
  simp [panelHolds, setHold, State.panel_setPanel_ne _ _ _ _ ne]

theorem count_panelHolds_setHold (p : Panel) (id : Fin 6) (x : Option Hold) (s : State) (h : Hold) :
    (panelHolds p (setHold p id x s)).count h + ((s.panel p).hold id).toList.count h =
      (panelHolds p s).count h + x.toList.count h := by
  have := count_filterMap_change (List.nodup_finRange 6) (List.mem_finRange id) (f := fun j => (s.panel p).hold j)
    (g := fun j => ((setHold p id x s).panel p).hold j) (fun j hj => by simp only [hold_setHold, if_neg hj]) h
  simpa only [panelHolds, hold_setHold, ↓reduceIte] using this

/-- A layer id's hold replaced. -/
theorem count_setHold (p : Panel) (id : Fin 6) (x : Option Hold) (s : State) (h : Hold) :
    (heldBuffers (setHold p id x s)).count h + ((s.panel p).hold id).toList.count h =
      (heldBuffers s).count h + x.toList.count h := by
  have changed := count_panelHolds_setHold p id x s h
  simp only [count_heldBuffers, setHold_keeps]
  cases p with
  | front =>
    rw [panelHolds_setHold_ne (q := .left) (by decide), panelHolds_setHold_ne (q := .right) (by decide)]
    omega
  | left =>
    rw [panelHolds_setHold_ne (q := .front) (by decide), panelHolds_setHold_ne (q := .right) (by decide)]
    omega
  | right =>
    rw [panelHolds_setHold_ne (q := .front) (by decide), panelHolds_setHold_ne (q := .left) (by decide)]
    omega

/-- The camera layer's hold replaced. -/
theorem count_setCameraHold (x : Option Hold) (s : State) (h : Hold) :
    (heldBuffers { s with takeover.cameraHold := x }).count h + s.takeover.cameraHold.toList.count h =
      (heldBuffers s).count h + x.toList.count h := by
  have panels : ∀ p, panelHolds p { s with takeover.cameraHold := x } = panelHolds p s := fun p => by cases p <;> rfl
  simp only [count_heldBuffers, panels]
  omega

/-- Rings, tags and readers alike. -/
theorem heldBuffers_of_panels (panels : u.panels = s.panels) (camera : u.takeover.cameraHold = s.takeover.cameraHold) :
    heldBuffers u = heldBuffers s := by
  have panel : u.panel = s.panel := funext fun p => by cases p <;> simp [State.panel, panels]
  simp [heldBuffers, panel, camera]

/-! ### The law through a step -/

theorem LawfulWith.setHold (p : Panel) (id : Fin 6) (x : Option Hold) (law : LawfulWith held s)
    (readers : ∀ h, held h = (heldBuffers (setHold p id x s)).count h) : RingsLawful (setHold p id x s) := by
  refine (ringsLawful_iff _).mpr (law.congr (fun n => ?_) (fun n k t => ?_) fun h => (readers h).symm)
  · simp [Machine.setHold]
  · simp [Fills]

/-- The law, once `held` counts the readers that a state has. -/
theorem RingsLawful.of_parts (law : LawfulWith held s) (streams : u.streams = s.streams)
    (readers : ∀ h, held h = (heldBuffers u).count h) : RingsLawful u := by
  refine (ringsLawful_iff _).mpr (law.congr (fun n => ?_) (fun n k t => ?_) fun h => (readers h).symm)
  · simp [State.ring, streams]
  · simp [Fills, State.tag, streams]

theorem RingsLawful.congr (law : RingsLawful s) (rings : ∀ n, u.ring n = s.ring n)
    (frames : ∀ t, (u.tag t).frame.map (fun c => (c.ring, c.buffer)) = (s.tag t).frame.map fun c => (c.ring, c.buffer))
    (readers : heldBuffers u = heldBuffers s) : RingsLawful u := by
  rw [ringsLawful_iff, readers]
  exact ((ringsLawful_iff s).mp law).congr rings (fun n k t => by rw [Fills, Fills, frames]) fun _ => rfl

theorem RingsLawful.view (e : u.ringView = s.ringView) (law : RingsLawful s) : RingsLawful u :=
  law.congr (ring_of_ringView e) (fun t => by rw [tag_of_ringView e])
    (by simp only [heldBuffers, hold_of_ringView e, cameraHold_of_ringView e])

/-- The frame memory is no part of the law. -/
theorem RingsLawful.mem (law : RingsLawful s) (mem : List Host.Cell) : RingsLawful { s with mem := mem } :=
  law.congr (fun _ => rfl) (fun _ => rfl) (heldBuffers_of_panels rfl rfl)

theorem RingsLawful.retag (law : RingsLawful s) {a : TagRecord} (alike : a.Alike (s.tag t)) : RingsLawful (s.setTag t a) := by
  refine law.congr (fun _ => rfl) (fun v => ?_) (heldBuffers_of_panels rfl rfl)
  by_cases hv : v = t
  · subst hv
    rw [State.tag_setTag, alike.frame]
  · rw [State.tag_setTag_ne _ _ _ _ hv]

theorem ringsLawful_reset : RingsLawful State.reset := by
  have rings : ∀ n, State.reset.ring n = .reset := fun n => by simp [State.ring, State.reset, State.resetOver, Streams.reset]
  have tags : ∀ t, State.reset.tag t = .reset := fun t => by simp [State.tag, State.reset, State.resetOver, Streams.reset]
  have readers : heldBuffers State.reset = [] := rfl
  refine (ringsLawful_iff _).mpr ⟨fun n => ?_, fun n k => ?_⟩
  · rw [rings]
    exact RingLawful.fresh 0 0 0
  · rw [rings, readers]
    exact ⟨fun t u ht => absurd ht (not_fills_of_none (by rw [tags]; rfl)),
      fun _ => ⟨fun t => not_fills_of_none (by rw [tags]; rfl), rfl⟩, fun b hb => by simp [Ring.reset] at hb⟩

theorem RingsLawful.dropHold (law : RingsLawful s) (p : Panel) (id : Fin 6) : RingsLawful (dropHold p id s) := by
  unfold Machine.dropHold
  split
  · exact law
  · rename_i h held
    have one := count_setHold p id none (releaseHold h s)
    simp only [releaseHold_panel, held, Option.toList_none, Option.toList_some, List.count_nil, Nat.add_zero] at one
    rw [heldBuffers_of_panels (releaseHold_keeps h s).2.2.2.1 (by simp)] at one
    exact (((ringsLawful_iff s).mp law).release h one).setHold p id none fun _ => rfl

theorem RingsLawful.dropCameraHold (law : RingsLawful s) : RingsLawful (dropCameraHold s) := by
  unfold Machine.dropCameraHold
  split
  · exact law
  · rename_i h held
    have one := count_setCameraHold none s
    simp only [held, Option.toList_none, Option.toList_some, List.count_nil, Nat.add_zero] at one
    refine RingsLawful.of_parts (((ringsLawful_iff s).mp law).release h one) rfl fun g => ?_
    exact congrArg (List.count g) (heldBuffers_of_panels (u := releaseHold h { s with takeover.cameraHold := none }) rfl rfl).symm

theorem RingsLawful.pickUpLayer (law : RingsLawful s) (p : Panel) (l : Layer) : RingsLawful (pickUpLayer p l s) := by
  unfold Machine.pickUpLayer
  split
  · rename_i n _
    have one := count_setHold p l.id (pickUp n ((s.panel p).hold l.id) s).1 (pickUp n ((s.panel p).hold l.id) s).2
    rw [pickUp_panel, heldBuffers_of_panels (u := (pickUp n ((s.panel p).hold l.id) s).2) (s := s) (by simp) (by simp)] at one
    exact (((ringsLawful_iff s).mp law).pickUp n _ one).setHold p l.id _ fun _ => rfl
  · exact law
  · exact law

theorem RingsLawful.cameraLayerStart (law : RingsLawful s) : RingsLawful (cameraLayerStart s) := by
  unfold Machine.cameraLayerStart
  split
  · exact law.dropCameraHold
  · split
    · exact law.dropCameraHold
    · rename_i n _
      have same : heldBuffers (pickUp n s.takeover.cameraHold s).2 = heldBuffers s :=
        heldBuffers_of_panels (by simp) (by simp)
      have one := count_setCameraHold (pickUp n s.takeover.cameraHold s).1 (pickUp n s.takeover.cameraHold s).2
      rw [same, (pickUp_keeps n s.takeover.cameraHold s).2.1] at one
      exact RingsLawful.of_parts (((ringsLawful_iff s).mp law).pickUp n _ one) rfl fun _ => rfl

/-- RING_SET meets no frame and no reader of its ring (R63). -/
theorem RingsLawful.ringSet (law : RingsLawful s) (p : RingSetParams) : RingsLawful (ringSet p s).state := by
  rcases ringSet_cases p s with e | ⟨n, -, unclaimed, unheld, e⟩ <;> rw [e]
  · exact law
  · have unfilled : ∀ k t, ¬ Fills s n k t := fun k t ht => by
      obtain ⟨c, hc, rfl, -⟩ := fills_iff.mp ht
      simpa [claims, hc] using unclaimed t
    replace law := (ringsLawful_iff s).mp law
    have readers : ∀ k, (heldBuffers s).count ⟨n, k⟩ = 0 := fun k => by
      by_contra some
      obtain ⟨b, hb, holds⟩ := law.held_buffer (n := n) (k := k) (Nat.pos_of_ne_zero some)
      exact some (holds.symm.trans (unheld b (List.mem_of_getElem? hb)))
    refine (ringsLawful_iff _).mpr (law.replace (n := n) (fun _ => rfl) (RingLawful.fresh _ _ _)
      (fun m _ k => ⟨fun t => Iff.rfl, congrArg (List.count _) (heldBuffers_of_panels rfl rfl)⟩) fun k => ?_)
    change PlaceLaw (List.replicate p.count Buffer.reset)[k]? (Fills s n k) ((heldBuffers s).count ⟨n, k⟩)
    rw [readers]
    refine ⟨fun t _ ht => absurd ht (unfilled k t), fun _ => ⟨unfilled k, rfl⟩, fun b hb => ?_⟩
    obtain ⟨-, rfl⟩ : k < p.count ∧ Buffer.reset = b := by simpa [List.getElem?_replicate] using hb
    exact ⟨iff_of_false (by simp [Buffer.reset]) fun ⟨t, ht⟩ => unfilled k t ht, rfl⟩

theorem RingsLawful.of_frames (law : RingsLawful s) (held : ∀ h, LawfulWith h s → LawfulWith h u)
    (panels : u.panels = s.panels) (takeover : u.takeover = s.takeover) : RingsLawful u := by
  rw [ringsLawful_iff, heldBuffers_of_panels panels (congrArg Takeover.cameraHold takeover)]
  exact held _ ((ringsLawful_iff s).mp law)

/-- The law of R64 through a step. -/
theorem ringsLawful_stepInvariant : StepInvariant RingsLawful RingsLawful where
  view e h := h.view e
  viewAfter e h := h.view e
  after h := h
  write _ _ h := h.mem _
  reset {s u} e h := (ringsLawful_reset.mem s.mem).view e
  dropHold p id h := h.dropHold p id
  dropCameraHold h := h.dropCameraHold
  pickUpLayer p l h := h.pickUpLayer p l
  cameraLayerStart h := h.cameraLayerStart
  retag e h := h.retag e
  abandonFrame t h := h.of_frames (fun _ law => law.abandon t) (by simp) (by simp)
  endFrame t rx n h := h.of_frames (fun _ law => law.fend t rx n) (by simp) (by simp)
  ringSet p h := h.ringSet p
  beginFrame t rx n d h := h.of_frames (fun _ law => law.begin t rx n d) (by simp) (by simp)
  clearTags {s} h := h.congr (fun _ => rfl) (fun t => by rw [clearTags_tag]) (heldBuffers_of_panels rfl rfl)

/-- Settles O19: two laws kept by every step, the rings' place by place and the sum of R70 of one tag's record. -/
theorem everyStepKeepsTheRings : Obligations.EveryStepKeepsTheRings := by
  unfold Obligations.EveryStepKeepsTheRings
  intro s u t stepped
  exact ⟨fun law => ringsLawful_stepInvariant.step law stepped,
    fun balanced room => (conserved_stepInvariant t).step ⟨balanced, room⟩ stepped⟩

end Sys2Proof.Machine
end

section
/-! The reset state meets the invariants (R69, R152, R183, R193). -/

namespace Sys2Proof.Machine

theorem reset_page (n : Fin 16) : State.reset.page n = none := by
  simp [State.page, State.reset, State.resetOver, Menu.reset]

theorem menusLawful_reset : MenusLawful State.reset := by
  refine ⟨fun n p hp => ?_, fun k => ⟨?_, fun p hp => ?_⟩⟩
  · rw [reset_page] at hp
    cases hp
  · cases k <;> decide
  · rw [reset_page] at hp
    cases hp

theorem reset_tag (t : Fin 32) : State.reset.tag t = .reset := tag_of_reset (s := State.reset) rfl t

/-- Settles O58: a reset state lists no byte, queues nothing, shows no page and has no frame and no reader. -/
theorem resetMeetsTheInvariants : Obligations.ResetMeetsTheInvariants := by
  unfold Obligations.ResetMeetsTheInvariants
  refine ⟨?_, ?_, ?_, menusLawful_reset, ringsLawful_reset, fun t => ?_, ringsLawful_reset.rings, rfl⟩
  · exact ⟨List.Pairwise.nil, by simp [State.reset, State.resetOver]⟩
  · exact ⟨Nat.zero_le _, Nat.zero_le _⟩
  · exact ⟨Nat.zero_le _, List.nodup_nil, List.Pairwise.nil⟩
  · rw [framesBalanced_iff, reset_tag]
    exact TagRecord.conserved_reset.1

end Sys2Proof.Machine
end

section
/-! Packets that arrive and are admitted (R54, R176), and the LINE packet (R56 to R58). -/

namespace Sys2Proof.Machine

variable {rx : VideoRx} {t : Fin 32} {s : State} {p : Packet}

/-! ### Arrival (R175, R176) -/

theorem exec_framePacket (rx : VideoRx) (bytes : List Byte) (s : State) :
    exec (.framePacket rx bytes) s = .next (receive rx.link .frame bytes (frameArrives rx) s) := rfl

theorem exec_linePacket (rx : VideoRx) (bytes : List Byte) (s : State) :
    exec (.linePacket rx bytes) s = .next (receive rx.link .line bytes (videoLine rx) s) := rfl

theorem exec_fendPacket (rx : VideoRx) (bytes : List Byte) (s : State) :
    exec (.fendPacket rx bytes) s = .next (receive rx.link .fend bytes (fendArrives rx) s) := rfl

theorem exec_audioPacket (bytes : List Byte) (s : State) :
    exec (.audioPacket bytes) s = .next (receive .downlink .audio bytes soundArrives s) := rfl

theorem allowedOn_frame (rx : VideoRx) : allowedOn rx.link .frame = true := by cases rx <;> rfl
theorem allowedOn_line (rx : VideoRx) : allowedOn rx.link .line = true := by cases rx <;> rfl
theorem allowedOn_fend (rx : VideoRx) : allowedOn rx.link .fend = true := by cases rx <;> rfl

/-! ### Admission of a tag with a descriptor (R54) -/

theorem mark_toNat (t : Fin 32) : (BitVec.ofNat 8 t.val).toNat = t.val := by
  rw [BitVec.toNat_ofNat]
  exact Nat.mod_eq_of_lt (by omega)

variable {d : VideoDescriptor}

theorem admitVideo_admitted (ht : t ≠ 0) (hd : (s.tag t).descriptor = some (.video d)) (hs : d.source = rx)
    (mark : p.mark = BitVec.ofNat 8 t.val) (work : Fin 32 → VideoDescriptor → State → State) :
    admitVideo rx p work s = work t d s := by
  have admitted := admission_video ht hd hs
  rw [← mark_toNat, ← mark] at admitted
  simp [admitVideo, admitted]

theorem videoLine_admitted (ht : t ≠ 0) (hd : (s.tag t).descriptor = some (.video d)) (hs : d.source = rx)
    (mark : p.mark = BitVec.ofNat 8 t.val) : videoLine rx p s = lineArrives t rx p s :=
  admitVideo_admitted ht hd hs mark _

/-! ### The LINE packet (R56) -/

variable {f : FrameContext} {k : Nat}

theorem lineArrives_orphan (hf : (s.tag t).frame = none) :
    lineArrives t rx p s = countPort rx (fun c => { c with orphan := bump c.orphan }) s := by
  simp [lineArrives, hf]

theorem lineArrives_skipped (hf : (s.tag t).frame = some f) (hk : f.buffer = none) : lineArrives t rx p s = s := by
  simp [lineArrives, hf, hk]

theorem lineArrives_limit (hf : (s.tag t).frame = some f) (hk : f.buffer = some k)
    (outside : f.height ≤ p.a ∨ f.width ≤ p.b ∨ (f.format = .ycbcr422 ∧ p.b % 2 = 1)) :
    lineArrives t rx p s = countPort rx (fun c => { c with limit := bump c.limit }) s := by
  simp only [lineArrives, hf, hk, if_pos outside]

theorem lineArrives_failed (hf : (s.tag t).frame = some f) (hk : f.buffer = some k)
    (inside : ¬ (f.height ≤ p.a ∨ f.width ≤ p.b ∨ (f.format = .ycbcr422 ∧ p.b % 2 = 1))) (bad : p.good = false) :
    lineArrives t rx p s = markLine t p.a .damaged s := by
  simp only [lineArrives, hf, hk, if_neg inside, bad, Bool.not_false, ↓reduceIte]

/-- TRAIL, counted when a payload ends within a unit (R56). -/
def trailCounted (rx : VideoRx) (f : FrameContext) (payload : List Byte) (s : State) : State :=
  if payload.length % f.format.unitBytes = 0 then s else countTrail rx.link s

@[simp] theorem trailCounted_port (payload : List Byte) (q : VideoRx) : (trailCounted rx f payload s).port q = s.port q := by
  unfold trailCounted countTrail
  split <;> simp

@[simp] theorem trailCounted_tag (payload : List Byte) (u : Fin 32) : (trailCounted rx f payload s).tag u = s.tag u := by
  unfold trailCounted countTrail
  split <;> simp

theorem lineArrives_inside (hf : (s.tag t).frame = some f) (hk : f.buffer = some k)
    (inside : ¬ (f.height ≤ p.a ∨ f.width ≤ p.b ∨ (f.format = .ycbcr422 ∧ p.b % 2 = 1))) (good : p.good = true) :
    lineArrives t rx p s = if linePixels f p.b p.payload = [] then trailCounted rx f p.payload s
      else stageLine t rx p.a (bufferBase (s.ring f.ring) k + pixelOffset f.format f.width p.a p.b)
        (linePixels f p.b p.payload) (trailCounted rx f p.payload s) := by
  simp only [lineArrives, hf, hk, if_neg inside, good, Bool.not_true, Bool.false_eq_true, ↓reduceIte, hasTrail, trailCounted,
    ne_eq, decide_not, Bool.not_eq_true', decide_eq_false_iff_not, ite_not]

/-! ### Marks and staging (R57, R58) -/

theorem LineMark.toward_written : (fun m : LineMark => m.toward .written) = fun m => if m = .unseen then .written else m := by
  funext m
  cases m <;> rfl

theorem LineMark.toward_damaged : (fun m : LineMark => m.toward .damaged) = fun _ => .damaged := by
  funext m
  cases m <;> rfl

theorem markLine_some (hf : (s.tag t).frame = some f) (line : Nat) (m : LineMark) : markLine t line m s =
    s.setTag t { s.tag t with frame := some { f with marks := f.marks.modify line (·.toward m) } } := by
  simp [markLine, hf]

theorem stageLine_free (hf : (s.tag t).frame = some f) (room : (s.port rx).staging.length < 4) (line address : Nat)
    (bytes : List Byte) : stageLine t rx line address bytes s =
      (s.setPort rx { s.port rx with staging := (s.port rx).staging ++ [⟨t, true, address, bytes⟩] }).setTag t
        { s.tag t with frame := some { f with
          marks := f.marks.modify line fun m => if m = .unseen then .written else m } } := by
  rw [stageLine, Config.stagingSlots, if_pos room, markLine_some (f := f) (by simpa using hf), LineMark.toward_written, State.setPort_tag]

theorem stageLine_full (hf : (s.tag t).frame = some f) (full : 4 ≤ (s.port rx).staging.length) (line address : Nat)
    (bytes : List Byte) : stageLine t rx line address bytes s =
      (countPort rx (fun c => { c with overflow := bump c.overflow }) s).setTag t
        { s.tag t with frame := some { f with marks := f.marks.modify line fun _ => .damaged } } := by
  rw [stageLine, Config.stagingSlots, if_neg (Nat.not_lt.mpr full), markLine_some (f := f) (by simpa [countPort] using hf),
    LineMark.toward_damaged, countPort, State.setPort_tag]

/-- A LINE inside the frame with nothing left of its payload, with a free staging slot, and with none (R56, R58). -/
theorem lineArrives_nothing (hf : (s.tag t).frame = some f) (hk : f.buffer = some k)
    (inside : ¬ (f.height ≤ p.a ∨ f.width ≤ p.b ∨ (f.format = .ycbcr422 ∧ p.b % 2 = 1))) (good : p.good = true)
    (nothing : linePixels f p.b p.payload = []) : lineArrives t rx p s = trailCounted rx f p.payload s := by
  rw [lineArrives_inside hf hk inside good, if_pos nothing]

theorem lineArrives_staged (hf : (s.tag t).frame = some f) (hk : f.buffer = some k)
    (inside : ¬ (f.height ≤ p.a ∨ f.width ≤ p.b ∨ (f.format = .ycbcr422 ∧ p.b % 2 = 1))) (good : p.good = true)
    (pixels : linePixels f p.b p.payload ≠ []) (room : (s.port rx).staging.length < 4) : lineArrives t rx p s =
      ((trailCounted rx f p.payload s).setPort rx { s.port rx with
        staging := (s.port rx).staging ++ [{
          tag := t, live := true, bytes := linePixels f p.b p.payload,
          address := bufferBase (s.ring f.ring) k + pixelOffset f.format f.width p.a p.b }] }).setTag t
        { s.tag t with frame := some { f with
          marks := f.marks.modify p.a fun m => if m = .unseen then .written else m } } := by
  rw [lineArrives_inside hf hk inside good, if_neg pixels, stageLine_free (f := f) (by simpa using hf) (by simpa using room)]
  simp only [trailCounted_port, trailCounted_tag]

theorem lineArrives_overflow (hf : (s.tag t).frame = some f) (hk : f.buffer = some k)
    (inside : ¬ (f.height ≤ p.a ∨ f.width ≤ p.b ∨ (f.format = .ycbcr422 ∧ p.b % 2 = 1))) (good : p.good = true)
    (pixels : linePixels f p.b p.payload ≠ []) (full : 4 ≤ (s.port rx).staging.length) : lineArrives t rx p s =
      ((trailCounted rx f p.payload s).setPort rx { s.port rx with
        counters := { (s.port rx).counters with overflow := bump (s.port rx).counters.overflow } }).setTag t
        { s.tag t with frame := some { f with marks := f.marks.modify p.a fun _ => .damaged } } := by
  rw [lineArrives_inside hf hk inside good, if_neg pixels, stageLine_full (f := f) (by simpa using hf) (by simpa using full)]
  simp only [countPort, trailCounted_port, trailCounted_tag]

/-! ### What of a payload is pixels (R56) -/

theorem linePixels_nil (f : FrameContext) (x : Nat) : linePixels f x [] = [] := by simp [linePixels]

theorem linePixels_whole {x : Nat} {payload : List Byte} (whole : payload.length % f.format.unitBytes = 0)
    (fits : payload.length ≤ (f.width - x) * f.format.bytesPerPixel) : linePixels f x payload = payload := by
  rw [linePixels, Nat.div_mul_cancel (Nat.dvd_of_mod_eq_zero whole), List.take_length, List.take_of_length_le fits]

/-- Settles O17: each case of R56 by the lemma of that case, on the state that the receiver hands over. -/
theorem linePacketIsStagedOrCounted : Obligations.LinePacketIsStagedOrCounted := by
  unfold Obligations.LinePacketIsStagedOrCounted
  intro rx t c n x payload crc d s up assembling hn hx hp ht hd hs
  have arrives : exec (.linePacket rx (packetBytes .line (BitVec.ofNat 8 t.val) n x c payload)) s =
      .next (lineArrives t rx ⟨.line, BitVec.ofNat 8 t.val, n, x, c, payload, true⟩ s) := by
    rw [exec_linePacket, receive_packetBytes (allowedOn_line rx) hn hx hp up assembling, videoLine_admitted ht hd hs rfl]
  refine ⟨fun none => arrives.trans (by rw [lineArrives_orphan none]; rfl),
    fun f hf hk => arrives.trans (by rw [lineArrives_skipped hf hk]), fun f k hf hk => ⟨fun outside => ?_, ?_, ?_, ?_⟩⟩
  · exact arrives.trans (by rw [lineArrives_limit hf hk outside]; rfl)
  · intro line column even
    have inside : ¬ (f.height ≤ n ∨ f.width ≤ x ∨ (f.format = .ycbcr422 ∧ x % 2 = 1)) := by
      rintro (h | h | ⟨h, odd⟩)
      · omega
      · omega
      · exact absurd (even h) (by omega)
    refine ⟨fun nothing => arrives.trans (congrArg _ (lineArrives_nothing hf hk inside rfl nothing)),
      fun pixels room => arrives.trans (congrArg _ (lineArrives_staged hf hk inside rfl pixels room)),
      fun pixels full => arrives.trans (congrArg _ (lineArrives_overflow hf hk inside rfl pixels full)),
      fun nonempty four bad => ?_⟩
    · have tag : ∀ r, (s.setLink rx.link r).tag t = s.tag t := fun r => State.setLink_tag ..
      rw [exec_linePacket, receive_badCrc (allowedOn_line rx) hn hx hp nonempty four bad up assembling,
        videoLine_admitted ht (by rwa [tag]) hs rfl, lineArrives_failed (by rwa [tag]) hk inside rfl,
        markLine_some (by rwa [tag]), LineMark.toward_damaged, tag]
  · rintro rfl
    exact ⟨linePixels_nil f x, if_pos (Nat.zero_mod _)⟩
  · intro whole fits
    exact ⟨linePixels_whole whole fits, if_pos whole⟩

end Sys2Proof.Machine
end

section
/-! The AUDIO packet (R61). -/

namespace Sys2Proof.Machine

/-! ### Sample frames (R61, R119) -/

/-- The signed 16-bit big-endian value at a place of some bytes. -/
def sampleAt (bytes : List Byte) (j : Nat) : Int := (bytes.getD j 0#8 ++ bytes.getD (j + 1) 0#8).toInt

theorem sample16_eq (hi lo : Byte) : sample16 hi lo = (hi ++ lo).toInt := by
  have value : (hi ++ lo).toNat = hi.toNat * 256 + lo.toNat := by
    rw [BitVec.toNat_append, ← Nat.shiftLeft_add_eq_or_of_lt lo.isLt, Nat.shiftLeft_eq]
  rw [sample16, signedOf, BitVec.toInt_eq_toNat_cond, value]
  rfl

theorem sampleAt_add_four (b0 b1 b2 b3 : Byte) (rest : List Byte) (j : Nat) :
    sampleAt (b0 :: b1 :: b2 :: b3 :: rest) (j + 4) = sampleAt rest j := rfl

theorem sampleFrames_stereo : ∀ bytes : List Byte, sampleFrames true bytes =
    (List.range (bytes.length / 4)).map fun i => ⟨sampleAt bytes (4 * i), sampleAt bytes (4 * i + 2)⟩
  | b0 :: b1 :: b2 :: b3 :: rest => by
    have count : (b0 :: b1 :: b2 :: b3 :: rest).length / 4 = rest.length / 4 + 1 := by
      simp only [List.length_cons]
      omega
    have later : ∀ i, 4 * (i + 1) + 2 = 4 * i + 2 + 4 := fun i => by omega
    rw [count, List.range_succ_eq_map, List.map_cons, List.map_map, sampleFrames, if_pos rfl, sampleFrames_stereo rest,
      sample16_eq, sample16_eq]
    refine congrArg₂ List.cons rfl (List.map_congr_left fun i _ => ?_)
    simp only [Function.comp_apply, Nat.succ_eq_add_one, later, sampleAt_add_four]
    rfl
  | [_, _, _] | [_, _] | [_] | [] => by simp [sampleFrames]

theorem sampleFrames_mono : ∀ bytes : List Byte, sampleFrames false bytes =
    (List.range (bytes.length / 2)).map fun i => ⟨sampleAt bytes (2 * i), sampleAt bytes (2 * i)⟩
  | b0 :: b1 :: b2 :: b3 :: rest => by
    have count : (b0 :: b1 :: b2 :: b3 :: rest).length / 2 = rest.length / 2 + 1 + 1 := by
      simp only [List.length_cons]
      omega
    have later : ∀ i, 2 * (i + 1 + 1) = 2 * i + 4 := fun i => by omega
    rw [count, List.range_succ_eq_map, List.range_succ_eq_map, List.map_cons, List.map_cons, List.map_map, List.map_cons,
      List.map_map, sampleFrames, if_neg Bool.false_ne_true, sampleFrames_mono rest, sample16_eq, sample16_eq]
    refine congrArg₂ List.cons rfl (congrArg₂ List.cons rfl (List.map_congr_left fun i _ => ?_))
    simp only [Function.comp_apply, Nat.succ_eq_add_one, later, sampleAt_add_four]
  | [_, _, _] | [_, _] => by simp [sampleFrames, sample16_eq, sampleAt]
  | [_] | [] => by simp [sampleFrames]

theorem sampleFrames_eq (stereo : Bool) (bytes : List Byte) : sampleFrames stereo bytes =
    (List.range (bytes.length / if stereo then 4 else 2)).map fun i =>
      ⟨sampleAt bytes ((if stereo then 4 else 2) * i),
        sampleAt bytes ((if stereo then 4 else 2) * i + if stereo then 2 else 0)⟩ := by
  cases stereo with
  | true => exact sampleFrames_stereo bytes
  | false => exact sampleFrames_mono bytes

/-! ### An AUDIO packet admitted -/

variable {t : Fin 32} {s : State} {p : Packet} {d : AudioDescriptor}

theorem soundArrives_admitted (ht : t ≠ 0) (hd : (s.tag t).descriptor = some (.audio d))
    (mark : p.mark = BitVec.ofNat 8 t.val) : soundArrives p s = audioArrives t d p s := by
  have admitted := admission_audio ht hd
  rw [← mark_toNat, ← mark] at admitted
  simp [soundArrives, admitted]

theorem audioFrames_good (good : p.good = true) : audioFrames d p = sampleFrames d.stereo p.payload := by
  simp [audioFrames, good]

theorem audioFrames_failed (bad : p.good = false) :
    audioFrames d p = List.replicate (p.payload.length / d.frameBytes) ⟨0, 0⟩ := by
  simp [audioFrames, bad]

/-- Settles O20: both cases are `audioArrives` on the state handed over; only the frames differ. -/
theorem audioPacketFillsTheZones : Obligations.AudioPacketFillsTheZones := by
  unfold Obligations.AudioPacketFillsTheZones
  intro t c a b payload crc d s up assembling ha hb hp ht hd
  refine ⟨?_, fun nonempty four bad => ?_⟩
  · rw [exec_audioPacket, receive_packetBytes (l := .downlink) rfl ha hb hp up assembling, soundArrives_admitted ht hd rfl,
      audioArrives, audioFrames_good rfl, sampleFrames_eq]
    simp only [ne_eq, ite_not]
    rfl
  · rw [exec_audioPacket, receive_badCrc (l := .downlink) rfl ha hb hp nonempty four bad up assembling,
      soundArrives_admitted ht (by rwa [State.setLink_tag]) rfl, audioArrives, audioFrames_failed rfl]
    simp only [ne_eq, ite_not]
    rfl

end Sys2Proof.Machine
end

section
/-! FRAME and FEND packets, and the admission of every packet with a tag (R54, R55, R59, R60, R65, R66, R176). -/

namespace Sys2Proof.Machine

variable {rx : VideoRx} {t : Fin 32} {s : State} {p : Packet} {d : VideoDescriptor} {f : FrameContext} {k : Nat}

/-! ### A packet with a good or a failed payload (R176) -/

@[simp] theorem countPayload_tag (l : Link) (p : Packet) (s : State) (u : Fin 32) : (countPayload l p s).tag u = s.tag u := by
  unfold countPayload
  split <;> simp

@[simp] theorem countPayload_port (l : Link) (p : Packet) (s : State) (q : VideoRx) :
    (countPayload l p s).port q = s.port q := by
  unfold countPayload
  split <;> simp

theorem countPayload_link (l : Link) (p : Packet) (s : State) :
    ((countPayload l p s).link l).state = (s.link l).state ∧ ((countPayload l p s).link l).assembler = (s.link l).assembler := by
  unfold countPayload
  split <;> simp

/-- A receiver hands over a packet whether its payload check passed or failed, counting the failure. -/
theorem receive_checked {l : Link} {k : PacketKind} (hk : allowedOn l k = true) {a b : Nat} (ha : a < 65536)
    (hb : b < 65536) {payload crc : List Byte} (hp : payload.length ≤ 3840) {good : Bool}
    (checked : good = true ∨ payload ≠ [] ∧ crc.length = 4 ∧ crc ≠ beBytes 4 (crc32 payload).toNat) {s : State}
    (hu : (s.link l).state = .up) (hs : (s.link l).assembler = .assembling) (mark c : Byte)
    (work : Packet → State → State) :
    receive l k (if good then packetBytes k mark a b c payload
      else (packetBytes k mark a b c payload).take (8 + payload.length) ++ crc) work s =
      work ⟨k, mark, a, b, c, payload, good⟩ (countPayload l ⟨k, mark, a, b, c, payload, good⟩ s) := by
  cases good with
  | true => exact receive_packetBytes hk ha hb hp hu hs mark c work
  | false =>
    obtain ⟨nonempty, four, bad⟩ := checked.resolve_left Bool.false_ne_true
    exact receive_badCrc hk ha hb hp nonempty four bad hu hs mark c work

/-- Where the owner does not look at the payload check, only its count tells a failed payload from a good one. -/
theorem receive_unchecked {l : Link} {k : PacketKind} (hk : allowedOn l k = true) {a b : Nat} (ha : a < 65536)
    (hb : b < 65536) {payload crc : List Byte} (hp : payload.length ≤ 3840) {good : Bool}
    (checked : good = true ∨ payload ≠ [] ∧ crc.length = 4 ∧ crc ≠ beBytes 4 (crc32 payload).toNat) {s : State}
    (hu : (s.link l).state = .up) (hs : (s.link l).assembler = .assembling) (mark c : Byte)
    {work : Packet → State → State} (unchecked : ∀ p g s, work { p with good := g } s = work p s) :
    receive l k (if good then packetBytes k mark a b c payload
      else (packetBytes k mark a b c payload).take (8 + payload.length) ++ crc) work s =
      receive l k (packetBytes k mark a b c payload) work (countPayload l ⟨k, mark, a, b, c, payload, good⟩ s) := by
  obtain ⟨state, assembler⟩ := countPayload_link l ⟨k, mark, a, b, c, payload, good⟩ s
  rw [receive_checked hk ha hb hp checked hu hs, receive_packetBytes hk ha hb hp (state.trans hu) (assembler.trans hs)]
  exact (unchecked _ true _).symm

/-! ### The refusals of R54 -/

theorem admission_null (rx : VideoRx) (audioPacket : Bool) (s : State) : admission rx audioPacket 0 s = .error .null := rfl

theorem admission_absent {audioPacket : Bool} {tag : Nat} (present : tag ≠ 0)
    (none : ∀ t : Fin 32, t.val = tag → (s.tag t).descriptor = none) : admission rx audioPacket tag s = .error .absent := by
  unfold admission fin?
  rw [if_neg present]
  split
  · rfl
  · rename_i u hu
    split at hu
    · rename_i small
      have absent := none ⟨tag, small⟩ rfl
      obtain rfl := Option.some.inj hu
      simp [absent]
    · cases hu

theorem admission_of_audio {a : AudioDescriptor} (ht : t.val ≠ 0) (hd : (s.tag t).descriptor = some (.audio a)) :
    admission rx false t.val s = .error .kind := by
  simp [admission, ht, fin?, hd]

theorem admission_of_video (ht : t.val ≠ 0) (hd : (s.tag t).descriptor = some (.video d)) :
    admission rx true t.val s = .error .kind := by
  simp [admission, ht, fin?, hd]

theorem admission_of_source (ht : t.val ≠ 0) (hd : (s.tag t).descriptor = some (.video d)) (hs : d.source ≠ rx) :
    admission rx false t.val s = .error .source := by
  simp [admission, ht, fin?, hd, hs]

theorem admitVideo_refused {e : AdmissionFail} (refused : admission rx false p.mark.toNat s = .error e)
    (work : Fin 32 → VideoDescriptor → State → State) : admitVideo rx p work s = countPort rx (countFail e) s := by
  simp [admitVideo, refused]

theorem soundArrives_refused {e : AdmissionFail} (refused : admission .downlink true p.mark.toNat s = .error e) :
    soundArrives p s = countPort .downlink (countFail e) s := by
  simp [soundArrives, refused]

/-- Admission reads the tags alone. -/
theorem admission_countPayload (rx : VideoRx) (audioPacket : Bool) (tag : Nat) (l : Link) (p : Packet) (s : State) :
    admission rx audioPacket tag (countPayload l p s) = admission rx audioPacket tag s := by
  simp [admission]

theorem countPort_countPayload (rx : VideoRx) (c : AdmissionCounters → AdmissionCounters) (l : Link) (p : Packet) (s : State) :
    countPort rx c (countPayload l p s) =
      (countPayload l p s).setPort rx { s.port rx with counters := c (s.port rx).counters } := by
  simp [countPort]

/-! ### FRAME (R55, R34, R40) -/

theorem guideFrame_idle (idle : s.takeover.phase = .idle) (w h : Nat) : guideFrame w h s = s := if_pos idle

theorem guideFrame_engaged (engaged : s.takeover.phase ≠ .idle) (w h : Nat) : guideFrame w h s =
    if s.takeover.view = .live ∧ s.guide.rowTable ≠ [] ∧ s.guide.bandTable ≠ [] ∧ s.guide.settings.mode ≠ .off then
      requestRenders [.guide] (computeGuide w h s)
    else computeGuide w h s := by
  rw [guideFrame, if_neg engaged]
  simp only [requestGuide, Guide.effectiveMode_ne_off]
  rfl

theorem frameArrives_admitted (ht : t ≠ 0) (hd : (s.tag t).descriptor = some (.video d)) (hs : d.source = rx)
    (mark : p.mark = BitVec.ofNat 8 t.val) : frameArrives rx p s =
      if isCameraTag s t.val then guideFrame d.width d.height (beginFrame t rx p.a d s) else beginFrame t rx p.a d s :=
  admitVideo_admitted ht hd hs mark _

/-! ### FEND (R59, R66, R14) -/

theorem fendArrives_admitted (ht : t ≠ 0) (hd : (s.tag t).descriptor = some (.video d)) (hs : d.source = rx)
    (mark : p.mark = BitVec.ofNat 8 t.val) : fendArrives rx p s =
      if isGoodFrame t p.a s then goodFrame p.a (endFrame t rx p.a s) else endFrame t rx p.a s :=
  admitVideo_admitted ht hd hs mark _

theorem isGoodFrame_of_incomplete {n : Nat} (incomplete : ∀ c k, fendCase t n s ≠ .complete c k) :
    isGoodFrame t n s = false := by
  unfold isGoodFrame
  split
  · rename_i c k e
    exact absurd e (incomplete c k)
  · simp

theorem isGoodFrame_of_complete {n : Nat} (complete : fendCase t n s = .complete f k) : isGoodFrame t n s = true ↔
    isCameraTag s t.val = true ∧ s.takeover.phase ≠ .idle ∧ cameraRing s = some f.ring := by
  simp [isGoodFrame, complete, and_assoc]

/-- A discarded frame that was skipped, and one that had a buffer. -/
theorem discardFrame_skipped (hk : f.buffer = none) (c : TagCounters → TagCounters) : discardFrame t f c s =
    (dropStaged t f.link s).setTag t { s.tag t with frame := none, counters := c (s.tag t).counters } := by
  rw [discardFrame_eq, freeBuffer, hk]

theorem discardFrame_filling (hk : f.buffer = some k) (c : TagCounters → TagCounters) : discardFrame t f c s =
    ((dropStaged t f.link s).setRing f.ring ((s.ring f.ring).modify k fun b => { b with state := .free })).setTag t
      { s.tag t with frame := none, counters := c (s.tag t).counters } := by
  rw [discardFrame_eq, freeBuffer, hk, dropStaged_ring]

/-! ### A completed ring, buffer by buffer (R66) -/

theorem Ring.retired_buffers (r : Ring) (i : Nat) : r.retired.buffers[i]? = if r.latest = some i then
    r.buffers[i]?.map (fun b => if b.holds = 0 then { b with state := .free } else b) else r.buffers[i]? := by
  cases latest : r.latest with
  | none => rw [Ring.retired_none latest, if_neg (by simp)]
  | some j =>
    rw [Ring.retired_some latest, Ring.buffers_modify]
    by_cases e : i = j
    · simp [e]
    · simp [e, Ne.symm e]

theorem Ring.complete_buffers (r : Ring) (k damaged i : Nat) : (r.complete k damaged).buffers[i]? = if i = k then
    r.retired.buffers[i]?.map (fun b => { b with state := .complete, damaged := damaged }) else r.retired.buffers[i]? := by
  rw [Ring.complete_eq]
  exact Ring.buffers_modify _ _ _ _

theorem Ring.complete_here {r : Ring} {b : Buffer} (hb : r.buffers[k]? = some b) (other : r.latest ≠ some k) (damaged : Nat) :
    (r.complete k damaged).buffers[k]? = some { b with state := .complete, damaged := damaged } := by
  rw [Ring.complete_buffers, if_pos rfl, Ring.retired_buffers, if_neg other, hb]
  rfl

theorem Ring.complete_retires {r : Ring} {b : Buffer} {j : Nat} (latest : r.latest = some j) (other : j ≠ k)
    (hb : r.buffers[j]? = some b) (damaged : Nat) :
    (r.complete k damaged).buffers[j]? = some (if b.holds = 0 then { b with state := .free } else b) := by
  rw [Ring.complete_buffers, if_neg other, Ring.retired_buffers, if_pos latest, hb]
  rfl

theorem Ring.complete_elsewhere {r : Ring} {i : Nat} (other : i ≠ k) (latest : r.latest ≠ some i) (damaged : Nat) :
    (r.complete k damaged).buffers[i]? = r.buffers[i]? := by
  rw [Ring.complete_buffers, if_neg other, Ring.retired_buffers, if_neg latest]

theorem Ring.unshown_none {r : Ring} (latest : r.latest = none) : r.unshown = false := by simp [Ring.unshown, latest]

theorem Ring.unshown_some {r : Ring} {b : Buffer} {j : Nat} (latest : r.latest = some j) (hb : r.buffers[j]? = some b) :
    r.unshown = decide (b.holds = 0 ∧ b.heldSinceFilled = false) := by
  simp [Ring.unshown, latest, Ring.buffer?, hb]

/-! ### Every case of FRAME and FEND, and the refusals -/

/-- A FEND that completes a frame, by the lemmas of `endFrame_complete` and `Ring.complete`. -/
theorem endFrame_completes {n : Nat} (hf : (s.tag t).frame = some f) (hn : n = f.number) (hk : f.buffer = some k)
    (few : damagedLines f ≤ f.damage) (rx : VideoRx) :
    let u := endFrame t rx n s
    u.tag t = { s.tag t with frame := none, counters := (s.tag t).counters.completed (s.ring f.ring) } ∧
    u.ring f.ring = (s.ring f.ring).complete k (damagedLines f) ∧
    (u.port f.link).staging = (s.port f.link).staging.map fun l => if l.tag = t then { l with live := false } else l := by
  subst hn
  rw [endFrame_complete (fendCase_complete hf hk few)]
  refine ⟨State.tag_setTag .., by simp, by simp [settleStaged]⟩

/-- The unshown count of R66, by the latest before. -/
theorem completed_unshown (c : TagCounters) {r : Ring} {b : Buffer} {j : Nat} (latest : r.latest = some j)
    (hb : r.buffers[j]? = some b) : (c.completed r).frameUnshown =
      if b.holds = 0 ∧ b.heldSinceFilled = false then bump c.frameUnshown else c.frameUnshown := by
  simp only [TagCounters.completed, Ring.unshown_some latest hb, decide_eq_true_eq]

theorem completed_unshown_none (c : TagCounters) {r : Ring} (latest : r.latest = none) :
    (c.completed r).frameUnshown = c.frameUnshown := by
  simp [TagCounters.completed, Ring.unshown_none latest]

/-- The video packets of R54: their kinds, their instructions and their owners' work. -/
theorem exec_videoPacket {k : PacketKind × (List Byte → Instr)}
    (hk : k ∈ [(PacketKind.frame, Instr.framePacket rx), (.line, .linePacket rx), (.fend, .fendPacket rx)]) :
    allowedOn rx.link k.1 = true ∧ ∃ work : Packet → Fin 32 → VideoDescriptor → State → State, ∀ bytes s,
      exec (k.2 bytes) s = .next (receive rx.link k.1 bytes (fun p => admitVideo rx p (work p)) s) := by
  simp only [List.mem_cons, List.not_mem_nil, or_false] at hk
  rcases hk with rfl | rfl | rfl
  · exact ⟨allowedOn_frame rx, _, fun bytes s => exec_framePacket rx bytes s⟩
  · exact ⟨allowedOn_line rx, _, fun bytes s => exec_linePacket rx bytes s⟩
  · exact ⟨allowedOn_fend rx, _, fun bytes s => exec_fendPacket rx bytes s⟩

/-- A video packet that a check of R54 refuses only counts that check, and a failed payload its PAY_ERR. -/
theorem exec_videoPacket_refused {k : PacketKind × (List Byte → Instr)}
    (hk : k ∈ [(PacketKind.frame, Instr.framePacket rx), (.line, .linePacket rx), (.fend, .fendPacket rx)])
    {a b : Nat} (ha : a < 65536) (hb : b < 65536) {payload crc : List Byte} (hp : payload.length ≤ 3840) {good : Bool}
    (checked : good = true ∨ payload ≠ [] ∧ crc.length = 4 ∧ crc ≠ beBytes 4 (crc32 payload).toNat)
    (up : (s.link rx.link).state = .up) (assembling : (s.link rx.link).assembler = .assembling) (m c : Byte)
    {e : AdmissionFail} (refused : admission rx false m.toNat s = .error e) :
    exec (k.2 (if good then packetBytes k.1 m a b c payload
      else (packetBytes k.1 m a b c payload).take (8 + payload.length) ++ crc)) s =
      .next ((countPayload rx.link ⟨k.1, m, a, b, c, payload, good⟩ s).setPort rx
        { s.port rx with counters := countFail e (s.port rx).counters }) := by
  obtain ⟨allowed, work, runs⟩ := exec_videoPacket hk
  rw [runs, receive_checked allowed ha hb hp checked up assembling,
    admitVideo_refused (by rwa [admission_countPayload]), countPort_countPayload]

/-- The same of an AUDIO packet. -/
theorem exec_audioPacket_refused {a b : Nat} (ha : a < 65536) (hb : b < 65536) {payload crc : List Byte}
    (hp : payload.length ≤ 3840) {good : Bool}
    (checked : good = true ∨ payload ≠ [] ∧ crc.length = 4 ∧ crc ≠ beBytes 4 (crc32 payload).toNat)
    (up : (s.link .downlink).state = .up) (assembling : (s.link .downlink).assembler = .assembling) (m c : Byte)
    {e : AdmissionFail} (refused : admission .downlink true m.toNat s = .error e) :
    exec (.audioPacket (if good then packetBytes .audio m a b c payload
      else (packetBytes .audio m a b c payload).take (8 + payload.length) ++ crc)) s =
      .next ((countPayload .downlink ⟨.audio, m, a, b, c, payload, good⟩ s).setPort .downlink
        { s.port .downlink with counters := countFail e (s.port .downlink).counters }) := by
  rw [exec_audioPacket, receive_checked (l := .downlink) rfl ha hb hp checked up assembling,
    soundArrives_refused (by rwa [admission_countPayload]), countPort_countPayload]

/-- An admitted FRAME, and an admitted FEND that completes no frame or one. -/
theorem exec_framePacket_admitted (ht : t ≠ 0) (hd : (s.tag t).descriptor = some (.video d)) (hs : d.source = rx)
    (up : (s.link rx.link).state = .up) (assembling : (s.link rx.link).assembler = .assembling) {n b : Nat} (hn : n < 65536)
    (hb : b < 65536) {payload : List Byte} (hp : payload.length ≤ 3840) (c : Byte) :
    exec (.framePacket rx (packetBytes .frame (BitVec.ofNat 8 t.val) n b c payload)) s = .next
      (if isCameraTag s t.val then guideFrame d.width d.height (beginFrame t rx n d s) else beginFrame t rx n d s) := by
  rw [exec_framePacket, receive_packetBytes (allowedOn_frame rx) hn hb hp up assembling, frameArrives_admitted ht hd hs rfl]

theorem exec_fendPacket_admitted (ht : t ≠ 0) (hd : (s.tag t).descriptor = some (.video d)) (hs : d.source = rx)
    (up : (s.link rx.link).state = .up) (assembling : (s.link rx.link).assembler = .assembling) {n b : Nat} (hn : n < 65536)
    (hb : b < 65536) {payload : List Byte} (hp : payload.length ≤ 3840) (c : Byte) :
    exec (.fendPacket rx (packetBytes .fend (BitVec.ofNat 8 t.val) n b c payload)) s = .next
      (if isGoodFrame t n s then goodFrame n (endFrame t rx n s) else endFrame t rx n s) := by
  rw [exec_fendPacket, receive_packetBytes (allowedOn_fend rx) hn hb hp up assembling, fendArrives_admitted ht hd hs rfl]

/-- A FEND that completes a frame hands it on just when it is a good camera frame (R14). -/
theorem handed_of_complete {n : Nat} (complete : fendCase t n s = .complete f k) (u : State) :
    (isCameraTag s t.val = false ∨ s.takeover.phase = .idle ∨ cameraRing s ≠ some f.ring →
      (if isGoodFrame t n s then goodFrame n u else u) = u) ∧
    (isCameraTag s t.val = true → s.takeover.phase ≠ .idle → cameraRing s = some f.ring →
      (if isGoodFrame t n s then goodFrame n u else u) = goodFrame n u) := by
  have handed := isGoodFrame_of_complete complete
  refine ⟨fun plain => if_neg fun good => ?_, fun camera engaged own => if_pos (handed.mpr ⟨camera, engaged, own⟩)⟩
  obtain ⟨camera, engaged, own⟩ := handed.mp good
  rcases plain with h | h | h
  · exact Bool.false_ne_true (h.symm.trans camera)
  · exact engaged h
  · exact h own

/-- Settles O15: FRAME by the phase and the writer's choice, FEND by the cases of R59, and the refusals by the check of R54
that fails. -/
theorem framesBeginAndEnd : Obligations.FramesBeginAndEnd := by
  unfold Obligations.FramesBeginAndEnd
  refine ⟨fun rx t c n b payload d s up assembling hn hb hp ht hd hs => ?_,
    fun rx good m c n b payload crc s up assembling hn hb hp checked => ?_⟩
  · intro drop
    have dropped : ∀ f count, discardFrame t f count s = drop f count := fun f count => by
      cases hk : f.buffer with
      | none => simp only [discardFrame_skipped hk, drop, hk]; rfl
      | some k => simp only [discardFrame_filling hk, drop, hk]; rfl
    refine ⟨?_, ?_⟩
    · have arrives := exec_framePacket_admitted ht hd hs up assembling hn hb hp c
      refine ⟨fun plain => arrives.trans ?_, fun camera engaged => arrives.trans ?_, fun f hf => ⟨?_, ?_⟩,
        fun idle choice => beginFrame_skipped idle choice rx n, fun k idle choice => beginFrame_free idle choice rx n,
        fun k idle choice => beginFrame_overwrites idle choice rx n⟩
      · rcases plain with other | idle
        · simp only [other, Bool.false_eq_true, ↓reduceIte]
        · rw [guideFrame_idle (by simpa using idle), ite_self]
      · rw [if_pos camera, guideFrame_engaged (by simpa using engaged)]
        simp only [beginFrame_keeps]
      · rw [abandonFrame_some hf, dropped]
      · exact beginFrame_abandon t rx n d s
    · have arrives := exec_fendPacket_admitted ht hd hs up assembling hn hb hp c
      have incomplete : (∀ c k, fendCase t n s ≠ .complete c k) →
          exec (.fendPacket rx (packetBytes .fend (BitVec.ofNat 8 t.val) n b c payload)) s = .next (endFrame t rx n s) :=
        fun h => arrives.trans (by rw [isGoodFrame_of_incomplete h, if_neg Bool.false_ne_true])
      refine ⟨fun none => ?_, fun f hf => ⟨fun other => ?_, fun same skipped => ?_, fun k same hk damaged => ?_,
        fun k same hk few => ?_⟩⟩
      · have case := fendCase_orphan none n
        rw [incomplete (by simp [case]), endFrame_orphan case]
        rfl
      · have case := fendCase_mismatch hf other
        rw [incomplete (by simp [case]), endFrame_mismatch case, dropped]
      · have case := same ▸ fendCase_skipped hf skipped
        rw [incomplete (by simp [case]), endFrame_skipped case, dropped]
      · have case := same ▸ fendCase_damaged hf hk damaged
        rw [incomplete (by simp [case]), endFrame_damaged case, dropped]
      · have case := same ▸ fendCase_complete hf hk few
        obtain ⟨tag, ring, staging⟩ := endFrame_completes hf same hk few rx
        obtain ⟨plain, good⟩ := handed_of_complete case (endFrame t rx n s)
        refine ⟨fun h => arrives.trans (congrArg _ (plain h)), fun camera engaged own =>
          arrives.trans (congrArg _ (good camera engaged own)), by rw [tag], by rw [tag], by rw [tag]; rfl, by rw [ring]; rfl,
          fun x hx other => ?_, fun j x latest other hx => ⟨?_, ?_⟩, fun latest => ?_, fun i other latest => ?_, staging⟩
        · rw [ring]
          exact Ring.complete_here hx other _
        · rw [ring]
          exact Ring.complete_retires latest other hx _
        · rw [tag]
          exact completed_unshown _ latest hx
        · rw [tag]
          exact completed_unshown_none _ latest
        · rw [ring]
          exact Ring.complete_elsewhere other latest _
  · have marked : ∀ t : Fin 32, m ≠ 0 → t.val = m.toNat → t.val ≠ 0 := fun t hm ht h0 =>
      hm (BitVec.eq_of_toNat_eq (ht.symm.trans h0))
    have present : m ≠ 0 → m.toNat ≠ 0 := fun hm h0 => hm (BitVec.eq_of_toNat_eq h0)
    intro bytes u count refused
    refine ⟨fun k hk => ⟨⟨?_, ?_, ?_⟩, ?_⟩, ?_, fun k hk => ?_⟩
    · rintro rfl
      exact exec_videoPacket_refused hk hn hb hp checked up assembling 0 c (admission_null rx false s)
    · exact fun hm none => exec_videoPacket_refused hk hn hb hp checked up assembling m c (admission_absent (present hm) none)
    · rintro t _ hm ht hd ⟨a, rfl⟩
      exact exec_videoPacket_refused hk hn hb hp checked up assembling m c (ht ▸ admission_of_audio (marked t hm ht) hd)
    · exact fun t v hm ht hd hv => exec_videoPacket_refused hk hn hb hp checked up assembling m c (e := .source)
        (ht ▸ admission_of_source (marked t hm ht) hd hv)
    · rintro rfl
      refine ⟨?_, ?_, ?_⟩
      · rintro rfl
        exact exec_audioPacket_refused hn hb hp checked up assembling 0 c (admission_null .downlink true s)
      · exact fun hm none => exec_audioPacket_refused hn hb hp checked up assembling m c (admission_absent (present hm) none)
      · rintro t _ hm ht hd ⟨v, rfl⟩
        exact exec_audioPacket_refused hn hb hp checked up assembling m c (ht ▸ admission_of_video (marked t hm ht) hd)
    · simp only [List.mem_cons, List.not_mem_nil, or_false] at hk
      rcases hk with rfl | rfl
      · exact congrArg Host.Outcome.next (receive_unchecked (allowedOn_frame rx) hn hb hp checked up assembling m c
          (work := frameArrives rx) fun _ _ _ => rfl)
      · exact congrArg Host.Outcome.next (receive_unchecked (allowedOn_fend rx) hn hb hp checked up assembling m c
          (work := fendArrives rx) fun _ _ _ => rfl)

end Sys2Proof.Machine
end

section
/-! TAG_SET, TAG_CLEAR, TAG_READ and RING_SET (R50 to R53, R63, R121). -/

namespace Sys2Proof.Machine

variable {s : State} {t : Fin 32} {d old : Descriptor} {p : TagSetParams}

/-! ### Numbers and descriptors (R50) -/

theorem fin?_eq_some {n i : Nat} {k : Fin n} : fin? n i = some k ↔ i = k.val := by
  unfold fin?
  constructor
  · intro h
    split at h
    · exact congrArg Fin.val (Option.some.inj h)
    · cases h
  · rintro rfl
    rw [dif_pos k.isLt]

theorem fin?_val {n : Nat} (k : Fin n) : fin? n k.val = some k := fin?_eq_some.mpr rfl

theorem fin?_eq_none {n i : Nat} (h : n ≤ i) : fin? n i = none := dif_neg (Nat.not_lt.mpr h)

theorem isCameraTag_iff (ht : t ≠ 0) : isCameraTag s t.val = true ↔ s.takeover.camera.tag = t.val := by
  have positive : t.val ≠ 0 := fun h => ht (Fin.ext h)
  simp only [isCameraTag, decide_eq_true_eq]
  exact ⟨fun h => h.2, fun h => ⟨h ▸ positive, h⟩⟩

theorem claims_iff (s : State) (n : Fin 8) (t : Fin 32) : claims s n t = true ↔
    (∃ v, (s.tag t).descriptor = some (.video v) ∧ v.ring = n) ∨ ∃ f, (s.tag t).frame = some f ∧ f.ring = n := by
  simp only [claims, Bool.or_eq_true]
  refine or_congr ?_ ?_
  · rcases (s.tag t).descriptor with _ | _ | _ <;> simp
  · cases (s.tag t).frame <;> simp

theorem pixelFormat?_eq_some {n : Nat} {f : PixelFormat} :
    pixelFormat? n = some f ↔ n = match f with | .rgb565 => 0 | .rgb888 => 1 | .ycbcr422 => 2 := by
  unfold pixelFormat?
  split <;> cases f <;> simp_all

theorem bytesPerPixel_eq (f : PixelFormat) : f.bytesPerPixel = if f = .rgb888 then 3 else 2 := by cases f <;> rfl

/-- The receiver that a source number names (R50). -/
theorem source_eq_some {n : Nat} {rx : VideoRx} :
    (if n = 0 then some VideoRx.downlink else if n = 1 then some VideoRx.camera else none) = some rx ↔
      n = match rx with | .downlink => 0 | .camera => 1 := by
  cases rx <;> (split <;> simp_all)

theorem videoParams?_iff (ht : t ≠ 0) : videoParams? t p s = some d ↔
    ∃ v, d = .video v ∧ p.source = (match v.source with | .downlink => 0 | .camera => 1) ∧
      p.width = v.width ∧ p.height = v.height ∧ p.ring = v.ring.val ∧ p.damage = v.damage ∧
      p.format = (match v.format with | .rgb565 => 0 | .rgb888 => 1 | .ycbcr422 => 2) ∧
      16 ≤ v.width ∧ v.width ≤ 1280 ∧ 16 ≤ v.height ∧ v.height ≤ 800 ∧ v.damage ≤ 255 ∧
      (v.format = .ycbcr422 → v.width % 2 = 0) ∧ (s.ring v.ring).buffers ≠ [] ∧
      v.width * v.height * (if v.format = .rgb888 then 3 else 2) ≤ (s.ring v.ring).stride ∧
      (∀ u, u ≠ t → claims s v.ring u = false) ∧ (v.source = .camera ↔ s.takeover.camera.tag = t.val) := by
  simp only [videoParams?, Option.bind_eq_bind, Option.bind_eq_some_iff, pixelFormat?_eq_some, fin?_eq_some, source_eq_some]
  have unclaimed : ∀ n, (List.finRange 32).all (fun u => u == t || !claims s n u) = true ↔
      ∀ u, u ≠ t → claims s n u = false := fun n => by
    simp [List.all_eq_true, or_iff_not_imp_left]
  have even : ∀ n : Nat, n % 2 = 0 ↔ ¬ n % 2 = 1 := fun n => by omega
  constructor
  · rintro ⟨format, hf, ring, hr, source, hs, h⟩
    split at h
    case isTrue valid =>
      obtain ⟨w1, w2, h1, h2, damage, pairs, buffers, fits, others, camera⟩ := valid
      obtain rfl := Option.some.inj h
      exact ⟨_, rfl, hs, rfl, rfl, hr, rfl, hf, w1, w2, h1, h2, damage, fun y => (even _).mpr fun odd => pairs ⟨y, odd⟩, buffers,
        by rwa [← bytesPerPixel_eq], (unclaimed ring).mp others, by rw [← camera, isCameraTag_iff ht]⟩
    case isFalse => cases h
  · rintro ⟨v, rfl, hs, hw, hh, hr, hd, hf, w1, w2, h1, h2, damage, pairs, buffers, fits, others, camera⟩
    refine ⟨v.format, hf, v.ring, hr, v.source, hs, ?_⟩
    rw [if_pos, hw, hh, hd]
    rw [hw, hh, hd]
    exact ⟨w1, w2, h1, h2, damage, fun odd => (even _).mp (pairs odd.1) odd.2, buffers, by rwa [bytesPerPixel_eq],
      (unclaimed v.ring).mpr others, by rw [camera, isCameraTag_iff ht]⟩

theorem zonesShared_eq_false {a : AudioDescriptor} : zonesShared s t a = false ↔
    ∀ u b, u ≠ t → (s.tag u).descriptor = some (.audio b) →
      ¬ (a.seatL = true ∧ b.seatL = true) ∧ ¬ (a.seatR = true ∧ b.seatR = true) := by
  simp only [zonesShared, List.any_eq_false, List.mem_finRange, forall_const, Bool.and_eq_true, decide_eq_true_eq, not_and]
  refine forall_congr' fun u => ?_
  rcases hd : (s.tag u).descriptor with _ | _ | b <;> simp [audioDescriptor?, hd]

theorem zoneSet?_eq_some {n : Nat} {z : ZoneSet} : zoneSet? n = some z ↔
    n = (if z.seatL then 1 else 0) + (if z.seatR then 2 else 0) + (if z.cabin then 4 else 0) := by
  have bits : ∀ n < 8, n = (if n.testBit 0 then 1 else 0) + (if n.testBit 1 then 2 else 0) + (if n.testBit 2 then 4 else 0) := by
    decide
  unfold zoneSet?
  constructor
  · intro h
    split at h
    · obtain rfl := Option.some.inj h
      exact bits n ‹_›
    · cases h
  · obtain ⟨l, r, c⟩ := z
    rintro rfl
    cases l <;> cases r <;> cases c <;> rfl

/-- A set of seat zones is empty when its byte is 0. -/
theorem not_isEmpty_iff (l r : Bool) :
    (!(ZoneSet.isEmpty ⟨l, r, false⟩)) = true ↔ (if l then 1 else 0) + (if r then 2 else 0) ≠ 0 := by
  cases l <;> cases r <;> decide

theorem not_isCameraTag_iff (ht : t ≠ 0) : (!isCameraTag s t.val) = true ↔ s.takeover.camera.tag ≠ t.val := by
  rw [Bool.not_eq_true', ← Bool.not_eq_true, isCameraTag_iff ht]

theorem audioParams?_iff (ht : t ≠ 0) : audioParams? t p s = some d ↔
    ∃ a, d = .audio a ∧ p.source = 0 ∧ p.channels = (if a.stereo then 2 else 1) ∧
      p.zones = (if a.seatL then 1 else 0) + (if a.seatR then 2 else 0) ∧ p.zones ≠ 0 ∧
      (∀ u b, u ≠ t → (s.tag u).descriptor = some (.audio b) →
        ¬ (a.seatL = true ∧ b.seatL = true) ∧ ¬ (a.seatR = true ∧ b.seatR = true)) ∧
      s.takeover.camera.tag ≠ t.val := by
  unfold audioParams?
  constructor
  · intro h
    split at h
    case h_1 => cases h
    case h_2 z hz =>
      dsimp only at h
      split at h
      case isFalse => cases h
      case isTrue valid =>
        obtain ⟨source, channels, fed, cabin, alone, camera⟩ := valid
        obtain rfl := Option.some.inj h
        obtain ⟨l, r, cab⟩ := z
        obtain rfl : cab = false := by simpa using cabin
        have zones := zoneSet?_eq_some.mp hz
        simp only [Bool.false_eq_true, ↓reduceIte, Nat.add_zero] at zones
        refine ⟨_, rfl, source, ?_, zones, zones ▸ (not_isEmpty_iff l r).mp fed,
          zonesShared_eq_false.mp (by simpa using alone), (not_isCameraTag_iff ht).mp camera⟩
        rcases channels with e | e <;> simp [e]
  · rintro ⟨a, rfl, source, channels, zones, fed, alone, camera⟩
    have hz : zoneSet? p.zones = some ⟨a.seatL, a.seatR, false⟩ := zoneSet?_eq_some.mpr (by simp [zones])
    have stereo : decide (p.channels = 2) = a.stereo := by
      rw [channels]
      cases a.stereo <;> rfl
    rw [hz]
    dsimp only
    rw [stereo, if_pos]
    exact ⟨source, by rw [channels]; cases a.stereo <;> simp, (not_isEmpty_iff _ _).mpr (zones ▸ fed), rfl,
      by simpa using zonesShared_eq_false.mpr alone, (not_isCameraTag_iff ht).mpr camera⟩

/-! ### FIFOs emptied (R121) -/

/-- A descriptor feeds a zone (R61). -/
def Descriptor.feeds (d : Descriptor) (z : Zone) : Prop :=
  ∃ a, d = .audio a ∧ ((z = .seatL ∧ a.seatL = true) ∨ (z = .seatR ∧ a.seatR = true))

theorem not_feeds_video (v : VideoDescriptor) (z : Zone) : ¬ (Descriptor.video v).feeds z := by simp [Descriptor.feeds]

theorem feeds_audio (a : AudioDescriptor) (z : Zone) :
    (Descriptor.audio a).feeds z ↔ (z = .seatL ∧ a.seatL = true) ∨ (z = .seatR ∧ a.seatR = true) := by
  simp [Descriptor.feeds]

/-- The zones left out are those that only the old descriptor feeds; a descriptor of another kind feeds none. -/
theorem mem_leftOut {z : Zone} : z ∈ leftOut (some old) (some d) ↔ old.feeds z ∧ ¬ d.feeds z := by
  cases old with
  | video v => exact iff_of_false List.not_mem_nil fun h => not_feeds_video v z h.1
  | audio a =>
    cases d with
    | video v => cases z <;> simp [leftOut, feeds_audio, not_feeds_video]
    | audio b => cases z <;> simp [leftOut, feeds_audio]

theorem mem_leftOut_none {z : Zone} : z ∈ leftOut (some old) none ↔ old.feeds z := by
  cases old with
  | video v => exact iff_of_false List.not_mem_nil (not_feeds_video v z)
  | audio a => cases z <;> simp [leftOut, feeds_audio]

/-- What emptying some zones' FIFOs leaves of a state (R121). -/
theorem emptyFifos_keeps (zs : List Zone) (s : State) :
    zs.foldl (fun s z => emptyFifo z s) s = { s with audio := (zs.foldl (fun s z => emptyFifo z s) s).audio } ∧
      (zs.foldl (fun s z => emptyFifo z s) s).audio.volumeTable = s.audio.volumeTable := by
  induction zs generalizing s with
  | nil => exact ⟨rfl, rfl⟩
  | cons z zs ih =>
    obtain ⟨outside, table⟩ := ih (emptyFifo z s)
    rw [List.foldl_cons]
    refine ⟨outside.trans ?_, table.trans ?_⟩ <;> cases z <;> rfl

theorem emptyFifos_zone (zs : List Zone) (z : Zone) (s : State) : (zs.foldl (fun s z => emptyFifo z s) s).zone z =
    if z ∈ zs then { s.zone z with fifo := [], fifoState := .priming } else s.zone z := by
  induction zs generalizing s with
  | nil => rfl
  | cons y zs ih =>
    rw [List.foldl_cons, ih]
    by_cases e : z = y
    · subst e
      simp [emptyFifo]
    · simp [emptyFifo, State.zone_setZone_ne _ _ _ _ e, e]

theorem zone_of_audio {u : State} (h : u.audio = s.audio) (z : Zone) : u.zone z = s.zone z := by
  cases z <;> simp [State.zone, h]

/-! ### TAG_SET (R50, R51) -/

theorem tagParams?_iff : tagParams? p s = some (t, d) ↔ p.tag = t.val ∧ t ≠ 0 ∧
    ((p.kind = 0 ∧ videoParams? t p s = some d) ∨ (p.kind = 1 ∧ audioParams? t p s = some d)) := by
  have zero : ∀ u : Fin 32, u.val = 0 ↔ u = 0 := fun u => ⟨fun h => Fin.ext h, fun h => h ▸ rfl⟩
  constructor
  · intro h
    unfold tagParams? at h
    split at h
    · cases h
    · rename_i u hu
      replace hu := fin?_eq_some.mp hu
      split at h
      · cases h
      · rename_i present
        rw [zero] at present
        split at h
        · obtain ⟨e, he, rfl, rfl⟩ : ∃ e, videoParams? u p s = some e ∧ u = t ∧ e = d := by simpa using h
          exact ⟨hu, present, .inl ⟨‹_›, he⟩⟩
        · split at h
          · obtain ⟨e, he, rfl, rfl⟩ : ∃ e, audioParams? u p s = some e ∧ u = t ∧ e = d := by simpa using h
            exact ⟨hu, present, .inr ⟨‹_›, he⟩⟩
          · cases h
  · rintro ⟨tag, present, ⟨kind, params⟩ | ⟨kind, params⟩⟩ <;>
      simp [tagParams?, fin?_eq_some.mpr tag, (zero t).not.mpr present, kind, params]

/-- A tag with another descriptor, or none. -/
def State.describe (t : Fin 32) (o : Option Descriptor) (s : State) : State := s.setTag t { s.tag t with descriptor := o }

theorem tagSet_new (params : tagParams? p s = some (t, d)) (absent : (s.tag t).descriptor = none) :
    tagSet p s = done (s.describe t (some d)) := by
  simp [tagSet, params, absent, changesVideo, leftOut, State.describe]

theorem tagSet_present (params : tagParams? p s = some (t, d)) (present : (s.tag t).descriptor = some old) :
    tagSet p s = done ((leftOut (some old) (some d)).foldl (fun s z => emptyFifo z s)
      ((if changesVideo (some old) d then abandonFrame t s else s).describe t (some d))) := by
  simp [tagSet, params, present, State.describe]

theorem tagSet_refused (params : tagParams? p s = none) : tagSet p s = refuse .param s := by simp [tagSet, params]

/-- Two VIDEO descriptors of one source. -/
def SameVideo (old d : Descriptor) : Prop := ∃ a b, old = .video a ∧ d = .video b ∧ a.source = b.source

theorem changesVideo_iff : changesVideo (some old) d = true ↔ ¬ SameVideo old d ∧ ∃ a, old = .video a := by
  rcases old with a | a <;> rcases d with b | b <;> simp [changesVideo, SameVideo]

/-! ### TAG_CLEAR and TAG_READ (R52, R53) -/

theorem tagClear_refused {tag : Nat} (h : tag = 0 ∨ 32 ≤ tag) : tagClear tag s = refuse .param s := by
  rcases h with rfl | h
  · rfl
  · simp [tagClear, fin?_eq_none h]

theorem tagRead_refused {tag : Nat} (h : tag = 0 ∨ 32 ≤ tag) : tagRead tag s = refuse .param s := by
  rcases h with rfl | h
  · rfl
  · simp [tagRead, fin?_eq_none h]

theorem tagClear_absent (ht : t ≠ 0) (absent : (s.tag t).descriptor = none) : tagClear t.val s = done s := by
  have positive : t.val ≠ 0 := fun h => ht (Fin.ext h)
  simp [tagClear, fin?_val, positive, absent]

theorem tagClear_present (ht : t ≠ 0) (present : (s.tag t).descriptor = some old) : tagClear t.val s =
    done ((leftOut (some old) none).foldl (fun s z => emptyFifo z s) ((abandonFrame t s).describe t none)) := by
  have positive : t.val ≠ 0 := fun h => ht (Fin.ext h)
  simp [tagClear, fin?_val, positive, present, State.describe]

/-! ### RING_SET (R63) -/

variable {q : RingSetParams} {n : Fin 8}

theorem overlapsRing_eq_false {base size : Nat} : overlapsRing s n base size = false ↔
    ∀ m, m ≠ n → (s.ring m).buffers ≠ [] → base + size ≤ (s.ring m).base ∨
      (s.ring m).base + (s.ring m).buffers.length * (s.ring m).stride ≤ base := by
  simp only [overlapsRing, List.any_eq_false, List.mem_finRange, forall_const, Bool.and_eq_true, decide_eq_true_eq]
  refine forall_congr' fun m => ⟨fun h hm hb => ?_, fun h => ?_⟩
  · by_contra apart
    exact h ⟨⟨⟨hm, hb⟩, by omega⟩, by omega⟩
  · rintro ⟨⟨⟨hm, hb⟩, low⟩, high⟩
    have := h hm hb
    omega

theorem ringParamsOk_iff : ringParamsOk n q s = true ↔ q.count = 0 ∨
    (2 ≤ q.count ∧ q.count ≤ 4 ∧ q.base % 4096 = 0 ∧ q.stride % 4096 = 0 ∧ 4096 ≤ q.stride ∧
      q.base + q.count * q.stride ≤ 98566144 ∧
      ∀ m, m ≠ n → (s.ring m).buffers ≠ [] → q.base + q.count * q.stride ≤ (s.ring m).base ∨
        (s.ring m).base + (s.ring m).buffers.length * (s.ring m).stride ≤ q.base) := by
  rw [← overlapsRing_eq_false]
  simp only [ringParamsOk, decide_eq_true_eq]
  rfl

theorem ringSet_unknown (h : 8 ≤ q.ring) : ringSet q s = refuse .param s := by simp [ringSet, fin?_eq_none h]

theorem ringSet_inUse (hn : q.ring = n.val) (used : (∃ t, claims s n t = true) ∨ ∃ b ∈ (s.ring n).buffers, 0 < b.holds) :
    ringSet q s = refuse .inUse s := by
  unfold ringSet
  rw [fin?_eq_some.mpr hn]
  dsimp only
  rw [if_pos]
  simpa [List.any_eq_true] using used

theorem ringSet_free (hn : q.ring = n.val) (unclaimed : ∀ t, claims s n t = false)
    (unheld : ∀ b ∈ (s.ring n).buffers, b.holds = 0) : ringSet q s = if ringParamsOk n q s then
      done (s.setRing n { base := q.base, stride := q.stride, latest := none, buffers := List.replicate q.count .reset })
    else refuse .param s := by
  unfold ringSet
  rw [fin?_eq_some.mpr hn]
  dsimp only
  rw [if_neg]
  · cases ringParamsOk n q s <;> rfl
  · simpa [List.any_eq_true, not_or, unclaimed] using unheld

/-! ### The commands' steps -/

theorem exec_tagRead (mark : Byte) (tag : Nat) (s : State) :
    exec (.tagRead mark tag) s = .next (runCommand mark (.tagRead tag) s) := rfl

/-- A present tag redescribed by TAG_SET: what goes of its frame, and what of the zones that it fed. -/
theorem tagSet_effect (params : tagParams? p s = some (t, d)) (present : (s.tag t).descriptor = some old) :
    ∃ u, tagSet p s = done u ∧
      (SameVideo old d ∨ (∀ a, old ≠ .video a) → u = { s.describe t (some d) with audio := u.audio }) ∧
      (¬ SameVideo old d → (∃ a, old = .video a) → u = { (abandonFrame t s).describe t (some d) with audio := u.audio }) ∧
      u.audio.volumeTable = s.audio.volumeTable ∧
      (∀ z, old.feeds z → ¬ d.feeds z → u.zone z = { s.zone z with fifo := [], fifoState := .priming }) ∧
      (∀ z, ¬ old.feeds z ∨ d.feeds z → u.zone z = s.zone z) := by
  refine ⟨_, tagSet_present params present, ?_⟩
  have audio : ((if changesVideo (some old) d then abandonFrame t s else s).describe t (some d)).audio = s.audio := by
    split <;> simp [State.describe]
  have changes : (¬ SameVideo old d → (∃ a, old = .video a) → changesVideo (some old) d = true) ∧
      (SameVideo old d ∨ (∀ a, old ≠ .video a) → changesVideo (some old) d = false) := by
    rw [← Bool.not_eq_true, changesVideo_iff]
    exact ⟨fun h e => ⟨h, e⟩, fun h e => h.elim e.1 fun h => e.2.elim h⟩
  obtain ⟨outside, table⟩ := emptyFifos_keeps (leftOut (some old) (some d))
    ((if changesVideo (some old) d then abandonFrame t s else s).describe t (some d))
  refine ⟨fun kept => ?_, fun changed video => ?_, table.trans (by rw [audio]), fun z fed unfed => ?_, fun z kept => ?_⟩
  · rw [changes.2 kept] at outside ⊢
    exact outside
  · rw [changes.1 changed video] at outside ⊢
    exact outside
  · rw [emptyFifos_zone, if_pos (mem_leftOut.mpr ⟨fed, unfed⟩), zone_of_audio audio]
  · rw [emptyFifos_zone, if_neg fun h => ?_, zone_of_audio audio]
    have fed := mem_leftOut.mp h
    exact kept.elim (fun no => no fed.1) fed.2

/-- A present tag cleared (R52). -/
theorem tagClear_effect (ht : t ≠ 0) (present : (s.tag t).descriptor = some old) :
    ∃ u, tagClear t.val s = done u ∧ u = { (abandonFrame t s).describe t none with audio := u.audio } ∧
      u.audio.volumeTable = s.audio.volumeTable ∧
      (∀ z, old.feeds z → u.zone z = { s.zone z with fifo := [], fifoState := .priming }) ∧
      (∀ z, ¬ old.feeds z → u.zone z = s.zone z) := by
  have audio : ((abandonFrame t s).describe t none).audio = s.audio := by simp [State.describe]
  obtain ⟨outside, table⟩ := emptyFifos_keeps (leftOut (some old) none) ((abandonFrame t s).describe t none)
  refine ⟨_, tagClear_present ht present, outside, table.trans (by rw [audio]), fun z fed => ?_, fun z unfed => ?_⟩
  · rw [emptyFifos_zone, if_pos (mem_leftOut_none.mpr fed), zone_of_audio audio]
  · rw [emptyFifos_zone, if_neg fun h => unfed (mem_leftOut_none.mp h), zone_of_audio audio]

theorem tagRead_report (ht : t ≠ 0) : tagRead t.val s = report (descriptorBytes (s.tag t).descriptor ++
    frameStateBytes (s.tag t).frame ++ (s.tag t).counters.bytes ++ (match (s.tag t).descriptor with
      | some (.video d) => if (s.ring d.ring).buffers = [] then [] else ringBytes (s.ring d.ring)
      | _ => [])) s := by
  have positive : t.val ≠ 0 := fun h => ht (Fin.ext h)
  unfold tagRead
  rw [fin?_val]
  exact if_neg positive

/-- Settles O14: each command's step from its own lemma. -/
theorem tagAndRingCommands : Obligations.TagAndRingCommands := by
  unfold Obligations.TagAndRingCommands
  intro mark p q tag s free
  have tagSetDone : ∀ {u}, tagSet p s = done u → exec (.tagSet mark p) s = .next (replied mark 1 .ok [] u) :=
    fun h => congrArg Host.Outcome.next (runCommand_open_done free mark h)
  have tagClearDone : ∀ {tag u}, tagClear tag s = done u → exec (.tagClear mark tag) s = .next (replied mark 2 .ok [] u) :=
    fun h => congrArg Host.Outcome.next (runCommand_open_done free mark h)
  refine ⟨fun t d params absent => tagSetDone (tagSet_new params absent), fun t d old params present => ?_, fun t d => ?_,
    claims_iff s, fun n => ringParamsOk_iff, fun t => abandonFrame_none,
    fun none => congrArg Host.Outcome.next (runCommand_open_refuse free mark (tagSet_refused none)),
    fun bad => ⟨congrArg Host.Outcome.next (runCommand_open_refuse free mark (tagClear_refused bad)),
      congrArg Host.Outcome.next (runCommand_open_refuse free mark (tagRead_refused bad))⟩, ?_,
    fun h => congrArg Host.Outcome.next (runCommand_open_refuse free mark (ringSet_unknown h)), fun n hn => ⟨fun used => ?_, ?_, ?_⟩⟩
  · obtain ⟨u, answer, effect⟩ := tagSet_effect params present
    exact ⟨u, tagSetDone answer, effect⟩
  · rw [tagParams?_iff]
    refine and_congr_right fun _ => and_congr_right fun present => or_congr ?_ ?_
    · rw [videoParams?_iff present]
      exact ⟨fun ⟨kind, v, hd, rest⟩ => ⟨v, hd, kind, rest⟩, fun ⟨v, hd, kind, rest⟩ => ⟨kind, v, hd, rest⟩⟩
    · rw [audioParams?_iff present]
      exact ⟨fun ⟨kind, a, hd, rest⟩ => ⟨a, hd, kind, rest⟩, fun ⟨a, hd, kind, rest⟩ => ⟨kind, a, hd, rest⟩⟩
  · rintro t rfl ht
    refine ⟨fun absent => tagClearDone (tagClear_absent ht absent), fun v video idle => ?_,
      fun v c video _ => tagClearDone (tagClear_present ht video), fun a audio => ?_, ?_⟩
    · have answer := tagClear_present ht video
      rw [abandonFrame_none idle] at answer
      exact tagClearDone answer
    · obtain ⟨u, answer, outside, table, emptied, kept⟩ := tagClear_effect ht audio
      simp only [feeds_audio] at emptied kept
      exact ⟨u, tagClearDone answer, outside, table, emptied, kept⟩
    · intro r frame ring
      have frameBytes : frame = frameStateBytes r.frame := by
        simp only [frame]
        cases r.frame <;> rfl
      rw [frameBytes, exec_tagRead, runCommand_open free]
      exact congrArg (fun a => Host.Outcome.next (handAnswer mark 3 a)) (tagRead_report ht)
  · exact congrArg Host.Outcome.next (runCommand_open_refuse free mark (ringSet_inUse hn used))
  · intro unclaimed unheld valid
    exact congrArg Host.Outcome.next (runCommand_open_done free mark ((ringSet_free hn unclaimed unheld).trans (if_pos valid)))
  · intro unclaimed unheld invalid
    exact congrArg Host.Outcome.next
      (runCommand_open_refuse free mark ((ringSet_free hn unclaimed unheld).trans (if_neg (by simp [invalid]))))

end Sys2Proof.Machine
end

section
/-! The panel commands (R71, R74, R75, R79, R80, R91): what each answers, panel by panel. -/

namespace Sys2Proof.Machine

variable {s : State} {p : Panel} {n : Nat}

/-! ### The commands' steps -/

theorem panel?_unknown (h : 3 ≤ n) : panel? n = none := by
  match n, h with
  | n + 3, _ => rfl

/-- A command of chapter 4 taken in RUNNING is its owner's answer handed over: R25 refuses none of them. -/
theorem runCommand_panel (h : Running s) (mark : Byte) {c : Command} (chapter : 10 ≤ c.code ∧ c.code ≤ 18) :
    runCommand mark c s = handAnswer mark (BitVec.ofNat 8 c.code) (perform c s) :=
  runCommand_plain h mark c (by simp only [List.mem_cons, List.not_mem_nil, or_false, not_or]; omega)

theorem runCommand_panel_done {t : State} (h : Running s) (mark : Byte) {c : Command} (answer : perform c s = done t)
    (chapter : 10 ≤ c.code ∧ c.code ≤ 18 := by simp [Command.code]) :
    runCommand mark c s = replied mark c.code .ok [] t := by
  rw [runCommand_panel h mark chapter, answer, handAnswer_done]

theorem runCommand_panel_refuse {st : Status} (h : Running s) (mark : Byte) {c : Command}
    (answer : perform c s = refuse st s) (chapter : 10 ≤ c.code ∧ c.code ≤ 18 := by simp [Command.code]) :
    runCommand mark c s = replied mark c.code st [] s := by
  rw [runCommand_panel h mark chapter, answer, handAnswer_refuse]

/-! ### PANEL_WAKE and PANEL_SLEEP (R74, R75) -/

theorem panelWake_known (hp : panel? n = some p) (s : State) :
    panelWake n s = done (wakeEffect p (s.setPanel p { s.panel p with requestActive := true })) := by
  simp [panelWake, hp]

theorem panelWake_unknown (h : 3 ≤ n) (s : State) : panelWake n s = refuse .param s := by
  simp [panelWake, panel?_unknown h]

theorem panelSleep_known (hp : panel? n = some p) (s : State) : panelSleep n s =
    let t := s.setPanel p { s.panel p with requestActive := false }
    done (if takeoverFrames s p then t else sleepEffect p t) := by
  simp [panelSleep, hp]

theorem panelSleep_unknown (h : 3 ≤ n) (s : State) : panelSleep n s = refuse .param s := by
  simp [panelSleep, panel?_unknown h]

theorem takeoverFrames_iff (s : State) (p : Panel) :
    takeoverFrames s p = true ↔ p = .front ∧ s.takeover.phase ≠ .idle := by
  cases p <;> simp [takeoverFrames]

/-- A wake's effect, by the record of the panel (R74). -/
theorem wakeEffect_setPanel (p : Panel) (r : PanelRecord) (s : State) : wakeEffect p (s.setPanel p r) =
    match r.power with
      | .off => s.setPanel p r
      | .sleep => enterWaking p (s.setPanel p r)
      | .waking => s.setPanel p { r with transition := .none }
      | .active => s.setPanel p r
      | .dozing => s.setPanel p { r with transition := .wake } := by
  cases p <;> rfl

/-- A sleep's effect, by the record of the panel (R75). -/
theorem sleepEffect_setPanel (p : Panel) (r : PanelRecord) (s : State) : sleepEffect p (s.setPanel p r) =
    match r.power with
      | .off => s.setPanel p r
      | .sleep => s.setPanel p r
      | .waking => s.setPanel p { r with transition := .sleep }
      | .active =>
        let dozing := s.setPanel p { r with power := .dozing, blankEnded := 0, outBacklight := 0 }
        if (s.link p.link).state = .up then emit (.backlight p 0) dozing else dozing
      | .dozing => s.setPanel p { r with transition := .none } := by
  cases p <;> rfl

section
variable {r : PanelRecord}

theorem wakeEffect_stays (h : r.power = .off ∨ r.power = .active) : wakeEffect p (s.setPanel p r) = s.setPanel p r := by
  rw [wakeEffect_setPanel]
  rcases h with h | h <;> rw [h]

theorem wakeEffect_waking (h : r.power = .waking) :
    wakeEffect p (s.setPanel p r) = s.setPanel p { r with transition := .none } := by
  rw [wakeEffect_setPanel, h]

theorem wakeEffect_dozing (h : r.power = .dozing) :
    wakeEffect p (s.setPanel p r) = s.setPanel p { r with transition := .wake } := by
  rw [wakeEffect_setPanel, h]

theorem wakeEffect_sleep (h : r.power = .sleep) : wakeEffect p (s.setPanel p r) = enterWaking p (s.setPanel p r) := by
  rw [wakeEffect_setPanel, h]

theorem sleepEffect_stays (h : r.power = .off ∨ r.power = .sleep) : sleepEffect p (s.setPanel p r) = s.setPanel p r := by
  rw [sleepEffect_setPanel]
  rcases h with h | h <;> rw [h]

theorem sleepEffect_waking (h : r.power = .waking) :
    sleepEffect p (s.setPanel p r) = s.setPanel p { r with transition := .sleep } := by
  rw [sleepEffect_setPanel, h]

theorem sleepEffect_dozing (h : r.power = .dozing) :
    sleepEffect p (s.setPanel p r) = s.setPanel p { r with transition := .none } := by
  rw [sleepEffect_setPanel, h]

/-- An ACTIVE panel that goes to SLEEP dozes, its backlight put out (R75, R80). -/
theorem sleepEffect_active (h : r.power = .active) (up : (s.link p.link).state = .up) : sleepEffect p (s.setPanel p r) =
    { s.setPanel p { r with power := .dozing, blankEnded := 0, outBacklight := 0 } with
      out := .backlight p 0 :: s.out } := by
  rw [sleepEffect_setPanel, h]
  simp only [up, if_true, emit, State.setPanel_out]

end

/-- What a panel that wakes from SLEEP keeps, and the list its first frame start loads (R74, R85). -/
theorem enterWaking_lists (p : Panel) (s : State) :
    ((enterWaking p s).panel p).requestActive = (s.panel p).requestActive ∧
    ((enterWaking p s).panel p).activeList = (s.panel p).pendingList ∧
    ((enterWaking p s).panel p).pendingList = (s.panel p).pendingList := by
  have started := frameStart_unheld p
    (s.setPanel p { s.panel p with power := .waking, transition := .none, blankEnded := 0 })
  rw [State.panel_setPanel] at started
  exact ⟨(congrArg PanelRecord.requestActive started :), (congrArg PanelRecord.activeList started :),
    (congrArg PanelRecord.pendingList started :)⟩

/-- Settles O21: the requested state set, and then the effect by the power state of the panel's record. -/
theorem panelWakeAndSleepCommands : Obligations.PanelWakeAndSleepCommands := by
  unfold Obligations.PanelWakeAndSleepCommands
  intro mark n s hs
  refine ⟨fun bad => ⟨?_, ?_⟩, fun p hp => ?_⟩
  · exact congrArg Host.Outcome.next (runCommand_panel_refuse (c := .panelWake n) hs mark (panelWake_unknown bad s))
  · exact congrArg Host.Outcome.next (runCommand_panel_refuse (c := .panelSleep n) hs mark (panelSleep_unknown bad s))
  intro r
  have wakes : ∀ {t}, wakeEffect p (s.setPanel p { r with requestActive := true }) = t →
      exec (.panelWake mark n) s = .next (replied mark 11 .ok [] t) := fun effect =>
    congrArg Host.Outcome.next (runCommand_panel_done (c := .panelWake n) hs mark
      ((panelWake_known hp s).trans (congrArg done effect)))
  have sleeps : ∀ {t}, (if takeoverFrames s p then s.setPanel p { r with requestActive := false }
      else sleepEffect p (s.setPanel p { r with requestActive := false })) = t →
      exec (.panelSleep mark n) s = .next (replied mark 12 .ok [] t) := fun effect =>
    congrArg Host.Outcome.next (runCommand_panel_done (c := .panelSleep n) hs mark
      ((panelSleep_known hp s).trans (congrArg done effect)))
  refine ⟨fun power => wakes (wakeEffect_stays power), fun power => wakes (wakeEffect_waking power),
    fun power => wakes (wakeEffect_dozing power), fun power => ⟨_, wakes (wakeEffect_sleep power), ?_⟩,
    fun front engaged => sleeps (if_pos ((takeoverFrames_iff s p).mpr ⟨front, engaged⟩)), fun own => ?_⟩
  · obtain ⟨waking, ended, transition, frame, begun, -⟩ :=
      enterWaking_panel p (s.setPanel p { r with requestActive := true })
    have lists := enterWaking_lists p (s.setPanel p { r with requestActive := true })
    rw [State.panel_setPanel] at lists
    obtain ⟨request, active, pending⟩ := lists
    exact ⟨request, waking, transition, ended, by simp [begun], active, pending, by simp⟩
  · have free : ¬ takeoverFrames s p = true := by
      rw [takeoverFrames_iff]
      exact fun ⟨front, engaged⟩ => own.elim (· front) engaged
    have acts := fun {t} effect => sleeps (t := t) ((if_neg free).trans effect)
    exact ⟨fun power => acts (sleepEffect_stays power), fun power => acts (sleepEffect_waking power),
      fun power => acts (sleepEffect_dozing power), fun power up => acts (sleepEffect_active power up)⟩

end Sys2Proof.Machine
end

section
/-! The panel values and the report (R71, R79, R80, R91). -/

namespace Sys2Proof.Machine

variable {s : State} {p : Panel} {n level : Nat} {q : PanelSetParams}

/-! ### PANEL_BLANK, PANEL_SHOW and PANEL_LEVEL (R79, R80) -/

theorem panelBlank_known (hp : panel? n = some p) (b : Bool) (s : State) :
    panelBlank n b s = done (s.setPanel p { s.panel p with blanked := b }) := by
  simp [panelBlank, hp]

theorem panelBlank_unknown (h : 3 ≤ n) (b : Bool) (s : State) : panelBlank n b s = refuse .param s := by
  simp [panelBlank, panel?_unknown h]

theorem panelLevel_known (hp : panel? n = some p) (h : level ≤ 100) (s : State) :
    panelLevel n level s = done (setLevel p level s) := by
  simp [panelLevel, hp, Nat.not_lt.mpr h]

theorem panelLevel_refused (h : 3 ≤ n ∨ 101 ≤ level) (s : State) : panelLevel n level s = refuse .param s := by
  unfold panelLevel
  rcases h with h | h
  · rw [panel?_unknown h]
  · split
    · rfl
    · exact if_pos h

/-- A level that the panel has, or that it is not ACTIVE to show, is recorded alone. -/
theorem setLevel_quiet (h : (s.panel p).power ≠ .active ∨ (s.panel p).level = level) :
    setLevel p level s = s.setPanel p { s.panel p with level := level } :=
  if_neg fun ⟨active, changed⟩ => h.elim (· active) changed

/-- A changed level of an ACTIVE panel is sent. -/
theorem setLevel_sent (active : (s.panel p).power = .active) (changed : (s.panel p).level ≠ level)
    (up : (s.link p.link).state = .up) : setLevel p level s =
      { s.setPanel p { s.panel p with level := level, outBacklight := level } with out := .backlight p level :: s.out } := by
  have sent : setLevel p level s = sendBacklight p level (s.setPanel p { s.panel p with level := level }) :=
    if_pos ⟨active, changed⟩
  rw [sent]
  simp only [sendBacklight, State.setPanel_link, up, if_true, emit]
  cases p <;> rfl

/-! ### PANEL_SET (R71) -/

theorem producing_eq_false : producing s p = false ↔ (s.panel p).power = .sleep ∨ (s.panel p).power = .off := by
  unfold producing
  cases (s.panel p).power <;> simp

/-- R71's ranges of a panel's size and rate. -/
def panelInRange (q : PanelSetParams) : Prop :=
  16 ≤ q.width ∧ q.width ≤ 1280 ∧ 16 ≤ q.height ∧ q.height ≤ 800 ∧ 30 ≤ q.rate ∧ q.rate ≤ 60

theorem panelSet_refused (h : 3 ≤ q.panel ∨ ¬ panelInRange q ∨ 2 ≤ q.mirrorX ∨ 2 ≤ q.mirrorY) (s : State) :
    panelSet q s = refuse .param s := by
  unfold panelSet
  split
  · rename_i hp hx hy
    refine if_neg fun range => ?_
    rw [flag?_eq] at hx hy
    rcases h with panel | out | x | y
    · simp [panel?_unknown panel] at hp
    · exact out range
    · simp [Nat.not_le.mpr x] at hx
    · simp [Nat.not_le.mpr y] at hy
  · rfl

section
variable {mx my : Bool} (hp : panel? q.panel = some p) (hx : flag? q.mirrorX = some mx) (hy : flag? q.mirrorY = some my)
  (range : panelInRange q)
include hp hx hy range

/-- A changed size or rate is BUSY while the panel produces frames. -/
theorem panelSet_busy (changed : q.width ≠ (s.panel p).width ∨ q.height ≠ (s.panel p).height ∨ q.rate ≠ (s.panel p).rate)
    (on : ¬ ((s.panel p).power = .sleep ∨ (s.panel p).power = .off)) : panelSet q s = refuse .busy s := by
  have frames : producing s p = true := by rwa [← producing_eq_false, Bool.not_eq_false] at on
  simp only [panelSet, hp, hx, hy]
  exact (if_pos range).trans (if_pos (by simpa [frames, or_assoc] using changed))

/-- Otherwise the six values are replaced, and a changed size has the panel's plane drawn again. -/
theorem panelSet_done (free : (q.width = (s.panel p).width ∧ q.height = (s.panel p).height ∧ q.rate = (s.panel p).rate) ∨
      ((s.panel p).power = .sleep ∨ (s.panel p).power = .off)) : panelSet q s =
    let t := s.setPanel p { s.panel p with
      width := q.width, height := q.height, rate := q.rate, mirrorX := mx, mirrorY := my, background := q.background }
    done (if q.width ≠ (s.panel p).width ∨ q.height ≠ (s.panel p).height then requestRenders (resizedPlanes t p) t
      else t) := by
  rw [← producing_eq_false] at free
  simp only [panelSet, hp, hx, hy]
  refine ((if_pos range).trans (if_neg ?_)).trans (by simp only [decide_eq_true_eq])
  rintro ⟨changed, frames⟩
  rcases free with ⟨width, height, rate⟩ | still
  · simp [width, height, rate] at changed
  · simp [still] at frames

end

/-! ### PANEL_READ (R91) -/

theorem runCommand_panelRead (h : interpreterFree s = true) (mark : Byte) (n : Nat) :
    runCommand mark (.panelRead n) s = handAnswer mark (BitVec.ofNat 8 18) (panelRead n s) :=
  runCommand_early h mark (.panelRead n) rfl (by simp [Command.code])

theorem panelRead_unknown (h : 3 ≤ n) (s : State) : panelRead n s = refuse .param s := by
  simp [panelRead, panel?_unknown h]

theorem panelRead_known (hp : panel? n = some p) (s : State) : panelRead n s =
    report ((s.panel p).bytes ++ u8 (s.link p.link).state.code ++ listBytes Layer.bytes (s.panel p).pendingList
      ++ listBytes Layer.bytes (s.panel p).activeList ++ heldBytes (s.panel p)
      ++ (if p = .front then optionBytes (fun h : Hold => u8 h.buffer) s.takeover.cameraHold else [])) s := by
  simp only [panelRead, hp]

/-- Settles O22, command by command: the owner's answer over known and over other parameters, handed over. -/
theorem panelValueCommands : Obligations.PanelValueCommands := by
  unfold Obligations.PanelValueCommands
  refine ⟨fun mark n level s hs => ⟨fun bad => ⟨?_, ?_⟩, fun bad => ?_, fun p hp => ?_⟩, fun mark q n s =>
    ⟨fun hs => ⟨fun bad => ?_, fun p mx my hp hx hy w1 w2 h1 h2 r1 r2 => ?_⟩,
      fun free => ⟨fun bad => ?_, fun p hp => ?_⟩⟩⟩
  · exact congrArg Host.Outcome.next (runCommand_panel_refuse (c := .panelBlank n) hs mark (panelBlank_unknown bad true s))
  · exact congrArg Host.Outcome.next (runCommand_panel_refuse (c := .panelShow n) hs mark (panelBlank_unknown bad false s))
  · exact congrArg Host.Outcome.next (runCommand_panel_refuse (c := .panelLevel n level) hs mark (panelLevel_refused bad s))
  · have levels : ∀ {t}, level ≤ 100 → setLevel p level s = t →
        exec (.panelLevel mark n level) s = .next (replied mark 15 .ok [] t) := fun most effect =>
      congrArg Host.Outcome.next (runCommand_panel_done (c := .panelLevel n level) hs mark
        ((panelLevel_known hp most s).trans (congrArg done effect)))
    exact ⟨congrArg Host.Outcome.next (runCommand_panel_done (c := .panelBlank n) hs mark (panelBlank_known hp true s)),
      congrArg Host.Outcome.next (runCommand_panel_done (c := .panelShow n) hs mark (panelBlank_known hp false s)),
      fun most quiet => levels most (setLevel_quiet quiet),
      fun most active changed up => levels most (setLevel_sent active changed up)⟩
  · refine congrArg Host.Outcome.next (runCommand_panel_refuse (c := .panelSet q) hs mark (panelSet_refused ?_ s))
    unfold panelInRange
    omega
  · intro r t quiet
    have range : panelInRange q := ⟨w1, w2, h1, h2, r1, r2⟩
    have sets : ∀ {u}, panelSet q s = done u → exec (.panelSet mark q) s = .next (replied mark 10 .ok [] u) :=
      fun answer => congrArg Host.Outcome.next (runCommand_panel_done (c := .panelSet q) hs mark answer)
    refine ⟨fun width height free => ?_, fun resized still => ?_, fun changed on => ?_⟩
    · refine sets ((panelSet_done hp hx hy range (free.imp (⟨width, height, ·⟩) id)).trans (congrArg done (if_neg ?_)))
      exact fun resized => resized.elim (· width) (· height)
    · refine sets ((panelSet_done hp hx hy range (.inr still)).trans (congrArg done ((if_pos resized).trans ?_)))
      cases p <;> rfl
    · exact congrArg Host.Outcome.next
        (runCommand_panel_refuse (c := .panelSet q) hs mark (panelSet_busy hp hx hy range changed on))
  · exact congrArg Host.Outcome.next ((runCommand_panelRead free mark n).trans
      (by rw [panelRead_unknown bad, handAnswer_refuse]))
  · intro r record buffer held
    have heldSame : heldBytes r = held := List.flatMap_congr fun l _ => by cases l.source <;> rfl
    have recordSame : r.bytes = record := by simp [PanelRecord.bytes, record]
    refine congrArg Host.Outcome.next ((runCommand_panelRead free mark n).trans ?_)
    rw [← heldSame, ← recordSame, panelRead_known hp, handAnswer_report]

end Sys2Proof.Machine
end

section
/-! LAYER_SET and LAYER_CLEAR (R82 to R84). -/

namespace Sys2Proof.Machine

variable {s : State} {p : Panel} {q : LayerSetParams} {l x : Layer} {ls before after : List Layer} {pl : Placement}

/-! ### Layer records (R82, section 4.4) -/

theorem layerSource?_eq_some {n argument : Nat} {fill : Optional Rgb} {src : LayerSource} :
    layerSource? p n argument fill = some src ↔
      (∃ k : Fin 8, src = .ring k ∧ n = 0 ∧ argument = k.val ∧ fill = .absent) ∨
      (src = .menu ∧ p ≠ .front ∧ n = 1 ∧ fill = .absent) ∨ (∃ c, src = .fill c ∧ n = 2 ∧ fill = .present c) := by
  unfold layerSource?
  split
  · simp only [Option.map_eq_some_iff, fin?_eq_some]
    simp [and_comm, eq_comm]
  · by_cases front : p = .front <;> simp [front, eq_comm]
  · simp [eq_comm]
  · rename_i noRing noMenu noFill
    simp only [reduceCtorEq, false_iff, not_or, not_exists]
    exact ⟨fun k ⟨_, n, _, fill⟩ => noRing n fill, fun ⟨_, _, n, fill⟩ => noMenu n fill,
      fun c ⟨_, n, fill⟩ => noFill c n fill⟩

/-- R82's ranges of a layer's window, global alpha and flags, with persist on FRONT alone. -/
def layerInRange (p : Panel) (q : LayerSetParams) : Prop :=
  -1280 ≤ q.x ∧ q.x ≤ 1279 ∧ -800 ≤ q.y ∧ q.y ≤ 799 ∧ 1 ≤ q.w ∧ q.w ≤ 2560 ∧ 1 ≤ q.h ∧ q.h ≤ 1600 ∧
  q.alpha ≤ 255 ∧ q.visible ≤ 1 ∧ q.persist ≤ 1 ∧ (q.persist = 1 → p = .front)

theorem layerRecord?_eq_some : layerRecord? p q = some l ↔
    l = { id := l.id, source := l.source, x := q.x, y := q.y, w := q.w, h := q.h, alpha := q.alpha,
          visible := decide (q.visible = 1), persist := decide (q.persist = 1) } ∧ q.layer = l.id.val ∧
      layerSource? p q.source q.sourceArg q.fill = some l.source ∧ layerInRange p q := by
  unfold layerRecord? layerInRange
  simp only [flag?_eq, Option.bind_eq_bind, Option.bind_eq_some_iff, Option.ite_none_right_eq_some, Option.some.injEq,
    fin?_eq_some]
  constructor
  · rintro ⟨id, layer, src, source, _, ⟨visible, rfl⟩, _, ⟨persist, rfl⟩, range, rfl⟩
    refine ⟨rfl, layer, source, ?_⟩
    simp only [decide_eq_true_eq] at range
    tauto
  · rintro ⟨fields, layer, source, range⟩
    refine ⟨l.id, layer, l.source, source, _, ⟨by tauto, rfl⟩, _, ⟨by tauto, rfl⟩, ?_, fields.symm⟩
    simp only [decide_eq_true_eq]
    tauto

/-! ### Placements (R83) -/

theorem placement?_iff (code argument : Nat) (pl : Placement) : placement? code argument = some pl ↔
    (code, pl) ∈ [(0, .keep), (1, .top), (2, .bottom), (3, .above argument)] := by
  match code with
  | 0 | 1 | 2 | 3 => simp [placement?, eq_comm]
  | n + 4 => simp [placement?]

theorem ringShown_iff (ls : List Layer) (l : Layer) :
    ringShown ls l = true ↔ ∃ k, l.source = .ring k ∧ ∃ x ∈ ls, x.id ≠ l.id ∧ x.source = .ring k := by
  unfold ringShown
  split
  · rename_i k source
    simp [source]
  · rename_i source; simp [source]
  · rename_i source; simp [source]

theorem placementOk_eq_false (ls : List Layer) (l : Layer) (pl : Placement) :
    placementOk ls l pl = false ↔ ∃ m, pl = .above m ∧ (m = l.id.val ∨ ∀ x ∈ ls, x.id.val ≠ m) := by
  cases pl with
  | above m =>
    simp only [placementOk, Bool.and_eq_false_iff, decide_eq_false_iff_not, List.any_eq_false, Placement.above.injEq]
    simp
  | keep => simp [placementOk]
  | top => simp [placementOk]
  | bottom => simp [placementOk]

theorem insertAbove_found (l : Layer) (other : ∀ y ∈ before, y.id ≠ x.id) :
    insertAbove x.id.val l (before ++ x :: after) = before ++ x :: l :: after := by
  induction before with
  | nil => simp [insertAbove]
  | cons y before ih =>
    obtain ⟨ne, other⟩ := List.forall_mem_cons.mp other
    have ne : y.id.val ≠ x.id.val := fun same => ne (Fin.ext same)
    rw [List.cons_append, insertAbove, if_neg ne, ih other, List.cons_append]

theorem placeLayer_keep_new (new : ∀ x ∈ ls, x.id ≠ l.id) : placeLayer ls l .keep = ls ++ [l] := by
  have absent : ls.any (fun x => x.id == l.id) = false := by simpa using new
  simp [placeLayer, absent]

theorem placeLayer_keep_known (same : x.id = l.id) (other : ∀ y ∈ before ++ after, y.id ≠ l.id) :
    placeLayer (before ++ x :: after) l .keep = before ++ l :: after := by
  have stays : ∀ ys : List Layer, (∀ y ∈ ys, y.id ≠ l.id) → (ys.map fun y => if y.id = l.id then l else y) = ys :=
    fun ys h => List.map_congr_left (fun y hy => if_neg (h y hy)) |>.trans (List.map_id' ys)
  obtain ⟨beforeOther, afterOther⟩ := List.forall_mem_append.mp other
  simp [placeLayer, same, stays before beforeOther, stays after afterOther]

/-! ### The commands -/

theorem layerSet_unknown (h : 3 ≤ q.panel) (s : State) : layerSet q s = refuse .param s := by
  simp [layerSet, panel?_unknown h]

theorem layerSet_invalid (hp : panel? q.panel = some p)
    (bad : layerRecord? p q = none ∨ placement? q.placement q.placementArg = none) (s : State) :
    layerSet q s = refuse .param s := by
  simp only [layerSet, hp]
  rcases bad with bad | bad <;> simp [bad]

theorem layerSet_valid (hp : panel? q.panel = some p) (hl : layerRecord? p q = some l)
    (hpl : placement? q.placement q.placementArg = some pl) (s : State) : layerSet q s =
      if ringShown (s.panel p).pendingList l = true ∨ placementOk (s.panel p).pendingList l pl = false then refuse .param s
      else done (s.setPanel p { s.panel p with pendingList := placeLayer (s.panel p).pendingList l pl }) := by
  simp [layerSet, hp, hl, hpl]

theorem layerClear_refused {n id : Nat} (h : 3 ≤ n ∨ (6 ≤ id ∧ id ≠ 255)) (s : State) :
    layerClear n id s = refuse .param s := by
  unfold layerClear
  rcases h with h | ⟨high, one⟩
  · rw [panel?_unknown h]
  · split
    · rfl
    · rw [if_neg one, if_pos (by omega)]

theorem layerClear_one {n id : Nat} (hp : panel? n = some p) (h : id ≤ 5) (s : State) : layerClear n id s =
    done (s.setPanel p { s.panel p with pendingList := (s.panel p).pendingList.filter fun l => l.id.val ≠ id }) := by
  simp only [layerClear, hp]
  rw [if_neg (by omega), if_neg (by omega)]

theorem layerClear_all {n : Nat} (hp : panel? n = some p) (s : State) :
    layerClear n 255 s = done (s.setPanel p { s.panel p with pendingList := [] }) := by
  simp [layerClear, hp]

/-- Settles O23: the records and the placements in words, and LAYER_SET and LAYER_CLEAR by their answers. -/
theorem layerListCommands : Obligations.LayerListCommands := by
  unfold Obligations.LayerListCommands
  intro mark q n id s hs
  have param : layerSet q s = refuse .param s → exec (.layerSet mark q) s = .next (replied mark 16 .param [] s) :=
    fun answer => congrArg Host.Outcome.next (runCommand_panel_refuse (c := .layerSet q) hs mark answer)
  refine ⟨fun bad => param (layerSet_unknown bad s), fun p hp => ⟨fun bad => param (layerSet_invalid hp bad s),
    fun l pl hl hpl => ⟨fun free ok => ?_, fun bad => ?_⟩⟩, fun p l => ?_, placement?_iff, fun ls l pl =>
    ⟨ringShown_iff ls l, placementOk_eq_false ls l pl, rfl, rfl, placeLayer_keep_new, ?_, ?_⟩, fun bad => ?_,
    fun p hp => ⟨fun one => ?_, ?_⟩⟩
  · refine congrArg Host.Outcome.next (runCommand_panel_done (c := .layerSet q) hs mark
      ((layerSet_valid hp hl hpl s).trans (if_neg ?_)))
    simp [free, ok]
  · exact param ((layerSet_valid hp hl hpl s).trans (if_pos bad))
  · rw [layerRecord?_eq_some, layerSource?_eq_some]
    rfl
  · rintro before x after rfl same other
    exact placeLayer_keep_known same other
  · intro before x after split other
    exact (congrArg (insertAbove x.id.val l) split).trans (insertAbove_found l other)
  · exact congrArg Host.Outcome.next (runCommand_panel_refuse (c := .layerClear n id) hs mark (layerClear_refused bad s))
  · exact congrArg Host.Outcome.next (runCommand_panel_done (c := .layerClear n id) hs mark (layerClear_one hp one s))
  · exact congrArg Host.Outcome.next (runCommand_panel_done (c := .layerClear n 255) hs mark (layerClear_all hp s))

end Sys2Proof.Machine
end

section
/-! What the readers of a panel hold from a frame start on (R67, R86, R23). -/

namespace Sys2Proof.Machine

variable {s : State} {p : Panel} {ls : List Layer} {l : Layer} {id : Fin 6} {n : Fin 8} {k : Nat}

/-! ### No reader changes a ring's latest (R67, R68) -/

/-- The latest buffer of each ring. -/
def State.latest (s : State) (n : Fin 8) : Option Nat := (s.ring n).latest

@[simp] theorem releaseHold_latests (h : Hold) (s : State) : (releaseHold h s).latest = s.latest :=
  funext fun n => releaseHold_latest h s n

@[simp] theorem takeHold_latests (h : Hold) (s : State) : (takeHold h s).latest = s.latest := by
  funext n
  unfold State.latest takeHold
  by_cases e : n = h.ring
  · subst e
    simp [Ring.hold, Ring.modify]
  · rw [State.ring_setRing_ne _ _ _ _ e]

@[simp] theorem setPanel_latests (p : Panel) (r : PanelRecord) (s : State) : (s.setPanel p r).latest = s.latest :=
  funext fun n => by simp [State.latest]

@[simp] theorem setHold_latests (p : Panel) (id : Fin 6) (h : Option Hold) (s : State) :
    (setHold p id h s).latest = s.latest := setPanel_latests _ _ s

@[simp] theorem pickUp_latests (n : Fin 8) (held : Option Hold) (s : State) : (pickUp n held s).2.latest = s.latest := by
  rcases pickUp_cases n held s with e | ⟨k, -, ⟨-, e⟩ | ⟨h, -, -, e⟩⟩ <;> simp [e]

@[simp] theorem releaseStale_latests (p : Panel) (id : Fin 6) (s : State) : (releaseStale p id s).latest = s.latest := by
  unfold releaseStale
  split
  · rfl
  · split
    · rfl
    · unfold dropHold
      split <;> simp

@[simp] theorem pickUpLayer_latests (p : Panel) (l : Layer) (s : State) : (pickUpLayer p l s).latest = s.latest := by
  unfold pickUpLayer
  split <;> simp

/-! ### A stale buffer released (R86 step 1) -/

theorem readsRing_iff (ls : List Layer) (id : Fin 6) (n : Fin 8) :
    readsRing ls id n = true ↔ ∃ l ∈ ls, l.id = id ∧ l.source = .ring n := by
  simp [readsRing]

/-- Of what a layer id holds, what a list of layers still reads under that id. -/
def stillRead (ls : List Layer) (id : Fin 6) (held : Option Hold) : Option Hold :=
  held.filter fun h => readsRing ls id h.ring

theorem stillRead_some {held : Option Hold} {h : Hold} : stillRead ls id held = some h ↔
    held = some h ∧ ∃ l ∈ ls, l.id = id ∧ l.source = .ring h.ring := by
  rw [stillRead, Option.filter_eq_some_iff, readsRing_iff]

theorem stillRead_twice (held : Option Hold) : stillRead ls id (stillRead ls id held) = stillRead ls id held := by
  simp [stillRead, Option.filter_filter]

theorem releaseStale_activeList (p : Panel) (id : Fin 6) (s : State) :
    ((releaseStale p id s).panel p).activeList = (s.panel p).activeList :=
  (congrArg PanelRecord.activeList (releaseStale_unheld p s id) :)

theorem releaseStale_hold (p : Panel) (id j : Fin 6) (s : State) : ((releaseStale p id s).panel p).hold j =
    if j = id then stillRead (s.panel p).activeList j ((s.panel p).hold j) else (s.panel p).hold j := by
  unfold releaseStale
  by_cases e : j = id
  · subst e
    cases held : (s.panel p).hold j with
    | none => simp [stillRead, held]
    | some h =>
      cases reads : readsRing (s.panel p).activeList j h.ring with
      | true => simp [stillRead, held, Option.filter, reads]
      | false => simp [stillRead, Option.filter, reads, dropHold_hold]
  · rw [if_neg e]
    split
    · rfl
    · split
      · rfl
      · rw [dropHold_hold, if_neg e]

theorem foldl_releaseStale_hold (p : Panel) (ids : List (Fin 6)) (j : Fin 6) (s : State) :
    ((ids.foldl (fun s id => releaseStale p id s) s).panel p).hold j =
      if j ∈ ids then stillRead (s.panel p).activeList j ((s.panel p).hold j) else (s.panel p).hold j := by
  induction ids generalizing s with
  | nil => simp
  | cons id ids ih =>
    rw [List.foldl_cons, ih, releaseStale_activeList, releaseStale_hold]
    by_cases here : j = id <;> by_cases later : j ∈ ids <;> simp [here, later, stillRead_twice]

/-! ### The latest picked up (R86 step 2) -/

/-- What a reader of a ring holds after its pick-up: the ring's latest, or, while it has none, what it held. -/
theorem pickUp_held (n : Fin 8) (held : Option Hold) (s : State) :
    (pickUp n held s).1 = ((s.latest n).map (Hold.mk n)).or held := by
  unfold State.latest pickUp
  cases (s.ring n).latest with
  | none => rfl
  | some k =>
    dsimp only
    split
    · assumption
    · cases held <;> rfl

/-- What a layer's id holds after that layer's pick-up. -/
def Layer.takesUp (latest : Fin 8 → Option Nat) (l : Layer) (held : Option Hold) : Option Hold :=
  match l.source with
  | .ring n => ((latest n).map (Hold.mk n)).or held
  | .menu => held
  | .fill _ => held

/-- What a layer id holds after the pick-ups of a list of layers. -/
def takenUp (latest : Fin 8 → Option Nat) (ls : List Layer) (id : Fin 6) (held : Option Hold) : Option Hold :=
  ls.foldl (fun held l => if l.id = id then l.takesUp latest held else held) held

theorem pickUpLayer_hold (p : Panel) (l : Layer) (id : Fin 6) (s : State) : ((pickUpLayer p l s).panel p).hold id =
    if l.id = id then l.takesUp s.latest ((s.panel p).hold id) else (s.panel p).hold id := by
  unfold pickUpLayer Layer.takesUp
  cases l.source with
  | ring n =>
    dsimp only
    rw [hold_setHold, pickUp_panel]
    by_cases e : l.id = id
    · simp [e, pickUp_held]
    · rw [if_neg (Ne.symm e), if_neg e]
  | menu => simp
  | fill c => simp

theorem foldl_pickUpLayer_hold (p : Panel) (ls : List Layer) (id : Fin 6) (s : State) :
    ((ls.foldl (fun s l => pickUpLayer p l s) s).panel p).hold id = takenUp s.latest ls id ((s.panel p).hold id) := by
  induction ls generalizing s with
  | nil => rfl
  | cons l ls ih => rw [List.foldl_cons, ih, pickUpLayer_latests, pickUpLayer_hold]; rfl

/-- What an id holds is a ring's latest that a layer of the id took up, or what it held before. -/
theorem takenUp_some {latest : Fin 8 → Option Nat} {held : Option Hold} {h : Hold}
    (taken : takenUp latest ls id held = some h) :
    (∃ l ∈ ls, l.id = id ∧ l.source = .ring h.ring) ∨ held = some h := by
  induction ls generalizing held with
  | nil => exact .inr taken
  | cons l ls ih =>
    rcases ih taken with ⟨x, mem, reads⟩ | before
    · exact .inl ⟨x, List.mem_cons_of_mem l mem, reads⟩
    · dsimp only at before
      by_cases e : l.id = id
      · rw [if_pos e, Layer.takesUp] at before
        split at before
        · rename_i n source
          rcases Option.or_eq_some_iff.mp before with new | ⟨-, old⟩
          · obtain ⟨k, -, rfl⟩ := Option.map_eq_some_iff.mp new
            exact .inl ⟨l, List.mem_cons_self, e, source⟩
          · exact .inr old
        · exact .inr before
        · exact .inr before
      · exact .inr (by rwa [if_neg e] at before)

theorem takenUp_other (latest : Fin 8 → Option Nat) (other : ∀ x ∈ ls, x.id ≠ id) (held : Option Hold) :
    takenUp latest ls id held = held := by
  induction ls generalizing held with
  | nil => rfl
  | cons x ls ih =>
    obtain ⟨ne, other⟩ := List.forall_mem_cons.mp other
    exact (congrArg (takenUp latest ls id) (if_neg ne)).trans (ih other held)

/-- In a list without repeated ids the id of a layer follows that layer alone. -/
theorem takenUp_mem (latest : Fin 8 → Option Nat) (nodup : (ls.map (·.id)).Nodup) (mem : l ∈ ls) (held : Option Hold) :
    takenUp latest ls l.id held = l.takesUp latest held := by
  obtain ⟨before, after, rfl⟩ := List.append_of_mem mem
  rw [List.map_append, List.map_cons, List.nodup_middle, List.nodup_cons, ← List.map_append] at nodup
  have other : ∀ x ∈ before ++ after, x.id ≠ l.id := fun x hx same => nodup.1 (List.mem_map.mpr ⟨x, hx, same⟩)
  obtain ⟨beforeOther, afterOther⟩ := List.forall_mem_append.mp other
  have parts : takenUp latest (before ++ l :: after) l.id held =
      takenUp latest after l.id (l.takesUp latest (takenUp latest before l.id held)) := by simp [takenUp]
  rw [parts, takenUp_other latest beforeOther, takenUp_other latest afterOther]

/-! ### The readers of a frame start -/

/-- The layers' part of a frame start: the list loaded, the stale buffers released, the latest ones picked up (R85, R86). -/
def settleLayers (p : Panel) (s : State) : State :=
  let loaded := s.setPanel p { s.panel p with activeList := (s.panel p).pendingList }
  let released := (List.finRange 6).foldl (fun s id => releaseStale p id s) loaded
  (released.panel p).activeList.foldl (fun s l => pickUpLayer p l s) released

/-- The camera layer's part, of FRONT alone (R23). -/
def settleCamera (p : Panel) (s : State) : State :=
  match p with
  | .front => cameraLayerStart s
  | .left => s
  | .right => s

theorem settleReaders_eq (p : Panel) (s : State) :
    settleReaders p s = (ownedPlanes p).foldl (fun s q => swapPlane q s) (settleCamera p (settleLayers p s)) := by
  cases p <;> rfl

theorem swapPlanes_panels (qs : List Plane) (s : State) : (qs.foldl (fun s q => swapPlane q s) s).panels = s.panels :=
  foldl_keeps (·.panels) _ (fun s q => by simp) qs s

theorem swapPlanes_takeover (qs : List Plane) (s : State) : (qs.foldl (fun s q => swapPlane q s) s).takeover = s.takeover :=
  foldl_keeps (·.takeover) _ (fun s q => by simp) qs s

theorem settleCamera_panel (p q : Panel) (s : State) : (settleCamera p s).panel q = s.panel q := by
  cases p with
  | front => exact cameraLayerStart_panel s q
  | left => rfl
  | right => rfl

theorem settleCamera_raster (p : Panel) (s : State) : (settleCamera p s).raster = s.raster := by
  cases p <;> simp [settleCamera]

theorem settleLayers_hold (p : Panel) (id : Fin 6) (s : State) : ((settleLayers p s).panel p).hold id =
    takenUp s.latest (s.panel p).pendingList id (stillRead (s.panel p).pendingList id ((s.panel p).hold id)) := by
  have released := fun (u : State) => foldl_keeps (fun u => (u.panel p).activeList) (fun u id => releaseStale p id u)
    (fun u id => releaseStale_activeList p id u) (List.finRange 6) u
  have latests := fun (u : State) => foldl_keeps State.latest (fun u id => releaseStale p id u)
    (fun u id => releaseStale_latests p id u) (List.finRange 6) u
  unfold settleLayers
  dsimp only
  rw [foldl_pickUpLayer_hold, foldl_releaseStale_hold, if_pos (List.mem_finRange id), released, latests,
    State.panel_setPanel, setPanel_latests]
  rfl

/-- What a layer id holds from a frame start on: of what it held, what the list reads, and over it what the list's layers
pick up. -/
theorem frameStart_hold (p : Panel) (id : Fin 6) (s : State) : ((frameStart p s).panel p).hold id =
    takenUp s.latest (s.panel p).pendingList id (stillRead (s.panel p).pendingList id ((s.panel p).hold id)) := by
  have settled : ((settleReaders p s).panel p).hold id = ((settleLayers p s).panel p).hold id := by
    rw [settleReaders_eq, panel_of_panels (swapPlanes_panels _ _), settleCamera_panel]
  rw [← settleLayers_hold, ← settled]
  simp [frameStart, PanelRecord.hold]

/-- A held buffer is of a ring that the id's layer of the list reads. -/
theorem frameStart_hold_reads {h : Hold} (held : ((frameStart p s).panel p).hold id = some h) :
    ∃ l ∈ (s.panel p).pendingList, l.id = id ∧ l.source = .ring h.ring := by
  rw [frameStart_hold] at held
  exact (takenUp_some held).elim (fun taken => taken) fun kept => (stillRead_some.mp kept).2

section
variable (nodup : ((s.panel p).pendingList.map (·.id)).Nodup) (mem : l ∈ (s.panel p).pendingList)
  (source : l.source = .ring n)
include nodup mem source

theorem frameStart_hold_layer : ((frameStart p s).panel p).hold l.id =
    ((s.latest n).map (Hold.mk n)).or (stillRead (s.panel p).pendingList l.id ((s.panel p).hold l.id)) := by
  rw [frameStart_hold, takenUp_mem s.latest nodup mem, Layer.takesUp, source]

theorem frameStart_hold_latest (latest : (s.ring n).latest = some k) :
    ((frameStart p s).panel p).hold l.id = some { ring := n, buffer := k } := by
  rw [frameStart_hold_layer nodup mem source, State.latest, latest]
  rfl

/-- A ring without a latest leaves its reader the buffer of it that the reader holds. -/
theorem frameStart_hold_kept (unset : (s.ring n).latest = none) {h : Hold} (held : (s.panel p).hold l.id = some h)
    (same : h.ring = n) : ((frameStart p s).panel p).hold l.id = some h := by
  rw [frameStart_hold_layer nodup mem source, State.latest, unset]
  exact stillRead_some.mpr ⟨held, l, mem, rfl, same ▸ source⟩

/-- A buffer of another ring is given up. -/
theorem frameStart_hold_stale (unset : (s.ring n).latest = none)
    (other : ∀ h, (s.panel p).hold l.id = some h → h.ring ≠ n) : ((frameStart p s).panel p).hold l.id = none := by
  rw [frameStart_hold_layer nodup mem source, State.latest, unset]
  refine Option.eq_none_iff_forall_ne_some.mpr fun h kept => ?_
  obtain ⟨held, x, hx, same, reads⟩ := stillRead_some.mp kept
  have here : x = l := List.inj_on_of_nodup_map nodup hx mem same
  subst here
  exact other h held (LayerSource.ring.inj (reads.symm.trans source))

end

/-! ### The camera layer (R23) -/

theorem cameraRing_congr {t : State} (camera : t.takeover.camera = s.takeover.camera) (tags : ∀ i, t.tag i = s.tag i) :
    cameraRing t = cameraRing s := by
  unfold cameraRing
  rw [camera]
  simp only [tags]

theorem cameraLayerStart_idle (idle : s.takeover.phase = .idle) : (cameraLayerStart s).takeover.cameraHold = none := by
  rw [cameraLayerStart, if_pos idle, dropCameraHold_none]

theorem cameraLayerStart_unassigned (engaged : s.takeover.phase ≠ .idle) (unnamed : cameraRing s = none) :
    (cameraLayerStart s).takeover.cameraHold = none := by
  rw [cameraLayerStart, if_neg engaged, unnamed]
  exact dropCameraHold_none s

theorem cameraLayerStart_follows (engaged : s.takeover.phase ≠ .idle) (ring : cameraRing s = some n) :
    (cameraLayerStart s).takeover.cameraHold = ((s.latest n).map (Hold.mk n)).or s.takeover.cameraHold := by
  rw [cameraLayerStart, if_neg engaged, ring]
  exact pickUp_held n _ s

theorem releaseStale_tag (p : Panel) (id : Fin 6) (s : State) (i : Fin 32) : (releaseStale p id s).tag i = s.tag i := by
  unfold releaseStale
  split
  · rfl
  · split <;> simp

/-- What the layers' part of a frame start keeps, as each of its steps does. -/
theorem settleLayers_keeps {β : Type} (g : State → β) (loads : ∀ r, g (s.setPanel p r) = g s)
    (releases : ∀ u id, g (releaseStale p id u) = g u) (picks : ∀ u l, g (pickUpLayer p l u) = g u) :
    g (settleLayers p s) = g s := by
  unfold settleLayers
  dsimp only
  rw [foldl_keeps g (fun u l => pickUpLayer p l u) picks, foldl_keeps g (fun u id => releaseStale p id u) releases, loads]

theorem settleLayers_takeover (p : Panel) (s : State) : (settleLayers p s).takeover = s.takeover :=
  settleLayers_keeps (fun u => u.takeover) (by simp) (by simp) (by simp)

theorem settleLayers_latest (p : Panel) (s : State) : (settleLayers p s).latest = s.latest :=
  settleLayers_keeps State.latest (by simp) (by simp) (by simp)

theorem settleLayers_cameraRing (p : Panel) (s : State) : cameraRing (settleLayers p s) = cameraRing s :=
  cameraRing_congr (by rw [settleLayers_takeover]) fun i => settleLayers_keeps (fun u => u.tag i) (by simp)
    (fun u id => releaseStale_tag p id u i) (by simp)

/-- What the camera layer holds from a FRONT frame start on. -/
theorem frameStart_cameraHold (s : State) :
    (frameStart .front s).takeover.cameraHold = (cameraLayerStart (settleLayers .front s)).takeover.cameraHold := by
  rw [frameStart, State.setPanel_takeover, settleReaders_eq, swapPlanes_takeover, settleCamera]

theorem frameStart_cameraHold_idle (idle : s.takeover.phase = .idle) : (frameStart .front s).takeover.cameraHold = none := by
  rw [frameStart_cameraHold]
  exact cameraLayerStart_idle (by rwa [settleLayers_takeover])

section
variable (engaged : s.takeover.phase ≠ .idle)
include engaged

theorem frameStart_cameraHold_unassigned (unnamed : cameraRing s = none) :
    (frameStart .front s).takeover.cameraHold = none := by
  rw [frameStart_cameraHold]
  exact cameraLayerStart_unassigned (by rwa [settleLayers_takeover]) (by rwa [settleLayers_cameraRing])

theorem frameStart_cameraHold_follows (ring : cameraRing s = some n) : (frameStart .front s).takeover.cameraHold =
    ((s.latest n).map (Hold.mk n)).or s.takeover.cameraHold := by
  rw [frameStart_cameraHold, cameraLayerStart_follows (by rwa [settleLayers_takeover])
    ((settleLayers_cameraRing .front s).trans ring), settleLayers_latest, settleLayers_takeover]

end

/-! ### The planes (R97) -/

theorem swapPlane_plane_ne {q j : Plane} (ne : j ≠ q) (s : State) : (swapPlane q s).plane j = s.plane j := by
  cases back : (s.plane q).back <;> simp [swapPlane, back, State.plane_setPlane_ne _ _ _ _ ne]

theorem swapPlane_frontOne (q : Plane) (s : State) : ((swapPlane q s).plane q).frontOne =
    if (s.plane q).back = .done then !(s.plane q).frontOne else (s.plane q).frontOne := by
  cases back : (s.plane q).back <;> simp [swapPlane, back]

theorem foldl_swapPlane_other {qs : List Plane} {q : Plane} (other : q ∉ qs) (s : State) :
    (qs.foldl (fun s q => swapPlane q s) s).plane q = s.plane q := by
  induction qs generalizing s with
  | nil => rfl
  | cons x qs ih =>
    obtain ⟨ne, other⟩ := not_or.mp (mt List.mem_cons.mpr other)
    rw [List.foldl_cons, ih other, swapPlane_plane_ne ne]

theorem foldl_swapPlane_frontOne {qs : List Plane} (nodup : qs.Nodup) {q : Plane} (mem : q ∈ qs) (s : State) :
    ((qs.foldl (fun s q => swapPlane q s) s).plane q).frontOne =
      if (s.plane q).back = .done then !(s.plane q).frontOne else (s.plane q).frontOne := by
  induction qs generalizing s with
  | nil => cases mem
  | cons x qs ih =>
    obtain ⟨apart, nodup⟩ := List.nodup_cons.mp nodup
    rw [List.foldl_cons]
    rcases List.mem_cons.mp mem with rfl | mem
    · rw [foldl_swapPlane_other apart, swapPlane_frontOne]
    · have ne : q ≠ x := fun same => apart (same ▸ mem)
      rw [ih nodup mem, swapPlane_plane_ne ne]

/-- The planes that a panel owns are swapped at its frame start just when a drawn buffer waits. -/
theorem frameStart_frontOne {q : Plane} (mem : q ∈ ownedPlanes p) (s : State) : ((frameStart p s).plane q).frontOne =
    if (s.plane q).back = .done then !(s.plane q).frontOne else (s.plane q).frontOne := by
  have before : (settleCamera p (settleLayers p s)).plane q = s.plane q := by
    have raster : (settleCamera p (settleLayers p s)).raster = s.raster := by
      rw [settleCamera_raster, settleLayers_keeps (fun u => u.raster) (by simp) (by simp) (by simp)]
    cases q <;> simp [State.plane, raster]
  rw [frameStart, State.setPanel_plane, settleReaders_eq, foldl_swapPlane_frontOne (by cases p <;> decide) mem, before]

end Sys2Proof.Machine
end

section
/-! What a frame start fixes (R22, R23, R86, R87). -/

namespace Sys2Proof.Machine

variable {s : State} {p : Panel}

/-! ### Windows (R22) -/

theorem windowsMeet_iff (width height : Nat) (x1 y1 w1 h1 x2 y2 w2 h2 : Int) :
    windowsMeet width height x1 y1 w1 h1 x2 y2 w2 h2 = true ↔
      ∃ x y : Int, (0 ≤ x ∧ x < width ∧ 0 ≤ y ∧ y < height) ∧ (x1 ≤ x ∧ x < x1 + w1 ∧ y1 ≤ y ∧ y < y1 + h1) ∧
        (x2 ≤ x ∧ x < x2 + w2 ∧ y2 ≤ y ∧ y < y2 + h2) := by
  simp only [windowsMeet, Bool.and_eq_true, decide_eq_true_eq]
  constructor
  · intro meet
    exact ⟨max 0 (max x1 x2), max 0 (max y1 y2), by omega⟩
  · rintro ⟨x, y, panel, first, second⟩
    omega

/-! ### Surfaces (R22, R87, R88) -/

/-- The source of a layer, with what its id holds bound to the held buffer. -/
theorem layerSource_eq (s : State) (p : Panel) (l : Layer) : layerSource s p l = match l.source with
    | .fill c => some (SurfaceSource.fill c)
    | .ring _ => ((s.panel p).hold l.id).bind (heldPicture s)
    | .menu => match p with
      | .front => none
      | .left => if s.menu.left.isOpen then frontPlane s .menuL else none
      | .right => if s.menu.right.isOpen then frontPlane s .menuR else none := by
  unfold layerSource
  cases l.source with
  | fill c => rfl
  | ring n => cases (s.panel p).hold l.id <;> rfl
  | menu => cases p <;> rfl

/-- R22's order from bottom to top: camera, guide, takeover graphic, the layers that stay. -/
theorem takeoverSurfaces_eq (s : State) : takeoverSurfaces s =
    (s.takeover.cameraHold.bind (heldPicture s)).toList.map (cameraSurface s) ++
    (if s.guide.rowTable = [] ∨ s.guide.bandTable = [] ∨ s.guide.settings.mode = .off then []
      else (frontPlane s .guide).toList.map (cameraSurface s)) ++
    (frontPlane s .takeover).toList.map (graphicSurface s) ++
    (s.panels.front.activeList.filter (staysInTakeover s)).filterMap (layerSurface s .front) := by
  have mode : s.guide.effectiveMode = .off ↔
      s.guide.rowTable = [] ∨ s.guide.bandTable = [] ∨ s.guide.settings.mode = .off := by
    have := s.guide.effectiveMode_ne_off
    tauto
  unfold takeoverSurfaces
  simp only [mode, Option.toList_map]
  split <;> simp [Option.toList_map]

/-! ### The frame that begins -/

theorem frameOf_setFrame (p : Panel) (f : Option FrameInProgress) (s : State) :
    frameOf p (s.setPanel p { s.panel p with frame := f }) = frameOf p s := by
  cases p <;> rfl

/-- The frame in progress after a frame start, read from the state that the frame start leaves. -/
theorem frameStart_frameOf (p : Panel) (s : State) :
    ((frameStart p s).panel p).frame = some (frameOf p (frameStart p s)) := by
  rw [frameStart, frameOf_setFrame, State.panel_setPanel]

theorem frameOf_takeover (front : p = .front) (engaged : s.takeover.phase ≠ .idle) :
    (frameOf p s).background = ⟨0, 0, 0⟩ ∧ (frameOf p s).blanked = false ∧ (frameOf p s).surfaces = takeoverSurfaces s := by
  have takeover : takeoverFrames s p = true := (takeoverFrames_iff s p).mpr ⟨front, engaged⟩
  simp [frameOf, takeover]

theorem frameOf_own (own : p ≠ .front ∨ s.takeover.phase = .idle) :
    (frameOf p s).background = (s.panel p).background ∧ (frameOf p s).blanked = (s.panel p).blanked ∧
    (frameOf p s).surfaces = (s.panel p).activeList.filterMap (layerSurface s p) := by
  have normal : takeoverFrames s p = false := by
    rw [← Bool.not_eq_true, takeoverFrames_iff]
    exact fun ⟨front, engaged⟩ => own.elim (· front) engaged
  simp [frameOf, normal]

/-! ### What a frame start leaves for the frame to read -/

theorem frameStart_record (p : Panel) (s : State) :
    let r := s.panel p
    let t := (frameStart p s).panel p
    t.width = r.width ∧ t.height = r.height ∧ t.mirrorX = r.mirrorX ∧ t.mirrorY = r.mirrorY ∧
    t.background = r.background ∧ t.level = r.level ∧ t.blanked = r.blanked ∧ t.pendingList = r.pendingList ∧
    t.activeList = r.pendingList := by
  have started := frameStart_unheld p s
  exact ⟨(congrArg PanelRecord.width started :), (congrArg PanelRecord.height started :),
    (congrArg PanelRecord.mirrorX started :), (congrArg PanelRecord.mirrorY started :),
    (congrArg PanelRecord.background started :), (congrArg PanelRecord.level started :),
    (congrArg PanelRecord.blanked started :), (congrArg PanelRecord.pendingList started :),
    (congrArg PanelRecord.activeList started :)⟩

theorem frameStart_phase (p : Panel) (s : State) : (frameStart p s).takeover.phase = s.takeover.phase :=
  (congrArg Takeover.phase (frameStart_takeover p s) :)

theorem frameStart_view (p : Panel) (s : State) : (frameStart p s).takeover.view = s.takeover.view :=
  (congrArg Takeover.view (frameStart_takeover p s) :)

theorem frameStart_camera (p : Panel) (s : State) : (frameStart p s).takeover.camera = s.takeover.camera :=
  (congrArg Takeover.camera (frameStart_takeover p s) :)

/-- A takeover frame's surfaces: their windows by the state before, their sources by the state that the frame start leaves. -/
theorem frameStart_takeoverSurfaces (s : State) :
    let t := frameStart .front s
    takeoverSurfaces t = (t.takeover.cameraHold.bind (heldPicture t)).toList.map (cameraSurface s) ++
      (if s.guide.rowTable = [] ∨ s.guide.bandTable = [] ∨ s.guide.settings.mode = .off then []
        else (frontPlane t .guide).toList.map (cameraSurface s)) ++
      (frontPlane t .takeover).toList.map (graphicSurface s) ++
      (s.panels.front.pendingList.filter (staysInTakeover s)).filterMap (layerSurface t .front) := by
  intro t
  obtain ⟨width, height, -, -, -, -, -, -, active⟩ := frameStart_record .front s
  have width : t.panels.front.width = s.panels.front.width := width
  have height : t.panels.front.height = s.panels.front.height := height
  have active : t.panels.front.activeList = s.panels.front.pendingList := active
  have camera : t.takeover.camera = s.takeover.camera := frameStart_camera .front s
  have guide : t.guide = s.guide := by simp [t]
  have windows : cameraSurface t = cameraSurface s := by
    funext src
    simp only [cameraSurface, camera]
  have graphics : graphicSurface t = graphicSurface s := by
    funext src
    simp only [graphicSurface, width, height]
  have stays : staysInTakeover t = staysInTakeover s := by
    funext l
    simp only [staysInTakeover, width, height, camera]
  rw [takeoverSurfaces_eq, windows, graphics, stays, active, guide]

end Sys2Proof.Machine
end

section
/-! The pixels composed of a frame's surfaces (R79, R81, R87 to R90). -/

namespace Sys2Proof.Machine

variable {m : List Host.Cell} {u : Surface} {X Y : Int} {base width height : Nat}

/-! ### Blending (R90) -/

/-- A pixel after one more surface on top. -/
theorem composedPixel_append (m : List Host.Cell) (f : FrameInProgress) (below : List Surface) (u : Surface) (X Y : Int) :
    composedPixel m { f with surfaces := below ++ [u] } X Y =
      composeSurface m X Y (composedPixel m { f with surfaces := below } X Y) u := by
  simp [composedPixel]

/-- A blended channel fits its byte. -/
theorem blendChannel_byte {a l : Nat} (alpha : a ≤ 255) (sample : l ≤ 255) (under : Byte) :
    (BitVec.ofNat 8 (blendChannel a l under.toNat)).toNat = (a * l + (255 - a) * under.toNat + 127) / 255 := by
  have weighted : a * l + (255 - a) * under.toNat ≤ 255 * 255 := by
    have source : a * l ≤ a * 255 := Nat.mul_le_mul_left a sample
    have rest : (255 - a) * under.toNat ≤ (255 - a) * 255 := Nat.mul_le_mul_left _ (by omega)
    omega
  rw [BitVec.toNat_ofNat, blendChannel]
  exact Nat.mod_eq_of_lt (by omega)

theorem effectiveAlpha_le {g p : Nat} (global : g ≤ 255) (pixel : p ≤ 255) : effectiveAlpha g p ≤ 255 := by
  have : g * p ≤ 255 * 255 := Nat.mul_le_mul global pixel
  unfold effectiveAlpha
  omega

/-! ### Source coordinates (R88) -/

theorem scaleCoord_inside {x win : Int} (h : win ≤ x) (src size : Nat) :
    scaleCoord x win src size = (x - win).toNat * src / size := by
  obtain ⟨d, hd⟩ := Int.eq_ofNat_of_zero_le (Int.sub_nonneg_of_le h)
  rw [scaleCoord, floorDiv, hd, Int.toNat_natCast, ← Int.natCast_mul, ← Int.natCast_ediv, Int.toNat_natCast]

/-- The source column of a panel column in a surface's window, mirrored in a mirrored window. -/
def Surface.sourceCol (u : Surface) (X : Int) (width : Nat) : Nat :=
  let i := (X - u.x).toNat * width / u.w
  if u.mirror then width - 1 - i else i

/-- The source row of a panel row. -/
def Surface.sourceRow (u : Surface) (Y : Int) (height : Nat) : Nat := (Y - u.y).toNat * height / u.h

theorem sourceColumn_inside (h : u.x ≤ X) (width : Nat) : sourceColumn X u.x width u.w u.mirror = u.sourceCol X width := by
  simp only [sourceColumn, scaleCoord_inside h, Surface.sourceCol]

/-! ### Samples (R89) -/

theorem surfaceSample_plane (hx : u.x ≤ X) (hy : u.y ≤ Y) (source : u.source = .plane base width height) :
    surfaceSample m u X Y = planeSample m base width (u.sourceCol X width) (u.sourceRow Y height) := by
  simp only [surfaceSample, source, sourceColumn_inside hx, scaleCoord_inside hy, Surface.sourceRow]

theorem surfaceSample_picture {format : PixelFormat} (hx : u.x ≤ X) (hy : u.y ≤ Y)
    (source : u.source = .picture base width height format) :
    surfaceSample m u X Y = pictureSample m base width format (u.sourceCol X width) (u.sourceRow Y height) := by
  simp only [surfaceSample, source, sourceColumn_inside hx, scaleCoord_inside hy, Surface.sourceRow]

theorem yuvChannel_eq (z : Int) : yuvChannel z = (max 0 (min 255 (z / 256))).toNat := by
  unfold yuvChannel clampInt floorDiv
  split
  · omega
  · split <;> omega

/-- Settles O25: each reader and plane from its own rule of the frame start, the surfaces from the frame as it stands in the
state left, and the pixels surface by surface. -/
theorem frameStartFixesTheFrame : Obligations.FrameStartFixesTheFrame := by
  unfold Obligations.FrameStartFixesTheFrame
  refine ⟨?_, ?_⟩
  · intro p s r t plane picture source shown c window graphic stay
    obtain ⟨wide, high, mirrorX, mirrorY, background, level, blanked, pending, active⟩ := frameStart_record p s
    have power := frameStart_power p s
    have menu : t.menu = s.menu := by simp [t]
    have layers : layerSurface t p = shown := by
      have sources : layerSource t p = source := by
        funext l
        rw [layerSource_eq, menu]
        rfl
      funext l
      simp only [layerSurface, sources, shown]
    refine ⟨active, pending, wide, high, power, level, blanked, by simp [t],
      ⟨frameOf p t, frameStart_frameOf p s, wide, high, mirrorX, mirrorY, ?_, fun own => ?_, fun front engaged => ?_⟩,
      fun id h => frameStart_hold_reads,
      fun l n k nodup mem => frameStart_hold_latest nodup mem,
      fun l n nodup mem ring unset => ⟨fun h => frameStart_hold_kept nodup mem ring unset,
        frameStart_hold_stale nodup mem ring unset⟩,
      fun n front engaged ring unset => ?_, fun front engaged unnamed => ?_, fun front idle => ?_, fun n k front engaged ring latest => ?_, fun q owned => frameStart_frontOne owned s,
      windowsMeet_iff⟩
    · simp [frameOf, t, r, power]
    · obtain ⟨back, black, surfaces⟩ := frameOf_own (s := t) (by rwa [frameStart_phase])
      exact ⟨back.trans background, black.trans blanked, by rw [surfaces, layers, active]⟩
    · obtain ⟨back, black, surfaces⟩ := frameOf_takeover (s := t) front (by rwa [frameStart_phase])
      refine ⟨back, black, frameStart_view p s, ?_⟩
      subst front
      rw [surfaces, frameStart_takeoverSurfaces, layers]
      rfl
    · subst front
      rw [frameStart_cameraHold_follows engaged ring, State.latest, unset]
      rfl
    · subst front
      exact frameStart_cameraHold_unassigned engaged unnamed
    · subst front
      exact frameStart_cameraHold_idle idle
    · subst front
      rw [frameStart_cameraHold_follows engaged ring, State.latest, latest]
      rfl
  · intro m f below u x y g X Y l under inside a byte row col luma
    have plane : ∀ {base width height}, inside → u.source = .plane base width height →
        surfaceSample m u X Y = planeSample m base width (col width) (row height) :=
      fun ⟨hx, _, hy, _⟩ source => surfaceSample_plane hx hy source
    have picture : ∀ {base width height format}, inside → u.source = .picture base width height format →
        surfaceSample m u X Y = pictureSample m base width format (col width) (row height) :=
      fun ⟨hx, _, hy, _⟩ source => surfaceSample_picture hx hy source
    refine ⟨fun black => if_pos black, fun blank blanked => if_neg (by simp [blank, blanked]), rfl, fun inWindow => ?_,
      fun out => ?_, fun global pixel red green blue => ?_, fun c source => ?_, fun _ _ _ inWindow source =>
        plane inWindow source, fun _ _ _ inWindow source => picture inWindow source, fun _ _ _ inWindow source =>
        picture inWindow source, fun _ _ _ inWindow source => (picture inWindow source).trans ?_⟩
    · rw [composedPixel_append, composeSurface, if_pos ((inBox_iff ..).mpr inWindow)]
    · rw [composedPixel_append, composeSurface, if_neg (mt (inBox_iff ..).mp out)]
    · have alpha := effectiveAlpha_le global pixel
      exact ⟨blendChannel_byte alpha red _, blendChannel_byte alpha green _, blendChannel_byte alpha blue _⟩
    · simp only [surfaceSample, source]
    · simp only [pictureSample, yuvSample, yuvChannel_eq]
      rfl

end Sys2Proof.Machine
end

section
/-! Menus open, close and lock (R110, R115). -/

namespace Sys2Proof.Machine

variable {s t : State} {k : Seat} {n lock : Nat}

/-! ### Plain commands taken in RUNNING (R186, R187) -/

/-- The codes of the commands that a rule of R25 names. -/
def ruledByTakeover : List Nat := [1, 2, 4, 20, 21, 22, 30, 31, 32, 33, 85]

theorem runCommand_done (h : Running s) (mark : Byte) {c : Command} (answer : perform c s = done t)
    (plain : c.code ∉ ruledByTakeover := by simp [Command.code, ruledByTakeover]) :
    runCommand mark c s = replied mark c.code .ok [] t := by
  rw [runCommand_plain h mark c plain, answer, handAnswer_done]

theorem runCommand_refuse {st : Status} (h : Running s) (mark : Byte) {c : Command} (answer : perform c s = refuse st s)
    (plain : c.code ∉ ruledByTakeover := by simp [Command.code, ruledByTakeover]) :
    runCommand mark c s = replied mark c.code st [] s := by
  rw [runCommand_plain h mark c plain, answer, handAnswer_refuse]

/-! ### Seats -/

theorem seat?_unknown (h : 2 ≤ n) : seat? n = none := by
  match n, h with
  | n + 2, _ => rfl

theorem flag?_unknown (h : 2 ≤ lock) : flag? lock = none := by
  rw [flag?_eq, if_neg (by omega)]

/-! ### Opening and closing (R110) -/

theorem openMenu_eq (k : Seat) (s : State) : openMenu k s = requestMenu k (s.setSeat k { s.seat k with
    root := { page := (s.seat k).settings.root, saved := 0 }, above := [],
    highlight := settle (s.items (s.seat k).settings.root) 0, isOpen := true,
    timer := if (s.seat k).settings.inactivity = 0 then none else some ((s.seat k).settings.inactivity * 1000) }) := rfl

theorem closeMenu_eq (k : Seat) (s : State) : closeMenu k s = requestMenu k (s.setSeat k { s.seat k with
    root := { page := (s.seat k).settings.root, saved := 0 }, above := [], highlight := 0, isOpen := false,
    timer := none }) := rfl

theorem inactivityExpires_running (isOpen : (s.seat k).isOpen = true) (timer : (s.seat k).timer.isSome = true) :
    inactivityExpires k s = closeMenu k s := if_pos ⟨isOpen, timer⟩

theorem inactivityExpires_idle (h : (s.seat k).isOpen = false ∨ (s.seat k).timer = none) : inactivityExpires k s = s := by
  refine if_neg fun ⟨isOpen, timer⟩ => ?_
  rcases h with h | h
  · simp [h] at isOpen
  · simp [h] at timer

/-! ### MENU_OPEN, MENU_CLOSE and MENU_LOCK (R115) -/

theorem menuOpen_unknown (h : 2 ≤ n) (s : State) : menuOpen n s = refuse .param s := by
  simp [menuOpen, seat?_unknown h]

theorem menuClose_unknown (h : 2 ≤ n) (s : State) : menuClose n s = refuse .param s := by
  simp [menuClose, seat?_unknown h]

theorem menuLock_unknown (h : 2 ≤ n ∨ 2 ≤ lock) (s : State) : menuLock n lock s = refuse .param s := by
  unfold menuLock
  split
  · rename_i hk on
    rcases h with h | h
    · simp [seat?_unknown h] at hk
    · simp [flag?_unknown h] at on
  · rfl

section
variable (hk : seat? n = some k)
include hk

theorem menuOpen_noEffect (h : (s.seat k).isOpen = true ∨ (s.seat k).locked = true) : menuOpen n s = done s := by
  simp [menuOpen, hk, h]

theorem menuOpen_absent (isOpen : (s.seat k).isOpen = false) (locked : (s.seat k).locked = false)
    (absent : s.page (s.seat k).settings.root = none) : menuOpen n s = refuse .notFound s := by
  simp [menuOpen, hk, isOpen, locked, absent]

theorem menuOpen_present {p : MenuPage} (isOpen : (s.seat k).isOpen = false) (locked : (s.seat k).locked = false)
    (present : s.page (s.seat k).settings.root = some p) : menuOpen n s = done (openMenu k s) := by
  simp [menuOpen, hk, isOpen, locked, present]

theorem menuClose_open (h : (s.seat k).isOpen = true) : menuClose n s = done (closeMenu k s) := by
  simp [menuClose, hk, h]

theorem menuClose_closed (h : (s.seat k).isOpen = false) : menuClose n s = done s := by
  simp [menuClose, hk, h]

variable {on : Bool} (hl : flag? lock = some on)
include hl

theorem menuLock_same (h : (s.seat k).locked = on) : menuLock n lock s = done s := by
  simp [menuLock, hk, hl, h]

/-- A change of the flag that closes no menu. -/
theorem menuLock_changed (h : (s.seat k).locked ≠ on) (stays : on = false ∨ (s.seat k).isOpen = false) :
    menuLock n lock s = done (requestMenu k (s.setSeat k { s.seat k with locked := on })) := by
  have quiet : (on && (s.seat k).isOpen) = false := by rcases stays with e | e <;> simp [e]
  simp [menuLock, hk, hl, h.symm, quiet, changeSeat]

theorem menuLock_closes (h : (s.seat k).locked ≠ on) (closes : on = true) (isOpen : (s.seat k).isOpen = true) :
    menuLock n lock s = done (closeMenu k (s.setSeat k { s.seat k with locked := on })) := by
  subst closes
  simp [menuLock, hk, hl, h.symm, isOpen]

end

/-- Settles O29: the two context changes written out, and each command's answer by the seat's open and locked flags. -/
theorem seatMenuOpensAndCloses : Obligations.SeatMenuOpensAndCloses := by
  unfold Obligations.SeatMenuOpensAndCloses
  intro k n lock mark s
  have expires : exec (.inactivityTimerExpiry k) s = .next (inactivityExpires k s) := rfl
  refine ⟨openMenu_eq k s, closeMenu_eq k s,
    fun isOpen timer => expires.trans (congrArg _ (inactivityExpires_running isOpen timer)),
    fun idle => expires.trans (congrArg _ (inactivityExpires_idle idle)), fun hs => ?_⟩
  have opens : ∀ {t}, menuOpen n s = done t → exec (.menuOpen mark n) s = .next (replied mark 44 .ok [] t) :=
    fun answer => congrArg Host.Outcome.next (runCommand_done (c := .menuOpen n) hs mark answer)
  have refused : ∀ {st}, menuOpen n s = refuse st s → exec (.menuOpen mark n) s = .next (replied mark 44 st [] s) :=
    fun answer => congrArg Host.Outcome.next (runCommand_refuse (c := .menuOpen n) hs mark answer)
  have closes : ∀ {t}, menuClose n s = done t → exec (.menuClose mark n) s = .next (replied mark 45 .ok [] t) :=
    fun answer => congrArg Host.Outcome.next (runCommand_done (c := .menuClose n) hs mark answer)
  have locks : ∀ {b t}, menuLock n b s = done t → exec (.menuLock mark n b) s = .next (replied mark 46 .ok [] t) :=
    fun {b _} answer => congrArg Host.Outcome.next (runCommand_done (c := .menuLock n b) hs mark answer)
  refine ⟨fun bad => ⟨refused (menuOpen_unknown bad s), ?_⟩, fun bad => ?_, fun hk => ?_⟩
  · exact congrArg Host.Outcome.next (runCommand_refuse (c := .menuClose n) hs mark (menuClose_unknown bad s))
  · exact congrArg Host.Outcome.next (runCommand_refuse (c := .menuLock n lock) hs mark (menuLock_unknown bad s))
  · exact ⟨fun h => opens (menuOpen_noEffect hk h),
      fun isOpen locked absent => refused (menuOpen_absent hk isOpen locked absent),
      fun _ isOpen locked present => opens (menuOpen_present hk isOpen locked present),
      fun isOpen => closes (menuClose_open hk isOpen), fun shut => closes (menuClose_closed hk shut),
      fun locked => locks (menuLock_same hk rfl locked),
      fun locked => locks (menuLock_changed hk rfl (by simp [locked]) (.inl rfl)),
      fun locked => locks (menuLock_same hk rfl locked),
      fun locked shut => locks (menuLock_changed hk rfl (by simp [locked]) (.inr shut)),
      fun locked isOpen => locks (menuLock_closes hk rfl (by simp [locked]) rfl isOpen)⟩

end Sys2Proof.Machine
end

section
/-! The loads of the glyph cache (R100 to R102). -/

namespace Sys2Proof.Machine

variable {s : State} {l : GlyphLoad} {id token : Nat}

/-! ### A pin's release reads and writes the store alone (R156, R161) -/

/-- A state with another Raster Engine and another frame memory. -/
def State.elsewhere (s : State) (r : Raster) (m : List Host.Cell) : State := { s with raster := r, mem := m }

theorem State.elsewhere_store (s : State) (r : Raster) (m : List Host.Cell) : (s.elsewhere r m).store = s.store := rfl

theorem supplyHold_elsewhere (s : State) (r : Raster) (m : List Host.Cell) : supplyHold (s.elsewhere r m) = supplyHold s := rfl

theorem storeSelect_elsewhere (r : Raster) (m : List Host.Cell) (s : State) :
    storeSelect (s.elsewhere r m) = (storeSelect s).elsewhere r m := by
  simp only [storeSelect, State.elsewhere_store, supplyHold_elsewhere]
  rw [apply_ite (State.elsewhere · r m)]
  refine ite_congr rfl (fun _ => rfl) fun _ => ?_
  cases s.store.reads with
  | cons request rest => rfl
  | nil =>
    dsimp only
    rw [apply_ite (State.elsewhere · r m)]
    refine ite_congr rfl (fun _ => rfl) fun _ => ?_
    cases s.store.txQueue with
    | cons page rest => rfl
    | nil =>
      cases s.store.badMarks with
      | cons block rest => rfl
      | nil => cases s.store.eraseList <;> rfl

theorem setBlocks_elsewhere (c : BlockSet) (bs : List (Fin 256)) (r : Raster) (m : List Host.Cell) (s : State) :
    setBlocks c bs (s.elsewhere r m) = (setBlocks c bs s).elsewhere r m := by
  unfold setBlocks
  induction bs generalizing s with
  | nil => rfl
  | cons b bs ih => exact ih (setBlock c b s)

theorem joinErase_elsewhere (bs : List (Fin 256)) (r : Raster) (m : List Host.Cell) (s : State) :
    joinErase bs (s.elsewhere r m) = (joinErase bs s).elsewhere r m :=
  (congrArg storeSelect (setBlocks_elsewhere .eraseList bs r m
    { s with store.eraseList := s.store.eraseList ++ bs })).trans (storeSelect_elsewhere r m _)

theorem unpinAsset_elsewhere (id gen : Nat) (r : Raster) (m : List Host.Cell) (s : State) :
    unpinAsset id gen (s.elsewhere r m) = (unpinAsset id gen s).elsewhere r m := by
  simp only [unpinAsset, State.elsewhere_store]
  rw [apply_ite (State.elsewhere · r m)]
  refine ite_congr rfl (fun _ => rfl) fun _ => ?_
  cases s.store.retired.find? (fun e => e.id == id && e.generation == gen) with
  | none => rfl
  | some e =>
    dsimp only
    rw [apply_ite (State.elsewhere · r m)]
    exact ite_congr rfl (fun _ => joinErase_elsewhere e.blocks r m { s with
      store.retired := s.store.retired.filter fun e => !(e.id == id && e.generation == gen) }) fun _ => rfl

/-! ### Requests leave the cache alone (R94) -/

/-- The cache's own part of the Raster Engine. -/
def Raster.glyphs (r : Raster) : CacheState × Nat × Option GlyphLoad × Nat := (r.cache, r.glyphSet, r.load, r.glyphLoadFail)

theorem engineTake_glyphs (s : State) : (engineTake s).raster.glyphs = s.raster.glyphs := by
  unfold engineTake
  split
  · rfl
  · split
    · rfl
    · rename_i p _
      cases p <;> rfl

theorem requestRenders_glyphs (ps : List Plane) (s : State) : (requestRenders ps s).raster.glyphs = s.raster.glyphs := by
  rw [requestRenders_eq, engineTake_glyphs]
  rfl

theorem glyphs_fields {r q : Raster} (h : r.glyphs = q.glyphs) :
    r.cache = q.cache ∧ r.glyphSet = q.glyphSet ∧ r.load = q.load ∧ r.glyphLoadFail = q.glyphLoadFail := by
  simpa [Raster.glyphs] using h

theorem requestRenders_cache (ps : List Plane) (s : State) :
    (requestRenders ps s).raster.cache = s.raster.cache ∧ (requestRenders ps s).raster.glyphSet = s.raster.glyphSet ∧
    (requestRenders ps s).raster.load = s.raster.load ∧
    (requestRenders ps s).raster.glyphLoadFail = s.raster.glyphLoadFail := glyphs_fields (requestRenders_glyphs ps s)

/-! ### The end of a load (R101, R102) -/

/-- The state that a load's end leaves: the pin released. -/
def loadEnded (l : GlyphLoad) (s : State) : State := unpinAsset s.raster.glyphSet l.generation { s with raster.load := none }

theorem loadEnded_raster (l : GlyphLoad) (s : State) : (loadEnded l s).raster = { s.raster with load := none } := by
  simp [loadEnded]

theorem dropGlyphLoad_none (h : s.raster.load = none) : dropGlyphLoad s = s := by simp [dropGlyphLoad, h]

theorem dropGlyphLoad_some (h : s.raster.load = some l) : dropGlyphLoad s = loadEnded l s := by
  simp [dropGlyphLoad, h, loadEnded]

theorem dropGlyphLoad_raster (s : State) : (dropGlyphLoad s).raster = { s.raster with load := none } := by
  cases h : s.raster.load with
  | none => rw [dropGlyphLoad_none h, ← h]
  | some l => rw [dropGlyphLoad_some h, loadEnded_raster]

theorem dropGlyphLoad_twice (s : State) : dropGlyphLoad (dropGlyphLoad s) = dropGlyphLoad s :=
  dropGlyphLoad_none (by rw [dropGlyphLoad_raster])

theorem loadEnded_mem (l : GlyphLoad) (s : State) : (loadEnded l s).mem = s.mem := by
  simp [loadEnded]

/-- A load's end with another frame memory. -/
theorem loadEnded_withMem (l : GlyphLoad) (m : List Host.Cell) (s : State) :
    loadEnded l { s with mem := m } = { loadEnded l s with mem := m } := by
  show _ = (loadEnded l s).elsewhere (loadEnded l s).raster m
  rw [loadEnded_raster]
  exact unpinAsset_elsewhere _ _ _ m { s with raster.load := none }

/-- A load's end with another count of failed loads. -/
theorem loadEnded_withFails (l : GlyphLoad) (fails : Nat) (s : State) :
    loadEnded l { s with raster.glyphLoadFail := fails } = { loadEnded l s with raster.glyphLoadFail := fails } := by
  show _ = (loadEnded l s).elsewhere { (loadEnded l s).raster with glyphLoadFail := fails } (loadEnded l s).mem
  rw [loadEnded_raster, loadEnded_mem]
  exact unpinAsset_elsewhere _ _ { s.raster with load := none, glyphLoadFail := fails } s.mem
    { s with raster.load := none }

/-! ### The start of a load (R101) -/

theorem glyphAsset_iff {a : AssetRecord} : glyphAsset id s = some a ↔
    s.asset? id = some a ∧ s.store.state = .ready ∧ a.kind = .glyphSet ∧ a.length = 305664 := by
  unfold glyphAsset
  cases s.asset? id with
  | none => simp
  | some r =>
    simp only [Option.ite_none_right_eq_some, Option.some.injEq, State.storeReady, decide_eq_true_eq, Config.glyphSetBytes]
    constructor
    · rintro ⟨valid, rfl⟩
      exact ⟨rfl, valid⟩
    · rintro ⟨rfl, valid⟩
      exact ⟨valid, rfl⟩

theorem startGlyphLoad_dropped (id : Nat) (s : State) : startGlyphLoad id (dropGlyphLoad s) = startGlyphLoad id s := by
  simp only [startGlyphLoad, dropGlyphLoad_twice]

theorem glyphPlanes_congr {t : State} (h : t.takeover = s.takeover) : glyphPlanes t = glyphPlanes s := by
  simp only [glyphPlanes, h]

/-- A read of the load's next page (R101, R162). -/
theorem issueGlyphRead_eq (page : Nat) (l : GlyphLoad) (s : State) : issueGlyphRead page l s = storeSelect { s with
    store.nextToken := s.store.nextToken + 1,
    store.reads := s.store.reads ++ [{
      reader := .glyph s.store.nextToken,
      block := (s.generationBlocks s.raster.glyphSet l.generation).getD (page / 64) 0, page := page % 64 }],
    raster.load := some { generation := l.generation, page := page, token := some s.store.nextToken } } := rfl

theorem issueGlyphRead_raster (page : Nat) (l : GlyphLoad) (s : State) : (issueGlyphRead page l s).raster =
    { s.raster with load := some { l with page := page, token := some s.store.nextToken } } := by
  simp [issueGlyphRead_eq]

/-- The state of a load that is begun, before its first read. -/
def loadPinned (id : Nat) (a : AssetRecord) (s : State) : State :=
  { s with
    raster.glyphSet := id, raster.cache := .loading,
    raster.load := some { generation := a.generation, page := 0, token := none },
    store.directory := s.store.directory.map fun x => if x.id = id then { x with pins := x.pins + 1 } else x }

theorem cacheInUse_eq_true {r : Render} (flight : s.raster.inFlight = some r) (uses : r.usesCache = true) :
    cacheInUse s = true := by
  simp [cacheInUse, flight, uses]

theorem cacheInUse_eq_false (h : ∀ r, s.raster.inFlight = some r → r.usesCache = false) : cacheInUse s = false := by
  unfold cacheInUse
  split
  · rename_i r flight
    exact h r flight
  · rfl

theorem startGlyphLoad_refused (idle : s.raster.load = none) (absent : glyphAsset id s = none) :
    startGlyphLoad id s = requestRenders (glyphPlanes s) { s with
      raster.glyphSet := id, raster.cache := .empty, raster.glyphLoadFail := bump s.raster.glyphLoadFail } := by
  have same : glyphAsset id { s with raster.glyphSet := id } = none := absent
  simp only [startGlyphLoad, dropGlyphLoad_none idle, same]
  rfl

theorem startGlyphLoad_begun {a : AssetRecord} (idle : s.raster.load = none) (found : glyphAsset id s = some a) :
    startGlyphLoad id s = if cacheInUse s then loadPinned id a s
      else issueGlyphRead 0 { generation := a.generation, page := 0, token := none } (loadPinned id a s) := by
  have same : glyphAsset id { s with raster.glyphSet := id } = some a := found
  simp only [startGlyphLoad, dropGlyphLoad_none idle, same]
  rfl

theorem startGlyphLoad_begun_raster {a : AssetRecord} (idle : s.raster.load = none) (found : glyphAsset id s = some a) :
    (startGlyphLoad id s).raster.cache = .loading ∧ (startGlyphLoad id s).raster.glyphSet = id ∧
    ∃ k, (startGlyphLoad id s).raster.load = some k ∧ k.generation = a.generation ∧ k.page = 0 := by
  rw [startGlyphLoad_begun idle found]
  split
  · exact ⟨rfl, rfl, _, rfl, rfl, rfl⟩
  · rw [issueGlyphRead_raster]
    exact ⟨rfl, rfl, _, rfl, rfl, rfl⟩

/-! ### The glyph set id of MENU_SET (R101, R102) -/

theorem setGlyphSet_zero (s : State) : setGlyphSet 0 s =
    let t := { dropGlyphLoad s with raster.glyphSet := 0, raster.cache := .empty }
    if s.raster.cache = .empty then t else requestRenders (glyphPlanes s) t := by
  have planes : glyphPlanes { dropGlyphLoad s with raster.glyphSet := 0, raster.cache := .empty } = glyphPlanes s :=
    glyphPlanes_congr (by simp)
  simp only [setGlyphSet, if_true, planes]

theorem setGlyphSet_zero_dropped (s : State) : setGlyphSet 0 (dropGlyphLoad s) = setGlyphSet 0 s := by
  have cache : (dropGlyphLoad s).raster.cache = s.raster.cache := by rw [dropGlyphLoad_raster]
  have planes : glyphPlanes (dropGlyphLoad s) = glyphPlanes s := glyphPlanes_congr (by simp)
  simp only [setGlyphSet_zero, dropGlyphLoad_twice, cache, planes]

/-- What id 0 leaves of the cache. -/
theorem setGlyphSet_zero_glyphs (s : State) : (setGlyphSet 0 s).raster.cache = .empty ∧
    (setGlyphSet 0 s).raster.glyphSet = 0 ∧ (setGlyphSet 0 s).raster.load = none ∧
    (setGlyphSet 0 s).raster.glyphLoadFail = s.raster.glyphLoadFail := by
  have same : (setGlyphSet 0 s).raster.glyphs =
      { (dropGlyphLoad s).raster with glyphSet := 0, cache := .empty }.glyphs := by
    rw [setGlyphSet_zero]
    dsimp only
    split
    · rfl
    · exact requestRenders_glyphs _ _
  rw [dropGlyphLoad_raster] at same
  exact glyphs_fields same

/-! ### The pages of a load (R99, R101, R102) -/

theorem endGlyphLoad_eq (c : CacheState) (s : State) :
    endGlyphLoad c s = requestRenders (glyphPlanes s) { dropGlyphLoad s with raster.cache := c } := by
  have planes : glyphPlanes (dropGlyphLoad s) = glyphPlanes s := glyphPlanes_congr (by simp)
  simp only [endGlyphLoad, planes]

theorem glyphPageRead_stale (load : s.raster.load = some l) (stale : l.token ≠ some token) (content : Option (List Byte)) :
    glyphPageRead token content s = s := by
  simp [glyphPageRead, load, stale]

/-- The frame memory with a page copied to its place in the cache region. -/
def pageWritten (page : Nat) (bytes : List Byte) (m : List Host.Cell) : List Host.Cell :=
  Memory.writeBlock m (132120576 + page * 4096) (bytes.take (305664 - page * 4096))

/-- The page that the load waits for. -/
theorem glyphPageRead_own (load : s.raster.load = some l) (own : l.token = some token) (content : Option (List Byte)) :
    glyphPageRead token content s = match content with
      | none => endGlyphLoad .empty { s with raster.glyphLoadFail := bump s.raster.glyphLoadFail }
      | some bytes =>
        let written := { s with mem := pageWritten l.page bytes s.mem }
        if l.page + 1 < 75 then issueGlyphRead (l.page + 1) l written else endGlyphLoad .loaded written := by
  unfold glyphPageRead
  split
  · rename_i idle
    simp [load] at idle
  · rename_i k reading
    obtain rfl : k = l := Option.some.inj (reading.symm.trans load)
    exact if_neg (by simp [own])

theorem glyphPageRead_next (load : s.raster.load = some l) (own : l.token = some token) (more : l.page < 74)
    (bytes : List Byte) : glyphPageRead token (some bytes) s =
      issueGlyphRead (l.page + 1) l { s with mem := pageWritten l.page bytes s.mem } :=
  (glyphPageRead_own load own _).trans (if_pos (Nat.succ_lt_succ more))

theorem glyphPageRead_last (load : s.raster.load = some l) (own : l.token = some token) (last : l.page = 74)
    (bytes : List Byte) : glyphPageRead token (some bytes) s =
      requestRenders (glyphPlanes s) { loadEnded l s with
        mem := pageWritten l.page bytes s.mem, raster.cache := .loaded } := by
  refine (glyphPageRead_own load own _).trans ((if_neg (by omega)).trans ((endGlyphLoad_eq .loaded _).trans ?_))
  rw [dropGlyphLoad_some (s := { s with mem := pageWritten l.page bytes s.mem }) load, loadEnded_withMem]
  rfl

theorem glyphPageRead_failed (load : s.raster.load = some l) (own : l.token = some token) :
    glyphPageRead token none s = requestRenders (glyphPlanes s) { loadEnded l s with
      raster.cache := .empty, raster.glyphLoadFail := bump s.raster.glyphLoadFail } := by
  refine (glyphPageRead_own load own none).trans ((endGlyphLoad_eq .empty _).trans ?_)
  rw [dropGlyphLoad_some (s := { s with raster.glyphLoadFail := bump s.raster.glyphLoadFail }) load, loadEnded_withFails]
  rfl

/-- A page copied to its place reads back byte by byte, and every other byte as before. -/
theorem pageWritten_inside {page i : Nat} {bytes : List Byte} (full : bytes.length = 4096) (hi : i < 4096)
    (inside : page * 4096 + i < 305664) (m : List Host.Cell) :
    Memory.read (pageWritten page bytes m) (132120576 + page * 4096 + i) = bytes.getD i 0#8 := by
  refine Memory.read_writeBlock_getElem? m ?_
  rw [List.getElem?_take_of_lt (by omega), List.getD_eq_getElem?_getD, List.getElem?_eq_getElem (by omega),
    Option.getD_some]

theorem pageWritten_outside {page a : Nat} {bytes : List Byte} (full : bytes.length = 4096)
    (outside : a < 132120576 + page * 4096 ∨ 132120576 + min ((page + 1) * 4096) 305664 ≤ a) (m : List Host.Cell) :
    Memory.read (pageWritten page bytes m) a = Memory.read m a := by
  refine Memory.read_writeBlock_outside m _ a _ ?_
  rw [List.length_take, full]
  omega

/-- Settles O27: the start of a load by what it finds, its pages by the number read, and each end by the pin's release. -/
theorem glyphCacheLoads : Obligations.GlyphCacheLoads := by
  unfold Obligations.GlyphCacheLoads
  intro id token l bytes s planes read ended
  refine ⟨fun a => glyphAsset_iff, ?_, ?_, ?_, ?_, ?_, ?_⟩
  · obtain ⟨cache, set, load, fails⟩ := setGlyphSet_zero_glyphs s
    refine ⟨cache, set, load, fails, fun idle empty => ?_, fun idle full => ?_, fun loading => ?_⟩
    · rw [setGlyphSet_zero, dropGlyphLoad_none idle]
      exact (if_pos empty).trans (by simp [← empty])
    · rw [setGlyphSet_zero, dropGlyphLoad_none idle]
      exact if_neg full
    · rw [← setGlyphSet_zero_dropped, dropGlyphLoad_some loading]
      rfl
  · intro positive same full
    simp [setGlyphSet, positive, ← same, full]
  · refine ⟨fun positive other => ?_, fun same full => ?_, fun other => ?_,
      fun idle => ⟨fun a found => ?_, fun absent => ?_⟩, fun loading => ⟨?_, loadEnded_raster l s⟩⟩
    · exact (if_neg positive).trans (if_pos other)
    · exact if_pos ⟨same, full⟩
    · exact if_neg fun ⟨same, full⟩ => other.elim (· same) full
    · obtain ⟨cache, set, load⟩ := startGlyphLoad_begun_raster idle found
      have begun := startGlyphLoad_begun idle found
      refine ⟨cache, set, load, fun unused => ?_, fun r flight uses => ?_⟩
      · exact begun.trans (if_neg (by simp [cacheInUse_eq_false unused]))
      · exact begun.trans (if_pos (cacheInUse_eq_true flight uses))
    · have refused := startGlyphLoad_refused idle absent
      obtain ⟨cache, set, -, fails⟩ := requestRenders_cache (glyphPlanes s) { s with
        raster.glyphSet := id, raster.cache := .empty, raster.glyphLoadFail := bump s.raster.glyphLoadFail }
      rw [← refused] at cache set fails
      exact ⟨cache, set, fails, refused⟩
    · rw [← startGlyphLoad_dropped, dropGlyphLoad_some loading]
      rfl
  · exact fun load stale => glyphPageRead_stale load stale _
  · intro load own full last
    have written : (glyphPageRead token (some bytes) s).mem = pageWritten l.page bytes s.mem := by
      rcases Nat.lt_or_eq_of_le last with more | done
      · rw [glyphPageRead_next load own more]
        simp [issueGlyphRead_eq]
      · simp [glyphPageRead_last load own done]
    dsimp only
    rw [written]
    refine ⟨fun more => ?_, fun done => ?_, fun i hi inside => pageWritten_inside full hi inside s.mem,
      fun a outside => pageWritten_outside full outside s.mem⟩
    · rw [glyphPageRead_next load own more]
      exact ⟨by rw [issueGlyphRead_raster], rfl⟩
    · rw [glyphPageRead_last load own done]
      exact ⟨(requestRenders_cache _ _).1, rfl⟩
  · intro load own
    have failed := glyphPageRead_failed load own
    obtain ⟨cache, set, load, fails⟩ := requestRenders_cache (glyphPlanes s) { loadEnded l s with
      raster.cache := .empty, raster.glyphLoadFail := bump s.raster.glyphLoadFail }
    rw [← failed] at cache set load fails
    exact ⟨cache, set.trans (congrArg Raster.glyphSet (loadEnded_raster l s) :), fails,
      load.trans (congrArg Raster.load (loadEnded_raster l s) :), failed⟩

end Sys2Proof.Machine
end

section
/-! Keys at a seat (R105, R111 to R114). -/

namespace Sys2Proof.Machine

variable {s : State} {k : Seat} {items : List Item} {h i : Nat}

/-! ### Enabled items and the highlight settled (R105) -/

theorem itemEnabled_iff : itemEnabled items i = true ↔ ∃ x, items[i]? = some x ∧ x.enabled = true := by
  unfold itemEnabled
  cases items[i]? <;> simp

theorem itemEnabled_some {x : Item} (hx : items[i]? = some x) : itemEnabled items i = x.enabled := by
  simp [itemEnabled, hx]

/-- An enabled item is an item of the page. -/
theorem lt_of_itemEnabled (enabled : itemEnabled items i = true) : i < items.length := by
  obtain ⟨x, hx, -⟩ := itemEnabled_iff.mp enabled
  exact (List.getElem?_eq_some_iff.mp hx).1

theorem enabledAbove_eq_some : enabledAbove items h = some i ↔
    h < i ∧ itemEnabled items i = true ∧ ∀ j, h < j → j < i → itemEnabled items j = false := by
  simp only [enabledAbove, List.find?_range_eq_some, Bool.and_eq_true, decide_eq_true_eq, List.mem_range]
  constructor
  · rintro ⟨⟨above, enabled⟩, -, first⟩
    exact ⟨above, enabled, fun j low high => by simpa [low] using first j high⟩
  · rintro ⟨above, enabled, first⟩
    refine ⟨⟨above, enabled⟩, lt_of_itemEnabled enabled, fun j high => ?_⟩
    by_cases low : h < j
    · simp [low, first j low high]
    · simp [low]

/-- The last number below a bound that meets a test. -/
theorem find?_reverse_range {p : Nat → Bool} {n i : Nat} : (List.range n).reverse.find? p = some i ↔
    i < n ∧ p i = true ∧ ∀ j, i < j → j < n → p j = false := by
  induction n with
  | zero => simp
  | succ n ih =>
    rw [List.range_succ, List.reverse_append, List.reverse_singleton, List.singleton_append]
    cases hp : p n with
    | true =>
      rw [List.find?_cons_of_pos hp, Option.some.injEq]
      constructor
      · rintro rfl
        exact ⟨Nat.lt_succ_self n, hp, fun j above below => by omega⟩
      · rintro ⟨below, -, last⟩
        by_contra other
        simpa [hp] using last n (by omega) (Nat.lt_succ_self n)
    | false =>
      rw [List.find?_cons_of_neg (by simp [hp]), ih]
      constructor
      · rintro ⟨below, holds, last⟩
        refine ⟨by omega, holds, fun j above under => ?_⟩
        rcases Nat.lt_succ_iff_lt_or_eq.mp under with inside | rfl
        · exact last j above inside
        · exact hp
      · rintro ⟨below, holds, last⟩
        have other : i ≠ n := fun e => by simp [← e, holds] at hp
        exact ⟨by omega, holds, fun j above under => last j above (by omega)⟩

theorem enabledBelow_eq_some : enabledBelow items h = some i ↔
    i < h ∧ itemEnabled items i = true ∧ ∀ j, i < j → j < h → itemEnabled items j = false := by
  simp only [enabledBelow, find?_reverse_range, Bool.and_eq_true, decide_eq_true_eq]
  constructor
  · rintro ⟨-, ⟨below, enabled⟩, last⟩
    refine ⟨below, enabled, fun j low high => ?_⟩
    by_cases inside : j < items.length
    · simpa [high] using last j low inside
    · exact Bool.eq_false_iff.mpr fun on => inside (lt_of_itemEnabled on)
  · rintro ⟨below, enabled, last⟩
    refine ⟨lt_of_itemEnabled enabled, ⟨below, enabled⟩, fun j low _ => ?_⟩
    by_cases high : j < h
    · simp [high, last j low high]
    · simp [high]

theorem settle_enabled (enabled : itemEnabled items h = true) : settle items h = h := if_pos enabled

theorem settle_disabled (disabled : itemEnabled items h = false) : settle items h = match enabledAbove items h with
    | some i => i
    | none => (enabledBelow items h).getD 0 := if_neg (by simp [disabled])

/-- A highlight settled on a page with items is one of them. -/
theorem settle_lt (present : items ≠ []) (h : Nat) : settle items h < items.length := by
  cases on : itemEnabled items h with
  | true =>
    rw [settle_enabled on]
    exact lt_of_itemEnabled on
  | false =>
    rw [settle_disabled on]
    split
    · rename_i i above
      exact lt_of_itemEnabled (enabledAbove_eq_some.mp above).2.1
    · cases below : enabledBelow items h with
      | some i => exact lt_of_itemEnabled (enabledBelow_eq_some.mp below).2.1
      | none => exact List.length_pos_iff.mpr present

/-! ### A KEY packet (R111, R178, R184) -/

theorem keyArrives_locked (locked : (s.seat k).locked = true) (code : Nat) :
    keyArrives k code s = s.setSeat k { s.seat k with keyLocked := bump (s.seat k).keyLocked } := if_pos locked

theorem keyArrives_unknown {code : Nat} (free : (s.seat k).locked = false) (unknown : code = 0 ∨ 8 ≤ code) :
    keyArrives k code s = s.setSeat k { s.seat k with keyUnknown := bump (s.seat k).keyUnknown } :=
  (if_neg (by simp [free])).trans (if_pos (by omega))

theorem keyArrives_closed {code : Nat} (free : (s.seat k).locked = false) (shut : (s.seat k).isOpen = false)
    (low : 1 ≤ code) (high : code ≤ 4) : keyArrives k code s = s :=
  (if_neg (by simp [free])).trans ((if_neg (by omega)).trans (if_pos (by simp [shut, high])))

theorem keyArrives_acts {code : Nat} (free : (s.seat k).locked = false) (low : 1 ≤ code) (high : code ≤ 7)
    (acts : (s.seat k).isOpen = true ∨ 5 ≤ code) : keyArrives k code s =
      keyChime k (keyEffect k code s).clicks (touchTimer k (keyEffect k code s).state) := by
  refine (if_neg (by simp [free])).trans ((if_neg (by omega)).trans (if_neg ?_))
  rintro ⟨shut, menu⟩
  rcases acts with isOpen | beyond
  · simp [isOpen] at shut
  · omega

/-- The inactivity timer after a key, by the menu it leaves. -/
theorem touchTimer_eq (k : Seat) (s : State) : touchTimer k s =
    let u := s.seat k
    let timer := if u.settings.inactivity = 0 then none else some (u.settings.inactivity * 1000)
    let touched := s.setSeat k { u with timer := timer }
    if u.isOpen = false then s
    else if timer.isSome = u.timer.isSome then touched else requestMenu k touched := by
  rcases touchTimer_cases k s with ⟨shut, e⟩ | ⟨isOpen, same, e⟩ | ⟨isOpen, other, e⟩
  · exact e.trans (if_pos shut).symm
  · exact e.trans ((if_neg (by simp [isOpen])).trans (if_pos same)).symm
  · exact e.trans ((if_neg (by simp [isOpen])).trans (if_neg other)).symm

theorem exec_keyPacket {code b : Nat} {payload : List Byte} (up : (s.link k.panel.link).state = .up)
    (takes : (s.link k.panel.link).assembler = .assembling) (ha : code < 65536) (hb : b < 65536)
    (hp : payload.length ≤ 3840) (mark c : Byte) :
    exec (.keyPacket k (packetBytes .key mark code b c payload)) s = .next (keyArrives k code s) := by
  have allowed : allowedOn k.panel.link .key = true := by cases k <;> rfl
  exact congrArg Host.Outcome.next (receive_packetBytes allowed ha hb hp up takes mark c (keyPacketArrives k))

/-! ### The effects of the keys (R112, R113) -/

theorem moveHighlight_some (k : Seat) (i : Nat) (s : State) : moveHighlight k (some i) s =
    { clicks := true, state := requestMenu k (s.setSeat k { s.seat k with highlight := i }) } := rfl

theorem moveHighlight_none (k : Seat) (s : State) : moveHighlight k none s = { clicks := false, state := s } := rfl

theorem selectItem_bumps (off : itemEnabled (s.items (s.seat k).currentPage) (s.seat k).highlight = false) :
    selectItem k s = { clicks := false, state := s } := by
  unfold selectItem
  split
  · rfl
  · rename_i x hx
    rw [itemEnabled_some hx] at off
    exact if_neg (by simp [off])

theorem selectItem_acts {x : Item} (item : (s.items (s.seat k).currentPage)[(s.seat k).highlight]? = some x)
    (on : x.enabled = true) : selectItem k s = performAction k x.action s := by
  simp only [selectItem, item, on, if_true]

theorem menuKey_open (isOpen : (s.seat k).isOpen = true) : menuKey k s = { clicks := true, state := closeMenu k s } :=
  if_pos isOpen

theorem menuKey_absent (shut : (s.seat k).isOpen = false) (absent : s.page (s.seat k).settings.root = none) :
    menuKey k s = { clicks := false, state := s } :=
  (if_neg (by simp [shut])).trans (if_pos (by simp [absent]))

theorem menuKey_opens {p : MenuPage} (shut : (s.seat k).isOpen = false)
    (present : s.page (s.seat k).settings.root = some p) : menuKey k s = { clicks := true, state := openMenu k s } :=
  (if_neg (by simp [shut])).trans (if_neg (by simp [present]))

/-! ### Pages pushed and popped (R113) -/

theorem pushPage_bumps {n : Fin 16} (h : s.page n = none ∨ 4 ≤ (s.seat k).depth) :
    pushPage k n s = { clicks := false, state := s } :=
  if_pos (by simpa using h)

theorem State.items_of_page {n : Fin 16} {p : MenuPage} (hp : s.page n = some p) : s.items n = p.items := by
  simp [State.items, hp]

theorem SeatContext.saveTop_root {c : SeatContext} (alone : c.above = []) :
    c.saveTop = { c with root := { c.root with saved := c.highlight } } := by
  simp [SeatContext.saveTop, alone]

theorem SeatContext.saveTop_above {c : SeatContext} {below : List StackEntry} {top : StackEntry}
    (above : c.above = below ++ [top]) :
    c.saveTop = { c with above := below ++ [{ top with saved := c.highlight }] } := by
  simp [SeatContext.saveTop, above]

theorem pushPage_pushes {n : Fin 16} {p : MenuPage} (hp : s.page n = some p) (room : (s.seat k).depth < 4) :
    pushPage k n s = { clicks := true, state := requestMenu k (s.setSeat k { (s.seat k).saveTop with
      above := (s.seat k).saveTop.above ++ [{ page := n, saved := 0 }], highlight := settle p.items 0 }) } := by
  rw [← State.items_of_page hp]
  exact if_neg (by simpa [hp] using room)

theorem popPage_closes (alone : (s.seat k).above = []) : popPage k s = closeMenu k s := if_pos alone

/-- The entry that a pop makes current. -/
theorem SeatContext.top_eq (c : SeatContext) : c.top = c.above.getLast?.getD c.root := by
  rw [SeatContext.top, List.getLastD_eq_getLast?]

theorem popPage_pops {below : List StackEntry} {top : StackEntry} (above : (s.seat k).above = below ++ [top]) :
    popPage k s =
      let next := below.getLast?.getD (s.seat k).root
      requestMenu k (s.setSeat k { s.seat k with
        above := below, highlight := settle (s.items next.page) next.saved }) := by
  refine (if_neg (by simp [above])).trans ?_
  simp only [SeatContext.currentPage, SeatContext.top_eq, above, List.dropLast_concat]
  rfl

/-! ### Volume and brightness (R114) -/

theorem volumeStep_rises (h : (s.zone k.zone).settings.volume < 40) :
    volumeStep k true s = { clicks := true, state := setVolume k.zone ((s.zone k.zone).settings.volume + 1) s } :=
  if_neg (Nat.not_le.mpr h)

theorem volumeStep_loudest (h : 40 ≤ (s.zone k.zone).settings.volume) :
    volumeStep k true s = { clicks := false, state := s } := if_pos h

theorem volumeStep_falls (h : 0 < (s.zone k.zone).settings.volume) :
    volumeStep k false s = { clicks := true, state := setVolume k.zone ((s.zone k.zone).settings.volume - 1) s } :=
  if_neg (Nat.pos_iff_ne_zero.mp h)

theorem volumeStep_silent (h : (s.zone k.zone).settings.volume = 0) :
    volumeStep k false s = { clicks := false, state := s } := if_pos h

theorem brightnessStep_rises (h : (s.panel k.panel).level < 100) : brightnessStep k true s =
    { clicks := true, state := setLevel k.panel (min 100 ((s.panel k.panel).level + 10)) s } :=
  if_neg (Nat.not_le.mpr h)

theorem brightnessStep_brightest (h : 100 ≤ (s.panel k.panel).level) :
    brightnessStep k true s = { clicks := false, state := s } := if_pos h

theorem brightnessStep_falls (h : 0 < (s.panel k.panel).level) : brightnessStep k false s =
    { clicks := true, state := setLevel k.panel ((s.panel k.panel).level - 10) s } :=
  if_neg (Nat.pos_iff_ne_zero.mp h)

theorem brightnessStep_dark (h : (s.panel k.panel).level = 0) :
    brightnessStep k false s = { clicks := false, state := s } := if_pos h

/-- Settles O28: the KEY packet by what R111 asks of it, each key and action by its own lemma, and the settling of R105. -/
theorem keysAtASeat : Obligations.KeysAtASeat := by
  unfold Obligations.KeysAtASeat
  refine ⟨fun k mark c code b payload s up takes ha hb hp => ?_, fun k s => ?_, fun items h i => ?_⟩
  · dsimp only
    rw [exec_keyPacket up takes ha hb hp]
    refine ⟨fun locked => congrArg _ (keyArrives_locked locked code),
      fun free unknown => congrArg _ (keyArrives_unknown free unknown),
      fun free shut low high => congrArg _ (keyArrives_closed free shut low high), fun free low high acts => ?_⟩
    rw [keyArrives_acts free low high acts, touchTimer_eq]
    rfl
  · refine ⟨fun i below => ?_, fun nowhere => ?_, fun i above => ?_, fun nowhere => ?_, selectItem_bumps,
      fun x item on => selectItem_acts item on, rfl, menuKey_open, menuKey_absent,
      fun p shut present => menuKey_opens shut present,
      ⟨volumeStep_rises, volumeStep_loudest, volumeStep_falls, volumeStep_silent⟩, fun n => pushPage_bumps,
      fun n p hp alone => ?_, fun n p below top hp above short => ?_, rfl, popPage_closes, fun below top => popPage_pops,
      rfl, rfl, fun code => rfl, rfl,
      brightnessStep_brightest, brightnessStep_dark, brightnessStep_rises, brightnessStep_falls⟩
    · exact (congrArg (moveHighlight k · s) below).trans (moveHighlight_some k i s)
    · exact (congrArg (moveHighlight k · s) nowhere).trans (moveHighlight_none k s)
    · exact (congrArg (moveHighlight k · s) above).trans (moveHighlight_some k i s)
    · exact (congrArg (moveHighlight k · s) nowhere).trans (moveHighlight_none k s)
    · refine (pushPage_pushes hp (by simp [SeatContext.depth, alone])).trans ?_
      rw [SeatContext.saveTop_root alone]
      simp [alone]
    · refine (pushPage_pushes hp ?_).trans ?_
      · simp only [SeatContext.depth, above, List.length_append, List.length_singleton]
        omega
      · rw [SeatContext.saveTop_above above]
        simp
  · refine ⟨itemEnabled_iff, enabledAbove_eq_some, enabledBelow_eq_some, settle_enabled, fun off above => ?_,
      fun off nowhere below => ?_, fun off nowhere neither => ?_⟩
    · rw [settle_disabled off, above]
    · rw [settle_disabled off, nowhere, below, Option.getD_some]
    · rw [settle_disabled off, nowhere, neither, Option.getD_none]

end Sys2Proof.Machine
end

section
/-! What the parameters of the menu commands carry, and when they are valid (R105, R106, R109). -/

namespace Sys2Proof.Machine

variable {p : ItemParams} {q : MenuSetParams} {title : List Nat} {items : List ItemParams}

/-! ### Items and pages (R105, R106) -/

theorem textOk_iff (codes : List Nat) : textOk codes = true ↔ codes.length ≤ 24 ∧ ∀ g ∈ codes, g ≤ 223 := by
  simp [textOk]

theorem icon?_eq_some {o : Optional Nat} {icon : Option Nat} : icon? o = some icon ↔
    (icon = none ∧ o = .absent) ∨ ∃ g, icon = some g ∧ o = .present g ∧ 224 ≤ g ∧ g ≤ 255 := by
  cases o with
  | absent => simp [icon?, eq_comm]
  | present g =>
    simp only [icon?, Option.ite_none_right_eq_some, Option.some.injEq, reduceCtorEq, and_false, false_or,
      Optional.present.injEq]
    constructor
    · rintro ⟨range, rfl⟩
      exact ⟨g, rfl, rfl, range⟩
    · rintro ⟨_, rfl, rfl, range⟩
      exact ⟨range, rfl⟩
  | badPresence => simp [icon?]

/-- The actions that use no argument. -/
def plainActions : List (Action × Nat) :=
  [(.volumeUp, 2), (.volumeDown, 3), (.brightnessUp, 4), (.brightnessDown, 5), (.back, 6), (.close, 7)]

theorem menuAction?_eq_some {n arg : Nat} {a : Action} : menuAction? n arg = some a ↔
    (∃ page : Fin 16, a = .subpage page ∧ n = 0 ∧ arg = page.val) ∨ (a = .report arg ∧ n = 1 ∧ arg ≤ 255) ∨
      (a, n) ∈ plainActions := by
  match n with
  | 0 =>
    simp only [menuAction?, Option.map_eq_some_iff, fin?_eq_some, plainActions]
    simp [and_comm, eq_comm]
  | 1 =>
    simp [menuAction?, plainActions, and_comm, eq_comm]
  | 2 | 3 | 4 | 5 | 6 | 7 => simp [menuAction?, plainActions, eq_comm]
  | n + 8 => simp [menuAction?, plainActions]

theorem item?_eq_some {i : Item} : item? p = some i ↔
    i = { label := p.label, icon := i.icon, enabled := decide (p.enabled = 1), action := i.action } ∧
      p.label.length ≤ 24 ∧ (∀ g ∈ p.label, g ≤ 223) ∧ p.enabled ≤ 1 ∧ icon? p.icon = some i.icon ∧
      menuAction? p.action p.actionArg = some i.action := by
  unfold item?
  simp only [flag?_eq, Option.bind_eq_bind, Option.bind_eq_some_iff, Option.ite_none_right_eq_some, Option.some.injEq,
    textOk_iff]
  constructor
  · rintro ⟨icon, hicon, _, ⟨flag, rfl⟩, action, haction, ⟨short, codes⟩, rfl⟩
    exact ⟨rfl, short, codes, flag, hicon, haction⟩
  · rintro ⟨fields, short, codes, flag, hicon, haction⟩
    exact ⟨_, hicon, _, ⟨flag, rfl⟩, _, haction, ⟨short, codes⟩, fields.symm⟩

theorem mapM_eq_some {α β : Type} {f : α → Option β} {xs : List α} {ys : List β} :
    xs.mapM f = some ys ↔ xs.map f = ys.map some := by
  induction xs generalizing ys with
  | nil => cases ys <;> simp
  | cons x xs ih =>
    simp only [List.mapM_cons, Option.bind_eq_bind, Option.bind_eq_some_iff, Option.pure_def, Option.some.injEq, ih,
      List.map_cons]
    constructor
    · rintro ⟨y, hy, ys, rest, rfl⟩
      simp [hy, rest]
    · cases ys with
      | nil => simp
      | cons y ys => exact fun h => ⟨y, (List.cons.inj h).1, ys, (List.cons.inj h).2, rfl⟩

theorem menuPage?_eq_some {r : MenuPage} : menuPage? title items = some r ↔
    r.title = title ∧ title.length ≤ 24 ∧ (∀ g ∈ title, g ≤ 223) ∧ 1 ≤ items.length ∧ items.length ≤ 12 ∧
      items.map item? = r.items.map some := by
  unfold menuPage?
  simp only [Option.bind_eq_bind, Option.bind_eq_some_iff, Option.ite_none_right_eq_some, Option.some.injEq, textOk_iff,
    mapM_eq_some]
  have count : ∀ {is : List Item}, items.map item? = is.map some → items.length = is.length := fun h => by
    simpa using congrArg List.length h
  constructor
  · rintro ⟨is, each, ⟨⟨short, codes⟩, least, most⟩, rfl⟩
    rw [count each]
    exact ⟨rfl, short, codes, least, most, each⟩
  · rintro ⟨rfl, short, codes, least, most, each⟩
    rw [count each] at least most
    exact ⟨r.items, each, ⟨⟨short, codes⟩, least, most⟩, rfl⟩

/-! ### Seat settings (R109) -/

theorem menuSettings?_eq_some {t : MenuSettings} : menuSettings? q = some t ↔
    t = { root := t.root, x := q.x, y := q.y, width := q.width, rowHeight := q.rowHeight, background := q.background,
          text := q.text, disabled := q.disabled, highlight := q.highlight, clickChime := q.clickChime,
          bumpChime := q.bumpChime, inactivity := q.inactivity } ∧ q.root = t.root.val ∧ q.x ≤ 1279 ∧ q.y ≤ 799 ∧
      64 ≤ q.width ∧ q.width ≤ 1280 ∧ 24 ≤ q.rowHeight ∧ q.rowHeight ≤ 96 ∧
      (q.clickChime ≤ 31 ∨ q.clickChime = 255) ∧ (q.bumpChime ≤ 31 ∨ q.bumpChime = 255) ∧ q.inactivity ≤ 60 ∧
      q.glyphSet ≤ 1023 := by
  unfold menuSettings?
  simp only [Option.bind_eq_bind, Option.bind_eq_some_iff, Option.ite_none_right_eq_some, Option.some.injEq, fin?_eq_some]
  constructor
  · rintro ⟨root, hroot, range, rfl⟩
    exact ⟨rfl, hroot, range⟩
  · rintro ⟨fields, hroot, range⟩
    exact ⟨_, hroot, range, fields.symm⟩

end Sys2Proof.Machine
end

section
/-! The page commands and MENU_SET (R106 to R109). -/

namespace Sys2Proof.Machine

variable {s t : State} {k : Seat} {n : Fin 16} {page item length : Nat} {title : List Nat} {items : List ItemParams}
  {p : ItemParams} {q : MenuSetParams}

/-! ### The menus of a state -/

theorem State.setSeat_self (s : State) (k : Seat) : s.setSeat k (s.seat k) = s := by cases k <;> rfl

theorem State.items_setSeat (s : State) (k : Seat) (c : SeatContext) (n : Fin 16) : (s.setSeat k c).items n = s.items n := by
  simp [State.items]

theorem State.items_setPage_ne {i : Fin 16} (other : i ≠ n) (r : Option MenuPage) (s : State) :
    (s.setPage n r).items i = s.items i := by
  simp [State.items, State.page_setPage_ne _ _ _ _ other]

theorem seat_of_menu (same : t.menu = s.menu) (k : Seat) : t.seat k = s.seat k := by
  cases k <;> simp [State.seat, same]

theorem page_of_menu (same : t.menu = s.menu) (n : Fin 16) : t.page n = s.page n := by
  simp [State.page, same]

/-- The contexts of both seats replaced, each by one made of it. -/
def changeSeats (f : SeatContext → SeatContext) (s : State) : State :=
  (s.setSeat .left (f (s.seat .left))).setSeat .right (f (s.seat .right))

theorem changeSeats_seat (f : SeatContext → SeatContext) (s : State) (k : Seat) :
    (changeSeats f s).seat k = f (s.seat k) := by cases k <;> rfl

theorem changeSeats_page (f : SeatContext → SeatContext) (s : State) (n : Fin 16) :
    (changeSeats f s).page n = s.page n := by
  simp [changeSeats]

theorem changeSeats_same {f : SeatContext → SeatContext} (same : ∀ k, f (s.seat k) = s.seat k) :
    changeSeats f s = s := by
  rw [changeSeats, same, same, s.setSeat_self]
  exact s.setSeat_self .right

/-! ### Highlights settled on a page that is set (R106) -/

/-- A seat context settled when its current page is a page just set. -/
def SeatContext.settledOn (n : Fin 16) (items : List Item) (c : SeatContext) : SeatContext :=
  if c.currentPage = n then { c with highlight := settle items c.highlight } else c

theorem settleSeat_eq (n : Fin 16) (k : Seat) (s : State) :
    settleSeat n k s = s.setSeat k ((s.seat k).settledOn n (s.items n)) := by
  unfold settleSeat SeatContext.settledOn
  dsimp only
  split
  · rfl
  · exact (s.setSeat_self k).symm

theorem settleSeats_eq (n : Fin 16) (s : State) : seats.foldl (fun s k => settleSeat n k s) s =
    changeSeats (SeatContext.settledOn n (s.items n)) s := by
  simp only [seats, List.foldl_cons, List.foldl_nil, settleSeat_eq, State.items_setSeat]
  rfl

/-- The seats whose planes a page that is set asks for. -/
def seatsAsked (n : Fin 16) (s : State) : List Seat :=
  [Seat.left, .right].filter fun k => decide ((s.seat k).isOpen = true ∧ (s.seat k).currentPage = n) ||
    decide ((s.seat k).settledOn n (s.items n) ≠ s.seat k)

theorem pageChanged_eq (n : Fin 16) (s : State) : pageChanged n s =
    if seatsAsked n s = [] then changeSeats (SeatContext.settledOn n (s.items n)) s
    else requestRenders ((seatsAsked n s).map (·.plane)) (changeSeats (SeatContext.settledOn n (s.items n)) s) := by
  have asked : (seats.filter fun k => ((s.seat k).isOpen && (s.seat k).currentPage == n) ||
      ((changeSeats (SeatContext.settledOn n (s.items n)) s).seat k != s.seat k)) = seatsAsked n s := by
    refine List.filter_congr fun k _ => ?_
    rw [changeSeats_seat, Bool.eq_iff_iff]
    simp
  simp only [pageChanged, settleSeats_eq, asked]

/-! ### PAGE_SET and ITEM_SET (R106, R107) -/

theorem pageSet_refused (h : length ≠ pageLength title items ∨ 16 ≤ page ∨ menuPage? title items = none) (s : State) :
    pageSet page title ⟨length, items⟩ s = refuse .param s := by
  unfold pageSet
  split
  · rfl
  · rename_i counted
    split
    · rename_i hn hr
      rcases h with h | h | h
      · exact absurd h counted
      · simp [fin?_eq_none h] at hn
      · simp [h] at hr
    · rfl

theorem pageSet_done {r : MenuPage} (counted : length = pageLength title items) (hr : menuPage? title items = some r)
    (s : State) : pageSet n.val title ⟨length, items⟩ s = done (pageChanged n (s.setPage n (some r))) := by
  simp [pageSet, counted, fin?_val, hr]

theorem itemSet_refused (h : 16 ≤ page ∨ item? p = none) (s : State) : itemSet page item p s = refuse .param s := by
  unfold itemSet
  split
  · rename_i hn hi
    rcases h with h | h
    · simp [fin?_eq_none h] at hn
    · simp [h] at hi
  · rfl

theorem itemSet_absent {i : Item} (hi : item? p = some i) (absent : s.page n = none) :
    itemSet n.val item p s = refuse .notFound s := by
  simp [itemSet, fin?_val, hi, absent]

theorem itemSet_beyond {i : Item} {r : MenuPage} (hi : item? p = some i) (hr : s.page n = some r)
    (beyond : r.items.length ≤ item) : itemSet n.val item p s = refuse .param s := by
  simp [itemSet, fin?_val, hi, hr, beyond]

theorem itemSet_done {i : Item} {r : MenuPage} (hi : item? p = some i) (hr : s.page n = some r)
    (inside : item < r.items.length) : itemSet n.val item p s =
      done (pageChanged n (s.setPage n (some { r with items := r.items.set item i }))) := by
  simp [itemSet, fin?_val, hi, hr, Nat.not_le.mpr inside]

/-! ### A seat context without a page (R108) -/

section
variable {c : SeatContext} {shown : Fin 16 → List Item}

theorem SeatContext.withoutPage_rootOpen (root : c.root.page = n) (isOpen : c.isOpen = true) :
    c.withoutPage n shown = c.closed := (if_pos root).trans (if_pos isOpen)

theorem SeatContext.withoutPage_rootClosed (root : c.root.page = n) (shut : c.isOpen = false) :
    c.withoutPage n shown = { c with highlight := 0 } := (if_pos root).trans (if_neg (by simp [shut]))

theorem SeatContext.withoutPage_above {below upper : List StackEntry} {e : StackEntry} (root : c.root.page ≠ n)
    (above : c.above = below ++ e :: upper) (gone : e.page = n) (lowest : ∀ x ∈ below, x.page ≠ n) :
    c.withoutPage n shown =
      let next := below.getLast?.getD c.root
      { c with above := below, highlight := settle (shown next.page) next.saved } := by
  have kept : c.above.takeWhile (fun e => e.page != n) = below := by
    rw [above, List.takeWhile_append_of_pos (by simpa using lowest), List.takeWhile_cons_of_neg (by simp [gone]),
      List.append_nil]
  have found : c.above.any (fun e => e.page == n) = true := by simp [above, gone]
  refine (if_neg root).trans ((if_pos found).trans ?_)
  simp only [kept, SeatContext.currentPage, SeatContext.top_eq]

theorem SeatContext.withoutPage_elsewhere (other : ∀ e ∈ c.stack, e.page ≠ n) : c.withoutPage n shown = c := by
  have root : c.root.page ≠ n := other c.root List.mem_cons_self
  have above : ¬ c.above.any (fun e => e.page == n) = true := by
    simpa using fun e he => other e (List.mem_cons_of_mem _ he)
  exact (if_neg root).trans (if_neg above)

end

/-! ### PAGE_CLEAR (R108) -/

/-- The page that a seat falls back to is another one, so its items are those it had before. -/
theorem withoutPage_cleared {c : SeatContext} {below upper : List StackEntry} {e : StackEntry} (root : c.root.page ≠ n)
    (above : c.above = below ++ e :: upper) (gone : e.page = n) (lowest : ∀ x ∈ below, x.page ≠ n) :
    c.withoutPage n (s.setPage n none).items =
      let next := below.getLast?.getD c.root
      { c with above := below, highlight := settle (s.items next.page) next.saved } := by
  have other : (below.getLast?.getD c.root).page ≠ n := by
    cases last : below.getLast? with
    | none => exact root
    | some x => exact lowest x (List.mem_of_getLast? last)
  rw [SeatContext.withoutPage_above root above gone lowest]
  simp only [State.items_setPage_ne other]

/-- The pages and the seats after a page has gone absent. -/
def pageGone (n : Fin 16) (s : State) : State :=
  changeSeats (·.withoutPage n (s.setPage n none).items) (s.setPage n none)

theorem pageGone_seat (n : Fin 16) (s : State) (k : Seat) :
    (pageGone n s).seat k = (s.seat k).withoutPage n (s.setPage n none).items := by
  rw [pageGone, changeSeats_seat, State.setPage_seat]

theorem pageGone_page (n : Fin 16) (s : State) (i : Fin 16) : (pageGone n s).page i = (s.setPage n none).page i :=
  changeSeats_page _ _ i

theorem pageClear_unknown (h : 16 ≤ page) (s : State) : pageClear page s = refuse .param s := by
  simp [pageClear, fin?_eq_none h]

theorem pageClear_absent (absent : s.page n = none) : pageClear n.val s = done s := by
  simp [pageClear, fin?_val, absent]

theorem pageClear_present {r : MenuPage} (hr : s.page n = some r) : pageClear n.val s =
    let changed := seats.filter fun k => (s.seat k).withoutPage n (s.setPage n none).items ≠ s.seat k
    done (if changed = [] then pageGone n s else requestRenders (changed.map (·.plane)) (pageGone n s)) := by
  have gone : seats.foldl (fun s k => s.setSeat k ((s.seat k).withoutPage n s.items)) (s.setPage n none) =
      pageGone n s := by
    have items : ∀ (u : State) k c, (u.setSeat k c).items = u.items := fun u k c => funext (State.items_setSeat u k c)
    simp only [seats, List.foldl_cons, List.foldl_nil, items]
    rfl
  simp [pageClear, fin?_val, hr, gone]

/-- The seats and pages that PAGE_CLEAR leaves of a present page. -/
theorem pageClear_menu {r : MenuPage} (hr : s.page n = some r) : ∃ t, pageClear n.val s = done t ∧
    t.menu = (pageGone n s).menu := by
  refine ⟨_, pageClear_present hr, ?_⟩
  split
  · rfl
  · simp

theorem pageClear_unused {r : MenuPage} (hr : s.page n = some r) (unused : ∀ k, ∀ e ∈ (s.seat k).stack, e.page ≠ n) :
    pageClear n.val s = done (s.setPage n none) := by
  have same : ∀ k, (s.seat k).withoutPage n (s.setPage n none).items = s.seat k := fun k =>
    SeatContext.withoutPage_elsewhere (unused k)
  rw [pageClear_present hr]
  simp only [same, ne_eq, not_true_eq_false, decide_false, List.filter_false, if_true]
  exact congrArg done (changeSeats_same fun k => (State.setPage_seat ..).symm ▸ same k)

/-! ### MENU_SET (R109) -/

theorem menuSet_refused (h : 2 ≤ q.seat ∨ menuSettings? q = none) (s : State) : menuSet q s = refuse .param s := by
  unfold menuSet
  split
  · rename_i hk ht
    rcases h with h | h
    · simp [seat?_unknown h] at hk
    · simp [h] at ht
  · rfl

theorem menuSet_done {u : MenuSettings} (hk : seat? q.seat = some k) (hu : menuSettings? q = some u) (s : State) :
    menuSet q s = done (requestMenu k (setGlyphSet q.glyphSet (s.setSeat k ((s.seat k).withSettings u)))) := by
  simp [menuSet, hk, hu]

/-- Settles O30: what each command's parameters carry, what its owner answers by them, and what a page that goes absent
leaves of each seat's stack. -/
theorem pageAndMenuSettingCommands : Obligations.PageAndMenuSettingCommands := by
  unfold Obligations.PageAndMenuSettingCommands
  intro mark length page item title items p q s hs counted
  have counts : pageLength title items = counted := by
    have each : itemLength = fun i => 5 + i.label.length + (match i.icon with
        | .present _ => 1
        | .absent => 0
        | .badPresence => 0) := by
      funext ⟨label, icon, _, _, _⟩
      cases icon <;> simp only [itemLength] <;> omega
    exact congrArg (fun f : ItemParams → Nat => 3 + title.length + (items.map f).sum) each
  refine ⟨fun bad => ?_, fun bad => ?_, fun bad => ?_, fun bad => ?_, fun i => ?_, fun r => menuPage?_eq_some,
    fun t => menuSettings?_eq_some, ?_, fun n => ?_, fun k t hk ht => ?_⟩
  · rw [← counts] at bad
    exact congrArg Host.Outcome.next (runCommand_refuse (c := .pageSet page title ⟨length, items⟩) hs mark
      (pageSet_refused bad s))
  · exact congrArg Host.Outcome.next (runCommand_refuse (c := .itemSet page item p) hs mark (itemSet_refused bad s))
  · exact congrArg Host.Outcome.next (runCommand_refuse (c := .pageClear page) hs mark (pageClear_unknown bad s))
  · exact congrArg Host.Outcome.next (runCommand_refuse (c := .menuSet q) hs mark (menuSet_refused bad s))
  · rw [item?_eq_some, icon?_eq_some, menuAction?_eq_some]
    rfl
  · rintro n rfl
    have pageSets : ∀ {t}, pageSet n title ⟨length, items⟩ s = done t →
        exec (.pageSet mark n title ⟨length, items⟩) s = .next (replied mark 41 .ok [] t) := fun answer =>
      congrArg Host.Outcome.next (runCommand_done (c := .pageSet n title ⟨length, items⟩) hs mark answer)
    have clears : ∀ {t}, pageClear n s = done t → exec (.pageClear mark n) s = .next (replied mark 42 .ok [] t) :=
      fun answer => congrArg Host.Outcome.next (runCommand_done (c := .pageClear n) hs mark answer)
    have itemRefused : ∀ {st}, itemSet n item p s = refuse st s → exec (.itemSet mark n item p) s =
        .next (replied mark 43 st [] s) := fun answer =>
      congrArg Host.Outcome.next (runCommand_refuse (c := .itemSet n item p) hs mark answer)
    have itemSets : ∀ {t}, itemSet n item p s = done t → exec (.itemSet mark n item p) s =
        .next (replied mark 43 .ok [] t) := fun answer =>
      congrArg Host.Outcome.next (runCommand_done (c := .itemSet n item p) hs mark answer)
    refine ⟨fun r whole hr => pageSets (pageSet_done (whole.trans counts.symm) hr s),
      fun i hi absent => itemRefused (itemSet_absent hi absent),
      fun i r hi hr beyond => itemRefused (itemSet_beyond hi hr beyond),
      fun i r hi hr inside => itemSets (itemSet_done hi hr inside), fun absent => clears (pageClear_absent absent),
      fun r hr unused => clears (pageClear_unused hr unused), fun r hr => ?_⟩
    obtain ⟨t, answer, menu⟩ := pageClear_menu hr
    have page : ∀ i, t.page i = (s.setPage n none).page i := fun i => (page_of_menu menu i).trans (pageGone_page n s i)
    have seat : ∀ k, t.seat k = (s.seat k).withoutPage n (s.setPage n none).items := fun k =>
      (seat_of_menu menu k).trans (pageGone_seat n s k)
    refine ⟨t, clears answer, (page n).trans (s.page_setPage n none),
      fun i other => (page i).trans (s.page_setPage_ne n i none other), fun k => ?_⟩
    dsimp only
    rw [seat k]
    refine ⟨fun root isOpen => SeatContext.withoutPage_rootOpen root isOpen,
      fun root shut => SeatContext.withoutPage_rootClosed root shut, fun below e upper root above gone lowest => ?_,
      fun other => SeatContext.withoutPage_elsewhere other⟩
    exact withoutPage_cleared root above gone lowest
  · exact ⟨fun quiet => (pageChanged_eq n s).trans (if_pos quiet),
      fun asked => (pageChanged_eq n s).trans (if_neg asked)⟩
  · exact congrArg Host.Outcome.next (runCommand_done (c := .menuSet q) hs mark (menuSet_done hk ht s))

end Sys2Proof.Machine
end

section
/-! The law of the menus under keys and menu commands (R105, R117). -/

namespace Sys2Proof.Machine

variable {s t : State} {k : Seat} {c d : SeatContext} {n : Fin 16}

/-! ### The law, page by page and seat by seat -/

/-- The law of R105 for the pages. -/
def PagesLawful (s : State) : Prop := ∀ n p, s.page n = some p → 1 ≤ p.items.length ∧ p.items.length ≤ 12

/-- The law of R117 for one seat context over the pages: 1 to 4 entries, the highlight an item of the current page. -/
def SeatContext.Lawful (page : Fin 16 → Option MenuPage) (c : SeatContext) : Prop :=
  c.depth ≤ 4 ∧ ∀ p, page c.currentPage = some p → c.highlight < p.items.length

theorem menusLawful_iff : MenusLawful s ↔ PagesLawful s ∧ ∀ k, (s.seat k).Lawful s.page := Iff.rfl

theorem MenusLawful.pages (lawful : MenusLawful s) : PagesLawful s := (menusLawful_iff.mp lawful).1

theorem MenusLawful.seat (lawful : MenusLawful s) (k : Seat) : (s.seat k).Lawful s.page := (menusLawful_iff.mp lawful).2 k

theorem MenusLawful.of_menu (lawful : MenusLawful s) (same : t.menu = s.menu) : MenusLawful t := by
  have seat : t.seat = s.seat := funext (seat_of_menu same)
  have page : t.page = s.page := funext (page_of_menu same)
  unfold MenusLawful
  rw [seat, page]
  exact lawful

/-- A context with the stack and the highlight of a lawful one. -/
theorem SeatContext.Lawful.of_same {page : Fin 16 → Option MenuPage} (lawful : c.Lawful page) (root : d.root = c.root)
    (above : d.above = c.above) (highlight : d.highlight = c.highlight) : d.Lawful page := by
  unfold SeatContext.Lawful SeatContext.depth SeatContext.currentPage SeatContext.top
  rw [root, above, highlight]
  exact lawful

theorem PagesLawful.highlight_zero (lawful : PagesLawful s) (depth : c.depth ≤ 4) (zero : c.highlight = 0) :
    c.Lawful s.page := by
  refine ⟨depth, fun p hp => ?_⟩
  rw [zero]
  exact (lawful _ p hp).1

theorem PagesLawful.settle_lt (lawful : PagesLawful s) {p : MenuPage} (hp : s.page n = some p) (h : Nat) :
    settle (s.items n) h < p.items.length := by
  rw [State.items_of_page hp]
  exact Machine.settle_lt (List.ne_nil_of_length_pos (lawful n p hp).1) h

theorem PagesLawful.highlight_settled (lawful : PagesLawful s) (depth : c.depth ≤ 4) {h : Nat}
    (settled : c.highlight = settle (s.items c.currentPage) h) : c.Lawful s.page := by
  refine ⟨depth, fun p hp => ?_⟩
  rw [settled]
  exact lawful.settle_lt hp h

theorem MenusLawful.setSeat (lawful : MenusLawful s) (hc : c.Lawful s.page) : MenusLawful (s.setSeat k c) := by
  have page : (s.setSeat k c).page = s.page := funext (s.setSeat_page k c)
  refine menusLawful_iff.mpr ⟨fun n p hp => lawful.pages n p (page ▸ hp), fun j => ?_⟩
  rw [page]
  by_cases same : j = k
  · subst same
    rwa [s.seat_setSeat]
  · rw [s.seat_setSeat_ne k j c same]
    exact lawful.seat j

theorem MenusLawful.requestRenders (lawful : MenusLawful s) (ps : List Plane) : MenusLawful (requestRenders ps s) :=
  lawful.of_menu (by simp)

theorem MenusLawful.changeSeat (lawful : MenusLawful s) (hc : c.Lawful s.page) : MenusLawful (changeSeat k c s) :=
  (lawful.setSeat hc).requestRenders _

/-- Both contexts replaced, each by a lawful one. -/
theorem PagesLawful.changeSeats {f : SeatContext → SeatContext} (lawful : PagesLawful s)
    (seats : ∀ k, (f (s.seat k)).Lawful s.page) : MenusLawful (changeSeats f s) := by
  have page : (Machine.changeSeats f s).page = s.page := funext (changeSeats_page f s)
  refine menusLawful_iff.mpr ⟨fun n p hp => lawful n p (page ▸ hp), fun k => ?_⟩
  rw [page, changeSeats_seat]
  exact seats k

/-! ### Menus that open and close (R110, R115) -/

theorem MenusLawful.openMenu (lawful : MenusLawful s) (k : Seat) : MenusLawful (openMenu k s) :=
  lawful.changeSeat (lawful.pages.highlight_settled (Nat.le_of_ble_eq_true rfl) rfl)

theorem MenusLawful.closeMenu (lawful : MenusLawful s) (k : Seat) : MenusLawful (closeMenu k s) :=
  lawful.changeSeat (lawful.pages.highlight_zero (Nat.le_of_ble_eq_true rfl) rfl)

theorem MenusLawful.inactivityExpires (lawful : MenusLawful s) (k : Seat) : MenusLawful (inactivityExpires k s) := by
  unfold Machine.inactivityExpires
  split
  · exact lawful.closeMenu k
  · exact lawful

/-! ### Keys (R111 to R114) -/

theorem MenusLawful.moveHighlight (lawful : MenusLawful s) {target : Option Nat}
    (enabled : ∀ i, target = some i → itemEnabled (s.items (s.seat k).currentPage) i = true) :
    MenusLawful (moveHighlight k target s).state := by
  cases target with
  | none => exact lawful
  | some i =>
    refine lawful.changeSeat ⟨(lawful.seat k).1, fun p hp => ?_⟩
    have item := lt_of_itemEnabled (enabled i rfl)
    have current : s.page (s.seat k).currentPage = some p := hp
    rwa [State.items_of_page current] at item

theorem MenusLawful.popPage (lawful : MenusLawful s) (k : Seat) : MenusLawful (popPage k s) := by
  unfold Machine.popPage
  dsimp only
  split
  · exact lawful.closeMenu k
  · refine lawful.changeSeat (lawful.pages.highlight_settled ?_ rfl)
    have depth := (lawful.seat k).1
    simp only [SeatContext.depth, List.length_dropLast] at depth ⊢
    omega

theorem SeatContext.saveTop_depth (c : SeatContext) : c.saveTop.depth = c.depth := by
  rcases List.eq_nil_or_concat' c.above with alone | ⟨below, top, above⟩
  · simp [SeatContext.saveTop_root alone, SeatContext.depth]
  · simp [SeatContext.saveTop_above above, SeatContext.depth, above]

theorem MenusLawful.pushPage (lawful : MenusLawful s) (k : Seat) (n : Fin 16) : MenusLawful (pushPage k n s).state := by
  unfold Machine.pushPage
  dsimp only
  split
  · exact lawful
  · rename_i room
    refine lawful.changeSeat (lawful.pages.highlight_settled (h := 0) ?_ ?_)
    · have saved := (s.seat k).saveTop_depth
      simp only [SeatContext.depth, List.length_append, List.length_singleton] at saved room ⊢
      omega
    · simp [SeatContext.currentPage, SeatContext.top]

theorem MenusLawful.volumeStep (lawful : MenusLawful s) (k : Seat) (up : Bool) : MenusLawful (volumeStep k up s).state := by
  have set : ∀ v, MenusLawful (setVolume k.zone v s) := fun v => lawful.of_menu (by simp [setVolume])
  unfold Machine.volumeStep
  dsimp only
  split
  · split
    · exact lawful
    · exact set _
  · split
    · exact lawful
    · exact set _

theorem MenusLawful.brightnessStep (lawful : MenusLawful s) (k : Seat) (up : Bool) :
    MenusLawful (brightnessStep k up s).state := by
  have set : ∀ level, MenusLawful (setLevel k.panel level s) := fun level => lawful.of_menu (by simp)
  unfold Machine.brightnessStep
  dsimp only
  split
  · split
    · exact lawful
    · exact set _
  · split
    · exact lawful
    · exact set _

theorem MenusLawful.performAction (lawful : MenusLawful s) (k : Seat) (a : Action) :
    MenusLawful (performAction k a s).state := by
  cases a with
  | subpage n => exact lawful.pushPage k n
  | report code =>
    have sent : (handNotice (.select k (s.seat k).currentPage.val (s.seat k).highlight code) s).menu = s.menu := by simp
    exact lawful.of_menu sent
  | volumeUp => exact lawful.volumeStep k true
  | volumeDown => exact lawful.volumeStep k false
  | brightnessUp => exact lawful.brightnessStep k true
  | brightnessDown => exact lawful.brightnessStep k false
  | back => exact lawful.popPage k
  | close => exact lawful.closeMenu k

theorem MenusLawful.selectItem (lawful : MenusLawful s) (k : Seat) : MenusLawful (selectItem k s).state := by
  unfold Machine.selectItem
  split
  · exact lawful
  · split
    · exact lawful.performAction k _
    · exact lawful

theorem MenusLawful.menuKey (lawful : MenusLawful s) (k : Seat) : MenusLawful (menuKey k s).state := by
  unfold Machine.menuKey
  dsimp only
  split
  · exact lawful.closeMenu k
  · split
    · exact lawful
    · exact lawful.openMenu k

theorem MenusLawful.keyEffect (lawful : MenusLawful s) (k : Seat) (code : Nat) : MenusLawful (keyEffect k code s).state := by
  unfold Machine.keyEffect
  dsimp only
  split
  case h_1 => exact lawful.moveHighlight fun i below => (enabledBelow_eq_some.mp below).2.1
  case h_2 => exact lawful.moveHighlight fun i above => (enabledAbove_eq_some.mp above).2.1
  case h_3 => exact lawful.selectItem k
  case h_4 => exact lawful.popPage k
  case h_5 => exact lawful.menuKey k
  case h_6 => exact lawful.volumeStep k true
  case h_7 => exact lawful.volumeStep k false

theorem MenusLawful.touchTimer (lawful : MenusLawful s) (k : Seat) : MenusLawful (touchTimer k s) := by
  have touched : (s.seat k).restartTimer.Lawful s.page := (lawful.seat k).of_same rfl rfl rfl
  rcases touchTimer_cases k s with ⟨-, e⟩ | ⟨-, -, e⟩ | ⟨-, -, e⟩ <;> rw [e]
  · exact lawful
  · exact lawful.setSeat touched
  · exact lawful.changeSeat touched

theorem MenusLawful.keyArrives (lawful : MenusLawful s) (k : Seat) (code : Nat) : MenusLawful (keyArrives k code s) := by
  unfold Machine.keyArrives
  dsimp only
  split
  · exact lawful.setSeat ((lawful.seat k).of_same rfl rfl rfl)
  · split
    · exact lawful.setSeat ((lawful.seat k).of_same rfl rfl rfl)
    · split
      · exact lawful
      · exact ((lawful.keyEffect k code).touchTimer k).of_menu (by simp [keyChime])

/-! ### Page commands (R106 to R108) -/

/-- A page that is set settles the seats that show it. -/
theorem PagesLawful.pageChanged (lawful : PagesLawful s) (seats : ∀ k, (s.seat k).depth ≤ 4 ∧
    ((s.seat k).currentPage ≠ n → (s.seat k).Lawful s.page)) : MenusLawful (pageChanged n s) := by
  have settled : MenusLawful (Machine.changeSeats (SeatContext.settledOn n (s.items n)) s) := by
    refine lawful.changeSeats fun k => ?_
    unfold SeatContext.settledOn
    split
    · rename_i shown
      subst shown
      exact lawful.highlight_settled (seats k).1 rfl
    · rename_i other
      exact (seats k).2 other
  rw [pageChanged_eq]
  split
  · exact settled
  · exact settled.requestRenders _

/-- A lawful page set over a lawful state. -/
theorem MenusLawful.pageChanged_setPage (lawful : MenusLawful s) {r : MenuPage}
    (count : 1 ≤ r.items.length ∧ r.items.length ≤ 12) : MenusLawful (pageChanged n (s.setPage n (some r))) := by
  refine PagesLawful.pageChanged (fun i p hp => ?_) fun k => ?_
  · by_cases same : i = n
    · subst same
      obtain rfl : r = p := by simpa using hp
      exact count
    · rw [s.page_setPage_ne n i _ same] at hp
      exact lawful.pages i p hp
  · rw [s.setPage_seat]
    refine ⟨(lawful.seat k).1, fun other => ⟨(lawful.seat k).1, fun p hp => ?_⟩⟩
    rw [s.page_setPage_ne n _ _ other] at hp
    exact (lawful.seat k).2 p hp

theorem MenusLawful.pageSet (lawful : MenusLawful s) (page : Nat) (title : List Nat) (items : SizedList ItemParams) :
    MenusLawful (pageSet page title items s).state := by
  unfold Machine.pageSet
  split
  · exact lawful
  · split
    · rename_i n r _ hr
      obtain ⟨-, -, -, least, most, each⟩ := menuPage?_eq_some.mp hr
      have count : items.entries.length = r.items.length := by simpa using congrArg List.length each
      rw [count] at least most
      exact lawful.pageChanged_setPage ⟨least, most⟩
    · exact lawful

theorem MenusLawful.itemSet (lawful : MenusLawful s) (page item : Nat) (p : ItemParams) :
    MenusLawful (itemSet page item p s).state := by
  unfold Machine.itemSet
  split
  · split
    · exact lawful
    · rename_i r hr
      split
      · exact lawful
      · exact lawful.pageChanged_setPage (by simpa using lawful.pages _ r hr)
  · exact lawful

/-- A seat context without a page is lawful over the pages that are left. -/
theorem PagesLawful.withoutPage (lawful : PagesLawful s) (hc : c.Lawful s.page) (n : Fin 16) :
    (c.withoutPage n s.items).Lawful s.page := by
  unfold SeatContext.withoutPage
  split
  · split
    · exact lawful.highlight_zero (Nat.le_of_ble_eq_true rfl) rfl
    · exact lawful.highlight_zero hc.1 rfl
  · split
    · refine lawful.highlight_settled (Nat.le_trans ?_ hc.1) rfl
      exact Nat.succ_le_succ (List.takeWhile_prefix _).length_le
    · exact hc

theorem MenusLawful.pageClear (lawful : MenusLawful s) (page : Nat) : MenusLawful (pageClear page s).state := by
  have pages : ∀ {n i : Fin 16} {p}, (s.setPage n none).page i = some p → s.page i = some p := fun {n i p} hp => by
    by_cases same : i = n
    · simp [same] at hp
    · rwa [s.page_setPage_ne n i none same] at hp
  rcases Nat.lt_or_ge page 16 with known | unknown
  · obtain ⟨n, rfl⟩ : ∃ n : Fin 16, page = n.val := ⟨⟨page, known⟩, rfl⟩
    cases hr : s.page n with
    | none => rwa [pageClear_absent hr]
    | some r =>
      obtain ⟨t, answer, menu⟩ := pageClear_menu hr
      rw [answer]
      have left : PagesLawful (s.setPage n none) := fun i p hp => lawful.pages i p (pages hp)
      refine MenusLawful.of_menu (left.changeSeats fun k => left.withoutPage ?_ n) menu
      rw [s.setPage_seat]
      exact ⟨(lawful.seat k).1, fun p hp => (lawful.seat k).2 p (pages hp)⟩
  · rwa [pageClear_unknown unknown]

/-! ### Seat commands (R109, R115) -/

theorem PagesLawful.withSettings (lawful : PagesLawful s) (hc : c.Lawful s.page) (u : MenuSettings) :
    (c.withSettings u).Lawful s.page := by
  unfold SeatContext.withSettings
  split
  · exact hc.of_same rfl rfl rfl
  · exact lawful.highlight_zero hc.1 rfl

theorem MenusLawful.menuSet (lawful : MenusLawful s) (q : MenuSetParams) : MenusLawful (menuSet q s).state := by
  unfold Machine.menuSet
  split
  · rename_i k u _ _
    have set := lawful.setSeat (k := k) (lawful.pages.withSettings (lawful.seat k) u)
    exact MenusLawful.requestRenders (set.of_menu (by simp)) _
  · exact lawful

theorem MenusLawful.menuOpen (lawful : MenusLawful s) (seat : Nat) : MenusLawful (menuOpen seat s).state := by
  unfold Machine.menuOpen
  split
  · exact lawful
  · dsimp only
    split
    · exact lawful
    · split
      · exact lawful
      · exact lawful.openMenu _

theorem MenusLawful.menuClose (lawful : MenusLawful s) (seat : Nat) : MenusLawful (menuClose seat s).state := by
  unfold Machine.menuClose
  split
  · exact lawful
  · dsimp only [done]
    split
    · exact lawful.closeMenu _
    · exact lawful

theorem MenusLawful.menuLock (lawful : MenusLawful s) (seat locked : Nat) : MenusLawful (menuLock seat locked s).state := by
  unfold Machine.menuLock
  split
  · rename_i k on _ _
    have changed : ({ s.seat k with locked := on } : SeatContext).Lawful s.page := (lawful.seat k).of_same rfl rfl rfl
    split
    · exact lawful
    · dsimp only [done]
      split
      · exact (lawful.setSeat changed).closeMenu k
      · exact lawful.changeSeat changed
  · exact lawful

end Sys2Proof.Machine
end

section
/-! Vehicles, links, packets, sound and the asset store leave the menus as they are. -/

namespace Sys2Proof.Machine

/-! ### The vehicle and the takeover (R1 to R19) -/

@[simp] theorem supplyChanges_menu (old : Supply) (s : State) : (supplyChanges old s).menu = s.menu := by
  unfold supplyChanges
  split
  · simp
  · split <;> simp

theorem vehicleArrives_menu (p : Packet) (s : State) : (vehicleArrives p s).menu = s.menu := by
  unfold vehicleArrives
  split
  · rfl
  · split <;> simp

theorem startExpires_menu (s : State) : (startExpires s).menu = s.menu := by
  unfold startExpires
  split <;> simp

theorem watchdogExpires_menu (s : State) : (watchdogExpires s).menu = s.menu := by
  unfold watchdogExpires
  split
  · split <;> simp
  · rfl

theorem lingerExpires_menu (s : State) : (lingerExpires s).menu = s.menu := by
  unfold lingerExpires
  split <;> simp

theorem mismatchExpires_menu (s : State) : (mismatchExpires s).menu = s.menu := by
  unfold mismatchExpires
  split <;> simp

theorem pinChanges_menu (level : Bool) (s : State) : (pinChanges level s).menu = s.menu := by
  unfold pinChanges
  split <;> rfl

/-! ### Links (R174 to R176, R181) -/

@[simp] theorem linkDrops_menu (l : Link) (s : State) : (linkDrops l s).menu = s.menu := by
  unfold linkDrops
  dsimp only
  split
  · split <;> simp
  · simp

theorem lossOfLock_menu (l : Link) (s : State) : (lossOfLock l s).menu = s.menu := by
  unfold lossOfLock
  split <;> simp

theorem reachUp_menu (l : Link) (s : State) : (reachUp l s).menu = s.menu := by
  unfold reachUp reachingEffects
  split
  · cases l <;> simp
  · rfl

theorem endFlag_menu (l : Link) (s : State) : (endFlag l s).menu = s.menu := by
  unfold endFlag
  dsimp only
  split
  · rfl
  · split <;> simp

theorem overlong_menu (l : Link) (s : State) : (overlong l s).menu = s.menu := by
  unfold overlong
  dsimp only
  split <;> simp

theorem discardPacket_menu (l : Link) (bytes : List Byte) (s : State) : (discardPacket l bytes s).menu = s.menu := by
  unfold discardPacket
  split
  · split <;> simp
  · rfl

/-! ### Packets (R54 to R61, R176, R186) -/

theorem countPayload_menu (l : Link) (p : Packet) (s : State) : (countPayload l p s).menu = s.menu := by
  unfold countPayload
  split <;> simp

theorem admitVideo_menu {work : Fin 32 → VideoDescriptor → State → State} (rx : VideoRx) (p : Packet) (s : State)
    (works : ∀ t d, (work t d s).menu = s.menu) : (admitVideo rx p work s).menu = s.menu := by
  unfold admitVideo
  split
  · simp
  · exact works _ _
  · rfl

theorem frameArrives_menu (rx : VideoRx) (p : Packet) (s : State) : (frameArrives rx p s).menu = s.menu := by
  refine admitVideo_menu rx p s fun t d => ?_
  dsimp only
  split
  · unfold guideFrame
    split <;> simp [computeGuide]
  · simp

theorem videoLine_menu (rx : VideoRx) (p : Packet) (s : State) : (videoLine rx p s).menu = s.menu :=
  admitVideo_menu rx p s fun t _ => by simp

theorem fendArrives_menu (rx : VideoRx) (p : Packet) (s : State) : (fendArrives rx p s).menu = s.menu := by
  refine admitVideo_menu rx p s fun t _ => ?_
  dsimp only
  split <;> simp

theorem soundArrives_menu (p : Packet) (s : State) : (soundArrives p s).menu = s.menu := by
  unfold soundArrives
  split <;> simp

theorem controlArrives_menu (p : Packet) (s : State) : (controlArrives p s).menu = s.menu := by
  unfold controlArrives
  split <;> rfl

theorem lineWritten_menu {rx : VideoRx} {s t : State} (written : lineWritten rx s = .ok t) : t.menu = s.menu := by
  unfold lineWritten at written
  split at written
  · cases written
    rfl
  · split at written
    · cases written
      simp [writeStaged]
    · cases written

/-! ### Zones and voices (R118 to R151) -/

theorem holdExpires_menu (z : Zone) (s : State) : (holdExpires z s).menu = s.menu := by
  unfold holdExpires
  dsimp only
  split <;> simp

theorem playSample_menu (v : Fin 4) (run : BlockRun) (s : State) : (playSample v run s).2.menu = s.menu := by
  unfold playSample
  dsimp only
  split
  · rfl
  · split
    · rfl
    · split <;> simp

@[simp] theorem playSamples_menu (v : Fin 4) (n : Nat) (run : BlockRun) (s : State) :
    (playSamples v n run s).2.menu = s.menu := by
  induction n generalizing run s with
  | zero => rfl
  | succ n ih => exact (ih _ _).trans (playSample_menu v run s)

@[simp] theorem enterGap_menu (v : Fin 4) (repeats : Nat) (s : State) : (enterGap v repeats s).menu = s.menu := by
  unfold enterGap
  dsimp only
  split <;> simp

@[simp] theorem endPlay_menu (v : Fin 4) (s : State) : (endPlay v s).menu = s.menu := by
  unfold endPlay
  dsimp only
  split
  · simp
  · split
    · simp
    · split <;> simp

@[simp] theorem playBlock_menu (v : Fin 4) (s : State) : (playBlock v s).menu = s.menu := by
  have played := playSamples_menu v Config.blockFrames ⟨[], false, false⟩ s
  unfold playBlock
  dsimp only
  generalize playSamples v Config.blockFrames ⟨[], false, false⟩ s = q at played ⊢
  split <;> split <;> simp [played]

theorem voiceBlock_menu (v : Fin 4) (s : State) : (voiceBlock v s).menu = s.menu := by
  unfold voiceBlock
  dsimp only
  split
  · rfl
  all_goals split <;> simp

theorem gapExpires_menu (v : Fin 4) (s : State) : (gapExpires v s).menu = s.menu := by
  unfold gapExpires
  dsimp only
  split <;> simp

@[simp] theorem voicePageRead_menu (v : Fin 4) (token : Nat) (content : Option (List Byte)) (s : State) :
    (voicePageRead v token content s).menu = s.menu := by
  unfold voicePageRead
  dsimp only
  split
  · rfl
  · split <;> simp

/-! ### The asset store's events (R154 to R162) -/

theorem arrayReady_menu (s : State) : (arrayReady s).menu = s.menu := by
  unfold arrayReady
  split <;> simp

@[simp] theorem mountDiscard_menu (b : Fin 256) (s : State) : (mountDiscard b s).menu = s.menu := by
  simp [mountDiscard]

@[simp] theorem placeHeader_menu (b : Fin 256) (content : Option Page) (s : State) :
    (placeHeader b content s).menu = s.menu := by
  unfold placeHeader
  split <;> simp [sawGeneration]

@[simp] theorem mountEnd_menu (s : State) : (mountEnd s).menu = s.menu := by
  have placed : ∀ kept : List (Fin 256), (s.store.mount.blocks.foldl (fun s b =>
      if kept.contains b.block then setBlock .current b.block s else mountDiscard b.block s) s).menu = s.menu :=
    fun kept => foldl_keeps State.menu _ (fun s b => by split <;> simp) _ s
  unfold mountEnd
  simpa using placed ((currentRecords s.store.mount).flatMap (·.blocks))

@[simp] theorem headersRead_menu (s : State) : (headersRead s).menu = s.menu := by
  unfold headersRead
  dsimp only
  split <;> simp

@[simp] theorem noteGeneration_menu (content : Option Page) (s : State) : (noteGeneration content s).menu = s.menu := by
  unfold noteGeneration
  split
  · split <;> rfl
  · rfl

@[simp] theorem headerRead_menu (b : Fin 256) (content : Option Page) (s : State) :
    (headerRead b content s).menu = s.menu := by
  unfold headerRead
  dsimp only
  split <;> simp

@[simp] theorem commitRead_menu (b : Fin 256) (content : Option Page) (s : State) :
    (commitRead b content s).menu = s.menu := by
  unfold commitRead
  dsimp only
  split <;> simp

@[simp] theorem handRead_menu (r : ReadRequest) (content : Option Page) (s : State) :
    (handRead r content s).menu = s.menu := by
  unfold handRead
  dsimp only
  split <;> simp

theorem readCompletes_menu (failed : Bool) (s : State) : (readCompletes failed s).menu = s.menu := by
  unfold readCompletes
  split
  · split <;> simp
  · rfl

@[simp] theorem commitGeneration_menu (s : State) : (commitGeneration s).menu = s.menu := by
  have retired : ∀ id, (retirePrevious id s).menu = s.menu := fun id => by
    unfold retirePrevious
    split
    · rfl
    · split <;> simp
  unfold commitGeneration
  simp [retired]

@[simp] theorem programVerified_menu (b : Fin 256) (page : Nat) (commit : Bool) (s : State) :
    (programVerified b page commit s).menu = s.menu := by
  unfold programVerified
  dsimp only
  split <;> simp

theorem programCompletes_menu (verified : Option (Fin 8)) (s : State) : (programCompletes verified s).menu = s.menu := by
  have fails : ∀ b u, (programFails b u).menu = u.menu := fun b u => by simp [programFails]
  unfold programCompletes
  split
  · rfl
  · split
    · dsimp only
      split <;> split <;> simp [fails]
    · dsimp only
      split <;> simp
    · rfl

theorem eraseCompletes_menu (failedBlocks : List (Fin 256)) (s : State) :
    (eraseCompletes failedBlocks s).menu = s.menu := by
  have erased : ∀ u b, (blockErased (failedBlocks.contains b) b u).menu = u.menu := fun u b => by
    unfold blockErased
    dsimp only
    split <;> simp
  unfold eraseCompletes
  split
  · rfl
  · split
    · rename_i bs _
      simpa using foldl_keeps State.menu (fun u b => blockErased (failedBlocks.contains b) b u) erased bs s
    · rfl

theorem abortCompletes_menu (s : State) : (abortCompletes s).menu = s.menu := by
  unfold abortCompletes
  split <;> simp

end Sys2Proof.Machine
end

section
/-! Commands outside chapter 5 leave the menus as they are. -/

namespace Sys2Proof.Machine

/-! ### Streams and panels (R50 to R91) -/

theorem emptyFifos_menu (zs : List Zone) (s : State) : (zs.foldl (fun s z => emptyFifo z s) s).menu = s.menu :=
  foldl_keeps State.menu _ (fun s z => by simp) zs s

theorem tagSet_menu (p : TagSetParams) (s : State) : (tagSet p s).state.menu = s.menu := by
  unfold tagSet
  split
  · rfl
  · refine (emptyFifos_menu _ _).trans ?_
    split <;> simp

theorem tagClear_menu (tag : Nat) (s : State) : (tagClear tag s).state.menu = s.menu := by
  unfold tagClear
  split
  · rfl
  · split
    · rfl
    · split
      · rfl
      · exact (emptyFifos_menu _ _).trans (by simp)

theorem tagRead_menu (tag : Nat) (s : State) : (tagRead tag s).state.menu = s.menu := by
  unfold tagRead
  split
  · rfl
  · split <;> rfl

theorem ringSet_menu (p : RingSetParams) (s : State) : (ringSet p s).state.menu = s.menu := by
  rcases ringSet_cases p s with e | ⟨n, -, -, -, e⟩ <;> rw [e]
  simp

theorem panelSet_menu (q : PanelSetParams) (s : State) : (panelSet q s).state.menu = s.menu := by
  unfold panelSet
  split
  · split
    · dsimp only
      split
      · rfl
      · dsimp only [done]
        split <;> simp
    · rfl
  · rfl

theorem panelWake_menu (panel : Nat) (s : State) : (panelWake panel s).state.menu = s.menu := by
  unfold panelWake
  split <;> simp [done, refuse]

theorem panelSleep_menu (panel : Nat) (s : State) : (panelSleep panel s).state.menu = s.menu := by
  unfold panelSleep
  split
  · rfl
  · dsimp only [done]
    split <;> simp

theorem panelBlank_menu (panel : Nat) (blanked : Bool) (s : State) : (panelBlank panel blanked s).state.menu = s.menu := by
  unfold panelBlank
  split <;> simp [done, refuse]

theorem panelLevel_menu (panel level : Nat) (s : State) : (panelLevel panel level s).state.menu = s.menu := by
  unfold panelLevel
  split
  · rfl
  · split <;> simp [done, refuse]

theorem layerSet_menu (q : LayerSetParams) (s : State) : (layerSet q s).state.menu = s.menu := by
  unfold layerSet
  split
  · rfl
  · dsimp only
    split
    · split <;> simp [done, refuse]
    · rfl

theorem layerClear_menu (panel layer : Nat) (s : State) : (layerClear panel layer s).state.menu = s.menu := by
  unfold layerClear
  split
  · rfl
  · split
    · simp [done]
    · split <;> simp [done, refuse]

theorem panelRead_menu (panel : Nat) (s : State) : (panelRead panel s).state.menu = s.menu := by
  unfold panelRead
  split <;> rfl

/-! ### The takeover and the guide (R7, R8, R13, R28 to R32) -/

theorem cameraSet_menu (p : CameraSetParams) (s : State) : (cameraSet p s).state.menu = s.menu := by
  unfold cameraSet
  split
  · rfl
  · split
    · rfl
    · split
      · split <;> rfl
      · rfl

theorem takeoverSet_menu (p : TakeoverSetParams) (s : State) : (takeoverSet p s).state.menu = s.menu := by
  cases hp : takeoverSettings? p with
  | none => rw [takeoverSet_invalid hp]; rfl
  | some t =>
    simp only [takeoverSet, hp, done]
    split
    · split <;> simp
    · split
      · split <;> simp
      · split <;> simp

theorem takeoverDismiss_menu (s : State) : (takeoverDismiss s).state.menu = s.menu := by
  unfold takeoverDismiss
  split <;> simp [done, refuse]

theorem guideSet_menu (p : GuideSetParams) (s : State) : (guideSet p s).state.menu = s.menu := by
  unfold guideSet
  split <;> rfl

theorem steerTableSet_menu (values : List Nat) (s : State) : (steerTableSet values s).state.menu = s.menu := by
  unfold steerTableSet
  split
  · rfl
  · split <;> rfl

theorem rowTableSet_menu (rows : SizedList RowParams) (s : State) : (rowTableSet rows s).state.menu = s.menu := by
  unfold rowTableSet
  split
  · rfl
  · split <;> rfl

theorem bandTableSet_menu (bands : List GuideBand) (s : State) : (bandTableSet bands s).state.menu = s.menu := by
  unfold bandTableSet
  split <;> rfl

/-! ### Zones and chimes (R122, R123, R133, R136, R146, R147) -/

theorem zoneSet_menu (zone option : Nat) (p : ZoneParams) (s : State) : (zoneSet zone option p s).state.menu = s.menu := by
  unfold zoneSet
  split
  · rfl
  · split
    · rfl
    · split
      · rfl
      · split
        · rfl
        · simp [report, applyZoneSettings]

theorem volumeTableSet_menu (values : List Nat) (s : State) : (volumeTableSet values s).state.menu = s.menu := by
  unfold volumeTableSet
  split
  · rfl
  · split <;> rfl

theorem chimeDefine_menu (id option : Nat) (p : Option ChimeParams) (s : State) :
    (chimeDefine id option p s).state.menu = s.menu := by
  unfold chimeDefine
  split
  · rfl
  · split
    · rfl
    · split
      · split <;> rfl
      · split
        · split
          · rfl
          · split <;> rfl
        · rfl

theorem chimePlay_menu (id mask : Nat) (s : State) : (chimePlay id mask s).state.menu = s.menu := by
  unfold chimePlay
  split
  · rename_i i m _ _
    split
    · rfl
    · rename_i c _
      dsimp only
      generalize (if m.isEmpty = true then c.zones else m.inter c.zones) = z
      split
      · rfl
      · split
        · rfl
        · split
          · rfl
          · have settled : (settleRequest i z c false s).2.menu = s.menu := by simp
            generalize settleRequest i z c false s = q at settled ⊢
            split <;> exact settled
  · rfl

theorem chimeStop_menu (id : Nat) (s : State) : (chimeStop id s).state.menu = s.menu := by
  unfold chimeStop
  split
  · rfl
  · have dispatched : ∀ u, (dispatchAfter s u).menu = u.menu := fun u => by simp
    have suspended : ∀ (b : Bool) (u : State), (if b then setProximity .suspended u else u).menu = u.menu := fun b u => by
      split <;> simp
    refine (dispatched _).trans ((suspended _ _).trans ?_)
    refine (foldl_keeps State.menu _ (fun u v => ?_) _ _).trans (by simp)
    dsimp only
    split <;> simp

theorem proximitySet_menu (id : Nat) (bands : List ProximityBand) (s : State) :
    (proximitySet id bands s).state.menu = s.menu := by
  unfold proximitySet
  split <;> simp [done, refuse]

/-! ### The asset store (R164 to R172) -/

theorem assetBegin_menu (id kind length : Nat) (s : State) : (assetBegin id kind length s).state.menu = s.menu := by
  unfold assetBegin
  dsimp only [report, refuse]
  split
  · rfl
  · split
    · rfl
    · split
      · rfl
      · split
        · rfl
        · split <;> simp

@[simp] theorem fillPage_menu (p : Nat) (bytes : List Byte) (s : State) : (fillPage p bytes s).menu = s.menu := by
  unfold fillPage
  dsimp only
  split <;> simp

theorem assetData_menu (offset : Nat) (bytes : List Byte) (s : State) : (assetData offset bytes s).state.menu = s.menu := by
  unfold assetData
  dsimp only [refuseExpecting, report]
  split
  · rfl
  · split
    · rfl
    · split
      · rfl
      · split
        · rfl
        · split
          · rfl
          · split
            · rfl
            · split
              · rfl
              · dsimp only
                split <;> simp

theorem assetEnd_menu (crc : BitVec 32) (s : State) : (assetEnd crc s).state.menu = s.menu := by
  unfold assetEnd
  dsimp only [refuseExpecting]
  split
  · rfl
  · split
    · rfl
    · split
      · rfl
      · split
        · rfl
        · dsimp only
          split <;> simp

theorem assetDelete_menu (id : Nat) (s : State) : (assetDelete id s).state.menu = s.menu := by
  unfold assetDelete
  split
  · rfl
  · split
    · rfl
    · split
      · rfl
      · split
        · rfl
        · simp [done]

theorem assetInfo_menu (id : Nat) (s : State) : (assetInfo id s).state.menu = s.menu := by
  unfold assetInfo
  split
  · rfl
  · split
    · rfl
    · split <;> rfl

theorem storeAbort_menu (s : State) : (storeAbort s).state.menu = s.menu := by
  unfold storeAbort
  split
  · rfl
  · split
    · rfl
    · dsimp only
      split <;> simp [done]

/-! ### Links, counters and attention (R182, R189, R192) -/

theorem linkRetrain_menu (link : Nat) (s : State) : (linkRetrain link s).state.menu = s.menu := by
  unfold linkRetrain
  split
  · rfl
  · split
    · rfl
    · simp [done, retrain]
  · simp [done, retrain]

theorem attentionAck_menu (f : BitVec 16) (s : State) : (attentionAck f s).state.menu = s.menu := by
  unfold attentionAck
  split <;> rfl

theorem noticeMaskSet_menu (m : BitVec 16) (s : State) : (noticeMaskSet m s).state.menu = s.menu := by
  unfold noticeMaskSet
  split <;> rfl

end Sys2Proof.Machine
end

section
/-! The law of the menus through commands, resets, the clock and every step (R105, R117). -/

namespace Sys2Proof.Machine

variable {s t : State}

/-! ### Answers and replies (R180, R187, R194) -/

theorem appendWaiting_menu (s : State) : (appendWaiting s).menu = s.menu := by
  unfold appendWaiting
  split <;> simp

theorem sendCompletes_menu (s : State) : (sendCompletes s).menu = s.menu := by
  unfold sendCompletes
  split
  · split
    · rfl
    · dsimp only
      split
      · rw [retrain, linkDrops_menu, appendWaiting_menu, emit]
      · rw [appendWaiting_menu, emit]
  · rfl

theorem waitingAppends_menu (s : State) : (waitingAppends s).menu = s.menu := by
  unfold waitingAppends
  split
  · split
    · exact appendWaiting_menu s
    · exact sendCompletes_menu s
  · rfl

theorem handAnswer_menu (mark code : Byte) (a : Answer) : (handAnswer mark code a).menu = a.state.menu := by
  unfold handAnswer
  dsimp only
  split
  case h_1 => simp
  case h_2 => simp
  case h_3 => simp
  case h_4 => split <;> simp

theorem suppressReply_menu (a : Answer) : (suppressReply a).menu = a.state.menu := by
  unfold suppressReply
  split <;> simp [retrain]

theorem rejectEntry_menu (s : State) : (rejectEntry s).menu = s.menu := by
  simp [rejectEntry]

theorem skipEntry_menu (l : Nat) (s : State) : (skipEntry l s).menu = s.menu := by
  unfold skipEntry
  split <;> rfl

theorem afterEntry_menu (s : State) : (afterEntry s).menu = s.menu := by
  unfold afterEntry
  split
  · rfl
  · split <;> simp

/-! ### Resets (R193, R197) -/

/-- The menus are lawful wherever they are at their reset values. -/
theorem menusLawful_of_reset (reset : t.menu = .reset) : MenusLawful t := menusLawful_reset.of_menu reset

theorem softResetEnds_menu (s : State) : (softResetEnds s).menu = .reset := by
  unfold softResetEnds softResetBlocks softResetPanel
  simp

theorem failPackets_menu (ps : List ControlPacket) (s : State) :
    (failPackets ps s).menu = s.menu ∨ (failPackets ps s).menu = .reset := by
  induction ps generalizing s with
  | nil => exact .inr (softResetEnds_menu s)
  | cons p rest ih =>
    have replied : (handReply (failedReply p) s).menu = s.menu := by simp
    unfold failPackets
    dsimp only
    split
    · exact .inl replied
    · rw [← replied]
      exact ih _

theorem MenusLawful.softResetEffect (lawful : MenusLawful s) : MenusLawful (softResetEffect s) := by
  unfold Machine.softResetEffect
  split
  · exact lawful
  · split
    · exact lawful
    · exact lawful
    · rename_i rest _
      exact (failPackets_menu rest s).elim lawful.of_menu menusLawful_of_reset

/-! ### Counters and timers of the seats (R110, R189) -/

/-- Contexts with the same stacks and highlights over the same pages. -/
theorem MenusLawful.of_stacks (lawful : MenusLawful s) (pages : t.menu.pages = s.menu.pages)
    (seats : ∀ k, (t.seat k).root = (s.seat k).root ∧ (t.seat k).above = (s.seat k).above ∧
      (t.seat k).highlight = (s.seat k).highlight) : MenusLawful t := by
  have page : t.page = s.page := funext fun n => by simp [State.page, pages]
  refine menusLawful_iff.mpr ⟨fun n p hp => lawful.pages n p (page ▸ hp), fun k => ?_⟩
  obtain ⟨root, above, highlight⟩ := seats k
  rw [page]
  exact (lawful.seat k).of_same root above highlight

theorem MenusLawful.clearGroup (lawful : MenusLawful s) (g : CounterGroup) : MenusLawful (clearGroup g s) := by
  cases g with
  | graphics => exact lawful.of_stacks rfl fun k => by cases k <;> exact ⟨rfl, rfl, rfl⟩
  | _ => exact lawful.of_menu rfl

theorem MenusLawful.countersRead (lawful : MenusLawful s) (group clear : Nat) :
    MenusLawful (countersRead group clear s).state := by
  unfold Machine.countersRead
  split
  · dsimp only [report]
    split
    · exact lawful.clearGroup _
    · exact lawful
  · exact lawful

theorem MenusLawful.advanceTimers (lawful : MenusLawful s) : MenusLawful (advanceTimers s) :=
  lawful.of_stacks rfl fun k => by cases k <;> exact ⟨rfl, rfl, rfl⟩

/-! ### Commands (R186, R187, R194) -/

/-- A command performed by its owner: those of chapter 5 keep the law, COUNTERS_READ may clear the seats' counters, and the
others leave the menus as they are. -/
theorem MenusLawful.perform (lawful : MenusLawful s) (c : Command) : MenusLawful (perform c s).state := by
  cases c with
  | menuSet q => exact lawful.menuSet q
  | pageSet n title items => exact lawful.pageSet n title items
  | pageClear n => exact lawful.pageClear n
  | itemSet n i p => exact lawful.itemSet n i p
  | menuOpen k => exact lawful.menuOpen k
  | menuClose k => exact lawful.menuClose k
  | menuLock k l => exact lawful.menuLock k l
  | countersRead g c => exact lawful.countersRead g c
  | tagSet p => exact lawful.of_menu (tagSet_menu p s)
  | tagClear t => exact lawful.of_menu (tagClear_menu t s)
  | tagRead t => exact lawful.of_menu (tagRead_menu t s)
  | ringSet p => exact lawful.of_menu (ringSet_menu p s)
  | panelSet p => exact lawful.of_menu (panelSet_menu p s)
  | panelWake p => exact lawful.of_menu (panelWake_menu p s)
  | panelSleep p => exact lawful.of_menu (panelSleep_menu p s)
  | panelBlank p => exact lawful.of_menu (panelBlank_menu p true s)
  | panelShow p => exact lawful.of_menu (panelBlank_menu p false s)
  | panelLevel p l => exact lawful.of_menu (panelLevel_menu p l s)
  | layerSet p => exact lawful.of_menu (layerSet_menu p s)
  | layerClear p l => exact lawful.of_menu (layerClear_menu p l s)
  | panelRead p => exact lawful.of_menu (panelRead_menu p s)
  | cameraSet p => exact lawful.of_menu (cameraSet_menu p s)
  | takeoverSet p => exact lawful.of_menu (takeoverSet_menu p s)
  | takeoverDismiss => exact lawful.of_menu (takeoverDismiss_menu s)
  | takeoverRead => exact lawful
  | guideSet p => exact lawful.of_menu (guideSet_menu p s)
  | steerTableSet vs => exact lawful.of_menu (steerTableSet_menu vs s)
  | rowTableSet rows => exact lawful.of_menu (rowTableSet_menu rows s)
  | bandTableSet bands => exact lawful.of_menu (bandTableSet_menu bands s)
  | zoneSet z o p => exact lawful.of_menu (zoneSet_menu z o p s)
  | volumeTableSet vs => exact lawful.of_menu (volumeTableSet_menu vs s)
  | chimeDefine n o p => exact lawful.of_menu (chimeDefine_menu n o p s)
  | chimePlay n z => exact lawful.of_menu (chimePlay_menu n z s)
  | chimeStop n => exact lawful.of_menu (chimeStop_menu n s)
  | proximitySet n bands => exact lawful.of_menu (proximitySet_menu n bands s)
  | assetBegin n k l => exact lawful.of_menu (assetBegin_menu n k l s)
  | assetData o bs => exact lawful.of_menu (assetData_menu o bs s)
  | assetEnd c => exact lawful.of_menu (assetEnd_menu c s)
  | assetDelete n => exact lawful.of_menu (assetDelete_menu n s)
  | assetInfo n => exact lawful.of_menu (assetInfo_menu n s)
  | storeStatus => exact lawful
  | storeAbort => exact lawful.of_menu (storeAbort_menu s)
  | linkRetrain l => exact lawful.of_menu (linkRetrain_menu l s)
  | attentionAck f => exact lawful.of_menu (attentionAck_menu f s)
  | noticeMaskSet m => exact lawful.of_menu (noticeMaskSet_menu m s)
  | identify => exact lawful
  | softReset => exact lawful

theorem MenusLawful.answerPacket (lawful : MenusLawful s) (inProfile : Bool) (p : ControlPacket) :
    MenusLawful (answerPacket inProfile p s).state := by
  unfold Machine.answerPacket
  split
  · exact lawful
  · split
    · exact lawful
    · split
      · exact lawful
      · split
        · exact lawful
        · exact lawful.perform _

theorem MenusLawful.runCommand (lawful : MenusLawful s) (mark : Byte) (c : Command) : MenusLawful (runCommand mark c s) := by
  have answered : MenusLawful (answerCommand c s).state := by
    unfold answerCommand
    split
    · exact lawful
    · exact lawful.perform c
  unfold Machine.runCommand
  split
  · exact answered.of_menu (handAnswer_menu _ _ _)
  · exact lawful

theorem MenusLawful.takeCommand (lawful : MenusLawful s) : MenusLawful (takeCommand s) := by
  unfold Machine.takeCommand
  split
  · exact lawful
  · rename_i p rest _
    split
    · have taken : MenusLawful { s with control.fifo := rest, control.profileTurn := true } := lawful.of_menu rfl
      exact (taken.answerPacket false p).of_menu (handAnswer_menu _ _ _)
    · exact lawful

theorem MenusLawful.runEntry (lawful : MenusLawful s) (packet : List Byte) : MenusLawful (runEntry packet s) := by
  have rejected : MenusLawful (rejectEntry s) := lawful.of_menu (rejectEntry_menu s)
  unfold Machine.runEntry
  split
  · exact rejected
  · split
    · exact rejected
    · dsimp only
      generalize ControlPacket.mk _ _ _ _ = p
      have executed : MenusLawful (suppressReply (Machine.answerPacket true p s)) :=
        (lawful.answerPacket true p).of_menu (suppressReply_menu _)
      split
      · exact executed.of_menu rfl
      · exact executed.of_menu (rejectEntry_menu _)

theorem MenusLawful.takeEntry (lawful : MenusLawful s) : MenusLawful (takeEntry s) := by
  have cut : MenusLawful (cutShort s) := lawful.of_menu (by simp)
  unfold Machine.takeEntry
  split
  · split
    · exact lawful
    · split
      · exact cut
      · rename_i l _
        split
        · exact cut
        · have skipped : MenusLawful (skipEntry l { s with control.profileTurn := false }) :=
            lawful.of_menu (skipEntry_menu l { s with control.profileTurn := false })
          exact (skipped.runEntry _).of_menu (afterEntry_menu _)
  · exact lawful

/-! ### The clock (log entry 19) -/

theorem whenDue_menu {due : Bool} {event : State → State} (kept : (event s).menu = s.menu) :
    (whenDue due event s).menu = s.menu := by
  cases due
  · rfl
  · exact kept

theorem expireVehicle_menu (s : State) : (expireVehicle s).menu = s.menu := by
  unfold expireVehicle expireLinger expireWatchdog expireStart expireMismatch expireDebounce expireRecord
  rw [whenDue_menu (lingerExpires_menu _), whenDue_menu (watchdogExpires_menu _), whenDue_menu (startExpires_menu _),
    whenDue_menu (mismatchExpires_menu _), whenDue_menu (by simp), whenDue_menu (by simp)]

theorem voiceTime_menu (s : State) (v : Fin 4) : (voiceTime s v).menu = s.menu :=
  (whenDue_menu (gapExpires_menu v _)).trans (voiceBlock_menu v s)

theorem zoneTime_menu (s : State) (z : Zone) : (zoneTime s z).menu = s.menu := by
  have held := whenDue_menu (due := (s.zone z).holdTimer == some 0) (holdExpires_menu z s)
  simpa [zoneTime] using held

theorem MenusLawful.tick (lawful : MenusLawful s) : MenusLawful (tick s) := by
  have seat : ∀ u, MenusLawful u → ∀ k, MenusLawful (expireSeat u k) := fun u hu k => by
    unfold expireSeat whenDue
    split
    · exact hu.inactivityExpires k
    · exact hu
  have vehicle := lawful.advanceTimers.of_menu (expireVehicle_menu _)
  have expired := List.foldlRecOn seats expireSeat vehicle fun u hu k _ => seat u hu k
  have voiced := expired.of_menu (foldl_keeps State.menu voiceTime voiceTime_menu [0, 1, 2, 3] _)
  exact voiced.of_menu (foldl_keeps State.menu zoneTime zoneTime_menu zones _)

theorem MenusLawful.idle (lawful : MenusLawful s) : MenusLawful (idle s) := by
  unfold Machine.idle
  split
  · exact lawful.softResetEffect
  · split
    · exact lawful.takeEntry
    · split
      · exact lawful.takeCommand
      · exact lawful.tick

/-! ### The step -/

/-- A packet's arrival, where its owner's work keeps the menus. -/
theorem receive_menu {work : Packet → State → State} (works : ∀ p u, (work p u).menu = u.menu) (l : Link)
    (k : PacketKind) (bytes : List Byte) (s : State) : (receive l k bytes work s).menu = s.menu := by
  unfold receive
  split
  · rfl
  · exact (works _ _).trans (countPayload_menu l _ s)

theorem MenusLawful.keyPacket (lawful : MenusLawful s) (k : Seat) (bytes : List Byte) :
    MenusLawful (receive k.panel.link .key bytes (keyPacketArrives k) s) := by
  unfold receive
  split
  · exact lawful
  · exact (lawful.of_menu (countPayload_menu _ _ s)).keyArrives k _

/-- Every command and event: `t` is its next state. -/
theorem MenusLawful.exec (lawful : MenusLawful s) (i : Instr) (he : exec i s = .next t) : MenusLawful t := by
  have ends : ∀ {v}, Host.Outcome.next v = (Host.Outcome.next t : Host.Outcome State Fault Refusal) →
      MenusLawful v → MenusLawful t := fun e hv => Host.Outcome.next.inj e ▸ hv
  cases i with
  | fullReset => exact ends he (menusLawful_of_reset rfl)
  | softResetEffect => exact ends he lawful.softResetEffect
  | keyPacket seat bytes => exact ends he (lawful.keyPacket seat bytes)
  | inactivityTimerExpiry seat => exact ends he (lawful.inactivityExpires seat)
  | commandTake => exact ends he lawful.takeCommand
  | profileEntry => exact ends he lawful.takeEntry
  | reversePinChange level => exact ends he (lawful.of_menu (pinChanges_menu level s))
  | debounceExpiry => exact ends he (lawful.of_menu (t := debounceExpires s) (by simp))
  | vehiclePacket bytes => exact ends he (lawful.of_menu (receive_menu vehicleArrives_menu _ _ _ s))
  | recordStale => exact ends he (lawful.of_menu (t := recordStales s) (by simp))
  | mismatchTimerExpiry => exact ends he (lawful.of_menu (mismatchExpires_menu s))
  | startTimerExpiry => exact ends he (lawful.of_menu (startExpires_menu s))
  | watchdogExpiry => exact ends he (lawful.of_menu (watchdogExpires_menu s))
  | lingerTimerExpiry => exact ends he (lawful.of_menu (lingerExpires_menu s))
  | linkLock link => exact ends he (lawful.of_menu (reachUp_menu link s))
  | linkLossOfLock link => exact ends he (lawful.of_menu (lossOfLock_menu link s))
  | framePacket rx bytes => exact ends he (lawful.of_menu (receive_menu (frameArrives_menu rx) _ _ _ s))
  | linePacket rx bytes => exact ends he (lawful.of_menu (receive_menu (videoLine_menu rx) _ _ _ s))
  | fendPacket rx bytes => exact ends he (lawful.of_menu (receive_menu (fendArrives_menu rx) _ _ _ s))
  | audioPacket bytes => exact ends he (lawful.of_menu (receive_menu soundArrives_menu _ _ _ s))
  | ctrlPacket bytes => exact ends he (lawful.of_menu (receive_menu controlArrives_menu _ _ _ s))
  | lineWriteCompletion rx =>
    simp only [Machine.exec, execLineWriteCompletion] at he
    split at he
    · rename_i v written
      exact ends he (lawful.of_menu (lineWritten_menu written))
    · cases he
  | endOfFrame panel => exact ends he (lawful.of_menu (t := endOfFrame panel s) (by simp))
  | renderCompletion =>
    simp only [Machine.exec, execRenderCompletion] at he
    split at he
    · exact ends he lawful
    · rename_i r _
      exact ends he (lawful.of_menu (t := completeRender r s) (by simp))
  | zoneBlockEvent zone => exact ends he (lawful.of_menu (t := zoneBlock zone s) (by simp))
  | voiceBlockEvent voice => exact ends he (lawful.of_menu (voiceBlock_menu voice s))
  | gapTimerExpiry voice => exact ends he (lawful.of_menu (gapExpires_menu voice s))
  | holdTimerExpiry zone => exact ends he (lawful.of_menu (holdExpires_menu zone s))
  | arrayReady => exact ends he (lawful.of_menu (arrayReady_menu s))
  | pageReadCompletion failed => exact ends he (lawful.of_menu (readCompletes_menu failed s))
  | pageProgramCompletion verifiedPass => exact ends he (lawful.of_menu (programCompletes_menu verifiedPass s))
  | eraseCompletion failedBlocks => exact ends he (lawful.of_menu (eraseCompletes_menu failedBlocks s))
  | abortCompletion => exact ends he (lawful.of_menu (abortCompletes_menu s))
  | waitingReplyAppend => exact ends he (lawful.of_menu (waitingAppends_menu s))
  | sendCompletion => exact ends he (lawful.of_menu (sendCompletes_menu s))
  | resyncEndFlag link => exact ends he (lawful.of_menu (endFlag_menu link s))
  | overlongPacket link => exact ends he (lawful.of_menu (overlong_menu link s))
  | arrivedPacketDiscarded link bytes => exact ends he (lawful.of_menu (discardPacket_menu link bytes s))
  | _ => exact ends he (lawful.runCommand _ _)

theorem MenusLawful.step (lawful : MenusLawful s) (stepped : step s = .next t) : MenusLawful t := by
  unfold Machine.step at stepped
  split at stepped
  · rename_i i rest _
    have popped : MenusLawful { s with pending := rest } := lawful.of_menu rfl
    exact popped.exec i stepped
  · exact Host.Outcome.next.inj stepped ▸ lawful.idle

/-- Settles O31: the law of one seat under each change of its context, and every step by what it does to the menus. -/
theorem menusStayLawful : Obligations.MenusStayLawful := by
  unfold Obligations.MenusStayLawful
  refine ⟨fun k code length page item seat lock title items p q s lawful => ?_,
    fun s t lawful stepped => lawful.step stepped⟩
  exact ⟨menusLawful_reset, lawful.keyArrives k code, lawful.pageSet page title ⟨length, items⟩,
    lawful.itemSet page item p, lawful.pageClear page, lawful.menuSet q, lawful.menuOpen seat, lawful.menuClose seat, lawful.menuLock seat lock,
    lawful.inactivityExpires k⟩

end Sys2Proof.Machine
end

section
/-! The mix of a zone (R129, R130): Q15 gains over 16-bit samples, the clamped sum, and what saturates. -/

namespace Sys2Proof.Machine

/-- A 16-bit sample. -/
def Sample16 (x : Int) : Prop := -32768 ≤ x ∧ x ≤ 32767

/-! ### Q15 gains -/

theorem q15_eq (x : Int) (k : Nat) : q15 x k = (x * k + 16384) / 32768 := rfl

theorem q15_unity (x : Int) : q15 x 32768 = x := by
  rw [q15_eq]
  omega

theorem q15_silent (x : Int) : q15 x 0 = 0 := by
  rw [q15_eq]
  simp

theorem q15_zero (k : Nat) : q15 0 k = 0 := by
  rw [q15_eq]
  simp

/-- A gain of at most unity keeps a sample a sample: the product lies between -32768 x 32768 and 32767 x 32768. -/
theorem Sample16.q15 {x : Int} {k : Nat} (hx : Sample16 x) (hk : k ≤ 32768) : Sample16 (q15 x k) := by
  obtain ⟨low, high⟩ := hx
  have gain : (k : Int) ≤ 32768 := by exact_mod_cast hk
  have least : -32768 * (k : Int) ≤ x * k := Int.mul_le_mul_of_nonneg_right low (by omega)
  have most : x * (k : Int) ≤ 32767 * k := Int.mul_le_mul_of_nonneg_right high (by omega)
  rw [q15_eq]
  constructor <;> omega

/-! ### Clamping and counting -/

theorem saturate16_eq (x : Int) : saturate16 x = max (-32768) (min 32767 x) := by
  unfold saturate16 clampInt
  split
  · omega
  · split <;> omega

theorem sample16_saturate16 (x : Int) : Sample16 (saturate16 x) := by
  rw [saturate16_eq]
  constructor <;> omega

theorem saturate16_sample {x : Int} (hx : Sample16 x) : saturate16 x = x := by
  obtain ⟨low, high⟩ := hx
  rw [saturate16_eq]
  omega

theorem saturates_sample {x : Int} (hx : Sample16 x) : saturates x = 0 := by
  obtain ⟨low, high⟩ := hx
  unfold saturates
  rw [if_neg (by omega)]

theorem saturates_le (x : Int) : saturates x ≤ 1 := by
  unfold saturates
  split <;> decide

/-- A frame counts its channels whose sum lies outside 16 bits (R130). -/
theorem frameSaturations_eq (g : MixGains) (f : StereoFrame) (chime : Int) :
    frameSaturations g f chime = [f.left, f.right].countP fun y =>
      decide (filmPart g y + chimePart g chime < -32768 ∨ 32767 < filmPart g y + chimePart g chime) := by
  simp [frameSaturations, saturates, List.countP_cons, Nat.add_comm]

theorem frameSaturations_le (g : MixGains) (f : StereoFrame) (chime : Int) : frameSaturations g f chime ≤ 2 :=
  Nat.add_le_add (saturates_le _) (saturates_le _)

/-! ### The parts of an output sample -/

theorem filmPart_muted {g : MixGains} (h : g.mute = true) (x : Int) : filmPart g x = 0 := if_pos h

theorem filmPart_unmuted {g : MixGains} (h : g.mute = false) (x : Int) : filmPart g x = q15 (q15 x g.vol) g.duck :=
  if_neg (by simp [h])

theorem chimePart_follows {g : MixGains} (h : g.follows = true) (x : Int) :
    chimePart g x = q15 (q15 x g.level) g.vol := if_pos h

theorem chimePart_alone {g : MixGains} (h : g.follows = false) (x : Int) : chimePart g x = q15 x g.level :=
  if_neg (by simp [h])

theorem chimePart_zero (g : MixGains) : chimePart g 0 = 0 := by
  unfold chimePart
  simp [q15_zero]

theorem Sample16.filmPart {g : MixGains} (vol : g.vol ≤ 32768) (duck : g.duck ≤ 32768) {x : Int} (hx : Sample16 x) :
    Sample16 (filmPart g x) := by
  cases muted : g.mute
  · rw [filmPart_unmuted muted]
    exact (hx.q15 vol).q15 duck
  · rw [filmPart_muted muted]
    exact ⟨by decide, by decide⟩

/-- Settles O34, from what one gain does, what the clamp does, and the two parts of a sum. -/
theorem mixArithmetic : Obligations.MixArithmetic := by
  unfold Obligations.MixArithmetic
  intro x n g h f chime low high hn
  have sample : Sample16 x := ⟨low, high⟩
  obtain ⟨gainedLow, gainedHigh⟩ := sample.q15 hn
  obtain ⟨leftLow, leftHigh⟩ := sample16_saturate16 (filmPart g f.left + chimePart g chime)
  obtain ⟨rightLow, rightHigh⟩ := sample16_saturate16 (filmPart g f.right + chimePart g chime)
  refine ⟨q15_unity x, q15_silent x, gainedLow, gainedHigh, ⟨leftLow, leftHigh, rightLow, rightHigh⟩, ?_,
    fun muted => filmPart_muted muted x, ?_, ?_⟩
  · intro vol duck leftLow leftHigh rightLow rightHigh
    have left : Sample16 (filmPart g f.left) := Sample16.filmPart vol duck ⟨leftLow, leftHigh⟩
    have right : Sample16 (filmPart g f.right) := Sample16.filmPart vol duck ⟨rightLow, rightHigh⟩
    simp [mixFrame, frameSaturations, chimePart_zero, saturate16_sample, saturates_sample, left, right]
  · exact ⟨q15_eq, fun unmuted => filmPart_unmuted unmuted x, fun alone => chimePart_alone alone chime,
      fun follows => chimePart_follows follows chime, by simp only [mixFrame, saturate16_eq],
      frameSaturations_eq g f chime⟩
  · intro alone otherAlone level
    rw [chimePart_alone alone, chimePart_alone otherAlone, level]

end Sys2Proof.Machine
end

section
/-! The duck gain (R127, R128): a block's step towards the target, its bounds, and the ramp that reaches it. -/

namespace Sys2Proof.Machine

variable {r : ZoneRecord}

/-! ### The target -/

theorem ZoneRecord.target_none (h : r.demand = .none) : r.target = 32768 := by simp [ZoneRecord.target, h]

theorem ZoneRecord.target_ducked (h : r.demand = .active ∨ r.demand = .hold) : r.target = r.settings.duckLevel := by
  rcases h with h | h <;> simp [ZoneRecord.target, h]

/-- The target lies in the range of the gain. -/
theorem ZoneRecord.target_bounds (level : r.settings.duckLevel ≤ 32768) :
    r.settings.duckLevel ≤ r.target ∧ r.target ≤ 32768 := by
  cases demand : r.demand with
  | none => rw [r.target_none demand]; exact ⟨level, Nat.le_refl _⟩
  | active => rw [r.target_ducked (.inl demand)]; exact ⟨Nat.le_refl _, level⟩
  | hold => rw [r.target_ducked (.inr demand)]; exact ⟨Nat.le_refl _, level⟩

/-! ### One step -/

theorem ZoneRecord.steppedGain_above (h : r.target < r.gain) :
    r.steppedGain = max r.target (r.gain - r.settings.duckStep) := if_pos h

theorem ZoneRecord.steppedGain_below (h : r.gain < r.target) :
    r.steppedGain = min r.target (r.gain + r.settings.duckStep) := by
  rw [ZoneRecord.steppedGain, if_neg (by omega), if_pos h]

theorem ZoneRecord.steppedGain_at (h : r.gain = r.target) : r.steppedGain = r.gain := by
  rw [ZoneRecord.steppedGain, if_neg (by omega), if_neg (by omega)]

theorem ZoneRecord.steppedGain_bounds (level : r.settings.duckLevel ≤ 32768) (least : r.settings.duckLevel ≤ r.gain)
    (most : r.gain ≤ 32768) : r.settings.duckLevel ≤ r.steppedGain ∧ r.steppedGain ≤ 32768 := by
  obtain ⟨low, high⟩ := r.target_bounds level
  rcases Nat.lt_trichotomy r.gain r.target with below | same | above
  · rw [r.steppedGain_below below]; omega
  · rw [r.steppedGain_at same]; exact ⟨least, most⟩
  · rw [r.steppedGain_above above]; omega

/-! ### The ramp -/

/-- How far the gain is from its target. -/
def ZoneRecord.gap (r : ZoneRecord) : Nat := (r.gain - r.target) + (r.target - r.gain)

/-- A zone's duck gain after one block event. -/
def ZoneRecord.stepGain (r : ZoneRecord) : ZoneRecord := { r with gain := r.steppedGain }

theorem ZoneRecord.gap_stepGain (r : ZoneRecord) : r.stepGain.gap = r.gap - r.settings.duckStep := by
  have target : r.stepGain.target = r.target := rfl
  have gain : r.stepGain.gain = r.steppedGain := rfl
  unfold ZoneRecord.gap
  rw [target, gain]
  rcases Nat.lt_trichotomy r.gain r.target with below | same | above
  · rw [r.steppedGain_below below]; omega
  · rw [r.steppedGain_at same]; omega
  · rw [r.steppedGain_above above]; omega

/-- Each block takes one step off the distance; the target and the step stay. -/
theorem ZoneRecord.repeat_stepGain (n : Nat) (r : ZoneRecord) :
    (Nat.repeat ZoneRecord.stepGain n r).target = r.target ∧
    (Nat.repeat ZoneRecord.stepGain n r).settings = r.settings ∧
    (Nat.repeat ZoneRecord.stepGain n r).gap = r.gap - n * r.settings.duckStep := by
  induction n with
  | zero => simp [Nat.repeat]
  | succ n ih =>
    obtain ⟨target, settings, gap⟩ := ih
    refine ⟨target, settings, ?_⟩
    rw [Nat.repeat, ZoneRecord.gap_stepGain, gap, settings, Nat.succ_mul]
    omega

/-- Ramp steps cover the whole range of the gain. -/
theorem ZoneSettings.range_le_ramp (t : ZoneSettings) (ramp : 1 ≤ t.ramp) :
    32768 - t.duckLevel ≤ t.ramp * t.duckStep := by
  unfold ZoneSettings.duckStep ceilDiv
  have whole := Nat.div_add_mod (32768 - t.duckLevel + t.ramp - 1) t.ramp
  have rest := Nat.mod_lt (32768 - t.duckLevel + t.ramp - 1) ramp
  omega

theorem ZoneRecord.gain_after_ramp (level : r.settings.duckLevel ≤ 32768) (ramp : 1 ≤ r.settings.ramp)
    (least : r.settings.duckLevel ≤ r.gain) (most : r.gain ≤ 32768) :
    (Nat.repeat ZoneRecord.stepGain r.settings.ramp r).gain = r.target := by
  obtain ⟨target, -, gap⟩ := r.repeat_stepGain r.settings.ramp
  obtain ⟨low, high⟩ := r.target_bounds level
  have range := r.settings.range_le_ramp ramp
  have here : r.gap ≤ 32768 - r.settings.duckLevel := by unfold ZoneRecord.gap; omega
  unfold ZoneRecord.gap at gap here
  rw [target] at gap
  omega

/-- Settles O35, from the step's three cases, its bounds, and the ramp. -/
theorem duckGainBoundsAndRamp : Obligations.DuckGainBoundsAndRamp := by
  unfold Obligations.DuckGainBoundsAndRamp
  intro r z t s level ramp least most newLevel gain
  obtain ⟨low, high⟩ := r.steppedGain_bounds level least most
  refine ⟨low, high, r.steppedGain_above, r.steppedGain_below, r.steppedGain_at, r.target_ducked, r.target_none,
    r.gain_after_ramp level ramp least most, ?_⟩
  simp [applyZoneSettings, newLevel, gain]

end Sys2Proof.Machine
end

section
/-! Frames that enter a film FIFO (R119). -/

namespace Sys2Proof.Machine

variable {r : ZoneRecord}

theorem placeFrame_full (h : 4096 ≤ r.fifo.length) (f : StereoFrame) :
    placeFrame r f = { r with overflow := bump r.overflow } := if_pos h

theorem placeFrame_room (h : r.fifo.length < 4096) (f : StereoFrame) : placeFrame r f = { r with
    fifo := r.fifo ++ [f],
    fifoState := if r.fifoState = .playing ∨ 1024 ≤ r.fifo.length + 1 then .playing else .priming } := by
  have room : ¬ Config.fifoFrames ≤ r.fifo.length := Nat.not_le.mpr h
  rw [placeFrame, if_neg room]
  cases state : r.fifoState <;> simp [Config.restartLevel]

/-- A zone with frames placed in its FIFO: what finds room is appended and may start playing, the rest is counted. -/
def ZoneRecord.filled (r : ZoneRecord) (frames : List StereoFrame) : ZoneRecord := { r with
  fifo := (r.fifo ++ frames).take 4096,
  overflow := r.overflow + (frames.length - (4096 - r.fifo.length)),
  fifoState := if r.fifoState = .playing ∨
    (1024 ≤ r.fifo.length + frames.length ∧ r.fifo.length < 4096 ∧ frames ≠ []) then .playing else .priming }

theorem ZoneRecord.filled_nil (h : r.fifo.length ≤ 4096) : r.filled [] = r := by
  obtain ⟨settings, fifo, fifoState, _⟩ := r
  have whole : fifo.take 4096 = fifo := List.take_of_length_le h
  cases fifoState <;> simp [ZoneRecord.filled, whole]

/-- The first frame into a full FIFO is counted. -/
theorem ZoneRecord.filled_cons_full (h : r.fifo.length = 4096) (f : StereoFrame) (fs : List StereoFrame) :
    r.filled (f :: fs) = { r with overflow := r.overflow + 1 }.filled fs := by
  have kept : ∀ xs, (r.fifo ++ xs).take 4096 = r.fifo := fun xs => List.take_left' h
  simp [ZoneRecord.filled, kept, h, Nat.add_comm fs.length, Nat.add_assoc]

/-- The first frame into a FIFO with room takes a place, and starts playing from a level of 1024. -/
theorem ZoneRecord.filled_cons_room (h : r.fifo.length < 4096) (f : StereoFrame) (fs : List StereoFrame) :
    r.filled (f :: fs) = (placeFrame r f).filled fs := by
  have count : fs.length + 1 - (4096 - r.fifo.length) = fs.length - (4096 - (r.fifo.length + 1)) := by omega
  have starts : (1024 ≤ r.fifo.length + (fs.length + 1)) ↔ 1024 ≤ r.fifo.length + 1 ∨
      (1024 ≤ r.fifo.length + 1 + fs.length ∧ r.fifo.length + 1 < 4096 ∧ fs ≠ []) := by
    rw [← List.length_pos_iff]
    omega
  rw [placeFrame_room h]
  cases state : r.fifoState <;> simp [ZoneRecord.filled, state, count, starts, h]

/-- Frames placed one at a time, while the count has room. -/
theorem foldl_placeFrame (frames : List StereoFrame) (r : ZoneRecord) (level : r.fifo.length ≤ 4096)
    (counted : r.overflow + frames.length ≤ 4294967295) : frames.foldl placeFrame r = r.filled frames := by
  induction frames generalizing r with
  | nil => exact (r.filled_nil level).symm
  | cons f fs ih =>
    rw [List.length_cons] at counted
    rw [List.foldl_cons]
    rcases Nat.lt_or_ge r.fifo.length 4096 with room | full
    · rw [r.filled_cons_room room]
      refine ih _ ?_ ?_ <;> rw [placeFrame_room room]
      · simpa using room
      · dsimp only
        omega
    · rw [r.filled_cons_full (by omega), placeFrame_full full, bump_eq (by omega)]
      exact ih _ level (by dsimp only; omega)

theorem sampleFrames_mono_channels (payload : List Byte) : ∀ f ∈ sampleFrames false payload, f.left = f.right := by
  rw [sampleFrames_mono]
  simp

/-- Settles O32, by induction on the frames placed. -/
theorem filmFifoArrivals : Obligations.FilmFifoArrivals := by
  unfold Obligations.FilmFifoArrivals
  intro r frames payload level counted
  dsimp only
  rw [foldl_placeFrame frames r level counted]
  refine ⟨?_, fun low packet => ?_, sampleFrames_mono_channels payload⟩
  · have reached : (1024 ≤ (r.filled frames).fifo.length) ↔ 1024 ≤ r.fifo.length + frames.length := by
      simp only [ZoneRecord.filled, List.length_take, List.length_append]
      omega
    simp only [reached]
    rfl
  · simp only [ZoneRecord.filled]
    omega

end Sys2Proof.Machine
end

section
/-! Duck demands that begin and end on a zone (R24, R125, R126). -/

namespace Sys2Proof.Machine

variable {r : ZoneRecord} {s : State} {z : Zone}

theorem State.setZone_setZone (s : State) (z : Zone) (a b : ZoneRecord) : (s.setZone z a).setZone z b = s.setZone z b := by
  cases z <;> rfl

theorem State.setZone_zone (s : State) (z : Zone) : s.setZone z (s.zone z) = s := by
  cases z <;> rfl

/-- The takeover duck demand reaches the seat zones (R24). -/
theorem takeoverDemandOn_eq (s : State) (z : Zone) :
    takeoverDemandOn s z = (decide (z ≠ .cabin) && s.takeover.duckDemand) := by
  cases z <;> simp [takeoverDemandOn]

/-! ### A demand's end -/

/-- A zone after a demand's end (R125, R126); `reaches` says that the takeover demand goes on there. -/
def ZoneRecord.demandEnded (r : ZoneRecord) (reaches : Bool) : ZoneRecord :=
  if r.voiceDemand ∨ reaches ∨ r.demand ≠ .active then r
  else if r.settings.hold = 0 then { r with demand := .none }
  else { r with demand := .hold, holdTimer := some r.settings.hold }

theorem demandEnds_eq (z : Zone) (s : State) :
    demandEnds z s = s.setZone z ((s.zone z).demandEnded (takeoverDemandOn s z)) := by
  unfold demandEnds ZoneRecord.demandEnded
  dsimp only
  split
  · exact (s.setZone_zone z).symm
  · split <;> rfl

theorem ZoneRecord.demandEnded_voice (h : r.voiceDemand = true) (reaches : Bool) : r.demandEnded reaches = r :=
  if_pos (.inl h)

theorem ZoneRecord.demandEnded_takeover (r : ZoneRecord) : r.demandEnded true = r := if_pos (.inr (.inl rfl))

theorem ZoneRecord.demandEnded_last (demand : r.demand = .active) (alone : r.voiceDemand = false) :
    r.demandEnded false = if r.settings.hold = 0 then { r with demand := .none }
      else { r with demand := .hold, holdTimer := some r.settings.hold } := if_neg (by simp [demand, alone])

/-- An end of a demand leaves the duck gain to the block events (R127). -/
@[simp] theorem ZoneRecord.demandEnded_gain (r : ZoneRecord) (reaches : Bool) : (r.demandEnded reaches).gain = r.gain := by
  unfold ZoneRecord.demandEnded
  split
  · rfl
  · split <;> rfl

theorem voiceDemandEnds_eq (z : Zone) (s : State) : voiceDemandEnds z s =
    s.setZone z ({ s.zone z with voiceDemand := false }.demandEnded (takeoverDemandOn s z)) := by
  have reaches : ∀ r, takeoverDemandOn (s.setZone z r) z = takeoverDemandOn s z := fun r => by simp [takeoverDemandOn_eq]
  rw [voiceDemandEnds, demandEnds_eq, reaches, State.setZone_setZone, State.zone_setZone]

/-- A voice demand's end on an ACTIVE zone that the takeover demand does not reach. -/
theorem voiceDemandEnds_last (demand : (s.zone z).demand = .active) (free : takeoverDemandOn s z = false) :
    voiceDemandEnds z s = s.setZone z (if (s.zone z).settings.hold = 0
      then { s.zone z with voiceDemand := false, demand := .none }
      else { s.zone z with voiceDemand := false, demand := .hold, holdTimer := some (s.zone z).settings.hold }) := by
  rw [voiceDemandEnds_eq, free]
  exact congrArg (s.setZone z) (ZoneRecord.demandEnded_last (r := { s.zone z with voiceDemand := false }) demand rfl)

/-! ### The takeover demand (R24) -/

theorem applyTakeoverDemand_zone (s : State) (z : Zone) : (applyTakeoverDemand s).zone z =
    if z = .cabin then s.zone z else { s.zone z with demand := .active, holdTimer := none } := by
  cases z <;> rfl

/-- The withdrawal of an applied demand ends a demand on each seat zone. -/
theorem withdrawTakeoverDemand_zone (h : s.takeover.duckDemand = true) (z : Zone) : (withdrawTakeoverDemand s).zone z =
    if z = .cabin then s.zone z else (s.zone z).demandEnded false := by
  rw [withdrawTakeoverDemand, if_pos h, demandEnds_eq, demandEnds_eq]
  cases z <;> rfl

theorem withdrawTakeoverDemand_none (h : s.takeover.duckDemand = false) : withdrawTakeoverDemand s = s :=
  if_neg (by simp [h])

theorem withdrawTakeoverDemand_gain (s : State) (z : Zone) : ((withdrawTakeoverDemand s).zone z).gain = (s.zone z).gain := by
  cases applied : s.takeover.duckDemand
  · rw [withdrawTakeoverDemand_none applied]
  · rw [withdrawTakeoverDemand_zone applied]
    split <;> simp

theorem withdrawTakeoverDemand_cabin (s : State) : (withdrawTakeoverDemand s).zone .cabin = s.zone .cabin := by
  cases applied : s.takeover.duckDemand
  · rw [withdrawTakeoverDemand_none applied]
  · rw [withdrawTakeoverDemand_zone applied, if_pos rfl]

/-- Settles O36, from one zone's record at a demand's end and what the takeover demand does to each zone. -/
theorem duckDemandStates : Obligations.DuckDemandStates := by
  unfold Obligations.DuckDemandStates
  intro z s
  refine ⟨rfl, ?_, ?_, ?_, ⟨rfl, rfl, rfl, rfl⟩, fun y => ⟨?_, withdrawTakeoverDemand_gain s y⟩,
    ⟨withdrawTakeoverDemand_cabin s, ?_, withdrawTakeoverDemand_none⟩, ?_,
    fun held => congrArg Host.Outcome.next (if_pos held), fun free => congrArg Host.Outcome.next (if_neg free)⟩
  · intro demand free hold
    rw [voiceDemandEnds_last demand free, if_neg hold]
  · intro demand free hold
    rw [voiceDemandEnds_last demand free, if_pos hold]
  · intro reaches
    rw [voiceDemandEnds_eq, reaches, ZoneRecord.demandEnded_takeover]
  · rw [applyTakeoverDemand_zone]
    split <;> rfl
  · rw [withdrawTakeoverDemand_takeover]
  · intro applied seat demand
    rw [withdrawTakeoverDemand_zone applied, if_neg seat]
    refine ⟨fun voice => ?_, fun alone hold => ?_, fun alone hold => ?_⟩
    · rw [ZoneRecord.demandEnded_voice voice]
      exact demand
    · rw [ZoneRecord.demandEnded_last demand alone, if_neg hold]
      exact ⟨rfl, rfl⟩
    · rw [ZoneRecord.demandEnded_last demand alone, if_pos hold]

end Sys2Proof.Machine
end

section
/-! ZONE_SET and VOLUME_TABLE_SET (R122, R123, R128, R131). -/

namespace Sys2Proof.Machine

variable {s : State} {n : Nat} {z : Zone} {p : ZoneParams}

theorem runCommand_report (h : Running s) (mark : Byte) {c : Command} {data : List Byte} {t : State}
    (answer : perform c s = report data t) (plain : c.code ∉ ruledByTakeover := by simp [Command.code, ruledByTakeover]) :
    runCommand mark c s = replied mark c.code .ok data t := by
  rw [runCommand_plain h mark c plain, answer, handAnswer_report]

/-! ### Settings in their ranges (R123, R185) -/

/-- R123's ranges; CABIN is not muted. -/
def zoneInRange (z : Zone) (p : ZoneParams) : Prop :=
  p.volume ≤ 40 ∧ p.mute ≤ 1 ∧ p.duckLevel ≤ 32768 ∧ 1 ≤ p.ramp ∧ p.ramp ≤ 100 ∧ p.hold ≤ 1000 ∧
  (z = .cabin → p.mute = 0)

/-- The settings that parameters in their ranges carry, each by the item of its name. -/
def zoneSettingsCarried (p : ZoneParams) : ZoneSettings :=
  { volume := p.volume, mute := decide (p.mute = 1), duckLevel := p.duckLevel, ramp := p.ramp, hold := p.hold }

theorem zoneSettings?_eq_some (z : Zone) (p : ZoneParams) (t : ZoneSettings) :
    zoneSettings? z p = some t ↔ zoneInRange z p ∧ t = zoneSettingsCarried p := by
  unfold zoneSettings? zoneInRange
  rw [flag?_eq]
  by_cases mute : p.mute ≤ 1
  · have unmuted : p.mute ≠ 1 ↔ p.mute = 0 := by omega
    simp [mute, unmuted, zoneSettingsCarried, and_assoc, eq_comm (b := t)]
  · simp [mute]

theorem zoneSettings?_isSome (z : Zone) (p : ZoneParams) : (zoneSettings? z p).isSome = true ↔ zoneInRange z p := by
  simp [Option.isSome_iff_exists, zoneSettings?_eq_some]

/-! ### ZONE_SET (R123, R131) -/

theorem zone?_unknown (h : 3 ≤ n) : zone? n = none := by
  match n, h with
  | n + 3, _ => rfl

theorem zoneSet_unknown (h : 3 ≤ n) (option : Nat) (p : ZoneParams) (s : State) :
    zoneSet n option p s = refuse .param s := by
  rw [zoneSet, zone?_unknown h]

theorem zoneSet_read (h : zone? n = some z) (p : ZoneParams) (s : State) :
    zoneSet n 1 p s = report (zoneStatus s z) s := by
  rw [zoneSet, h]
  rfl

theorem zoneSet_invalid (h : zone? n = some z) (invalid : zoneSettings? z p = none) (s : State) :
    zoneSet n 0 p s = refuse .param s := by
  simp [zoneSet, h, invalid]

theorem zoneSet_apply (h : zone? n = some z) {t : ZoneSettings} (valid : zoneSettings? z p = some t) (s : State) :
    zoneSet n 0 p s = report (zoneStatus (applyZoneSettings z t s) z) (applyZoneSettings z t s) := by
  simp [zoneSet, h, valid]

/-! ### VOLUME_TABLE_SET (R122) -/

/-- R122's conditions on the values, less their number. -/
def volumeValuesOk (values : List Nat) : Prop :=
  (∀ x ∈ values, x ≤ 32768) ∧ values.head? = some 0 ∧ values.Pairwise (· ≤ ·)

theorem volumeTableSet_some {values : List Nat} {t : Vector Nat 41} (h : table? 41 values = some t) (s : State) :
    (volumeValuesOk values → volumeTableSet values s = done { s with audio.volumeTable := t }) ∧
    (¬ volumeValuesOk values → volumeTableSet values s = refuse .param s) := by
  have nonempty : values ≠ [] := by rintro rfl; simp [table?] at h
  have check : (values.all (· ≤ 32768) && values.headD 0 == 0 && eachToNext (fun a b => a ≤ b) values) = true ↔
      volumeValuesOk values := by
    obtain ⟨x, xs, rfl⟩ := List.exists_cons_of_ne_nil nonempty
    rw [Bool.and_eq_true, eachToNext_le]
    simp [volumeValuesOk, and_assoc]
  simp only [volumeTableSet, h]
  exact ⟨fun ok => if_pos (check.mpr ok), fun bad => if_neg (bad ∘ check.mp)⟩

theorem volumeTableSet_valid {t : Vector Nat 41} (h : volumeValuesOk t.toList) (s : State) :
    volumeTableSet t.toList s = done { s with audio.volumeTable := t } :=
  (volumeTableSet_some (table?_toList t) s).1 h

theorem volumeTableSet_invalid {values : List Nat} (h : ¬ (values.length = 41 ∧ volumeValuesOk values)) (s : State) :
    volumeTableSet values s = refuse .param s := by
  by_cases length : values.length = 41
  · obtain ⟨t, read⟩ := table?_exists length
    exact (volumeTableSet_some read s).2 fun ok => h ⟨length, ok⟩
  · simp [volumeTableSet, table?_length length]

/-- Settles O37, command by command: the owner's answer, handed over. -/
theorem zoneSetAndVolumeTable : Obligations.ZoneSetAndVolumeTable := by
  unfold Obligations.ZoneSetAndVolumeTable
  intro mark n p values s running
  dsimp only
  have reported : ∀ {c : Command} {data : List Byte} {t : State}, c.code = 50 → perform c s = report data t →
      (.next (runCommand mark c s) : Host.Outcome State Fault Refusal) = .next (replied mark 50 .ok data t) :=
    fun {c} _ _ code answer => code ▸ congrArg Host.Outcome.next
      (runCommand_report running mark answer (by rw [code]; decide))
  have refused : ∀ {c : Command}, c.code = 50 ∨ c.code = 51 → perform c s = refuse .param s →
      (.next (runCommand mark c s) : Host.Outcome State Fault Refusal) = .next (replied mark c.code .param [] s) :=
    fun {c} code answer => congrArg Host.Outcome.next
      (runCommand_refuse running mark answer (by rcases code with code | code <;> rw [code] <;> decide))
  refine ⟨fun unknown => ?_, fun z hz => ?_, ?_, ?_, ?_⟩
  · exact ⟨refused (c := .zoneSet n 0 p) (.inl rfl) (zoneSet_unknown unknown 0 p s),
      refused (c := .zoneSet n 1 p) (.inl rfl) (zoneSet_unknown unknown 1 p s)⟩
  · simp only [← takeoverDemandOn_eq]
    refine ⟨?_, ?_, ?_, ?_, zoneSettings?_isSome z p⟩
    · exact reported (c := .zoneSet n 1 p) rfl (zoneSet_read hz p s)
    · exact fun invalid => refused (c := .zoneSet n 0 p) (.inl rfl) (zoneSet_invalid hz invalid s)
    · exact fun t valid => ((zoneSettings?_eq_some z p t).mp valid).2
    · exact fun t valid => reported (c := .zoneSet n 0 p) rfl (zoneSet_apply hz valid s)
  · rintro t rfl bounded first rising
    exact congrArg Host.Outcome.next
      (runCommand_done running mark (c := .volumeTableSet t.toList) (volumeTableSet_valid ⟨bounded, first, rising⟩ s))
  · exact fun bad => refused (c := .volumeTableSet values) (.inr rfl) (volumeTableSet_invalid bad s)
  · exact fun i => Vector.getElem_ofFn _

end Sys2Proof.Machine
end

section
/-! What CABIN has of film (R118), and that duck demands, chimes and the takeover leave it as it is. -/

namespace Sys2Proof.Machine

/-- CABIN's film FIFO and its state. -/
def Audio.cabinFilm (a : Audio) : List StereoFrame × FifoState := (a.cabin.fifo, a.cabin.fifoState)

theorem cabinFilm_zone (s : State) : s.audio.cabinFilm = ((s.zone .cabin).fifo, (s.zone .cabin).fifoState) := rfl

/-! ### Zone records (R119 to R128) -/

/-- A zone record replaced by one with the same film. -/
theorem setZone_cabinFilm {z : Zone} {r : ZoneRecord} {s : State}
    (film : (r.fifo, r.fifoState) = ((s.zone z).fifo, (s.zone z).fifoState)) :
    (s.setZone z r).audio.cabinFilm = s.audio.cabinFilm := by
  cases z
  · rfl
  · rfl
  · exact film

@[simp] theorem demandBegins_cabinFilm (z : Zone) (s : State) :
    (demandBegins z s).audio.cabinFilm = s.audio.cabinFilm := setZone_cabinFilm rfl

@[simp] theorem demandEnds_cabinFilm (z : Zone) (s : State) : (demandEnds z s).audio.cabinFilm = s.audio.cabinFilm := by
  unfold demandEnds
  dsimp only
  split
  · rfl
  · split <;> exact setZone_cabinFilm rfl

@[simp] theorem voiceDemandBegins_cabinFilm (z : Zone) (s : State) :
    (voiceDemandBegins z s).audio.cabinFilm = s.audio.cabinFilm :=
  (demandBegins_cabinFilm z _).trans (setZone_cabinFilm rfl)

@[simp] theorem voiceDemandEnds_cabinFilm (z : Zone) (s : State) :
    (voiceDemandEnds z s).audio.cabinFilm = s.audio.cabinFilm :=
  (demandEnds_cabinFilm z _).trans (setZone_cabinFilm rfl)

@[simp] theorem applyTakeoverDemand_cabinFilm (s : State) :
    (applyTakeoverDemand s).audio.cabinFilm = s.audio.cabinFilm := by simp [applyTakeoverDemand]

@[simp] theorem withdrawTakeoverDemand_cabinFilm (s : State) :
    (withdrawTakeoverDemand s).audio.cabinFilm = s.audio.cabinFilm := by
  unfold withdrawTakeoverDemand
  split <;> simp

@[simp] theorem holdExpires_cabinFilm (z : Zone) (s : State) :
    (holdExpires z s).audio.cabinFilm = s.audio.cabinFilm := by
  unfold holdExpires
  dsimp only
  split
  · exact setZone_cabinFilm rfl
  · rfl

@[simp] theorem setVolume_cabinFilm (z : Zone) (v : Nat) (s : State) :
    (setVolume z v s).audio.cabinFilm = s.audio.cabinFilm := setZone_cabinFilm rfl

@[simp] theorem applyZoneSettings_cabinFilm (z : Zone) (t : ZoneSettings) (s : State) :
    (applyZoneSettings z t s).audio.cabinFilm = s.audio.cabinFilm := setZone_cabinFilm rfl

/-- An audio stream feeds the seat zones only (R61). -/
@[simp] theorem audioArrives_cabinFilm (t : Fin 32) (d : AudioDescriptor) (p : Packet) (s : State) :
    (audioArrives t d p s).audio.cabinFilm = s.audio.cabinFilm := by
  have left : ∀ fs u, (placeFrames .seatL fs u).audio.cabinFilm = u.audio.cabinFilm := fun _ _ => rfl
  have right : ∀ fs u, (placeFrames .seatR fs u).audio.cabinFilm = u.audio.cabinFilm := fun _ _ => rfl
  have trailed : (if p.payload.length % d.frameBytes ≠ 0 then countTrail .downlink s else s).audio = s.audio := by
    split <;> simp
  unfold audioArrives
  dsimp only
  split <;> split <;> simp only [left, right, countTag_keeps, trailed]

/-! ### Voices (R141 to R145) -/

@[simp] theorem beginDemands_cabinFilm (z : ZoneSet) (s : State) :
    (beginDemands z s).audio.cabinFilm = s.audio.cabinFilm :=
  foldl_keeps (fun s => s.audio.cabinFilm) _ (fun s k => by split <;> simp) zones s

@[simp] theorem endDemands_cabinFilm (z : ZoneSet) (s : State) : (endDemands z s).audio.cabinFilm = s.audio.cabinFilm :=
  foldl_keeps (fun s => s.audio.cabinFilm) _ (fun s k => by split <;> simp) zones s

@[simp] theorem endVoice_cabinFilm (v : Fin 4) (s : State) : (endVoice v s).audio.cabinFilm = s.audio.cabinFilm := by
  unfold endVoice
  dsimp only
  split
  · split <;> simp
  · rfl

@[simp] theorem silenceVoice_cabinFilm (v : Fin 4) (s : State) :
    (silenceVoice v s).audio.cabinFilm = s.audio.cabinFilm := by
  have dropped : (if (s.voice v).stopping then raiseFlag .chimeDropped (proximityVoiceGone (s.voice v) (endVoice v s))
      else chimeDropped (proximityVoiceGone (s.voice v) (endVoice v s))).audio.cabinFilm = s.audio.cabinFilm := by
    split <;> simp
  unfold silenceVoice
  dsimp only
  split
  · split
    · split <;> simp
    · split
      · split <;> simp
      · exact dropped
  · exact dropped

@[simp] theorem clearTheWay_cabinFilm (z : ZoneSet) (s : State) :
    (clearTheWay z s).audio.cabinFilm = s.audio.cabinFilm := by
  have cleared := foldl_keeps (fun s => s.audio.cabinFilm)
    (fun s v => if (s.voice v).meets z then silenceVoice v s else s) (fun s v => by split <;> simp) (List.finRange 4) s
  unfold clearTheWay
  dsimp only
  split
  · exact cleared
  · split
    · exact cleared
    · exact (silenceVoice_cabinFilm _ _).trans cleared

@[simp] theorem beginVoice_cabinFilm (v : Fin 4) (e : QueueEntry) (c : ChimeEntry) (a : AssetRecord) (s : State) :
    (beginVoice v e c a s).audio.cabinFilm = s.audio.cabinFilm := by
  unfold beginVoice
  dsimp only
  split <;> split <;> simp

/-! ### The queue and requests (R135 to R142) -/

@[simp] theorem startEntry_cabinFilm (e : QueueEntry) (s : State) :
    (startEntry e s).audio.cabinFilm = s.audio.cabinFilm := by
  unfold startEntry
  dsimp only
  split <;> simp

@[simp] theorem purgeEntry_cabinFilm (s : State) (e : QueueEntry) :
    (purgeEntry s e).audio.cabinFilm = s.audio.cabinFilm := by
  unfold purgeEntry
  split <;> simp

@[simp] theorem examine_cabinFilm (q : List QueueEntry) (s : State) :
    (examine q s).1.audio.cabinFilm = s.audio.cabinFilm := by
  induction q generalizing s with
  | nil => rfl
  | cons e q ih =>
    unfold examine
    split
    · exact (ih _).trans (purgeEntry_cabinFilm s e)
    · split
      · exact startEntry_cabinFilm e s
      · exact ih s

@[simp] theorem dispatchFor_cabinFilm (n : Nat) (s : State) :
    (dispatchFor n s).audio.cabinFilm = s.audio.cabinFilm := by
  induction n generalizing s with
  | zero => rfl
  | succ n ih =>
    have examined := examine_cabinFilm s.chime.queue s
    unfold dispatchFor
    split <;> rename_i e <;> rw [e] at examined
    · exact (ih _).trans examined
    · exact examined

@[simp] theorem dispatch_cabinFilm (s : State) : (dispatch s).audio.cabinFilm = s.audio.cabinFilm :=
  dispatchFor_cabinFilm 4096 s

@[simp] theorem dispatchAfter_cabinFilm (before s : State) :
    (dispatchAfter before s).audio.cabinFilm = s.audio.cabinFilm := by
  unfold dispatchAfter
  split
  · rfl
  · exact dispatch_cabinFilm s

@[simp] theorem settleRequest_cabinFilm (id : Fin 32) (z : ZoneSet) (c : ChimeEntry) (p : Bool) (s : State) :
    (settleRequest id z c p s).2.audio.cabinFilm = s.audio.cabinFilm := by
  unfold settleRequest
  dsimp only
  generalize (if p = true then 255 else c.repeats) = repeats
  split
  · simp
  · split
    · simp
    · split
      · simp
      · split
        · rename_i queued
          simp [enqueue_keeps queued]
        · simp

@[simp] theorem internalRequest_cabinFilm (id : Fin 32) (z : Option ZoneSet) (p : Bool) (s : State) :
    (internalRequest id z p s).audio.cabinFilm = s.audio.cabinFilm := by
  unfold internalRequest
  split
  · simp
  · rename_i c _
    split
    · simp
    · split
      · simp
      · have settled := settleRequest_cabinFilm id (z.getD c.zones) c p s
        split <;> rename_i e <;> rw [e] at settled
        · simpa using settled
        · exact settled

@[simp] theorem requestById_cabinFilm (id : Nat) (z : Option ZoneSet) (s : State) :
    (requestById id z s).audio.cabinFilm = s.audio.cabinFilm := by
  unfold requestById
  split <;> simp

@[simp] theorem finishVoice_cabinFilm (v : Fin 4) (s : State) :
    (finishVoice v s).audio.cabinFilm = s.audio.cabinFilm := by
  simp [finishVoice]

/-! ### The proximity function (R147 to R150) -/

@[simp] theorem markTailing_cabinFilm (on : Bool) (s : State) :
    (markTailing on s).audio.cabinFilm = s.audio.cabinFilm := by
  unfold markTailing
  refine (dispatchAfter_cabinFilm _ _).trans (foldl_keeps (fun s => s.audio.cabinFilm) _ (fun s v => ?_) _ s)
  dsimp only
  split
  · split <;> simp
  · rfl

@[simp] theorem proximityStop_cabinFilm (s : State) : (proximityStop s).audio.cabinFilm = s.audio.cabinFilm := by
  have queue : ∀ q u, (setQueue q u).audio = u.audio := fun _ _ => rfl
  have off : ∀ u, (setProximity .off u).audio = u.audio := fun _ => rfl
  have ended : ∀ u : State, ((List.finRange 4).foldl
      (fun s v => if (s.voice v).busy && (s.voice v).proximity then endVoice v s else s) u).audio.cabinFilm =
        u.audio.cabinFilm :=
    foldl_keeps (fun s => s.audio.cabinFilm) _ (fun s v => by split <;> simp) _
  unfold proximityStop
  rw [dispatchAfter_cabinFilm, off, ended, queue]

@[simp] theorem proximityRequest_cabinFilm (s : State) : (proximityRequest s).audio.cabinFilm = s.audio.cabinFilm := by
  unfold proximityRequest
  split <;> simp

@[simp] theorem proximityEvaluate_cabinFilm (s : State) :
    (proximityEvaluate s).audio.cabinFilm = s.audio.cabinFilm := by
  unfold proximityEvaluate
  split
  · split <;> simp
  · split <;> simp

@[simp] theorem proximityPacket_cabinFilm (s : State) : (proximityPacket s).audio.cabinFilm = s.audio.cabinFilm := by
  unfold proximityPacket
  split <;> simp

/-! ### The vehicle and the takeover (R1 to R13) -/

@[simp] theorem engage_cabinFilm (s : State) : (engage s).audio.cabinFilm = s.audio.cabinFilm := by
  unfold engage
  dsimp only
  split <;> simp

@[simp] theorem exitTakeover_cabinFilm (s : State) : (exitTakeover s).audio.cabinFilm = s.audio.cabinFilm := by
  simp [exitTakeover]

@[simp] theorem enterLinger_cabinFilm (s : State) : (enterLinger s).audio.cabinFilm = s.audio.cabinFilm := by
  unfold enterLinger
  dsimp only
  split <;> simp

@[simp] theorem takeoverReverse_cabinFilm (asserted : Bool) (s : State) :
    (takeoverReverse asserted s).audio.cabinFilm = s.audio.cabinFilm := by
  unfold takeoverReverse
  split <;> simp

@[simp] theorem evaluateReverse_cabinFilm (s : State) : (evaluateReverse s).audio.cabinFilm = s.audio.cabinFilm := by
  unfold evaluateReverse
  dsimp only
  split <;> simp

@[simp] theorem exitSpeedTest_cabinFilm (s : State) : (exitSpeedTest s).audio.cabinFilm = s.audio.cabinFilm := by
  unfold exitSpeedTest
  split <;> simp

@[simp] theorem recordStales_cabinFilm (s : State) : (recordStales s).audio.cabinFilm = s.audio.cabinFilm := by
  unfold recordStales
  dsimp only
  split <;> simp

@[simp] theorem debounceExpires_cabinFilm (s : State) : (debounceExpires s).audio.cabinFilm = s.audio.cabinFilm := by
  unfold debounceExpires
  split <;> simp

@[simp] theorem supplyChanges_cabinFilm (old : Supply) (s : State) :
    (supplyChanges old s).audio.cabinFilm = s.audio.cabinFilm := by
  unfold supplyChanges
  split
  · simp
  · split <;> simp

@[simp] theorem vehicleReport_cabinFilm (payload : List Byte) (s : State) :
    (vehicleReport payload s).audio.cabinFilm = s.audio.cabinFilm := by
  unfold vehicleReport
  dsimp only
  split <;> simp

end Sys2Proof.Machine
end

section
/-! Vehicles, links, packets, voices and the asset store leave CABIN's film as it is. -/

namespace Sys2Proof.Machine

/-! ### The vehicle and the takeover (R1 to R19) -/

theorem vehicleArrives_cabinFilm (p : Packet) (s : State) :
    (vehicleArrives p s).audio.cabinFilm = s.audio.cabinFilm := by
  unfold vehicleArrives
  split
  · rfl
  · split <;> simp

theorem startExpires_cabinFilm (s : State) : (startExpires s).audio.cabinFilm = s.audio.cabinFilm := by
  unfold startExpires
  split <;> simp

theorem watchdogExpires_cabinFilm (s : State) : (watchdogExpires s).audio.cabinFilm = s.audio.cabinFilm := by
  unfold watchdogExpires
  split
  · split <;> simp
  · rfl

theorem lingerExpires_cabinFilm (s : State) : (lingerExpires s).audio.cabinFilm = s.audio.cabinFilm := by
  unfold lingerExpires
  split <;> simp

theorem mismatchExpires_cabinFilm (s : State) : (mismatchExpires s).audio.cabinFilm = s.audio.cabinFilm := by
  unfold mismatchExpires
  split <;> simp

theorem pinChanges_cabinFilm (level : Bool) (s : State) : (pinChanges level s).audio.cabinFilm = s.audio.cabinFilm := by
  unfold pinChanges
  split <;> rfl

/-! ### Links (R174 to R176, R181) -/

@[simp] theorem linkDrops_cabinFilm (l : Link) (s : State) : (linkDrops l s).audio.cabinFilm = s.audio.cabinFilm := by
  unfold linkDrops
  dsimp only
  split
  · split <;> simp
  · simp

theorem lossOfLock_cabinFilm (l : Link) (s : State) : (lossOfLock l s).audio.cabinFilm = s.audio.cabinFilm := by
  unfold lossOfLock
  split <;> simp

theorem reachUp_cabinFilm (l : Link) (s : State) : (reachUp l s).audio.cabinFilm = s.audio.cabinFilm := by
  unfold reachUp reachingEffects
  split
  · cases l <;> simp
  · rfl

theorem endFlag_cabinFilm (l : Link) (s : State) : (endFlag l s).audio.cabinFilm = s.audio.cabinFilm := by
  unfold endFlag
  dsimp only
  split
  · rfl
  · split <;> simp

theorem overlong_cabinFilm (l : Link) (s : State) : (overlong l s).audio.cabinFilm = s.audio.cabinFilm := by
  unfold overlong
  dsimp only
  split <;> simp

theorem discardPacket_cabinFilm (l : Link) (bytes : List Byte) (s : State) :
    (discardPacket l bytes s).audio.cabinFilm = s.audio.cabinFilm := by
  unfold discardPacket
  split
  · split <;> simp
  · rfl

/-! ### Packets (R54 to R61, R176, R186) -/

theorem countPayload_cabinFilm (l : Link) (p : Packet) (s : State) :
    (countPayload l p s).audio.cabinFilm = s.audio.cabinFilm := by
  unfold countPayload
  split <;> simp

theorem admitVideo_cabinFilm {work : Fin 32 → VideoDescriptor → State → State} (rx : VideoRx) (p : Packet) (s : State)
    (works : ∀ t d, (work t d s).audio.cabinFilm = s.audio.cabinFilm) :
    (admitVideo rx p work s).audio.cabinFilm = s.audio.cabinFilm := by
  unfold admitVideo
  split
  · simp
  · exact works _ _
  · rfl

theorem frameArrives_cabinFilm (rx : VideoRx) (p : Packet) (s : State) :
    (frameArrives rx p s).audio.cabinFilm = s.audio.cabinFilm := by
  refine admitVideo_cabinFilm rx p s fun t d => ?_
  dsimp only
  split
  · unfold guideFrame
    split <;> simp [computeGuide]
  · simp

theorem videoLine_cabinFilm (rx : VideoRx) (p : Packet) (s : State) :
    (videoLine rx p s).audio.cabinFilm = s.audio.cabinFilm :=
  admitVideo_cabinFilm rx p s fun t _ => by simp

theorem fendArrives_cabinFilm (rx : VideoRx) (p : Packet) (s : State) :
    (fendArrives rx p s).audio.cabinFilm = s.audio.cabinFilm := by
  refine admitVideo_cabinFilm rx p s fun t _ => ?_
  dsimp only
  split <;> simp

theorem soundArrives_cabinFilm (p : Packet) (s : State) : (soundArrives p s).audio.cabinFilm = s.audio.cabinFilm := by
  unfold soundArrives
  split <;> simp

theorem controlArrives_cabinFilm (p : Packet) (s : State) :
    (controlArrives p s).audio.cabinFilm = s.audio.cabinFilm := by
  unfold controlArrives
  split <;> rfl

theorem lineWritten_cabinFilm {rx : VideoRx} {s t : State} (written : lineWritten rx s = .ok t) :
    t.audio.cabinFilm = s.audio.cabinFilm := by
  unfold lineWritten at written
  split at written
  · cases written
    rfl
  · split at written
    · cases written
      simp [writeStaged]
    · cases written

/-! ### Voices (R139 to R145) -/

theorem playSample_cabinFilm (v : Fin 4) (run : BlockRun) (s : State) :
    (playSample v run s).2.audio.cabinFilm = s.audio.cabinFilm := by
  unfold playSample
  dsimp only
  split
  · rfl
  · split
    · rfl
    · split <;> simp

@[simp] theorem playSamples_cabinFilm (v : Fin 4) (n : Nat) (run : BlockRun) (s : State) :
    (playSamples v n run s).2.audio.cabinFilm = s.audio.cabinFilm := by
  induction n generalizing run s with
  | zero => rfl
  | succ n ih => exact (ih _ _).trans (playSample_cabinFilm v run s)

@[simp] theorem enterGap_cabinFilm (v : Fin 4) (repeats : Nat) (s : State) :
    (enterGap v repeats s).audio.cabinFilm = s.audio.cabinFilm := by
  unfold enterGap
  dsimp only
  split <;> simp

@[simp] theorem endPlay_cabinFilm (v : Fin 4) (s : State) : (endPlay v s).audio.cabinFilm = s.audio.cabinFilm := by
  unfold endPlay
  dsimp only
  split
  · simp
  · split
    · simp
    · split <;> simp

@[simp] theorem playBlock_cabinFilm (v : Fin 4) (s : State) : (playBlock v s).audio.cabinFilm = s.audio.cabinFilm := by
  have played := playSamples_cabinFilm v Config.blockFrames ⟨[], false, false⟩ s
  unfold playBlock
  dsimp only
  generalize playSamples v Config.blockFrames ⟨[], false, false⟩ s = q at played ⊢
  split <;> split <;> simp [played]

theorem voiceBlock_cabinFilm (v : Fin 4) (s : State) : (voiceBlock v s).audio.cabinFilm = s.audio.cabinFilm := by
  unfold voiceBlock
  dsimp only
  split
  · rfl
  all_goals split <;> simp

theorem gapExpires_cabinFilm (v : Fin 4) (s : State) : (gapExpires v s).audio.cabinFilm = s.audio.cabinFilm := by
  unfold gapExpires
  dsimp only
  split <;> simp

@[simp] theorem voicePageRead_cabinFilm (v : Fin 4) (token : Nat) (content : Option (List Byte)) (s : State) :
    (voicePageRead v token content s).audio.cabinFilm = s.audio.cabinFilm := by
  unfold voicePageRead
  dsimp only
  split
  · rfl
  · split <;> simp

/-! ### The asset store's events (R154 to R162) -/

theorem arrayReady_cabinFilm (s : State) : (arrayReady s).audio.cabinFilm = s.audio.cabinFilm := by
  unfold arrayReady
  split <;> simp

@[simp] theorem mountDiscard_cabinFilm (b : Fin 256) (s : State) :
    (mountDiscard b s).audio.cabinFilm = s.audio.cabinFilm := by
  simp [mountDiscard]

@[simp] theorem placeHeader_cabinFilm (b : Fin 256) (content : Option Page) (s : State) :
    (placeHeader b content s).audio.cabinFilm = s.audio.cabinFilm := by
  unfold placeHeader
  split <;> simp [sawGeneration]

@[simp] theorem mountEnd_cabinFilm (s : State) : (mountEnd s).audio.cabinFilm = s.audio.cabinFilm := by
  have placed : ∀ kept : List (Fin 256), (s.store.mount.blocks.foldl (fun s b =>
      if kept.contains b.block then setBlock .current b.block s else mountDiscard b.block s) s).audio.cabinFilm =
        s.audio.cabinFilm :=
    fun kept => foldl_keeps (fun s => s.audio.cabinFilm) _ (fun s b => by split <;> simp) _ s
  unfold mountEnd
  simpa using placed ((currentRecords s.store.mount).flatMap (·.blocks))

@[simp] theorem headersRead_cabinFilm (s : State) : (headersRead s).audio.cabinFilm = s.audio.cabinFilm := by
  unfold headersRead
  dsimp only
  split <;> simp

@[simp] theorem noteGeneration_cabinFilm (content : Option Page) (s : State) :
    (noteGeneration content s).audio.cabinFilm = s.audio.cabinFilm := by
  unfold noteGeneration
  split
  · split <;> rfl
  · rfl

@[simp] theorem headerRead_cabinFilm (b : Fin 256) (content : Option Page) (s : State) :
    (headerRead b content s).audio.cabinFilm = s.audio.cabinFilm := by
  unfold headerRead
  dsimp only
  split <;> simp

@[simp] theorem commitRead_cabinFilm (b : Fin 256) (content : Option Page) (s : State) :
    (commitRead b content s).audio.cabinFilm = s.audio.cabinFilm := by
  unfold commitRead
  dsimp only
  split <;> simp

@[simp] theorem handRead_cabinFilm (r : ReadRequest) (content : Option Page) (s : State) :
    (handRead r content s).audio.cabinFilm = s.audio.cabinFilm := by
  unfold handRead
  dsimp only
  split <;> simp

theorem readCompletes_cabinFilm (failed : Bool) (s : State) :
    (readCompletes failed s).audio.cabinFilm = s.audio.cabinFilm := by
  unfold readCompletes
  split
  · split <;> simp
  · rfl

@[simp] theorem commitGeneration_cabinFilm (s : State) : (commitGeneration s).audio.cabinFilm = s.audio.cabinFilm := by
  have retired : ∀ id, (retirePrevious id s).audio.cabinFilm = s.audio.cabinFilm := fun id => by
    unfold retirePrevious
    split
    · rfl
    · split <;> simp
  unfold commitGeneration
  simp [retired]

@[simp] theorem programVerified_cabinFilm (b : Fin 256) (page : Nat) (commit : Bool) (s : State) :
    (programVerified b page commit s).audio.cabinFilm = s.audio.cabinFilm := by
  unfold programVerified
  dsimp only
  split <;> simp

theorem programCompletes_cabinFilm (verified : Option (Fin 8)) (s : State) :
    (programCompletes verified s).audio.cabinFilm = s.audio.cabinFilm := by
  have fails : ∀ b u, (programFails b u).audio.cabinFilm = u.audio.cabinFilm := fun b u => by simp [programFails]
  unfold programCompletes
  split
  · rfl
  · split
    · dsimp only
      split <;> split <;> simp [fails]
    · dsimp only
      split <;> simp
    · rfl

theorem eraseCompletes_cabinFilm (failedBlocks : List (Fin 256)) (s : State) :
    (eraseCompletes failedBlocks s).audio.cabinFilm = s.audio.cabinFilm := by
  have erased : ∀ u b, (blockErased (failedBlocks.contains b) b u).audio.cabinFilm = u.audio.cabinFilm := fun u b => by
    unfold blockErased
    dsimp only
    split <;> simp
  unfold eraseCompletes
  split
  · rfl
  · split
    · rename_i bs _
      simpa using foldl_keeps (fun s => s.audio.cabinFilm)
        (fun u b => blockErased (failedBlocks.contains b) b u) erased bs s
    · rfl

theorem abortCompletes_cabinFilm (s : State) : (abortCompletes s).audio.cabinFilm = s.audio.cabinFilm := by
  unfold abortCompletes
  split <;> simp

end Sys2Proof.Machine
end

section
/-! Commands outside chapter 5 leave CABIN's film as it is. -/

namespace Sys2Proof.Machine

/-! ### Streams and panels (R50 to R91) -/

theorem leftOut_cabin (old new : Option Descriptor) : Zone.cabin ∉ leftOut old new := by
  unfold leftOut
  split
  · dsimp only
    split <;> split <;> simp
  · simp

/-- The zones that a descriptor leaves out are seat zones (R61, R121). -/
theorem emptyFifos_cabinFilm (old new : Option Descriptor) (s : State) :
    ((leftOut old new).foldl (fun s z => emptyFifo z s) s).audio.cabinFilm = s.audio.cabinFilm := by
  simp only [cabinFilm_zone, emptyFifos_zone, if_neg (leftOut_cabin old new)]

theorem tagSet_cabinFilm (p : TagSetParams) (s : State) :
    (tagSet p s).state.audio.cabinFilm = s.audio.cabinFilm := by
  unfold tagSet
  split
  · rfl
  · refine (emptyFifos_cabinFilm _ _ _).trans ?_
    split <;> simp

theorem tagClear_cabinFilm (tag : Nat) (s : State) : (tagClear tag s).state.audio.cabinFilm = s.audio.cabinFilm := by
  unfold tagClear
  split
  · rfl
  · split
    · rfl
    · split
      · rfl
      · exact (emptyFifos_cabinFilm _ _ _).trans (by simp)

theorem tagRead_cabinFilm (tag : Nat) (s : State) : (tagRead tag s).state.audio.cabinFilm = s.audio.cabinFilm := by
  unfold tagRead
  split
  · rfl
  · split <;> rfl

theorem ringSet_cabinFilm (p : RingSetParams) (s : State) :
    (ringSet p s).state.audio.cabinFilm = s.audio.cabinFilm := by
  rcases ringSet_cases p s with e | ⟨n, -, -, -, e⟩ <;> rw [e]
  simp

theorem panelSet_cabinFilm (q : PanelSetParams) (s : State) :
    (panelSet q s).state.audio.cabinFilm = s.audio.cabinFilm := by
  unfold panelSet
  split
  · split
    · dsimp only
      split
      · rfl
      · dsimp only [done]
        split <;> simp
    · rfl
  · rfl

theorem panelWake_cabinFilm (panel : Nat) (s : State) :
    (panelWake panel s).state.audio.cabinFilm = s.audio.cabinFilm := by
  unfold panelWake
  split <;> simp [done, refuse]

theorem panelSleep_cabinFilm (panel : Nat) (s : State) :
    (panelSleep panel s).state.audio.cabinFilm = s.audio.cabinFilm := by
  unfold panelSleep
  split
  · rfl
  · dsimp only [done]
    split <;> simp

theorem panelBlank_cabinFilm (panel : Nat) (blanked : Bool) (s : State) :
    (panelBlank panel blanked s).state.audio.cabinFilm = s.audio.cabinFilm := by
  unfold panelBlank
  split <;> simp [done, refuse]

theorem panelLevel_cabinFilm (panel level : Nat) (s : State) :
    (panelLevel panel level s).state.audio.cabinFilm = s.audio.cabinFilm := by
  unfold panelLevel
  split
  · rfl
  · split <;> simp [done, refuse]

theorem layerSet_cabinFilm (q : LayerSetParams) (s : State) :
    (layerSet q s).state.audio.cabinFilm = s.audio.cabinFilm := by
  unfold layerSet
  split
  · rfl
  · dsimp only
    split
    · split <;> simp [done, refuse]
    · rfl

theorem layerClear_cabinFilm (panel layer : Nat) (s : State) :
    (layerClear panel layer s).state.audio.cabinFilm = s.audio.cabinFilm := by
  unfold layerClear
  split
  · rfl
  · split
    · simp [done]
    · split <;> simp [done, refuse]

theorem panelRead_cabinFilm (panel : Nat) (s : State) :
    (panelRead panel s).state.audio.cabinFilm = s.audio.cabinFilm := by
  unfold panelRead
  split <;> rfl

/-! ### The takeover and the guide (R7, R8, R13, R28 to R32) -/

theorem cameraSet_cabinFilm (p : CameraSetParams) (s : State) :
    (cameraSet p s).state.audio.cabinFilm = s.audio.cabinFilm := by
  unfold cameraSet
  split
  · rfl
  · split
    · rfl
    · split
      · split <;> rfl
      · rfl

theorem takeoverSet_cabinFilm (p : TakeoverSetParams) (s : State) :
    (takeoverSet p s).state.audio.cabinFilm = s.audio.cabinFilm := by
  cases hp : takeoverSettings? p with
  | none => rw [takeoverSet_invalid hp]; rfl
  | some t =>
    simp only [takeoverSet, hp, done]
    split
    · split <;> simp
    · split
      · split <;> simp
      · split <;> simp

theorem takeoverDismiss_cabinFilm (s : State) : (takeoverDismiss s).state.audio.cabinFilm = s.audio.cabinFilm := by
  unfold takeoverDismiss
  split <;> simp [done, refuse]

theorem guideSet_cabinFilm (p : GuideSetParams) (s : State) :
    (guideSet p s).state.audio.cabinFilm = s.audio.cabinFilm := by
  unfold guideSet
  split <;> rfl

theorem steerTableSet_cabinFilm (values : List Nat) (s : State) :
    (steerTableSet values s).state.audio.cabinFilm = s.audio.cabinFilm := by
  unfold steerTableSet
  split
  · rfl
  · split <;> rfl

theorem rowTableSet_cabinFilm (rows : SizedList RowParams) (s : State) :
    (rowTableSet rows s).state.audio.cabinFilm = s.audio.cabinFilm := by
  unfold rowTableSet
  split
  · rfl
  · split <;> rfl

theorem bandTableSet_cabinFilm (bands : List GuideBand) (s : State) :
    (bandTableSet bands s).state.audio.cabinFilm = s.audio.cabinFilm := by
  unfold bandTableSet
  split <;> rfl

/-! ### Zones and chimes (R122, R123, R133, R136, R146, R147) -/

theorem zoneSet_cabinFilm (zone option : Nat) (p : ZoneParams) (s : State) :
    (zoneSet zone option p s).state.audio.cabinFilm = s.audio.cabinFilm := by
  unfold zoneSet
  split
  · rfl
  · split
    · rfl
    · split
      · rfl
      · split
        · rfl
        · simp [report]

theorem volumeTableSet_cabinFilm (values : List Nat) (s : State) :
    (volumeTableSet values s).state.audio.cabinFilm = s.audio.cabinFilm := by
  unfold volumeTableSet
  split
  · rfl
  · split <;> rfl

theorem chimeDefine_cabinFilm (id option : Nat) (p : Option ChimeParams) (s : State) :
    (chimeDefine id option p s).state.audio.cabinFilm = s.audio.cabinFilm := by
  unfold chimeDefine
  split
  · rfl
  · split
    · rfl
    · split
      · split <;> rfl
      · split
        · split
          · rfl
          · split <;> rfl
        · rfl

theorem chimePlay_cabinFilm (id mask : Nat) (s : State) :
    (chimePlay id mask s).state.audio.cabinFilm = s.audio.cabinFilm := by
  unfold chimePlay
  split
  · rename_i i m _ _
    split
    · rfl
    · rename_i c _
      dsimp only
      generalize (if m.isEmpty = true then c.zones else m.inter c.zones) = z
      split
      · rfl
      · split
        · rfl
        · split
          · rfl
          · have settled : (settleRequest i z c false s).2.audio.cabinFilm = s.audio.cabinFilm := by simp
            generalize settleRequest i z c false s = q at settled ⊢
            split <;> exact settled
  · rfl

theorem chimeStop_cabinFilm (id : Nat) (s : State) : (chimeStop id s).state.audio.cabinFilm = s.audio.cabinFilm := by
  unfold chimeStop
  split
  · rfl
  · have dispatched : ∀ u, (dispatchAfter s u).audio.cabinFilm = u.audio.cabinFilm := fun u => by simp
    have suspended : ∀ (b : Bool) (u : State),
        (if b then setProximity .suspended u else u).audio.cabinFilm = u.audio.cabinFilm := fun b u => by
      split <;> simp
    refine (dispatched _).trans ((suspended _ _).trans ?_)
    refine (foldl_keeps (fun s => s.audio.cabinFilm) _ (fun u v => ?_) _ _).trans (by simp)
    dsimp only
    split <;> simp

theorem proximitySet_cabinFilm (id : Nat) (bands : List ProximityBand) (s : State) :
    (proximitySet id bands s).state.audio.cabinFilm = s.audio.cabinFilm := by
  unfold proximitySet
  split <;> simp [done, refuse]

/-! ### The asset store (R164 to R172) -/

theorem assetBegin_cabinFilm (id kind length : Nat) (s : State) :
    (assetBegin id kind length s).state.audio.cabinFilm = s.audio.cabinFilm := by
  unfold assetBegin
  dsimp only [report, refuse]
  split
  · rfl
  · split
    · rfl
    · split
      · rfl
      · split
        · rfl
        · split <;> simp

@[simp] theorem fillPage_cabinFilm (p : Nat) (bytes : List Byte) (s : State) :
    (fillPage p bytes s).audio.cabinFilm = s.audio.cabinFilm := by
  unfold fillPage
  dsimp only
  split <;> simp

theorem assetData_cabinFilm (offset : Nat) (bytes : List Byte) (s : State) :
    (assetData offset bytes s).state.audio.cabinFilm = s.audio.cabinFilm := by
  unfold assetData
  dsimp only [refuseExpecting, report]
  split
  · rfl
  · split
    · rfl
    · split
      · rfl
      · split
        · rfl
        · split
          · rfl
          · split
            · rfl
            · split
              · rfl
              · dsimp only
                split <;> simp

theorem assetEnd_cabinFilm (crc : BitVec 32) (s : State) :
    (assetEnd crc s).state.audio.cabinFilm = s.audio.cabinFilm := by
  unfold assetEnd
  dsimp only [refuseExpecting]
  split
  · rfl
  · split
    · rfl
    · split
      · rfl
      · split
        · rfl
        · dsimp only
          split <;> simp

theorem assetDelete_cabinFilm (id : Nat) (s : State) :
    (assetDelete id s).state.audio.cabinFilm = s.audio.cabinFilm := by
  unfold assetDelete
  split
  · rfl
  · split
    · rfl
    · split
      · rfl
      · split
        · rfl
        · simp [done]

theorem assetInfo_cabinFilm (id : Nat) (s : State) : (assetInfo id s).state.audio.cabinFilm = s.audio.cabinFilm := by
  unfold assetInfo
  split
  · rfl
  · split
    · rfl
    · split <;> rfl

theorem storeAbort_cabinFilm (s : State) : (storeAbort s).state.audio.cabinFilm = s.audio.cabinFilm := by
  unfold storeAbort
  split
  · rfl
  · split
    · rfl
    · dsimp only
      split <;> simp [done]

/-! ### Links, counters and attention (R182, R189, R192) -/

theorem linkRetrain_cabinFilm (link : Nat) (s : State) :
    (linkRetrain link s).state.audio.cabinFilm = s.audio.cabinFilm := by
  unfold linkRetrain
  split
  · rfl
  · split
    · rfl
    · simp [done, retrain]
  · simp [done, retrain]

theorem attentionAck_cabinFilm (f : BitVec 16) (s : State) :
    (attentionAck f s).state.audio.cabinFilm = s.audio.cabinFilm := by
  unfold attentionAck
  split <;> rfl

theorem noticeMaskSet_cabinFilm (m : BitVec 16) (s : State) :
    (noticeMaskSet m s).state.audio.cabinFilm = s.audio.cabinFilm := by
  unfold noticeMaskSet
  split <;> rfl

end Sys2Proof.Machine
end

section
/-! Menus and keys leave CABIN's film as it is, and so does every command (R105 to R115, R186 to R195). -/

namespace Sys2Proof.Machine

/-! ### Seat contexts and pages (R105 to R110) -/

@[simp] theorem changeSeat_cabinFilm (k : Seat) (c : SeatContext) (s : State) :
    (changeSeat k c s).audio.cabinFilm = s.audio.cabinFilm := by
  simp [changeSeat]

@[simp] theorem openMenu_cabinFilm (k : Seat) (s : State) : (openMenu k s).audio.cabinFilm = s.audio.cabinFilm := by
  simp [openMenu]

@[simp] theorem closeMenu_cabinFilm (k : Seat) (s : State) : (closeMenu k s).audio.cabinFilm = s.audio.cabinFilm := by
  simp [closeMenu]

theorem inactivityExpires_cabinFilm (k : Seat) (s : State) :
    (inactivityExpires k s).audio.cabinFilm = s.audio.cabinFilm := by
  unfold inactivityExpires
  split <;> simp

@[simp] theorem pageChanged_cabinFilm (n : Fin 16) (s : State) :
    (pageChanged n s).audio.cabinFilm = s.audio.cabinFilm := by
  have settled : ∀ u, (seats.foldl (fun s k => settleSeat n k s) u).audio.cabinFilm = u.audio.cabinFilm :=
    foldl_keeps (fun s => s.audio.cabinFilm) _ (fun s k => by unfold settleSeat; dsimp only; split <;> simp) _
  unfold pageChanged
  dsimp only
  split <;> simp [settled]

/-! ### Keys (R111 to R114) -/

@[simp] theorem popPage_cabinFilm (k : Seat) (s : State) : (popPage k s).audio.cabinFilm = s.audio.cabinFilm := by
  unfold popPage
  dsimp only
  split <;> simp

@[simp] theorem pushPage_cabinFilm (k : Seat) (n : Fin 16) (s : State) :
    (pushPage k n s).state.audio.cabinFilm = s.audio.cabinFilm := by
  unfold pushPage
  dsimp only
  split <;> simp

@[simp] theorem moveHighlight_cabinFilm (k : Seat) (target : Option Nat) (s : State) :
    (moveHighlight k target s).state.audio.cabinFilm = s.audio.cabinFilm := by
  cases target <;> simp [moveHighlight]

@[simp] theorem volumeStep_cabinFilm (k : Seat) (up : Bool) (s : State) :
    (volumeStep k up s).state.audio.cabinFilm = s.audio.cabinFilm := by
  unfold volumeStep
  dsimp only
  split <;> split <;> simp

@[simp] theorem brightnessStep_cabinFilm (k : Seat) (up : Bool) (s : State) :
    (brightnessStep k up s).state.audio.cabinFilm = s.audio.cabinFilm := by
  unfold brightnessStep
  dsimp only
  split <;> split <;> simp

@[simp] theorem performAction_cabinFilm (k : Seat) (a : Action) (s : State) :
    (performAction k a s).state.audio.cabinFilm = s.audio.cabinFilm := by
  cases a <;> simp [performAction]

@[simp] theorem selectItem_cabinFilm (k : Seat) (s : State) :
    (selectItem k s).state.audio.cabinFilm = s.audio.cabinFilm := by
  unfold selectItem
  split
  · rfl
  · split <;> simp

@[simp] theorem menuKey_cabinFilm (k : Seat) (s : State) : (menuKey k s).state.audio.cabinFilm = s.audio.cabinFilm := by
  unfold menuKey
  dsimp only
  split
  · simp
  · split <;> simp

@[simp] theorem keyEffect_cabinFilm (k : Seat) (code : Nat) (s : State) :
    (keyEffect k code s).state.audio.cabinFilm = s.audio.cabinFilm := by
  unfold keyEffect
  dsimp only
  split <;> simp

@[simp] theorem touchTimer_cabinFilm (k : Seat) (s : State) : (touchTimer k s).audio.cabinFilm = s.audio.cabinFilm := by
  rcases touchTimer_cases k s with ⟨-, e⟩ | ⟨-, -, e⟩ | ⟨-, -, e⟩ <;> rw [e]
  · simp
  · simp

theorem keyArrives_cabinFilm (k : Seat) (code : Nat) (s : State) :
    (keyArrives k code s).audio.cabinFilm = s.audio.cabinFilm := by
  unfold keyArrives
  dsimp only
  split
  · simp
  · split
    · simp
    · split <;> simp [keyChime]

/-! ### Menu commands (R106 to R109, R115) -/

theorem pageSet_cabinFilm (page : Nat) (title : List Nat) (items : SizedList ItemParams) (s : State) :
    (pageSet page title items s).state.audio.cabinFilm = s.audio.cabinFilm := by
  unfold pageSet
  split
  · rfl
  · split <;> simp [done, refuse]

theorem itemSet_cabinFilm (page item : Nat) (p : ItemParams) (s : State) :
    (itemSet page item p s).state.audio.cabinFilm = s.audio.cabinFilm := by
  unfold itemSet
  split
  · split
    · rfl
    · split <;> simp [done, refuse]
  · rfl

theorem pageClear_cabinFilm (page : Nat) (s : State) :
    (pageClear page s).state.audio.cabinFilm = s.audio.cabinFilm := by
  have left : ∀ (n : Fin 16) (u : State), (seats.foldl (fun (s : State) k =>
      s.setSeat k ((s.seat k).withoutPage n s.items)) u).audio.cabinFilm = u.audio.cabinFilm :=
    fun n => foldl_keeps (fun s => s.audio.cabinFilm) _ (fun s k => by simp) _
  unfold pageClear
  split
  · rfl
  · split
    · rfl
    · dsimp only [done]
      split <;> simp [left]

theorem menuSet_cabinFilm (q : MenuSetParams) (s : State) :
    (menuSet q s).state.audio.cabinFilm = s.audio.cabinFilm := by
  unfold menuSet
  split <;> simp [done, refuse]

theorem menuOpen_cabinFilm (seat : Nat) (s : State) : (menuOpen seat s).state.audio.cabinFilm = s.audio.cabinFilm := by
  unfold menuOpen
  split
  · rfl
  · dsimp only
    split
    · rfl
    · split <;> simp [done, refuse]

theorem menuClose_cabinFilm (seat : Nat) (s : State) :
    (menuClose seat s).state.audio.cabinFilm = s.audio.cabinFilm := by
  unfold menuClose
  split
  · rfl
  · dsimp only [done]
    split <;> simp

theorem menuLock_cabinFilm (seat locked : Nat) (s : State) :
    (menuLock seat locked s).state.audio.cabinFilm = s.audio.cabinFilm := by
  unfold menuLock
  split
  · split
    · rfl
    · dsimp only [done]
      split <;> simp
  · rfl

/-! ### Counters (R189) -/

theorem countersRead_cabinFilm (group clear : Nat) (s : State) :
    (countersRead group clear s).state.audio.cabinFilm = s.audio.cabinFilm := by
  have cleared : ∀ g, (clearGroup g s).audio.cabinFilm = s.audio.cabinFilm := fun g => by cases g <;> rfl
  unfold countersRead
  split
  · dsimp only [report]
    split
    · exact cleared _
    · rfl
  · rfl

/-! ### Every command (R186, R187, R194) -/

/-- No command has an effect on what CABIN has of film. -/
theorem perform_cabinFilm (c : Command) (s : State) : (perform c s).state.audio.cabinFilm = s.audio.cabinFilm := by
  cases c with
  | tagSet p => exact tagSet_cabinFilm p s
  | tagClear t => exact tagClear_cabinFilm t s
  | tagRead t => exact tagRead_cabinFilm t s
  | ringSet p => exact ringSet_cabinFilm p s
  | panelSet p => exact panelSet_cabinFilm p s
  | panelWake p => exact panelWake_cabinFilm p s
  | panelSleep p => exact panelSleep_cabinFilm p s
  | panelBlank p => exact panelBlank_cabinFilm p true s
  | panelShow p => exact panelBlank_cabinFilm p false s
  | panelLevel p l => exact panelLevel_cabinFilm p l s
  | layerSet p => exact layerSet_cabinFilm p s
  | layerClear p l => exact layerClear_cabinFilm p l s
  | panelRead p => exact panelRead_cabinFilm p s
  | cameraSet p => exact cameraSet_cabinFilm p s
  | takeoverSet p => exact takeoverSet_cabinFilm p s
  | takeoverDismiss => exact takeoverDismiss_cabinFilm s
  | takeoverRead => rfl
  | guideSet p => exact guideSet_cabinFilm p s
  | steerTableSet vs => exact steerTableSet_cabinFilm vs s
  | rowTableSet rows => exact rowTableSet_cabinFilm rows s
  | bandTableSet bands => exact bandTableSet_cabinFilm bands s
  | menuSet q => exact menuSet_cabinFilm q s
  | pageSet n title items => exact pageSet_cabinFilm n title items s
  | pageClear n => exact pageClear_cabinFilm n s
  | itemSet n i p => exact itemSet_cabinFilm n i p s
  | menuOpen k => exact menuOpen_cabinFilm k s
  | menuClose k => exact menuClose_cabinFilm k s
  | menuLock k l => exact menuLock_cabinFilm k l s
  | zoneSet z o p => exact zoneSet_cabinFilm z o p s
  | volumeTableSet vs => exact volumeTableSet_cabinFilm vs s
  | chimeDefine n o p => exact chimeDefine_cabinFilm n o p s
  | chimePlay n z => exact chimePlay_cabinFilm n z s
  | chimeStop n => exact chimeStop_cabinFilm n s
  | proximitySet n bands => exact proximitySet_cabinFilm n bands s
  | assetBegin n k l => exact assetBegin_cabinFilm n k l s
  | assetData o bs => exact assetData_cabinFilm o bs s
  | assetEnd c => exact assetEnd_cabinFilm c s
  | assetDelete n => exact assetDelete_cabinFilm n s
  | assetInfo n => exact assetInfo_cabinFilm n s
  | storeStatus => rfl
  | storeAbort => exact storeAbort_cabinFilm s
  | linkRetrain l => exact linkRetrain_cabinFilm l s
  | countersRead g c => exact countersRead_cabinFilm g c s
  | attentionAck f => exact attentionAck_cabinFilm f s
  | noticeMaskSet m => exact noticeMaskSet_cabinFilm m s
  | identify => rfl
  | softReset => rfl

theorem answerPacket_cabinFilm (inProfile : Bool) (p : ControlPacket) (s : State) :
    (answerPacket inProfile p s).state.audio.cabinFilm = s.audio.cabinFilm := by
  unfold answerPacket
  split
  · rfl
  · split
    · rfl
    · split
      · rfl
      · split
        · rfl
        · exact perform_cabinFilm _ s

theorem handAnswer_cabinFilm (mark code : Byte) (a : Answer) :
    (handAnswer mark code a).audio.cabinFilm = a.state.audio.cabinFilm := by
  unfold handAnswer
  dsimp only
  split
  case h_1 => simp
  case h_2 => simp
  case h_3 => simp
  case h_4 => split <;> simp

theorem runCommand_cabinFilm (mark : Byte) (c : Command) (s : State) :
    (runCommand mark c s).audio.cabinFilm = s.audio.cabinFilm := by
  have answered : (answerCommand c s).state.audio.cabinFilm = s.audio.cabinFilm := by
    unfold answerCommand
    split
    · rfl
    · exact perform_cabinFilm c s
  unfold runCommand
  split
  · exact (handAnswer_cabinFilm _ _ _).trans answered
  · rfl

theorem takeCommand_cabinFilm (s : State) : (takeCommand s).audio.cabinFilm = s.audio.cabinFilm := by
  unfold takeCommand
  split
  · rfl
  · split
    · exact (handAnswer_cabinFilm _ _ _).trans (answerPacket_cabinFilm false _ _)
    · rfl

/-! ### Profile entries (R194) -/

theorem suppressReply_cabinFilm (a : Answer) : (suppressReply a).audio.cabinFilm = a.state.audio.cabinFilm := by
  unfold suppressReply
  split <;> simp [retrain]

theorem rejectEntry_cabinFilm (s : State) : (rejectEntry s).audio.cabinFilm = s.audio.cabinFilm := by
  simp [rejectEntry]

theorem runEntry_cabinFilm (packet : List Byte) (s : State) :
    (runEntry packet s).audio.cabinFilm = s.audio.cabinFilm := by
  unfold runEntry
  split
  · exact rejectEntry_cabinFilm s
  · split
    · exact rejectEntry_cabinFilm s
    · dsimp only
      generalize ControlPacket.mk _ _ _ _ = p
      have executed : (suppressReply (answerPacket true p s)).audio.cabinFilm = s.audio.cabinFilm :=
        (suppressReply_cabinFilm _).trans (answerPacket_cabinFilm true p s)
      split
      · exact executed
      · exact (rejectEntry_cabinFilm _).trans executed

theorem skipEntry_cabinFilm (l : Nat) (s : State) : (skipEntry l s).audio.cabinFilm = s.audio.cabinFilm := by
  unfold skipEntry
  split <;> rfl

theorem afterEntry_cabinFilm (s : State) : (afterEntry s).audio.cabinFilm = s.audio.cabinFilm := by
  unfold afterEntry
  split
  · rfl
  · split <;> simp

theorem takeEntry_cabinFilm (s : State) : (takeEntry s).audio.cabinFilm = s.audio.cabinFilm := by
  unfold takeEntry
  split
  · split
    · rfl
    · split
      · simp
      · split
        · simp
        · rw [afterEntry_cabinFilm, runEntry_cabinFilm, skipEntry_cabinFilm]
  · rfl

/-! ### The uplink (R179, R180) -/

theorem appendWaiting_cabinFilm (s : State) : (appendWaiting s).audio.cabinFilm = s.audio.cabinFilm := by
  unfold appendWaiting
  split <;> simp

theorem sendCompletes_cabinFilm (s : State) : (sendCompletes s).audio.cabinFilm = s.audio.cabinFilm := by
  unfold sendCompletes
  split
  · split
    · rfl
    · dsimp only
      split
      · rw [retrain, linkDrops_cabinFilm, appendWaiting_cabinFilm, emit]
      · rw [appendWaiting_cabinFilm, emit]
  · rfl

theorem waitingAppends_cabinFilm (s : State) : (waitingAppends s).audio.cabinFilm = s.audio.cabinFilm := by
  unfold waitingAppends
  split
  · split
    · exact appendWaiting_cabinFilm s
    · exact sendCompletes_cabinFilm s
  · rfl

end Sys2Proof.Machine
end

section
/-! A zone's block event (R118, R120, R127, R129, R130). -/

namespace Sys2Proof.Machine

variable {r : ZoneRecord} {s : State} {z : Zone}

/-! ### The film of a block (R120) -/

theorem takeFilm_priming (h : r.fifoState = .priming) : takeFilm r = (List.replicate 48 ⟨0, 0⟩, r) := by
  simp [takeFilm, h, Config.blockFrames]

theorem takeFilm_enough (playing : r.fifoState = .playing) (h : 48 ≤ r.fifo.length) :
    takeFilm r = (r.fifo.take 48, { r with fifo := r.fifo.drop 48 }) := by
  simp [takeFilm, playing, Config.blockFrames, h]

theorem takeFilm_short (playing : r.fifoState = .playing) (h : r.fifo.length < 48) :
    takeFilm r = (r.fifo ++ List.replicate (48 - r.fifo.length) ⟨0, 0⟩,
      { r with fifo := [], fifoState := .priming, underflow := bump r.underflow }) := by
  simp [takeFilm, playing, Config.blockFrames, Nat.not_le.mpr h]

/-- The film frames of a block: silence in PRIMING, else the oldest 48, made up with silence. -/
def ZoneRecord.film (r : ZoneRecord) : List StereoFrame :=
  match r.fifoState with
  | .priming => List.replicate 48 ⟨0, 0⟩
  | .playing => (r.fifo ++ List.replicate 48 (⟨0, 0⟩ : StereoFrame)).take 48

/-- What a block leaves of the FIFO. -/
def ZoneRecord.filmLeft (r : ZoneRecord) : List StereoFrame :=
  match r.fifoState with
  | .priming => r.fifo
  | .playing => r.fifo.drop 48

theorem ZoneRecord.film_length (r : ZoneRecord) : r.film.length = 48 := by
  unfold ZoneRecord.film
  split <;> simp

theorem ZoneRecord.film_short (playing : r.fifoState = .playing) (h : r.fifo.length < 48) :
    r.film = r.fifo ++ List.replicate (48 - r.fifo.length) ⟨0, 0⟩ := by
  simp only [ZoneRecord.film, playing]
  rw [List.take_append, List.take_of_length_le (Nat.le_of_lt h), List.take_replicate, Nat.min_eq_left (Nat.sub_le _ _)]

theorem takeFilm_film (r : ZoneRecord) : (takeFilm r).1 = r.film ∧ (takeFilm r).2.fifo = r.filmLeft := by
  cases state : r.fifoState with
  | priming => simp [takeFilm_priming state, ZoneRecord.film, ZoneRecord.filmLeft, state]
  | playing =>
    rcases Nat.lt_or_ge r.fifo.length 48 with short | enough
    · simp [takeFilm_short state short, r.film_short state short, ZoneRecord.filmLeft, state, Nat.le_of_lt short]
    · simp [takeFilm_enough state enough, ZoneRecord.film, ZoneRecord.filmLeft, state, List.take_append_of_le_length enough]

/-- The film leaves the settings and the count of saturations to the rest of the block. -/
theorem takeFilm_keeps (r : ZoneRecord) :
    (takeFilm r).2.settings = r.settings ∧ (takeFilm r).2.saturate = r.saturate := by
  cases state : r.fifoState with
  | priming => simp [takeFilm_priming state]
  | playing =>
    rcases Nat.lt_or_ge r.fifo.length 48 with short | enough
    · simp [takeFilm_short state short]
    · simp [takeFilm_enough state enough]

/-- Only a PLAYING FIFO that is short goes to PRIMING and counts. -/
theorem takeFilm_steady (h : r.fifoState = .priming ∨ 48 ≤ r.fifo.length) :
    (takeFilm r).2.fifoState = r.fifoState ∧ (takeFilm r).2.underflow = r.underflow := by
  cases state : r.fifoState with
  | priming => simp [takeFilm_priming state, state]
  | playing => simp [takeFilm_enough state (h.resolve_left (by simp [state])), state]

theorem ZoneRecord.underflows_short (playing : r.fifoState = .playing) (h : r.fifo.length < 48) :
    r.underflows = true := by
  simp [ZoneRecord.underflows, playing, Config.blockFrames, h]

theorem ZoneRecord.underflows_steady (h : r.fifoState = .priming ∨ 48 ≤ r.fifo.length) : r.underflows = false := by
  rcases h with priming | enough
  · simp [ZoneRecord.underflows, priming]
  · exact decide_eq_false fun ⟨_, short⟩ => Nat.not_lt.mpr enough short

/-! ### The mix of a block (R129, R130) -/

/-- The film and chime samples that a block mixes, frame by frame. -/
def blockPairs (s : State) (z : Zone) : List (StereoFrame × Int) := (s.zone z).film.zip (chimeBlock s z)

theorem chimeBlock_length (blocks : ∀ v, (s.voice v).block.length = 48) (z : Zone) : (chimeBlock s z).length = 48 := by
  unfold chimeBlock
  split
  · exact blocks _
  · simp [Config.blockFrames]

theorem blockPairs_length (blocks : ∀ v, (s.voice v).block.length = 48) (z : Zone) : (blockPairs s z).length = 48 := by
  simp [blockPairs, ZoneRecord.film_length, chimeBlock_length blocks]

/-- A block saturates at most its 96 samples. -/
theorem blockSaturations_le (blocks : ∀ v, (s.voice v).block.length = 48) (z : Zone) (g : MixGains) :
    ((blockPairs s z).map fun p => frameSaturations g p.1 p.2).sum ≤ 96 := by
  have each : ∀ n ∈ (blockPairs s z).map (fun p => frameSaturations g p.1 p.2), n ≤ 2 := fun n hn => by
    obtain ⟨p, -, rfl⟩ := List.mem_map.mp hn
    exact frameSaturations_le g p.1 p.2
  simpa [blockPairs_length blocks] using List.sum_le_card_nsmul _ 2 each

theorem zoneAfterBlock_eq (s : State) (z : Zone) : zoneAfterBlock s z = { (takeFilm (s.zone z)).2 with
    gain := (s.zone z).steppedGain,
    output := (blockPairs s z).map fun p => mixFrame (mixGains s z) p.1 p.2,
    saturate := bumpBy (s.zone z).saturate
      ((blockPairs s z).map fun p => frameSaturations (mixGains s z) p.1 p.2).sum } := by
  rw [blockPairs, ← (takeFilm_film (s.zone z)).1, ← (takeFilm_keeps (s.zone z)).2]
  rfl

theorem raiseFlag_audio (f : Flag) (s : State) : (raiseFlag f s).audio = s.audio := by simp

/-- The block event changes its zone's record, and raises AUDIO_UNDERFLOW where it finds a PLAYING FIFO short. -/
theorem zoneBlock_zone (z : Zone) (s : State) : (zoneBlock z s).zone z = zoneAfterBlock s z := by
  unfold zoneBlock
  dsimp only
  split
  · rw [zone_of_audio (raiseFlag_audio _ _), State.zone_setZone]
  · exact State.zone_setZone _ _ _

theorem zoneBlock_zone_other {y : Zone} (h : y ≠ z) (s : State) : (zoneBlock z s).zone y = s.zone y := by
  unfold zoneBlock
  dsimp only
  split
  · rw [zone_of_audio (raiseFlag_audio _ _), State.zone_setZone_ne _ _ _ _ h]
  · exact State.zone_setZone_ne _ _ _ _ h

theorem zoneBlock_steady (h : (s.zone z).fifoState = .priming ∨ 48 ≤ (s.zone z).fifo.length) :
    zoneBlock z s = s.setZone z (zoneAfterBlock s z) := by
  simp [zoneBlock, (s.zone z).underflows_steady h]

theorem zoneBlock_underflow (playing : (s.zone z).fifoState = .playing) (h : (s.zone z).fifo.length < 48) :
    zoneBlock z s = raiseFlag .audioUnderflow (s.setZone z (zoneAfterBlock s z)) := by
  simp [zoneBlock, (s.zone z).underflows_short playing h]

/-- A block's output and count of saturations, with voices whose blocks are whole and room in the counter. -/
theorem zoneAfterBlock_mix (blocks : ∀ v, (s.voice v).block.length = 48) (room :
    (s.zone z).saturate + 96 ≤ 4294967295) :
    (zoneAfterBlock s z).output = (blockPairs s z).map (fun p => mixFrame (mixGains s z) p.1 p.2) ∧
    (zoneAfterBlock s z).output.length = 48 ∧
    (zoneAfterBlock s z).saturate = (s.zone z).saturate +
      ((blockPairs s z).map fun p => frameSaturations (mixGains s z) p.1 p.2).sum := by
  have few := blockSaturations_le blocks z (mixGains s z)
  rw [zoneAfterBlock_eq]
  refine ⟨rfl, by simp [blockPairs_length blocks], ?_⟩
  dsimp only [bumpBy, Config.counterMax]
  omega

end Sys2Proof.Machine
end

section
/-! CABIN's film FIFO is empty in PRIMING, at reset and after every step (R118). -/

namespace Sys2Proof.Machine

variable {s t : State}

/-- CABIN has no film. -/
def CabinQuiet (s : State) : Prop := s.audio.cabinFilm = ([], .priming)

theorem cabinQuiet_iff : CabinQuiet s ↔ (s.zone .cabin).fifo = [] ∧ (s.zone .cabin).fifoState = .priming :=
  Prod.mk_inj

theorem CabinQuiet.of_film (quiet : CabinQuiet s) (film : t.audio.cabinFilm = s.audio.cabinFilm) : CabinQuiet t :=
  film.trans quiet

theorem cabinQuiet_reset : CabinQuiet .reset := rfl

/-! ### Block events and the clock (R118, log entry 19) -/

/-- A block event takes nothing of a FIFO in PRIMING, and a seat zone's block nothing of CABIN's. -/
theorem CabinQuiet.zoneBlock (quiet : CabinQuiet s) (z : Zone) : CabinQuiet (zoneBlock z s) := by
  obtain ⟨empty, priming⟩ := cabinQuiet_iff.mp quiet
  rw [cabinQuiet_iff]
  by_cases cabin : z = .cabin
  · subst cabin
    simp [zoneBlock_zone, zoneAfterBlock_eq, takeFilm_priming priming, empty, priming]
  · rw [zoneBlock_zone_other (Ne.symm cabin)]
    exact ⟨empty, priming⟩

theorem whenDue_cabinFilm {due : Bool} {event : State → State} (kept : (event s).audio.cabinFilm = s.audio.cabinFilm) :
    (whenDue due event s).audio.cabinFilm = s.audio.cabinFilm := by
  cases due
  · rfl
  · exact kept

theorem expireVehicle_cabinFilm (s : State) : (expireVehicle s).audio.cabinFilm = s.audio.cabinFilm := by
  unfold expireVehicle expireLinger expireWatchdog expireStart expireMismatch expireDebounce expireRecord
  rw [whenDue_cabinFilm (lingerExpires_cabinFilm _), whenDue_cabinFilm (watchdogExpires_cabinFilm _),
    whenDue_cabinFilm (startExpires_cabinFilm _), whenDue_cabinFilm (mismatchExpires_cabinFilm _),
    whenDue_cabinFilm (by simp), whenDue_cabinFilm (by simp)]

theorem voiceTime_cabinFilm (s : State) (v : Fin 4) : (voiceTime s v).audio.cabinFilm = s.audio.cabinFilm :=
  (whenDue_cabinFilm (gapExpires_cabinFilm v _)).trans (voiceBlock_cabinFilm v s)

theorem CabinQuiet.tick (quiet : CabinQuiet s) : CabinQuiet (tick s) := by
  have advanced : CabinQuiet (advanceTimers s) := quiet
  have vehicle := advanced.of_film (expireVehicle_cabinFilm _)
  have seats := vehicle.of_film (foldl_keeps (fun s => s.audio.cabinFilm) expireSeat
    (fun s k => whenDue_cabinFilm (inactivityExpires_cabinFilm k s)) seats _)
  have voices := seats.of_film (foldl_keeps (fun s => s.audio.cabinFilm) voiceTime voiceTime_cabinFilm [0, 1, 2, 3] _)
  exact List.foldlRecOn zones zoneTime voices fun u quiet z _ =>
    (quiet.of_film (whenDue_cabinFilm (holdExpires_cabinFilm z u))).zoneBlock z

/-! ### Resets (R193, R197) -/

theorem softResetEnds_cabinQuiet (s : State) : CabinQuiet (softResetEnds s) := by
  unfold CabinQuiet softResetEnds softResetBlocks softResetPanel
  simp
  rfl

theorem CabinQuiet.failPackets (quiet : CabinQuiet s) (ps : List ControlPacket) : CabinQuiet (failPackets ps s) := by
  induction ps generalizing s with
  | nil => exact softResetEnds_cabinQuiet s
  | cons p rest ih =>
    have replied : CabinQuiet (handReply (failedReply p) s) := quiet.of_film (by simp)
    unfold Machine.failPackets
    dsimp only
    split
    · exact replied
    · exact ih replied

theorem CabinQuiet.softResetEffect (quiet : CabinQuiet s) : CabinQuiet (softResetEffect s) := by
  unfold Machine.softResetEffect
  split
  · exact quiet
  · split
    · exact quiet
    · exact quiet
    · exact quiet.failPackets _

theorem CabinQuiet.idle (quiet : CabinQuiet s) : CabinQuiet (idle s) := by
  unfold Machine.idle
  split
  · exact quiet.softResetEffect
  · split
    · exact quiet.of_film (takeEntry_cabinFilm s)
    · split
      · exact quiet.of_film (takeCommand_cabinFilm s)
      · exact quiet.tick

/-! ### The step -/

/-- A packet's arrival, where its owner's work leaves CABIN's film. -/
theorem receive_cabinFilm {work : Packet → State → State}
    (works : ∀ p u, (work p u).audio.cabinFilm = u.audio.cabinFilm) (l : Link) (k : PacketKind) (bytes : List Byte)
    (s : State) : (receive l k bytes work s).audio.cabinFilm = s.audio.cabinFilm := by
  unfold receive
  split
  · rfl
  · exact (works _ _).trans (countPayload_cabinFilm l _ s)

/-- Every command and event: `t` is its next state. -/
theorem CabinQuiet.exec (quiet : CabinQuiet s) (i : Instr) (he : exec i s = .next t) : CabinQuiet t := by
  have ends : ∀ {v}, Host.Outcome.next v = (Host.Outcome.next t : Host.Outcome State Fault Refusal) →
      CabinQuiet v → CabinQuiet t := fun e hv => Host.Outcome.next.inj e ▸ hv
  have film : ∀ {v}, Host.Outcome.next v = (Host.Outcome.next t : Host.Outcome State Fault Refusal) →
      v.audio.cabinFilm = s.audio.cabinFilm → CabinQuiet t := fun e hv => ends e (quiet.of_film hv)
  cases i with
  | fullReset => exact ends he rfl
  | softResetEffect => exact ends he quiet.softResetEffect
  | zoneBlockEvent zone => exact ends he (quiet.zoneBlock zone)
  | keyPacket seat bytes => exact film he (receive_cabinFilm (fun _ u => keyArrives_cabinFilm seat _ u) _ _ _ s)
  | inactivityTimerExpiry seat => exact film he (inactivityExpires_cabinFilm seat s)
  | commandTake => exact film he (takeCommand_cabinFilm s)
  | profileEntry => exact film he (takeEntry_cabinFilm s)
  | reversePinChange level => exact film he (pinChanges_cabinFilm level s)
  | debounceExpiry => exact film he (debounceExpires_cabinFilm s)
  | vehiclePacket bytes => exact film he (receive_cabinFilm vehicleArrives_cabinFilm _ _ _ s)
  | recordStale => exact film he (recordStales_cabinFilm s)
  | mismatchTimerExpiry => exact film he (mismatchExpires_cabinFilm s)
  | startTimerExpiry => exact film he (startExpires_cabinFilm s)
  | watchdogExpiry => exact film he (watchdogExpires_cabinFilm s)
  | lingerTimerExpiry => exact film he (lingerExpires_cabinFilm s)
  | linkLock link => exact film he (reachUp_cabinFilm link s)
  | linkLossOfLock link => exact film he (lossOfLock_cabinFilm link s)
  | framePacket rx bytes => exact film he (receive_cabinFilm (frameArrives_cabinFilm rx) _ _ _ s)
  | linePacket rx bytes => exact film he (receive_cabinFilm (videoLine_cabinFilm rx) _ _ _ s)
  | fendPacket rx bytes => exact film he (receive_cabinFilm (fendArrives_cabinFilm rx) _ _ _ s)
  | audioPacket bytes => exact film he (receive_cabinFilm soundArrives_cabinFilm _ _ _ s)
  | ctrlPacket bytes => exact film he (receive_cabinFilm controlArrives_cabinFilm _ _ _ s)
  | lineWriteCompletion rx =>
    simp only [Machine.exec, execLineWriteCompletion] at he
    split at he
    · rename_i v written
      exact film he (lineWritten_cabinFilm written)
    · cases he
  | endOfFrame panel => exact film (v := endOfFrame panel s) he (by simp)
  | renderCompletion =>
    simp only [Machine.exec, execRenderCompletion] at he
    split at he
    · exact film he rfl
    · rename_i r _
      exact film (v := completeRender r s) he (by simp)
  | voiceBlockEvent voice => exact film he (voiceBlock_cabinFilm voice s)
  | gapTimerExpiry voice => exact film he (gapExpires_cabinFilm voice s)
  | holdTimerExpiry zone => exact film he (holdExpires_cabinFilm zone s)
  | arrayReady => exact film he (arrayReady_cabinFilm s)
  | pageReadCompletion failed => exact film he (readCompletes_cabinFilm failed s)
  | pageProgramCompletion verifiedPass => exact film he (programCompletes_cabinFilm verifiedPass s)
  | eraseCompletion failedBlocks => exact film he (eraseCompletes_cabinFilm failedBlocks s)
  | abortCompletion => exact film he (abortCompletes_cabinFilm s)
  | waitingReplyAppend => exact film he (waitingAppends_cabinFilm s)
  | sendCompletion => exact film he (sendCompletes_cabinFilm s)
  | resyncEndFlag link => exact film he (endFlag_cabinFilm link s)
  | overlongPacket link => exact film he (overlong_cabinFilm link s)
  | arrivedPacketDiscarded link bytes => exact film he (discardPacket_cabinFilm link bytes s)
  | _ => exact film he (runCommand_cabinFilm _ _ s)

theorem CabinQuiet.step (quiet : CabinQuiet s) (stepped : step s = .next t) : CabinQuiet t := by
  unfold Machine.step at stepped
  split at stepped
  · rename_i i rest _
    have popped : CabinQuiet { s with pending := rest } := quiet
    exact popped.exec i stepped
  · exact Host.Outcome.next.inj stepped ▸ quiet.idle

/-- Settles O33: CABIN's FIFO by every step, and a block event by the film it takes, its mix and its flag. -/
theorem zoneBlockTakesFilmAndMixes : Obligations.ZoneBlockTakesFilmAndMixes := by
  unfold Obligations.ZoneBlockTakesFilmAndMixes
  refine ⟨⟨cabinQuiet_iff.mp cabinQuiet_reset, fun s t quiet stepped =>
    cabinQuiet_iff.mp ((cabinQuiet_iff.mpr quiet).step stepped)⟩, fun z s blocks room => ?_⟩
  obtain ⟨output, length, saturate⟩ := zoneAfterBlock_mix blocks room
  obtain ⟨settings, -⟩ := takeFilm_keeps (s.zone z)
  have fifo := (takeFilm_film (s.zone z)).2
  refine ⟨zoneBlock z s, rfl, ?_⟩
  rw [zoneBlock_zone]
  refine ⟨?_, ?_, ?_, output, length, saturate, fun playing short => ?_, fun steady => ?_,
    fun y other => zoneBlock_zone_other other s, by simp, by simp⟩
  · rw [zoneAfterBlock_eq]
  · rw [zoneAfterBlock_eq]
    exact settings
  · rw [zoneAfterBlock_eq]
    exact fifo
  · rw [zoneAfterBlock_eq, takeFilm_short playing short, zoneBlock_underflow playing short]
    exact ⟨rfl, rfl, raiseFlag_raised _ _⟩
  · obtain ⟨fifoState, underflow⟩ := takeFilm_steady steady
    rw [zoneAfterBlock_eq, zoneBlock_steady steady]
    exact ⟨fifoState, underflow, by simp, by simp⟩

end Sys2Proof.Machine
end

section
/-! The Chime Engine's reading of the voices: which are not IDLE, what holds a zone, the start test and its victim (R134,
R137, R139, R141). -/

namespace Sys2Proof.Machine

variable {s : State} {v w : Fin 4}

/-! ### Sets of zones -/

theorem ZoneSet.isEmpty_iff (z : ZoneSet) : z.isEmpty = true ↔ z = .empty := by
  obtain ⟨l, r, c⟩ := z
  cases l <;> cases r <;> cases c <;> decide

theorem ZoneSet.minus_has (a b : ZoneSet) (k : Zone) : (a.minus b).has k = (a.has k && !b.has k) := by
  cases k <;> rfl

theorem ZoneSet.inter_nonempty_iff (a b : ZoneSet) :
    (a.inter b).isEmpty = false ↔ ∃ k : Zone, a.has k = true ∧ b.has k = true := by
  have single : ∀ k, (a.inter b).has k = true ↔ a.has k = true ∧ b.has k = true := fun k => by cases k <;> simp [inter, has]
  have some : (a.inter b).isEmpty = false ↔ ∃ k, (a.inter b).has k = true := by
    generalize a.inter b = c
    constructor
    · intro h
      by_contra none
      push Not at none
      simp [isEmpty, none .seatL, none .seatR, none .cabin, ← show c.has .seatL = c.seatL from rfl,
        ← show c.has .seatR = c.seatR from rfl, ← show c.has .cabin = c.cabin from rfl] at h
    · rintro ⟨k, h⟩
      cases k <;> simp_all [isEmpty, has]
  simp only [some, single]

theorem mem_zones (k : Zone) : k ∈ zones := by cases k <;> decide

/-! ### Voices (R139) -/

theorem Voice.busy_iff (r : Voice) : r.busy = true ↔ r.state ≠ .idle := by simp [Voice.busy]

theorem Voice.not_busy_iff (r : Voice) : r.busy = false ↔ r.state = .idle := by simp [Voice.busy]

theorem Voice.meets_iff (r : Voice) (z : ZoneSet) :
    r.meets z = true ↔ r.state ≠ .idle ∧ ∃ k : Zone, r.zones.has k = true ∧ z.has k = true := by
  rw [Voice.meets, Bool.and_eq_true, r.busy_iff, Bool.not_eq_true', ZoneSet.inter_nonempty_iff]

/-- The first index that meets a condition. -/
theorem find?_finRange {n : Nat} {p : Fin n → Bool} {i : Fin n} :
    (List.finRange n).find? p = some i ↔ p i = true ∧ ∀ j, j < i → p j = false := by
  simp only [List.find?_eq_some_iff_getElem, List.getElem_finRange, List.length_finRange, Bool.not_eq_true']
  refine and_congr_right fun _ => ⟨?_, fun before => ⟨i, i.isLt, rfl, fun j hj => before ⟨j, _⟩ hj⟩⟩
  rintro ⟨k, hk, rfl, before⟩ j hj
  exact before j hj

theorem holder_eq_some_iff (k : Zone) : holder s k = some v ↔ ((s.voice v).state ≠ .idle ∧ (s.voice v).zones.has k = true) ∧
    ∀ y, y < v → ¬ ((s.voice y).state ≠ .idle ∧ (s.voice y).zones.has k = true) := by
  simp [holder, find?_finRange]

/-- A voice that stands before another in the choice of the victim (R141 step 3). -/
def Voice.yieldsBefore (a b : Voice) : Prop := a.priority < b.priority ∨ (a.priority = b.priority ∧ a.start ≤ b.start)

/-- What the victim is among the voices of a list. -/
def VictimAmong (s : State) (vs : List (Fin 4)) : Option (Fin 4) → Prop
  | none => ∀ y ∈ vs, (s.voice y).state = .idle
  | some v => (s.voice v).state ≠ .idle ∧ ∀ y ∈ vs, (s.voice y).state ≠ .idle → (s.voice v).yieldsBefore (s.voice y)

/-- One more voice looked at in the choice of the victim. -/
def victimStep (s : State) (best : Option (Fin 4)) (v : Fin 4) : Option (Fin 4) :=
  if (s.voice v).busy then
    match best with
    | none => some v
    | some b =>
      if (s.voice v).priority < (s.voice b).priority
          ∨ ((s.voice v).priority = (s.voice b).priority ∧ (s.voice v).start < (s.voice b).start) then some v
      else best
  else best

theorem victim_eq (s : State) : victim s = (List.finRange 4).foldl (victimStep s) none := rfl

theorem VictimAmong.step {vs : List (Fin 4)} {best : Option (Fin 4)} (among : VictimAmong s vs best) (v : Fin 4) :
    VictimAmong s (vs ++ [v]) (victimStep s best v) := by
  unfold victimStep
  split
  case isFalse idle =>
    rw [Voice.busy_iff, not_not] at idle
    cases best <;> simp_all [VictimAmong, or_imp]
  case isTrue busy =>
    rw [Voice.busy_iff] at busy
    have self : (s.voice v).yieldsBefore (s.voice v) := .inr ⟨rfl, le_rfl⟩
    cases best with
    | none => simp_all [VictimAmong, or_imp]
    | some b =>
      obtain ⟨held, first⟩ := among
      dsimp only
      split
      case isTrue lower =>
        refine ⟨busy, fun y hy hb => ?_⟩
        rcases List.mem_append.mp hy with old | new
        · have := first y old hb
          unfold Voice.yieldsBefore at this ⊢
          omega
        · exact List.mem_singleton.mp new ▸ self
      case isFalse higher =>
        refine ⟨held, fun y hy hb => ?_⟩
        rcases List.mem_append.mp hy with old | new
        · exact first y old hb
        · rw [List.mem_singleton.mp new, Voice.yieldsBefore]
          omega

theorem victimAmong_foldl (s : State) (vs : List (Fin 4)) : VictimAmong s vs (vs.foldl (victimStep s) none) := by
  induction vs using List.reverseRecOn with
  | nil => simp [VictimAmong]
  | append_singleton vs v ih =>
    rw [List.foldl_append]
    exact ih.step v

theorem victim_eq_none_iff : victim s = none ↔ ∀ y, (s.voice y).state = .idle := by
  have among := victimAmong_foldl s (List.finRange 4)
  rw [← victim_eq] at among
  constructor
  · intro none y
    rw [none] at among
    exact among y (List.mem_finRange y)
  · intro idle
    cases h : victim s with
    | none => rfl
    | some v => exact absurd (idle v) (h ▸ among).1

theorem victim_spec (h : victim s = some v) :
    (s.voice v).state ≠ .idle ∧ ∀ y, (s.voice y).state ≠ .idle → (s.voice v).yieldsBefore (s.voice y) := by
  have among := victimAmong_foldl s (List.finRange 4)
  rw [← victim_eq, h] at among
  exact ⟨among.1, fun y => among.2 y (List.mem_finRange y)⟩

/-! ### Assets and the start test (R134, R141) -/

theorem usableAsset_eq_some_iff {n : Nat} {a : AssetRecord} :
    usableAsset n s = some a ↔ s.asset? n = some a ∧ a.kind = .chimePcm ∧ 2 ≤ a.length := by
  unfold usableAsset
  cases s.asset? n with
  | none => simp
  | some r =>
    simp only [Option.some.injEq, Option.ite_none_right_eq_some]
    constructor
    · rintro ⟨usable, rfl⟩; exact ⟨rfl, usable⟩
    · rintro ⟨rfl, usable⟩; exact ⟨usable, rfl⟩

theorem chimeAsset_eq_some_iff {i : Fin 32} {a : AssetRecord} :
    chimeAsset i s = some a ↔ ∃ c, s.chimeEntry i = some c ∧ usableAsset c.asset s = some a := by
  unfold chimeAsset
  cases s.chimeEntry i <;> simp

/-- Step 2 of the start test: no zone is held by a voice of the same or a higher priority. -/
theorem zonesPass_iff (p : Nat) (z : ZoneSet) : zonesPass p z s = true ↔
    ∀ k y, z.has k = true → holder s k = some y → (s.voice y).priority < p := by
  simp only [zonesPass, List.all_eq_true, mem_zones, forall_const]
  refine forall_congr' fun k => ?_
  cases z.has k <;> cases holder s k <;> simp

theorem voicePass_iff (p : Nat) (z : ZoneSet) : voicePass p z s = true ↔
    (∃ y, ¬ (s.voice y).state ≠ .idle) ∨ (∃ y, (s.voice y).meets z = true) ∨
      ∃ y, victim s = some y ∧ (s.voice y).priority < p := by
  simp only [voicePass, Bool.or_eq_true, or_assoc]
  refine or_congr (by simp [Voice.not_busy_iff]) (or_congr (by simp) ?_)
  cases victim s <;> simp

theorem startTest_iff (e : QueueEntry) : startTest e s = true ↔ (chimeAsset e.id s).isSome = true ∧
    (∀ z y, e.zones.has z = true → holder s z = some y → (s.voice y).priority < e.priority) ∧
    ((∃ y, ¬ (s.voice y).state ≠ .idle) ∨ (∃ y, (s.voice y).meets e.zones = true) ∨
      ∃ y, victim s = some y ∧ (s.voice y).priority < e.priority) := by
  rw [startTest, Bool.and_eq_true, Bool.and_eq_true, zonesPass_iff, voicePass_iff, and_assoc]

/-! ### The zones no voice of the chime covers (R137 step 1) -/

/-- A voice that covers its zones for a request of its chime. -/
def Voice.covers (r : Voice) (id : Fin 32) : Prop := r.state ≠ .idle ∧ r.id = id ∧ r.stopping = false

theorem Voice.covers_iff (r : Voice) (id : Fin 32) : (r.busy && r.id == id && !r.stopping) = true ↔ r.covers id := by
  simp [Voice.covers, Voice.busy_iff, and_assoc]

/-- What a voice leaves of a request's zones. -/
def Voice.leaves (r : Voice) (id : Fin 32) (z : ZoneSet) : ZoneSet :=
  if r.busy && r.id == id && !r.stopping then z.minus r.zones else z

theorem Voice.leaves_has (r : Voice) (id : Fin 32) (z : ZoneSet) (k : Zone) :
    (r.leaves id z).has k = true ↔ z.has k = true ∧ (r.covers id → r.zones.has k = false) := by
  unfold leaves
  split
  case isTrue covers =>
    rw [r.covers_iff] at covers
    simp [ZoneSet.minus_has, covers]
  case isFalse bare =>
    rw [r.covers_iff] at bare
    simp [bare]

theorem leaves_foldl_has (id : Fin 32) (z : ZoneSet) (k : Zone) (vs : List (Fin 4)) :
    (vs.foldl (fun z v => (s.voice v).leaves id z) z).has k = true ↔
      z.has k = true ∧ ∀ v ∈ vs, (s.voice v).covers id → (s.voice v).zones.has k = false := by
  induction vs generalizing z with
  | nil => simp
  | cons v vs ih => rw [List.foldl_cons, ih, List.forall_mem_cons, Voice.leaves_has, and_assoc]

theorem uncovered_eq (id : Fin 32) (z : ZoneSet) (s : State) :
    uncovered id z s = (List.finRange 4).foldl (fun z v => (s.voice v).leaves id z) z := rfl

theorem uncovered_has (id : Fin 32) (z : ZoneSet) (k : Zone) : (uncovered id z s).has k = true ↔
    z.has k = true ∧ ∀ v, (s.voice v).covers id → (s.voice v).zones.has k = false := by
  simp only [uncovered_eq, leaves_foldl_has, List.mem_finRange, forall_const]

end Sys2Proof.Machine
end

section
/-! Queue entries placed, merged and removed, and a voice silenced (R138, R142). -/

namespace Sys2Proof.Machine

variable {s : State} {v : Fin 4}

/-! ### The queue (R138) -/

/-- An entry goes before another of lower priority, or of its own priority and a later arrival (R138). -/
def QueueEntry.before (e x : QueueEntry) : Bool := decide (x.priority < e.priority ∨ (x.priority = e.priority ∧ e.arrival < x.arrival))

theorem insertEntry_eq (e : QueueEntry) (q : List QueueEntry) :
    insertEntry e q = q.takeWhile (fun x => !e.before x) ++ e :: q.dropWhile fun x => !e.before x := by
  induction q with
  | nil => rfl
  | cons x xs ih =>
    unfold insertEntry
    by_cases first : x.priority < e.priority ∨ (x.priority = e.priority ∧ e.arrival < x.arrival)
    · have before : e.before x = true := decide_eq_true first
      simp [if_pos first, before]
    · have after : e.before x = false := decide_eq_false first
      simp [if_neg first, after, ih]

theorem queued?_isSome_iff (i : Fin 32) : (s.queued? i).isSome = true ↔ ∃ x ∈ s.chime.queue, x.id = i := by
  simp [State.queued?]

theorem queued?_eq_none_iff (i : Fin 32) : s.queued? i = none ↔ ∀ x ∈ s.chime.queue, x.id ≠ i := by
  simp [State.queued?]

theorem removeEntry_eq (e : QueueEntry) (s : State) : removeEntry e s = { s with
    chime.queue := s.chime.queue.filter fun x => decide (x.id ≠ e.id),
    chime.proximity := if e.proximity = true ∧ s.chime.proximity = .requested then .quiet else s.chime.proximity } := by
  unfold removeEntry
  dsimp only
  split <;> rfl

/-! ### A voice silenced (R142) -/

/-- A voice that goes back to the queue when it is silenced. -/
def Voice.returns (r : Voice) : Prop := r.repeats = 255 ∧ r.stopping = false ∧ r.tailing = false

theorem Voice.returns_iff (r : Voice) : r.repeats = 255 ∧ (!r.stopping) = true ∧ (!r.tailing) = true ↔ r.returns := by
  simp [Voice.returns]

/-- A silenced voice dropped: the flag, and the count unless it was stopping. -/
def dropVoice (v : Fin 4) (s : State) : State :=
  let t := proximityVoiceGone (s.voice v) (endVoice v s)
  if (s.voice v).stopping then raiseFlag .chimeDropped t else chimeDropped t

theorem silenceVoice_dropped (h : ¬ (s.voice v).returns) : silenceVoice v s = dropVoice v s := by
  rw [← Voice.returns_iff] at h
  exact if_neg h

theorem silenceVoice_merged (h : (s.voice v).returns) {x : QueueEntry}
    (queued : (endVoice v s).queued? (s.voice v).id = some x) : silenceVoice v s =
      (let t := setQueue (widenEntry (s.voice v).id (s.voice v).zones (endVoice v s).chime.queue) (endVoice v s)
       if x.proximity then t else proximityVoiceGone (s.voice v) t) := by
  rw [← Voice.returns_iff] at h
  simp [silenceVoice, h, queued]

theorem silenceVoice_refused (h : (s.voice v).returns) (alone : (endVoice v s).queued? (s.voice v).id = none)
    (full : 8 ≤ (endVoice v s).chime.queue.length) : silenceVoice v s = dropVoice v s := by
  rw [← Voice.returns_iff] at h
  simp [silenceVoice, h, alone, dropVoice, Config.chimeQueueEntries, Nat.not_lt.mpr full]

/-- The queue entry a silenced voice makes. -/
def Voice.entry (r : Voice) : QueueEntry :=
  { id := r.id, zones := r.zones, priority := r.priority, repeats := 255, proximity := r.proximity, arrival := r.arrival }

theorem silenceVoice_queued (h : (s.voice v).returns) (alone : (endVoice v s).queued? (s.voice v).id = none)
    (room : (endVoice v s).chime.queue.length < 8) : silenceVoice v s =
      (let t := setQueue (insertEntry (s.voice v).entry (endVoice v s).chime.queue) (endVoice v s)
       if (s.voice v).proximity = true ∧ s.chime.proximity = .sounding then setProximity .requested t else t) := by
  rw [← Voice.returns_iff] at h
  simp [silenceVoice, h, alone, Config.chimeQueueEntries, room, Voice.entry]

end Sys2Proof.Machine
end

section
/-! The start of an entry, the dispatch, and CHIME_PLAY (R135 to R137, R140 to R143). -/

namespace Sys2Proof.Machine

variable {s : State} {v : Fin 4} {e : QueueEntry}

/-! ### A start (R141, R143) -/

/-- One voice silenced if it holds one of some zones. -/
def silenceAt (z : ZoneSet) (v : Fin 4) (s : State) : State := if (s.voice v).meets z then silenceVoice v s else s

/-- The voices of some zones silenced, in order of voice number. -/
def silenceZones (z : ZoneSet) (s : State) : State := (List.finRange 4).foldl (fun s v => silenceAt z v s) s

theorem silenceZones_foldl (z : ZoneSet) (s : State) : silenceZones z s =
    (List.finRange 4).foldl (fun s v => if (s.voice v).meets z then silenceVoice v s else s) s := by
  simp only [silenceZones, silenceAt]

theorem silenceZones_eq (z : ZoneSet) (s : State) :
    silenceZones z s = silenceAt z 3 (silenceAt z 2 (silenceAt z 1 (silenceAt z 0 s))) := by
  have voices : List.finRange 4 = [0, 1, 2, 3] := by decide
  simp only [silenceZones, voices, List.foldl_cons, List.foldl_nil]

theorem clearTheWay_idle {z : ZoneSet} (free : ∃ y, ((silenceZones z s).voice y).state = .idle) :
    clearTheWay z s = silenceZones z s := by
  have some : (List.finRange 4).any (fun y => !((silenceZones z s).voice y).busy) = true := by
    simpa [Voice.not_busy_iff] using free
  unfold clearTheWay
  rw [← silenceZones_foldl]
  exact if_pos some

theorem clearTheWay_victim {z : ZoneSet} (busy : ∀ y, ((silenceZones z s).voice y).state ≠ .idle)
    (chosen : victim (silenceZones z s) = some v) : clearTheWay z s = silenceVoice v (silenceZones z s) := by
  have none : ¬ (List.finRange 4).any (fun y => !((silenceZones z s).voice y).busy) = true := by
    simpa [Voice.busy_iff] using busy
  unfold clearTheWay
  rw [← silenceZones_foldl]
  dsimp only
  rw [if_neg none, chosen]

/-- The entry gone from the queue of a state in which its way is cleared (log entry 44). -/
def wayCleared (e : QueueEntry) (t : State) : State :=
  { t with chime.queue := t.chime.queue.filter fun x => decide (x.id ≠ e.id) }

theorem startEntry_begins {c : ChimeEntry} {a : AssetRecord} {t : State} (way : wayCleared e (clearTheWay e.zones s) = t)
    (idle : (t.voice v).state = .idle) (first : ∀ y, y < v → (t.voice y).state ≠ .idle)
    (defined : t.chimeEntry e.id = some c) (usable : chimeAsset e.id t = some a) :
    startEntry e s = beginVoice v e c a t := by
  have chosen : (List.finRange 4).find? (fun y => !(t.voice y).busy) = some v :=
    find?_finRange.mpr ⟨by simpa [Voice.busy] using idle, fun y before => by simpa [Voice.busy] using first y before⟩
  unfold startEntry setQueue
  dsimp only
  rw [← wayCleared, way, chosen, defined, usable]

theorem Voice.pages_eq (r : Voice) : r.pages = (r.length / 2 + 2047) / 2048 := by
  simp [pages, samples, ceilDiv, Config.pageBytes]

theorem Voice.nextPage_eq (r : Voice) (p : Nat) : r.nextPage p =
    if p + 1 < (r.length / 2 + 2047) / 2048 then some (p + 1) else if 1 < r.repeats then some 0 else none := by
  rw [nextPage, pages_eq]

/-! ### Dispatch (R140) -/

theorem examine_unusable (rest : List QueueEntry) (h : chimeAsset e.id s = none) : examine (e :: rest) s =
    examine rest (countChime (fun c => { c with undefined := bump c.undefined }) (removeEntry e s)) := by
  simp [examine, purgeEntry, h]

theorem examine_starts (rest : List QueueEntry) (usable : (chimeAsset e.id s).isSome = true)
    (passes : startTest e s = true) : examine (e :: rest) s = (startEntry e s, true) := by
  obtain ⟨a, h⟩ := Option.isSome_iff_exists.mp usable
  simp [examine, h, passes]

theorem examine_waits (rest : List QueueEntry) (usable : (chimeAsset e.id s).isSome = true)
    (fails : startTest e s = false) : examine (e :: rest) s = examine rest s := by
  obtain ⟨a, h⟩ := Option.isSome_iff_exists.mp usable
  simp [examine, h, fails]

theorem dispatchFor_succ (n : Nat) (s : State) : dispatchFor (n + 1) s =
    if (examine s.chime.queue s).2 then dispatchFor n (examine s.chime.queue s).1 else (examine s.chime.queue s).1 := by
  rw [dispatchFor]
  obtain ⟨t, started⟩ := examine s.chime.queue s
  cases started <;> rfl

/-! ### A request settled (R137) -/

/-- The queue entry of a taken request. -/
def requestEntry (i : Fin 32) (z : ZoneSet) (c : ChimeEntry) (near : Bool) (s : State) : QueueEntry :=
  { id := i, zones := uncovered i z s, priority := c.priority, repeats := if near then 255 else c.repeats,
    proximity := near, arrival := s.chime.nextArrival }

/-- The state of a taken request: it has its arrival number (log entry 17). -/
def arrivalTaken (s : State) : State := { s with chime.nextArrival := s.chime.nextArrival + 1 }

/-- A request counted in MERGED. -/
def countMerged (s : State) : State := countChime (fun c => { c with merged := bump c.merged }) s

section
variable {i : Fin 32} {z : ZoneSet} {c : ChimeEntry} {near : Bool}

theorem settleRequest_absorbed (covered : uncovered i z s = .empty) :
    settleRequest i z c near s = (.absorbed, countMerged (arrivalTaken s)) :=
  if_pos ((ZoneSet.isEmpty_iff _).mpr covered)

theorem settleRequest_merged (left : uncovered i z s ≠ .empty) (queued : ∃ x ∈ s.chime.queue, x.id = i) :
    settleRequest i z c near s =
      (.merged, dispatch (countMerged (setQueue (widenEntry i (uncovered i z s) s.chime.queue) (arrivalTaken s)))) :=
  (if_neg (mt (ZoneSet.isEmpty_iff _).mp left)).trans (if_pos ((queued?_isSome_iff (s := arrivalTaken s) i).mpr queued))

/-- With no entry of the id queued a request starts, or comes to the queue. -/
theorem settleRequest_new (left : uncovered i z s ≠ .empty) (alone : ∀ x ∈ s.chime.queue, x.id ≠ i) :
    settleRequest i z c near s =
      if startTest (requestEntry i z c near s) (arrivalTaken s) then
        (.started, dispatch (startEntry (requestEntry i z c near s) (arrivalTaken s)))
      else
        match enqueue (requestEntry i z c near s) (arrivalTaken s) with
        | some u => (.queued, dispatch u)
        | none => (.refused, dispatch (arrivalTaken s)) := by
  have unqueued : ¬ ((arrivalTaken s).queued? i).isSome = true := by
    rw [queued?_isSome_iff]
    exact fun ⟨x, mem, same⟩ => alone x mem same
  exact (if_neg (mt (ZoneSet.isEmpty_iff _).mp left)).trans (if_neg unqueued)

theorem settleRequest_started (left : uncovered i z s ≠ .empty) (alone : ∀ x ∈ s.chime.queue, x.id ≠ i)
    (passes : startTest (requestEntry i z c near s) (arrivalTaken s) = true) : settleRequest i z c near s =
      (.started, dispatch (startEntry (requestEntry i z c near s) (arrivalTaken s))) := by
  rw [settleRequest_new left alone, if_pos passes]

theorem settleRequest_queued (left : uncovered i z s ≠ .empty) (alone : ∀ x ∈ s.chime.queue, x.id ≠ i)
    (fails : startTest (requestEntry i z c near s) (arrivalTaken s) = false) {u : State}
    (queued : enqueue (requestEntry i z c near s) (arrivalTaken s) = some u) :
    settleRequest i z c near s = (.queued, dispatch u) := by
  rw [settleRequest_new left alone, if_neg (by simp [fails]), queued]

theorem settleRequest_refused (left : uncovered i z s ≠ .empty) (alone : ∀ x ∈ s.chime.queue, x.id ≠ i)
    (fails : startTest (requestEntry i z c near s) (arrivalTaken s) = false)
    (full : enqueue (requestEntry i z c near s) (arrivalTaken s) = none) :
    settleRequest i z c near s = (.refused, dispatch (arrivalTaken s)) := by
  rw [settleRequest_new left alone, if_neg (by simp [fails]), full]

end

/-! ### CHIME_PLAY (R136) -/

section
variable {id mask : Nat} {i : Fin 32} {m : ZoneSet} {c : ChimeEntry}

/-- The zones CHIME_PLAY requests: those of the mask that are the entry's, or with an empty mask all of the entry's. -/
def playZones (m : ZoneSet) (c : ChimeEntry) : ZoneSet := if m = .empty then c.zones else m.inter c.zones

theorem playZones_eq (m : ZoneSet) (c : ChimeEntry) : (if m.isEmpty then c.zones else m.inter c.zones) = playZones m c := by
  simp only [playZones, ZoneSet.isEmpty_iff]

theorem chimePlay_invalid (h : 32 ≤ id ∨ 8 ≤ mask) (s : State) : chimePlay id mask s = refuse .param s := by
  unfold chimePlay
  rcases h with h | h
  · rw [fin?_eq_none h]
  · have : zoneSet? mask = none := if_neg (Nat.not_lt.mpr h)
    cases fin? 32 id <;> rw [this]

theorem chimePlay_undefined (hm : zoneSet? mask = some m) (undefined : s.chimeEntry i = none) :
    chimePlay i.val mask s = refuse .notFound s := by
  simp [chimePlay, fin?_val, hm, undefined]

theorem chimePlay_nowhere (hm : zoneSet? mask = some m) (defined : s.chimeEntry i = some c)
    (none : playZones m c = .empty) : chimePlay i.val mask s = refuse .param s := by
  rw [← ZoneSet.isEmpty_iff] at none
  simp [chimePlay, fin?_val, hm, defined, playZones_eq, none]

theorem chimePlay_notReady (hm : zoneSet? mask = some m) (defined : s.chimeEntry i = some c)
    (some : playZones m c ≠ .empty) (busy : s.store.state ≠ .ready) : chimePlay i.val mask s = refuse .notReady s := by
  rw [Ne, ← ZoneSet.isEmpty_iff] at some
  simp [chimePlay, fin?_val, hm, defined, playZones_eq, some, State.storeReady, busy]

theorem chimePlay_unusable (hm : zoneSet? mask = some m) (defined : s.chimeEntry i = some c)
    (some : playZones m c ≠ .empty) (ready : s.store.state = .ready) (unusable : usableAsset c.asset s = none) :
    chimePlay i.val mask s = refuse .notFound s := by
  rw [Ne, ← ZoneSet.isEmpty_iff] at some
  simp [chimePlay, fin?_val, hm, defined, playZones_eq, some, State.storeReady, ready, unusable]

/-- A taken CHIME_PLAY is BUSY where its request is refused, and OK otherwise. -/
theorem chimePlay_taken (hm : zoneSet? mask = some m) (defined : s.chimeEntry i = some c)
    (some : playZones m c ≠ .empty) (ready : s.store.state = .ready) (usable : (usableAsset c.asset s).isSome = true) :
    chimePlay i.val mask s =
      if (settleRequest i (playZones m c) c false s).1 = .refused
        then ⟨.busy, [], (settleRequest i (playZones m c) c false s).2, .nothing⟩
        else done (settleRequest i (playZones m c) c false s).2 := by
  obtain ⟨a, ha⟩ := Option.isSome_iff_exists.mp usable
  rw [Ne, ← ZoneSet.isEmpty_iff] at some
  simp only [chimePlay, fin?_val, hm, defined, playZones_eq, some, State.storeReady, ready, ha]
  obtain ⟨settled, t⟩ := settleRequest i (playZones m c) c false s
  cases settled <;> rfl

end

end Sys2Proof.Machine
end

section
/-! CHIME_PLAY, dispatch, starts and silencing as one statement (R135 to R143). -/

namespace Sys2Proof.Machine

variable {s : State} {v : Fin 4} {e : QueueEntry}

theorem beginDemands_eq (z : ZoneSet) (s : State) : beginDemands z s =
    [Zone.seatL, .seatR, .cabin].foldl (fun x k => if z.has k then voiceDemandBegins k x else x) s := rfl

/-- The record of a voice that starts an entry (R143). -/
def startedVoice (e : QueueEntry) (c : ChimeEntry) (a : AssetRecord) (s : State) : Voice := { Voice.reset with
  state := .loading, id := e.id, zones := e.zones, priority := e.priority, level := c.level, duck := c.duck,
  follows := c.follows, repeats := e.repeats, proximity := e.proximity, start := s.chime.nextStart, arrival := e.arrival,
  asset := a.id, generation := a.generation, length := a.length }

/-- The voice started and its asset pinned. -/
def startedState (v : Fin 4) (e : QueueEntry) (c : ChimeEntry) (a : AssetRecord) (s : State) : State :=
  State.setVoice { s with
    chime.nextStart := s.chime.nextStart + 1,
    chime.proximity := if e.proximity then .sounding else s.chime.proximity,
    store.directory := s.store.directory.map fun x => if x.id = a.id then { x with pins := x.pins + 1 } else x
    } v (startedVoice e c a s)

/-- The reads of a started voice's first two pages issued (R144). -/
def firstPages (v : Fin 4) (e : QueueEntry) (c : ChimeEntry) (a : AssetRecord) (s : State) : State :=
  fillBuffer v true ((startedVoice e c a s).nextPage 0) (fillBuffer v false (some 0) (startedState v e c a s))

theorem beginVoice_eq (v : Fin 4) (e : QueueEntry) (c : ChimeEntry) (a : AssetRecord) (s : State) :
    beginVoice v e c a s = if c.duck then beginDemands e.zones (firstPages v e c a s) else firstPages v e c a s := by
  unfold beginVoice firstPages startedState startedVoice
  cases e.proximity <;> rfl

/-- What becomes of the proximity function when a voice is dropped or merged away (R149). -/
theorem proximityVoiceGone_eq (r : Voice) (s : State) : proximityVoiceGone r s =
    if r.proximity = true ∧ (s.chime.proximity = .sounding ∨ s.chime.proximity = .tailing)
      then { s with chime.proximity := .quiet } else s := rfl

theorem dropVoice_eq (v : Fin 4) (s : State) : dropVoice v s =
    (let t := proximityVoiceGone (s.voice v) (endVoice v s)
     if (s.voice v).stopping then raiseFlag .chimeDropped t else
      raiseFlag .chimeDropped { t with chime.counters.dropped := bump t.chime.counters.dropped }) := rfl

/-- CHIME_PLAY taken in RUNNING is its owner's answer, handed over. -/
theorem exec_chimePlay (running : Running s) (mark : Byte) (id mask : Nat) :
    exec (.chimePlay mark id mask) s = .next (handAnswer mark (BitVec.ofNat 8 61) (chimePlay id mask s)) :=
  congrArg Host.Outcome.next (runCommand_plain running mark (.chimePlay id mask) (by simp [Command.code]))

section
variable {mask : Nat} {i : Fin 32} {m : ZoneSet} {c : ChimeEntry} {t : State} {settled : Settled}

/-- A taken CHIME_PLAY whose request settles without a refusal. -/
theorem exec_chimePlay_settled (running : Running s) (mark : Byte) (hm : zoneSet? mask = some m)
    (defined : s.chimeEntry i = some c) (some : playZones m c ≠ .empty) (ready : s.store.state = .ready)
    (usable : (usableAsset c.asset s).isSome = true) (request : settleRequest i (playZones m c) c false s = (settled, t))
    (accepted : settled ≠ .refused) : exec (.chimePlay mark i.val mask) s = .next (replied mark 61 .ok [] t) := by
  rw [exec_chimePlay running, chimePlay_taken hm defined some ready usable, request, if_neg accepted, handAnswer_done]

theorem exec_chimePlay_refused (running : Running s) (mark : Byte) (hm : zoneSet? mask = some m)
    (defined : s.chimeEntry i = some c) (some : playZones m c ≠ .empty) (ready : s.store.state = .ready)
    (usable : (usableAsset c.asset s).isSome = true) (request : settleRequest i (playZones m c) c false s = (.refused, t)) :
    exec (.chimePlay mark i.val mask) s = .next (replied mark 61 .busy [] t) := by
  rw [exec_chimePlay running, chimePlay_taken hm defined some ready usable, request, if_pos rfl, handAnswer_plain]

end

/-- Settles O38: CHIME_PLAY by its checks and by how its request settles, then dispatch, the start test, a start and a
silenced voice, each by the rules of its operation. -/
theorem chimePlayIsCheckedAndSettled : Obligations.ChimePlayIsCheckedAndSettled := by
  unfold Obligations.ChimePlayIsCheckedAndSettled
  refine ⟨fun mark id mask i c m s running => ⟨fun bad => ?_, ?_, ?_⟩, fun u e rest n => ?_, fun u e v w k => ?_,
    fun v e c a u => ?_, fun v u x => ?_, fun u i z k n a => ?_⟩
  · rw [exec_chimePlay running, chimePlay_invalid bad, handAnswer_refuse]
  · rintro rfl hm undefined
    rw [exec_chimePlay running, chimePlay_undefined hm undefined, handAnswer_refuse]
  · rintro rfl hm defined
    refine ⟨fun none => ?_, fun some busy => ?_, fun some ready unusable => ?_, fun some ready usable => ?_⟩
    · rw [exec_chimePlay running, chimePlay_nowhere hm defined none, handAnswer_refuse]
    · rw [exec_chimePlay running, chimePlay_notReady hm defined some busy, handAnswer_refuse]
    · rw [exec_chimePlay running, chimePlay_unusable hm defined some ready unusable, handAnswer_refuse]
    · refine ⟨fun covered => ?_, fun left queued => ?_, fun left alone passes => ?_, fun left alone fails =>
        ⟨fun t queued => ?_, fun full => ?_⟩⟩
      · exact exec_chimePlay_settled running mark hm defined some ready usable (settleRequest_absorbed covered) (by decide)
      · exact exec_chimePlay_settled running mark hm defined some ready usable (settleRequest_merged left queued) (by decide)
      · exact exec_chimePlay_settled running mark hm defined some ready usable (settleRequest_started left alone passes)
          (by decide)
      · exact exec_chimePlay_settled running mark hm defined some ready usable
          (settleRequest_queued left alone fails queued) (by decide)
      · exact exec_chimePlay_refused running mark hm defined some ready usable (settleRequest_refused left alone fails full)
  · refine ⟨rfl, rfl, dispatchFor_succ n u, rfl, fun unusable => ?_, examine_starts rest, examine_waits rest⟩
    rw [examine_unusable rest unusable, removeEntry_eq]
    rfl
  · intro busy before silence silenced cleared left
    have same : silenceZones e.zones u = silenced := by
      have step : silenceAt e.zones = silence := rfl
      rw [silenceZones_eq, step]
    refine ⟨fun a => chimeAsset_eq_some_iff, holder_eq_some_iff k, (u.voice v).meets_iff e.zones,
      ⟨?_, victim_spec⟩, startTest_iff e, fun free => ?_, fun busy chosen => ?_, fun c a idle first => ?_⟩
    · simp only [victim_eq_none_iff, busy, not_not]
    · rw [← same] at free ⊢
      exact clearTheWay_idle free
    · rw [← same] at busy chosen ⊢
      exact clearTheWay_victim busy chosen
    · have way : wayCleared e cleared = left := rfl
      exact startEntry_begins way idle first
  · intro r pinned second filled told
    have read : firstPages v e c a u = filled := by rw [firstPages, Voice.nextPage_eq]; rfl
    rw [beginVoice_eq, read, beginDemands_eq]
  · refine ⟨silenceVoice_dropped, fun again queued => ?_, fun again alone full => ?_, fun again alone room => ?_⟩
    · exact silenceVoice_merged again queued
    · exact silenceVoice_refused again ((queued?_eq_none_iff _).mpr alone) full
    · dsimp only
      rw [silenceVoice_queued again ((queued?_eq_none_iff _).mpr alone) room, insertEntry_eq]
      rfl
  · refine ⟨?_, usableAsset_eq_some_iff⟩
    simp [uncovered_has, Voice.covers, and_imp]

end Sys2Proof.Machine
end

section
/-! The end of a voice, the release of its pin, and the gap between plays (R145, R148, R149, R161). -/

namespace Sys2Proof.Machine

variable {s : State} {v w : Fin 4}

/-! ### Voices written twice, and written as they are -/

@[simp] theorem State.setVoice_setVoice (s : State) (v : Fin 4) (a b : Voice) :
    (s.setVoice v a).setVoice v b = s.setVoice v b := by simp [State.setVoice]

theorem State.setVoice_self (s : State) (v : Fin 4) : s.setVoice v (s.voice v) = s := by
  simp [State.setVoice, State.voice]

/-! ### The end of a voice (R145) -/

theorem endVoice_idle (idle : (s.voice v).state = .idle) : endVoice v s = s := by
  rw [← Voice.not_busy_iff] at idle
  simp [endVoice, idle]

theorem endVoice_busy (busy : (s.voice v).state ≠ .idle) : endVoice v s =
    unpinAsset (s.voice v).asset (s.voice v).generation
      (if (s.voice v).duck then endDemands (s.voice v).zones (s.setVoice v .reset) else s.setVoice v .reset) := by
  rw [← Voice.busy_iff] at busy
  exact if_pos busy

/-- Of the Chime Engine, a voice's end changes the voice alone. -/
theorem endVoice_chime (busy : (s.voice v).state ≠ .idle) : (endVoice v s).chime = (s.setVoice v .reset).chime := by
  rw [endVoice_busy busy]
  split <;> simp

theorem voice_of_chime {t : State} (h : t.chime = s.chime) (w : Fin 4) : t.voice w = s.voice w := by
  rw [State.voice, h, State.voice]

theorem endVoice_voice (busy : (s.voice v).state ≠ .idle) : (endVoice v s).voice v = .reset := by
  rw [voice_of_chime (endVoice_chime busy), State.voice_setVoice]

theorem endVoice_voice_other (other : w ≠ v) : (endVoice v s).voice w = s.voice w := by
  by_cases idle : (s.voice v).state = .idle
  · rw [endVoice_idle idle]
  · rw [voice_of_chime (endVoice_chime idle), State.voice_setVoice_ne _ _ _ _ other]

theorem finishVoice_eq (v : Fin 4) (s : State) :
    finishVoice v s = dispatch (proximityVoiceGone (s.voice v) (endVoice v s)) := rfl

theorem endDemands_eq (z : ZoneSet) (s : State) : endDemands z s =
    [Zone.seatL, .seatR, .cabin].foldl (fun x k => if z.has k then voiceDemandEnds k x else x) s := rfl

/-! ### The release of a pin (R161) -/

section
variable {id gen : Nat}

theorem unpinAsset_current (current : ∃ r ∈ s.store.directory, r.id = id ∧ r.generation = gen) :
    unpinAsset id gen s = { s with store.directory := s.store.directory.map fun r =>
      if r.id = id ∧ r.generation = gen then { r with pins := r.pins - 1 } else r } := by
  refine if_pos ?_
  simpa using current

/-- With no current record of a generation, its release is that of the retired list's first record of it. -/
theorem unpinAsset_not_current (old : ¬ ∃ r ∈ s.store.directory, r.id = id ∧ r.generation = gen) : unpinAsset id gen s =
    match s.store.retired.find? (fun r => r.id == id && r.generation == gen) with
    | none => s
    | some e =>
      if e.pins ≤ 1 then
        joinErase e.blocks { s with store.retired := s.store.retired.filter fun r => !(r.id == id && r.generation == gen) }
      else
        { s with store.retired := s.store.retired.map fun r =>
            if r.id = id ∧ r.generation = gen then { r with pins := r.pins - 1 } else r } :=
  if_neg (by simpa using old)

theorem unpinAsset_retired (old : ¬ ∃ r ∈ s.store.directory, r.id = id ∧ r.generation = gen)
    {before after : List RetiredEntry} {e : RetiredEntry} (listed : s.store.retired = before ++ e :: after)
    (hid : e.id = id) (hgen : e.generation = gen) (first : ∀ r ∈ before, ¬ (r.id = id ∧ r.generation = gen)) :
    unpinAsset id gen s =
      if e.pins ≤ 1 then joinErase e.blocks { s with
        store.retired := s.store.retired.filter fun r => decide (¬ (r.id = id ∧ r.generation = gen)) }
      else { s with store.retired := s.store.retired.map fun r =>
        if r.id = id ∧ r.generation = gen then { r with pins := r.pins - 1 } else r } := by
  have found : s.store.retired.find? (fun r => r.id == id && r.generation == gen) = some e :=
    List.find?_eq_some_iff_append.mpr ⟨by simp [hid, hgen], before, after, listed, by
      simpa [imp_iff_not_or] using first⟩
  have others : (fun r : RetiredEntry => !(r.id == id && r.generation == gen)) =
      fun r => decide (¬ (r.id = id ∧ r.generation = gen)) := by
    funext r
    simp [beq_eq_decide]
  rw [unpinAsset_not_current old, found, others]

theorem unpinAsset_gone (old : ¬ ∃ r ∈ s.store.directory, r.id = id ∧ r.generation = gen)
    (none : ∀ r ∈ s.store.retired, ¬ (r.id = id ∧ r.generation = gen)) : unpinAsset id gen s = s := by
  have missing : s.store.retired.find? (fun r => r.id == id && r.generation == gen) = .none :=
    List.find?_eq_none.mpr (by simpa using none)
  rw [unpinAsset_not_current old, missing]

end

/-! ### The band of the nearest obstacle (R148) -/

/-- The nearest obstacle is one of the codes below 255. -/
theorem nearestObstacle_mem {distances : Vector Nat 4} {d : Nat} (h : nearestObstacle distances = some d) :
    ∃ x ∈ distances.toList, x < 255 ∧ d = 10 * x ∧ ∀ y ∈ distances.toList, y < 255 → x ≤ y := by
  unfold nearestObstacle at h
  obtain ⟨x, smallest, rfl⟩ := Option.map_eq_some_iff.mp h
  obtain ⟨mem, least⟩ := List.min?_eq_some_iff.mp smallest
  obtain ⟨listed, below⟩ := List.mem_filter.mp mem
  exact ⟨x, listed, of_decide_eq_true below, rfl, fun y hy hb => least y (List.mem_filter.mpr ⟨hy, decide_eq_true hb⟩)⟩

/-- Some obstacle within some band (R148). -/
def InBand (s : State) : Prop :=
  ∃ x ∈ s.vehicle.distances.toList, x < 255 ∧ ∃ b ∈ s.chime.proximityBands, 10 * x < b.limit

theorem proximityBand_eq_none_iff : proximityBand s = none ↔ ¬ InBand s := by
  unfold proximityBand
  split
  case h_1 clear =>
    refine iff_of_true rfl ?_
    rintro ⟨x, listed, below, -⟩
    simp only [nearestObstacle, Option.map_eq_none_iff, List.min?_eq_none_iff, List.filter_eq_nil_iff] at clear
    exact clear x listed (decide_eq_true below)
  case h_2 d nearest =>
    obtain ⟨x, listed, below, rfl, least⟩ := nearestObstacle_mem nearest
    simp only [List.find?_eq_none, decide_eq_true_eq]
    constructor
    · rintro outside ⟨y, hy, hb, b, mem, inside⟩
      have := least y hy hb
      exact outside b mem (by omega)
    · exact fun outside b mem inside => outside ⟨x, listed, below, b, mem, inside⟩

theorem proximityBand_isSome (h : InBand s) : ∃ b, proximityBand s = some b :=
  Option.ne_none_iff_exists'.mp fun none => proximityBand_eq_none_iff.mp none h

/-- The band d_min belongs to is the first whose limit is above it. -/
theorem proximityBand_first {x : Nat} {before after : List ProximityBand} {b : ProximityBand}
    (listed : x ∈ s.vehicle.distances.toList) (below : x < 255) (least : ∀ y ∈ s.vehicle.distances.toList, x ≤ y)
    (bands : s.chime.proximityBands = before ++ b :: after) (beyond : ∀ c ∈ before, c.limit ≤ 10 * x)
    (inside : 10 * x < b.limit) : proximityBand s = some b := by
  unfold proximityBand
  rw [nearestObstacle_least below listed fun y hy _ => least y hy]
  exact List.find?_eq_some_iff_append.mpr ⟨decide_eq_true inside, before, after, bands, by simpa using beyond⟩

/-! ### The gap between plays (R145, R149) -/

section
variable {r : Voice}

theorem gapOf_own (own : r.proximity = false) : gapOf r s = match s.chimeEntry r.id with | some c => c.gap | none => 0 := by
  unfold gapOf
  rw [own]
  cases s.chimeEntry r.id <;> rfl

theorem gapOf_band (near : r.proximity = true) {b : ProximityBand} (band : proximityBand s = some b) :
    gapOf r s = b.gap := by
  simp [gapOf, near, band]

theorem gapOf_beyond (near : r.proximity = true) (beyond : proximityBand s = none) : gapOf r s = 0 := by
  simp [gapOf, near, beyond]

end

/-- A gap of 0 is over at once (R145). -/
theorem enterGap_none (gap : gapOf (s.voice v) s = 0) (n : Nat) : enterGap v n s =
    s.setVoice v { s.voice v with repeats := n, state := .playing, position := 0 } := if_pos gap

theorem enterGap_some (gap : gapOf (s.voice v) s ≠ 0) (n : Nat) : enterGap v n s =
    s.setVoice v { s.voice v with repeats := n, state := .gap, gapTimer := some (gapOf (s.voice v) s) } := if_neg gap

/-! ### The end of a play (R145) -/

theorem endPlay_last (last : (s.voice v).tailing = true ∨ (s.voice v).repeats = 1) : endPlay v s = finishVoice v s := by
  unfold endPlay
  dsimp only
  split
  · rfl
  · have one := last.resolve_left ‹_›
    rw [one]
    rfl

/-- What is left of a repeat count after a play; 255 stays (R145). -/
theorem endPlay_again (tailing : (s.voice v).tailing = false) (low : 2 ≤ (s.voice v).repeats) :
    endPlay v s = enterGap v (if (s.voice v).repeats = 255 then 255 else (s.voice v).repeats - 1) s := by
  have more : ¬ (s.voice v).repeats ≤ 1 := by omega
  simp only [endPlay, tailing, more, Bool.false_eq_true, if_false]
  split <;> rfl

end Sys2Proof.Machine
end

section
/-! A voice's blocks of samples and its page buffers (R139, R143, R144). -/

namespace Sys2Proof.Machine

variable {s : State} {v : Fin 4} {run : BlockRun} {one : Bool} {bytes : List Byte}

/-! ### Page buffers (R144) -/

theorem Voice.readyPage_eq_some_iff (r : Voice) (page : Nat) : r.readyPage page = some (one, bytes) ↔
    (one = false ∧ r.buffer0 = .ready page bytes) ∨
      (one = true ∧ r.buffer1 = .ready page bytes ∧ ∀ b, r.buffer0 ≠ .ready page b) := by
  have second : ∀ b0 : PageBuffer, (∀ b, b0 ≠ .ready page b) → (({ r with buffer0 := b0 } : Voice).readyPage page =
      some (one, bytes) ↔ one = true ∧ r.buffer1 = .ready page bytes) := fun b0 other => by
    cases b0 with
    | empty | reading =>
      cases r.buffer1 <;> simp [readyPage, and_comm, eq_comm (a := true), and_left_comm]
    | ready q b =>
      have skipped : q ≠ page := fun h => other b (h ▸ rfl)
      cases r.buffer1 <;> simp [readyPage, skipped, and_comm, eq_comm (a := true), and_left_comm]
  by_cases first : ∃ b, r.buffer0 = .ready page b
  · obtain ⟨b, hb⟩ := first
    simp [readyPage, hb, eq_comm (a := false)]
  · push Not at first
    have := second r.buffer0 first
    simp [this, first]

theorem fillBuffer_none (v : Fin 4) (one : Bool) (s : State) :
    fillBuffer v one none s = s.setVoice v ((s.voice v).setBuffer one .empty) := rfl

/-- A buffer set to READING, and its read issued behind those that wait. -/
theorem fillBuffer_some (v : Fin 4) (one : Bool) (page : Nat) (s : State) : fillBuffer v one (some page) s =
    storeSelect { s.setVoice v ((s.voice v).setBuffer one (.reading page s.store.nextToken)) with
      store.nextToken := s.store.nextToken + 1,
      store.reads := s.store.reads ++ [{
        reader := .voice v s.store.nextToken,
        block := (s.generationBlocks (s.voice v).asset (s.voice v).generation).getD (page / 64) 0, page := page % 64 }] } :=
  rfl

theorem refillBuffer_spent (h : (s.voice v).buffer (!one) = .empty) :
    refillBuffer v one s = s.setVoice v ((s.voice v).setBuffer one .empty) := by
  unfold refillBuffer
  dsimp only
  rw [h]
  exact fillBuffer_none v one s

theorem refillBuffer_follows {page : Nat} (h : ((s.voice v).buffer (!one)).page? = some page) :
    refillBuffer v one s = fillBuffer v one ((s.voice v).nextPage page) s := by
  unfold refillBuffer
  dsimp only
  rw [h]
  rfl

/-! ### One sample (R143, R144) -/

/-- A voice some samples further on. -/
def Voice.moved (r : Voice) (n : Nat) : Voice := { r with position := r.position + n }

@[simp] theorem Voice.moved_position (r : Voice) (n : Nat) : (r.moved n).position = r.position + n := rfl
@[simp] theorem Voice.moved_length (r : Voice) (n : Nat) : (r.moved n).length = r.length := rfl
@[simp] theorem Voice.moved_readyPage (r : Voice) (n page : Nat) : (r.moved n).readyPage page = r.readyPage page := rfl
@[simp] theorem Voice.moved_moved (r : Voice) (m n : Nat) : (r.moved m).moved n = r.moved (m + n) := by
  simp [moved, Nat.add_assoc]

/-- A zero sample. -/
def BlockRun.silent (run : BlockRun) : BlockRun := { run with samples := 0 :: run.samples }

theorem playSample_ended (h : run.ended = true) : playSample v run s = (run.silent, s) := if_pos h

theorem playSample_missing (h : run.ended = false) (none : (s.voice v).readyPage ((s.voice v).position / 2048) = .none) :
    playSample v run s = ({ run.silent with short := true }, s) := by
  obtain ⟨samples, short, ended⟩ := run
  obtain rfl : ended = false := h
  unfold playSample samplesPerPage
  dsimp only
  rw [none]
  rfl

/-- A sample made: its buffer is refilled where its page or the play ends with it. -/
theorem playSample_made (h : run.ended = false)
    (ready : (s.voice v).readyPage ((s.voice v).position / 2048) = some (one, bytes)) : playSample v run s =
      ({ run with
          samples := sampleAt bytes (2 * ((s.voice v).position % 2048)) :: run.samples,
          ended := decide ((s.voice v).position + 1 = (s.voice v).length / 2) },
        if ((s.voice v).position + 1) % 2048 = 0 ∨ (s.voice v).position + 1 = (s.voice v).length / 2
          then refillBuffer v one (s.setVoice v ((s.voice v).moved 1)) else s.setVoice v ((s.voice v).moved 1)) := by
  unfold playSample samplesPerPage
  dsimp only
  rw [h, ready]
  simp only [sample16_eq, Voice.samples, Bool.false_eq_true, if_false]
  exact Prod.ext rfl (ite_congr (propext (or_congr_right decide_eq_true_iff)) (fun _ => rfl) fun _ => rfl)

theorem playSample_kept (h : run.ended = false)
    (ready : (s.voice v).readyPage ((s.voice v).position / 2048) = some (one, bytes))
    (within : ((s.voice v).position + 1) % 2048 ≠ 0) (more : (s.voice v).position + 1 ≠ (s.voice v).length / 2) :
    playSample v run s = ({ run with samples := sampleAt bytes (2 * ((s.voice v).position % 2048)) :: run.samples },
      s.setVoice v ((s.voice v).moved 1)) := by
  rw [playSample_made h ready, if_neg (not_or.mpr ⟨within, more⟩), decide_eq_false more, ← h]

theorem playSample_turns (h : run.ended = false)
    (ready : (s.voice v).readyPage ((s.voice v).position / 2048) = some (one, bytes))
    (turn : ((s.voice v).position + 1) % 2048 = 0 ∨ (s.voice v).position + 1 = (s.voice v).length / 2) :
    playSample v run s =
      ({ run with
          samples := sampleAt bytes (2 * ((s.voice v).position % 2048)) :: run.samples,
          ended := decide ((s.voice v).position + 1 = (s.voice v).length / 2) },
        refillBuffer v one (s.setVoice v ((s.voice v).moved 1))) := by
  rw [playSample_made h ready, if_pos turn]

/-! ### Runs of samples (R143) -/

/-- Every sample of a block is 0 while the page is in neither buffer. -/
theorem playSamples_missing (n : Nat) (h : run.ended = false)
    (none : (s.voice v).readyPage ((s.voice v).position / 2048) = .none) : playSamples v (n + 1) run s =
      ({ samples := List.replicate (n + 1) 0 ++ run.samples, short := true, ended := false }, s) := by
  induction n generalizing run with
  | zero =>
    rw [playSamples, playSample_missing h none, playSamples]
    simp [BlockRun.silent, h]
  | succ n ih =>
    rw [playSamples, playSample_missing h none]
    dsimp only
    rw [ih (run := { run.silent with short := true }) h, BlockRun.silent]
    simp [List.replicate_succ' (n := n + 1)]

/-- Samples made within one page: those of the page from the position on. -/
theorem playSamples_within (n : Nat) (h : run.ended = false)
    (ready : (s.voice v).readyPage ((s.voice v).position / 2048) = some (one, bytes))
    (page : (s.voice v).position % 2048 + n < 2048) (more : (s.voice v).position + n < (s.voice v).length / 2) :
    playSamples v n run s = ({ run with
        samples := ((List.range n).map fun j => sampleAt bytes (2 * ((s.voice v).position % 2048 + j))).reverse ++
          run.samples },
      s.setVoice v ((s.voice v).moved n)) := by
  induction n generalizing run s with
  | zero => exact Prod.ext rfl (s.setVoice_self v).symm
  | succ n ih =>
    have next : ((s.voice v).position + 1) / 2048 = (s.voice v).position / 2048 := by omega
    have place : ((s.voice v).position + 1) % 2048 = (s.voice v).position % 2048 + 1 := by omega
    have rest := ih (s := s.setVoice v ((s.voice v).moved 1))
      (run := { run with samples := sampleAt bytes (2 * ((s.voice v).position % 2048)) :: run.samples }) h
      (by simpa [next] using ready) (by simp; omega) (by simp; omega)
    rw [playSamples, playSample_kept h ready (by omega) (by omega)]
    dsimp only
    rw [rest, List.range_succ_eq_map]
    simp [place, Nat.add_comm 1, Nat.add_assoc, Function.comp_def]

/-! ### Block events (R139) -/

theorem voiceBlock_idle (idle : (s.voice v).state = .idle) : voiceBlock v s = s := by
  simp [voiceBlock, idle]

theorem voiceBlock_stopping (busy : (s.voice v).state ≠ .idle) (stopping : (s.voice v).stopping = true) :
    voiceBlock v s = finishVoice v s := by
  unfold voiceBlock
  cases h : (s.voice v).state <;> simp_all

theorem voiceBlock_silent (waits : (s.voice v).state = .loading ∨ (s.voice v).state = .gap)
    (sounds : (s.voice v).stopping = false) :
    voiceBlock v s = s.setVoice v { s.voice v with block := List.replicate 48 0 } := by
  unfold voiceBlock
  rcases waits with h | h <;> simp [h, sounds, Config.blockFrames]

theorem voiceBlock_playing (playing : (s.voice v).state = .playing) (sounds : (s.voice v).stopping = false) :
    voiceBlock v s = playBlock v s := by
  simp [voiceBlock, playing, sounds]

/-- A block in PLAYING: its samples are put out, what they missed counted once, and the play ended where they end it. -/
theorem playBlock_eq {made : BlockRun × State}
    (h : playSamples v 48 { samples := [], short := false, ended := false } s = made) :
    let heard := made.2.setVoice v { made.2.voice v with block := made.1.samples.reverse }
    let counted := if made.1.short then
      { heard with chime.counters.underrun := bump heard.chime.counters.underrun } else heard
    playBlock v s = if made.1.ended then endPlay v counted else counted := by
  unfold playBlock Config.blockFrames
  rw [h]
  rfl

theorem playBlock_missing (none : (s.voice v).readyPage ((s.voice v).position / 2048) = .none) : playBlock v s =
    countChime (fun c => { c with underrun := bump c.underrun })
      (s.setVoice v { s.voice v with block := List.replicate 48 0 }) := by
  rw [playBlock_eq (playSamples_missing 47 rfl none)]
  simp [countChime]

theorem playBlock_within (ready : (s.voice v).readyPage ((s.voice v).position / 2048) = some (one, bytes))
    (page : (s.voice v).position % 2048 + 48 < 2048) (more : (s.voice v).position + 48 < (s.voice v).length / 2) :
    playBlock v s = s.setVoice v { s.voice v with
      position := (s.voice v).position + 48,
      block := (List.range 48).map fun j => sampleAt bytes (2 * ((s.voice v).position % 2048 + j)) } := by
  rw [playBlock_eq (playSamples_within 48 rfl ready page more)]
  simp [Voice.moved]

theorem gapExpires_gap (gap : (s.voice v).state = .gap) (runs : (s.voice v).gapTimer.isSome = true) :
    gapExpires v s = s.setVoice v { s.voice v with state := .playing, position := 0, gapTimer := none } :=
  if_pos ⟨gap, runs⟩

theorem gapExpires_other (h : (s.voice v).state ≠ .gap ∨ (s.voice v).gapTimer = none) : gapExpires v s = s := by
  refine if_neg fun ⟨gap, runs⟩ => h.elim (· gap) fun none => ?_
  simp [none] at runs

end Sys2Proof.Machine
end

section
/-! A voice's block event, its gap and its end as one statement (R139, R143 to R145, R161). -/

namespace Sys2Proof.Machine

variable {s : State} {v : Fin 4}

/-- A buffer that awaits or holds a page has it as its page. -/
theorem PageBuffer.page?_eq_some_iff (b : PageBuffer) (page : Nat) :
    b.page? = some page ↔ (∃ t, b = .reading page t) ∨ ∃ bytes, b = .ready page bytes := by
  cases b <;> simp [page?, eq_comm]

/-- Settles O41: a block event by the voice's state, its samples one by one, the refills, the end of a play and of a voice,
and the release of a pin. -/
theorem voicePlaysItsSamples : Obligations.VoicePlaysItsSamples := by
  unfold Obligations.VoicePlaysItsSamples
  refine ⟨fun v s => ?_, fun v s playing sounds => ?_, fun v n page run one bytes x => ?_, fun id gen s => ?_⟩
  · intro r silent
    have event : ∀ {t}, voiceBlock v s = t → exec (.voiceBlockEvent v) s = .next t := congrArg Host.Outcome.next
    have expiry : ∀ {t}, gapExpires v s = t → exec (.gapTimerExpiry v) s = .next t := congrArg Host.Outcome.next
    refine ⟨fun idle => event (voiceBlock_idle idle), fun busy stopping => event (voiceBlock_stopping busy stopping),
      fun waits sounds => event (voiceBlock_silent waits sounds), fun playing sounds missing => event ?_,
      fun one bytes playing sounds ready page more => event ?_, fun gap runs => expiry (gapExpires_gap gap runs),
      fun other => expiry (gapExpires_other other), endPlay_last, fun tailing low high => ?_, gapOf_own,
      fun near => ⟨?_, fun beyond => ?_⟩, fun busy => ?_, fun busy => ?_, ?_⟩
    · rw [voiceBlock_playing playing sounds, playBlock_missing missing]
      rfl
    · rw [voiceBlock_playing playing sounds, playBlock_within ready page more]
      rfl
    · rw [endPlay_again tailing low]
      exact ⟨fun gap => enterGap_none gap _, fun gap => enterGap_some gap _⟩
    · exact fun y before b after listed below least bands beyond inside =>
        gapOf_band near (proximityBand_first listed below least bands beyond inside)
    · refine gapOf_beyond near (proximityBand_eq_none_iff.mpr ?_)
      rintro ⟨y, listed, below, b, mem, inside⟩
      have := beyond y listed below b mem
      omega
    · exact ⟨endVoice_voice busy, congrArg Voice.state (endVoice_voice busy), fun w other => endVoice_voice_other other⟩
    · intro told idle
      rw [endVoice_busy busy, endDemands_eq]
    · intro ended
      rw [finishVoice_eq, proximityVoiceGone_eq]
  · intro made
    have run : playSamples v 48 { samples := [], short := false, ended := false } s = made := rfl
    clear_value made
    exact congrArg Host.Outcome.next ((voiceBlock_playing playing sounds).trans (playBlock_eq run))
  · intro r next last silent k sample moved put other follows
    have written : put = r.setBuffer one := rfl
    have opposite : other = r.buffer (!one) := by cases one <;> rfl
    rw [written, opposite]
    refine ⟨rfl, rfl, r.readyPage_eq_some_iff page, playSample_ended, playSample_missing, fun going ready =>
      ⟨playSample_kept going ready, playSample_turns going ready⟩, refillBuffer_spent, fun busy => ?_,
      fillBuffer_none v one x, fillBuffer_some v one page x⟩
    rw [refillBuffer_follows (((r.buffer (!one)).page?_eq_some_iff page).mpr busy), Voice.nextPage_eq]
  · intro freed freedOld others current
    refine ⟨unpinAsset_current, fun before e after old listed hid hgen first => ?_, unpinAsset_gone⟩
    rw [unpinAsset_retired old listed hid hgen first]
    exact ⟨fun more => if_neg (by omega), fun last => if_pos last⟩

end Sys2Proof.Machine
end

section
/-! CHIME_DEFINE in its three options (R133), with the items of the status (R151). -/

namespace Sys2Proof.Machine

variable {s : State} {id : Nat} {i : Fin 32}

/-! ### The items of the status (R151, R185) -/

theorem ZoneSet.byte_eq (z : ZoneSet) :
    z.byte = BitVec.ofNat 8 (z.seatL.toNat + 2 * z.seatR.toNat + 4 * z.cabin.toNat) := by
  obtain ⟨l, r, c⟩ := z
  cases l <;> cases r <;> cases c <;> rfl

theorem nearestObstacle_bytes (distances : Vector Nat 4) : optionBytes u16 (nearestObstacle distances) =
    match (distances.toList.filter (· < 255)).min? with
    | none => u8 0
    | some d => u8 1 ++ u16 (10 * d) := by
  unfold nearestObstacle
  cases (distances.toList.filter (· < 255)).min? <;> rfl

theorem proximityIdByte_eq (n : Option (Fin 32)) :
    proximityIdByte n = u8 (match n with | none => 255 | some i => i.val) := by
  cases n <;> rfl

/-! ### The entry a DEFINE carries (R133) -/

/-- The ranges of R133. -/
def chimeInRange (p : ChimeParams) : Prop :=
  2 ≤ p.asset ∧ p.asset ≤ 1023 ∧ p.level ≤ 32768 ∧ p.priority ≤ 7 ∧ 1 ≤ p.zones ∧ p.zones ≤ 7 ∧ 1 ≤ p.repeats ∧
  p.repeats ≤ 255 ∧ p.gap ≤ 5000 ∧ p.duck ≤ 1 ∧ p.follows ≤ 1

/-- The zones of a byte below 8 (R185). -/
def zonesOf (n : Nat) : ZoneSet :=
  { seatL := decide (n % 2 = 1), seatR := decide (n / 2 % 2 = 1), cabin := decide (n / 4 = 1) }

/-- The entry that parameters in their ranges carry, each by the item of its name. -/
def chimeCarried (p : ChimeParams) : ChimeEntry :=
  { asset := p.asset, level := p.level, priority := p.priority, zones := zonesOf p.zones, repeats := p.repeats, gap := p.gap,
    duck := decide (p.duck = 1), follows := decide (p.follows = 1) }

theorem zoneSet?_eq (n : Nat) : zoneSet? n = if n < 8 then some (zonesOf n) else none := by
  have bits : ∀ n < 8, (⟨n.testBit 0, n.testBit 1, n.testBit 2⟩ : ZoneSet) = zonesOf n := by decide
  exact ite_congr rfl (fun h => congrArg some (bits n h)) fun _ => rfl

theorem zonesOf_isEmpty {n : Nat} (h : n < 8) : (zonesOf n).isEmpty = false ↔ 1 ≤ n := by
  have bytes : ∀ n < 8, (zonesOf n).isEmpty = false ↔ 1 ≤ n := by decide
  exact bytes n h

theorem chimeParams?_eq_some (p : ChimeParams) (e : ChimeEntry) :
    chimeParams? p = some e ↔ chimeInRange p ∧ e = chimeCarried p := by
  unfold chimeParams? chimeInRange
  rw [zoneSet?_eq, flag?_eq, flag?_eq]
  by_cases zones : p.zones < 8
  · by_cases duck : p.duck ≤ 1
    · by_cases follows : p.follows ≤ 1
      · have upper : p.zones ≤ 7 := Nat.le_of_lt_succ zones
        simp [zones, duck, follows, zonesOf_isEmpty zones, upper, chimeCarried, and_assoc, eq_comm (b := e)]
      · simp [zones, duck, follows]
    · simp [zones, duck]
  · have upper : ¬ p.zones ≤ 7 := by omega
    simp [zones, upper]

theorem chimeParams?_isSome (p : ChimeParams) : (chimeParams? p).isSome = true ↔ chimeInRange p := by
  simp [Option.isSome_iff_exists, chimeParams?_eq_some]

/-! ### CHIME_DEFINE (R133) -/

theorem chimeInUse_iff (i : Fin 32) (s : State) : chimeInUse i s = true ↔
    (∃ e ∈ s.chime.queue, e.id = i) ∨ ∃ v, (s.voice v).state ≠ .idle ∧ (s.voice v).id = i := by
  rw [chimeInUse, Bool.or_eq_true, queued?_isSome_iff]
  simp [Voice.busy_iff]

theorem chimeDefine_unknown (h : 32 ≤ id) (option : Nat) (p : Option ChimeParams) (s : State) :
    chimeDefine id option p s = refuse .param s := by
  rw [chimeDefine, fin?_eq_none h]

theorem chimeDefine_read (i : Fin 32) (s : State) :
    chimeDefine i.val 2 none s = report (optionBytes ChimeEntry.bytes (s.chimeEntry i) ++ chimeStatus s) s := by
  rw [chimeDefine, fin?_val]
  rfl

theorem chimeDefine_remove (i : Fin 32) (s : State) :
    chimeDefine i.val 1 none s = if chimeInUse i s then refuse .inUse s else done (setChimeEntry i none s) := by
  rw [chimeDefine, fin?_val]
  rfl

theorem chimeDefine_invalid {p : ChimeParams} (h : chimeParams? p = none) (i : Fin 32) (s : State) :
    chimeDefine i.val 0 (some p) s = refuse .param s := by
  simp [chimeDefine, fin?_val, h]

theorem chimeDefine_valid {p : ChimeParams} {e : ChimeEntry} (h : chimeParams? p = some e) (i : Fin 32) (s : State) :
    chimeDefine i.val 0 (some p) s =
      if chimeInUse i s then refuse .inUse s else done (setChimeEntry i (some e) s) := by
  simp [chimeDefine, fin?_val, h]

end Sys2Proof.Machine
end

section
/-! What the Chime Engine's operations leave of the queue and of the proximity function, and what keeps a law through a
dispatch (R138 to R145). -/

namespace Sys2Proof.Machine

variable {s : State} {v : Fin 4}

/-! ### The queue and the function's state under the operations on a voice -/

theorem fillBuffer_chime (v : Fin 4) (one : Bool) (page : Option Nat) (s : State) :
    ∃ b, (fillBuffer v one page s).chime = (s.setVoice v ((s.voice v).setBuffer one b)).chime := by
  cases page with
  | none => exact ⟨.empty, rfl⟩
  | some p => exact ⟨.reading p s.store.nextToken, by rw [fillBuffer_some]; simp⟩

@[simp] theorem fillBuffer_queue (v : Fin 4) (one : Bool) (page : Option Nat) (s : State) :
    (fillBuffer v one page s).chime.queue = s.chime.queue := by
  obtain ⟨b, h⟩ := fillBuffer_chime v one page s
  rw [h]
  rfl

@[simp] theorem fillBuffer_proximity (v : Fin 4) (one : Bool) (page : Option Nat) (s : State) :
    (fillBuffer v one page s).chime.proximity = s.chime.proximity := by
  obtain ⟨b, h⟩ := fillBuffer_chime v one page s
  rw [h]
  rfl

@[simp] theorem endVoice_queue (v : Fin 4) (s : State) : (endVoice v s).chime.queue = s.chime.queue := by
  by_cases idle : (s.voice v).state = .idle
  · rw [endVoice_idle idle]
  · rw [endVoice_chime idle]
    rfl

@[simp] theorem endVoice_proximity (v : Fin 4) (s : State) : (endVoice v s).chime.proximity = s.chime.proximity := by
  by_cases idle : (s.voice v).state = .idle
  · rw [endVoice_idle idle]
  · rw [endVoice_chime idle]
    rfl

@[simp] theorem proximityVoiceGone_queue (r : Voice) (s : State) :
    (proximityVoiceGone r s).chime.queue = s.chime.queue := by
  rw [proximityVoiceGone_eq]
  split <;> rfl

@[simp] theorem proximityVoiceGone_counters (r : Voice) (s : State) :
    (proximityVoiceGone r s).chime.counters = s.chime.counters := by
  rw [proximityVoiceGone_eq]
  split <;> rfl

theorem proximityVoiceGone_other {r : Voice} (other : r.proximity = false) (s : State) : proximityVoiceGone r s = s := by
  simp [proximityVoiceGone_eq, other]

@[simp] theorem dropVoice_queue (v : Fin 4) (s : State) : (dropVoice v s).chime.queue = s.chime.queue := by
  rw [dropVoice_eq]
  dsimp only
  split <;> simp

/-- A buffer that is filled changes its voice's record, but not whose voice it is. -/
theorem fillBuffer_voices (v : Fin 4) (one : Bool) (page : Option Nat) (s : State) :
    ∃ r : Voice, r.proximity = (s.voice v).proximity ∧
      (fillBuffer v one page s).chime = { s.chime with voices := s.chime.voices.set v r } := by
  obtain ⟨b, h⟩ := fillBuffer_chime v one page s
  exact ⟨_, by cases one <;> rfl, h⟩

theorem firstPages_chime (v : Fin 4) (e : QueueEntry) (c : ChimeEntry) (a : AssetRecord) (s : State) :
    ∃ r : Voice, r.proximity = e.proximity ∧
      (firstPages v e c a s).chime = { (startedState v e c a s).chime with
        voices := (startedState v e c a s).chime.voices.set v r } := by
  obtain ⟨r0, same0, first⟩ := fillBuffer_voices v false (some 0) (startedState v e c a s)
  obtain ⟨r1, same1, second⟩ := fillBuffer_voices v true ((startedVoice e c a s).nextPage 0)
    (fillBuffer v false (some 0) (startedState v e c a s))
  have written : (fillBuffer v false (some 0) (startedState v e c a s)).voice v = r0 := by simp [State.voice, first]
  have started : ((startedState v e c a s).voice v).proximity = e.proximity := by simp [startedState, startedVoice]
  refine ⟨r1, by rw [same1, written, same0, started], ?_⟩
  rw [firstPages, second, first]
  simp

/-- Of the Chime Engine, a start changes its voice, the start number, and for a proximity entry the function's state. -/
theorem beginVoice_chime (v : Fin 4) (e : QueueEntry) (c : ChimeEntry) (a : AssetRecord) (s : State) :
    ∃ r : Voice, r.proximity = e.proximity ∧ (beginVoice v e c a s).chime = { s.chime with
      voices := s.chime.voices.set v r, nextStart := s.chime.nextStart + 1,
      proximity := if e.proximity then .sounding else s.chime.proximity } := by
  obtain ⟨r, same, pages⟩ := firstPages_chime v e c a s
  have quiet : (beginVoice v e c a s).chime = (firstPages v e c a s).chime := by
    rw [beginVoice_eq]
    split <;> simp
  refine ⟨r, same, ?_⟩
  rw [quiet, pages]
  simp [startedState, State.setVoice]

theorem beginVoice_queue (v : Fin 4) (e : QueueEntry) (c : ChimeEntry) (a : AssetRecord) (s : State) :
    (beginVoice v e c a s).chime.queue = s.chime.queue := by
  obtain ⟨r, -, h⟩ := beginVoice_chime v e c a s
  rw [h]

theorem mem_insertEntry {e x : QueueEntry} {q : List QueueEntry} : x ∈ insertEntry e q ↔ x = e ∨ x ∈ q := by
  rw [insertEntry_eq, List.mem_append, List.mem_cons]
  have whole := List.takeWhile_append_dropWhile (p := fun x => !e.before x) (l := q)
  conv_rhs => rw [← whole, List.mem_append]
  tauto

/-! ### A law kept through a dispatch (R140 to R143) -/

/-- A law `P` of states, and what it gives of every queue entry, that each operation of a dispatch keeps. -/
structure DispatchLaw (P : State → Prop) (E : QueueEntry → Prop) : Prop where
  entries : ∀ {s}, P s → ∀ e ∈ s.chime.queue, E e
  silenced : ∀ {s v}, P s → (s.voice v).state ≠ .idle → P (silenceVoice v s)
  shorter : ∀ {s} (keep : QueueEntry → Bool), P s → P (setQueue (s.chime.queue.filter keep) s)
  purged : ∀ {s e}, P s → E e → P (removeEntry e s)
  counted : ∀ {s} (f : ChimeCounters → ChimeCounters), P s → P (countChime f s)
  begun : ∀ {s v e c a}, P s → E e → P (beginVoice v e c a s)

namespace DispatchLaw

variable {P : State → Prop} {E : QueueEntry → Prop} (law : DispatchLaw P E) {e : QueueEntry}
include law

theorem silenceAt (z : ZoneSet) (v : Fin 4) (hs : P s) : P (silenceAt z v s) := by
  unfold Machine.silenceAt
  split
  case isTrue meets => exact law.silenced hs ((Voice.meets_iff _ z).mp meets).1
  case isFalse => exact hs

theorem clearTheWay (z : ZoneSet) (hs : P s) : P (clearTheWay z s) := by
  have zones : P (silenceZones z s) := List.foldlRecOn _ _ hs fun _ hu v _ => law.silenceAt z v hu
  by_cases free : ∃ y, ((silenceZones z s).voice y).state = .idle
  · rwa [clearTheWay_idle free]
  · push Not at free
    obtain ⟨v, chosen⟩ : ∃ v, victim (silenceZones z s) = some v :=
      Option.ne_none_iff_exists'.mp fun none => free 0 (victim_eq_none_iff.mp none 0)
    rw [clearTheWay_victim free chosen]
    exact law.silenced zones (free v)

theorem startEntry (hs : P s) (he : E e) : P (startEntry e s) := by
  have cleared := law.shorter (fun x => decide (x.id ≠ e.id)) (law.clearTheWay e.zones hs)
  unfold Machine.startEntry
  dsimp only
  split
  · exact law.begun cleared he
  · exact cleared

theorem examine (q : List QueueEntry) (hq : ∀ e ∈ q, E e) (hs : P s) : P (examine q s).1 := by
  induction q generalizing s with
  | nil => exact hs
  | cons e q ih =>
    obtain ⟨he, rest⟩ := List.forall_mem_cons.mp hq
    cases asset : chimeAsset e.id s with
    | none =>
      rw [examine_unusable q asset]
      exact ih rest (law.counted _ (law.purged hs he))
    | some a =>
      have usable : (chimeAsset e.id s).isSome = true := by rw [asset]; rfl
      by_cases passes : startTest e s = true
      · rw [examine_starts q usable passes]
        dsimp only
        exact law.startEntry hs he
      · rw [examine_waits q usable (Bool.not_eq_true _ ▸ passes)]
        exact ih rest hs

theorem dispatchFor (n : Nat) (hs : P s) : P (dispatchFor n s) := by
  induction n generalizing s with
  | zero => exact hs
  | succ n ih =>
    have examined := law.examine s.chime.queue (law.entries hs) hs
    rw [dispatchFor_succ]
    split
    · exact ih examined
    · exact examined

theorem dispatch (hs : P s) : P (dispatch s) := law.dispatchFor 4096 hs

theorem dispatchAfter (before : State) (hs : P s) : P (dispatchAfter before s) := by
  unfold Machine.dispatchAfter
  split
  · exact hs
  · exact law.dispatch hs

end DispatchLaw

/-! ### Dispatch where something changed (R140) -/

theorem dispatchAfter_same {before : State} (queue : s.chime.queue = before.chime.queue)
    (voices : ∀ v, (s.voice v).busy = (before.voice v).busy) : dispatchAfter before s = s :=
  if_pos ⟨queue, by simp [voices]⟩

theorem dispatchAfter_queue {before : State} (queue : s.chime.queue ≠ before.chime.queue) :
    dispatchAfter before s = dispatch s := if_neg fun h => queue h.1

theorem dispatchAfter_voice {before : State} (voice : (s.voice v).busy ≠ (before.voice v).busy) :
    dispatchAfter before s = dispatch s :=
  if_neg fun h => voice (by simpa using List.all_eq_true.mp h.2 v (List.mem_finRange v))

theorem dispatch_empty (h : s.chime.queue = []) : dispatch s = s := by
  rw [dispatch, dispatchFor_succ, h]
  rfl

/-! ### All voices changed, one after another -/

/-- A walk over some voices that changes each by its own record. -/
theorem foldl_setVoice {step : State → Fin 4 → State} {f : Voice → Voice} {vs : List (Fin 4)} (nodup : vs.Nodup) {u : State}
    (acts : ∀ u v, u.voice v = s.voice v → step u v = u.setVoice v (f (u.voice v)))
    (unchanged : ∀ v ∈ vs, u.voice v = s.voice v) :
    vs.foldl step u = vs.foldl (fun u v => u.setVoice v (f (s.voice v))) u := by
  induction vs generalizing u with
  | nil => rfl
  | cons v vs ih =>
    obtain ⟨same, rest⟩ := List.forall_mem_cons.mp unchanged
    obtain ⟨once, others⟩ := List.nodup_cons.mp nodup
    rw [List.foldl_cons, List.foldl_cons, acts u v same, same]
    refine ih others fun w hw => ?_
    rw [State.voice_setVoice_ne _ _ _ _ fun e : w = v => once (e ▸ hw), rest w hw]

/-- A walk over all voices changes all of them at once. -/
theorem foldl_voices {step : State → Fin 4 → State} {f : Voice → Voice}
    (acts : ∀ u v, u.voice v = s.voice v → step u v = u.setVoice v (f (u.voice v))) :
    (List.finRange 4).foldl step s = { s with chime.voices := s.chime.voices.map f } := by
  have voices : List.finRange 4 = [0, 1, 2, 3] := by decide
  have all : (((s.chime.voices.set 0 (f (s.voice 0))).set 1 (f (s.voice 1))).set 2 (f (s.voice 2))).set 3 (f (s.voice 3)) =
      s.chime.voices.map f := by
    ext n h
    match n, h with
    | 0, _ | 1, _ | 2, _ | 3, _ => simp [State.voice]
  rw [foldl_setVoice (List.nodup_finRange 4) acts fun _ _ => rfl, voices, ← all]
  rfl

/-- The voice of a state whose voices were all changed. -/
theorem voice_map (f : Voice → Voice) (s : State) (v : Fin 4) :
    ({ s with chime.voices := s.chime.voices.map f } : State).voice v = f (s.voice v) := by
  simp [State.voice]

end Sys2Proof.Machine
end

section
/-! CHIME_STOP and PROXIMITY_SET (R146, R147), and the stop of the proximity function (R150). -/

namespace Sys2Proof.Machine

variable {s : State} {v : Fin 4} {id : Nat} {i : Fin 32}

/-! ### CHIME_STOP (R146, R150) -/

/-- A voice of some chimes marked stopping. -/
def Voice.stopped (names : Fin 32 → Bool) (r : Voice) : Voice :=
  if r.busy && names r.id then { r with stopping := true } else r

/-- What CHIME_STOP of some chimes does before the dispatch. -/
def stopChimes (names : Fin 32 → Bool) (s : State) : State := { s with
  chime.queue := s.chime.queue.filter fun e => !names e.id,
  chime.voices := s.chime.voices.map (Voice.stopped names),
  chime.proximity := if s.chime.proximity ≠ .off ∧ (∃ i, s.chime.proximityId = some i ∧ names i = true) then .suspended
    else s.chime.proximity }

/-- The chimes that CHIME_STOP's id names (R146). -/
def stopNames (id : Nat) (i : Fin 32) : Bool := id = 255 || id = i.val

theorem stopNames_all : stopNames 255 = fun _ => true := by
  funext i
  simp [stopNames]

theorem stopNames_one (i : Fin 32) : stopNames i.val = fun j => decide (j = i) := by
  funext j
  have few : ¬ i.val = 255 := by omega
  simp [stopNames, few, Fin.ext_iff, eq_comm]

theorem chimeStop_unknown (h : 32 ≤ id) (single : id ≠ 255) (s : State) : chimeStop id s = refuse .param s :=
  if_pos ⟨h, single⟩

theorem chimeStop_known (h : id ≤ 31 ∨ id = 255) (s : State) :
    chimeStop id s = done (dispatchAfter s (stopChimes (stopNames id) s)) := by
  have known : ¬ (31 < id ∧ id ≠ 255) := by omega
  unfold chimeStop
  rw [if_neg known]
  dsimp only
  rw [foldl_voices (f := Voice.stopped (stopNames id))]
  · refine congrArg (fun t => done (dispatchAfter s t)) ?_
    unfold stopChimes
    by_cases suspends : s.chime.proximity ≠ .off ∧ ∃ i, s.chime.proximityId = some i ∧ stopNames id i = true
    · rw [if_pos suspends, if_pos]
      · rfl
      · obtain ⟨running, i, enabled, named⟩ := suspends
        rw [enabled, Bool.and_eq_true]
        exact ⟨decide_eq_true running, named⟩
    · rw [if_neg suspends, if_neg]
      · rfl
      · rw [Bool.and_eq_true, decide_eq_true_eq]
        rintro ⟨running, named⟩
        cases enabled : s.chime.proximityId with
        | none => simp [enabled] at named
        | some i =>
          rw [enabled] at named
          exact suspends ⟨running, i, enabled, named⟩
  · intro u v _
    unfold Voice.stopped
    split
    · rename_i both
      rw [if_pos (by exact both)]
    · rename_i other
      rw [if_neg (by exact other), State.setVoice_self]

@[simp] theorem Voice.stopped_busy (names : Fin 32 → Bool) (r : Voice) : (r.stopped names).busy = r.busy := by
  unfold stopped
  split <;> rfl

theorem Voice.stopped_iff (names : Fin 32 → Bool) (r : Voice) :
    r.stopped names = if r.state ≠ .idle ∧ names r.id = true then { r with stopping := true } else r := by
  simp only [stopped, Bool.and_eq_true, r.busy_iff]

/-- CHIME_STOP changes which voices are stopping, not which are busy. -/
theorem stopChimes_busy (names : Fin 32 → Bool) (s : State) (v : Fin 4) :
    ((stopChimes names s).voice v).busy = (s.voice v).busy := by
  have changed : (stopChimes names s).voice v = (s.voice v).stopped names := voice_map _ s v
  rw [changed, Voice.stopped_busy]

/-- CHIME_STOP dispatches where an entry went (R140). -/
theorem chimeStop_unqueued (i : Fin 32) (none : ∀ e ∈ s.chime.queue, e.id ≠ i) :
    chimeStop i.val s = done (stopChimes (stopNames i.val) s) := by
  rw [chimeStop_known (.inl (Nat.le_of_lt_succ i.isLt)), dispatchAfter_same _ (stopChimes_busy _ s)]
  rw [stopNames_one]
  exact List.filter_eq_self.mpr fun e mem => by simp [none e mem]

theorem chimeStop_queued (i : Fin 32) (some : ∃ e ∈ s.chime.queue, e.id = i) :
    chimeStop i.val s = done (dispatch (stopChimes (stopNames i.val) s)) := by
  rw [chimeStop_known (.inl (Nat.le_of_lt_succ i.isLt)), dispatchAfter_queue]
  obtain ⟨e, mem, same⟩ := some
  rw [stopNames_one]
  intro unchanged
  have := List.filter_eq_self.mp unchanged e mem
  simp [same] at this

/-- With every entry gone a dispatch does nothing. -/
theorem chimeStop_all (s : State) : chimeStop 255 s = done (stopChimes (stopNames 255) s) := by
  have emptied : (stopChimes (stopNames 255) s).chime.queue = [] := by
    rw [stopNames_all]
    exact List.filter_eq_nil_iff.mpr (by simp)
  rw [chimeStop_known (.inr rfl)]
  unfold dispatchAfter
  split
  · rfl
  · rw [dispatch_empty emptied]

/-- CHIME_STOP of one chime, item by item. -/
theorem stopChimes_one (i : Fin 32) (s : State) : stopChimes (stopNames i.val) s = { s with
    chime.queue := s.chime.queue.filter fun e => e.id != i,
    chime.voices := s.chime.voices.map fun r => if r.state ≠ .idle ∧ r.id = i then { r with stopping := true } else r,
    chime.proximity := if s.chime.proximity = .off ∨ s.chime.proximityId ≠ some i then s.chime.proximity
      else .suspended } := by
  have voices : Voice.stopped (stopNames i.val) =
      fun r => if r.state ≠ .idle ∧ r.id = i then { r with stopping := true } else r := by
    funext r
    simp [Voice.stopped_iff, stopNames_one]
  have entries : (fun e : QueueEntry => !stopNames i.val e.id) = fun e => e.id != i := by
    funext e
    simp [stopNames_one, bne, beq_eq_decide]
  have suspends : (s.chime.proximity ≠ .off ∧ ∃ j, s.chime.proximityId = some j ∧ stopNames i.val j = true) ↔
      ¬ (s.chime.proximity = .off ∨ s.chime.proximityId ≠ some i) := by
    simp [stopNames_one]
  unfold stopChimes
  simp only [voices, entries, suspends, ite_not]

/-- CHIME_STOP of all chimes, item by item. -/
theorem stopChimes_all (s : State) : stopChimes (stopNames 255) s = { s with
    chime.queue := [],
    chime.voices := s.chime.voices.map fun r => if r.state ≠ .idle then { r with stopping := true } else r,
    chime.proximity := if s.chime.proximity = .off ∨ s.chime.proximityId = none then s.chime.proximity
      else .suspended } := by
  have voices : Voice.stopped (stopNames 255) = fun r => if r.state ≠ .idle then { r with stopping := true } else r := by
    funext r
    simp [Voice.stopped_iff, stopNames_all]
  have suspends : (s.chime.proximity ≠ .off ∧ ∃ j, s.chime.proximityId = some j ∧ stopNames 255 j = true) ↔
      ¬ (s.chime.proximity = .off ∨ s.chime.proximityId = none) := by
    simp [stopNames_all, Option.eq_none_iff_forall_ne_some]
  unfold stopChimes
  simp only [voices, suspends, ite_not]
  simp [stopNames_all]

/-! ### PROXIMITY_SET (R147) -/

/-- R147's conditions on an id and its bands. -/
def proximityInRange (id : Nat) (bands : List ProximityBand) : Prop :=
  (id ≤ 31 ∧ 1 ≤ bands.length ∨ id = 255) ∧ bands.length ≤ 5 ∧
  (∀ b ∈ bands, 10 ≤ b.limit ∧ b.limit ≤ 2550 ∧ b.gap ≤ 5000) ∧ bands.Pairwise (fun a b => a.limit < b.limit)

theorem proximityBandsOk_iff (bands : List ProximityBand) : proximityBandsOk bands = true ↔ bands.length ≤ 5 ∧
    (∀ b ∈ bands, 10 ≤ b.limit ∧ b.limit ≤ 2550 ∧ b.gap ≤ 5000) ∧ bands.Pairwise (fun a b => a.limit < b.limit) := by
  have rising : eachToNext (fun a b : ProximityBand => decide (a.limit < b.limit)) bands = true ↔
      bands.Pairwise (fun a b => a.limit < b.limit) := by
    simpa using eachToNext_iff_pairwise (r := fun a b : ProximityBand => decide (a.limit < b.limit))
      (by simp; omega) bands
  simp only [proximityBandsOk, Bool.and_eq_true, rising, List.all_eq_true, decide_eq_true_eq, and_assoc]
  tauto

theorem proximitySet_refusal_iff (id : Nat) (bands : List ProximityBand) :
    ((31 < id ∧ id ≠ 255) ∨ (id ≠ 255 ∧ bands.length = 0) ∨ (!proximityBandsOk bands) = true) ↔
      ¬ proximityInRange id bands := by
  rw [Bool.not_eq_true', ← Bool.not_eq_true, proximityBandsOk_iff, proximityInRange]
  have : ((31 < id ∧ id ≠ 255) ∨ (id ≠ 255 ∧ bands.length = 0)) ↔ ¬ (id ≤ 31 ∧ 1 ≤ bands.length ∨ id = 255) := by omega
  rw [← or_assoc, this]
  tauto

theorem proximitySet_invalid {bands : List ProximityBand} (bad : ¬ proximityInRange id bands) (s : State) :
    proximitySet id bands s = refuse .param s := if_pos ((proximitySet_refusal_iff id bands).mpr bad)

theorem proximitySet_valid {bands : List ProximityBand} (ok : proximityInRange id bands) (s : State) :
    proximitySet id bands s = done (proximityEvaluate
      { proximityStop s with chime.proximityId := fin? 32 id, chime.proximityBands := bands }) :=
  if_neg fun h => (proximitySet_refusal_iff id bands).mp h ok

end Sys2Proof.Machine
end

section
/-! The proximity function (R148 to R150): its conditions, its stop, its request, and an accepted VEHICLE packet. -/

namespace Sys2Proof.Machine

variable {s : State} {v : Fin 4}

/-! ### Where no trace of the function is left (R150) -/

/-- The function OFF, with no queue entry and no busy voice that carries its mark. -/
structure Unmarked (s : State) : Prop where
  off : s.chime.proximity = .off
  queue : ∀ x ∈ s.chime.queue, x.proximity = false
  voices : ∀ w, (s.voice w).state ≠ .idle → (s.voice w).proximity = false

namespace Unmarked

variable (unmarked : Unmarked s)
include unmarked

theorem of_chime {t : State} (h : t.chime = s.chime) : Unmarked t :=
  ⟨by rw [h]; exact unmarked.off, by rw [h]; exact unmarked.queue, fun w => by
    rw [voice_of_chime h]; exact unmarked.voices w⟩

theorem setQueue {q : List QueueEntry} (hq : ∀ x ∈ q, x.proximity = false) : Unmarked (setQueue q s) :=
  ⟨unmarked.off, hq, unmarked.voices⟩

theorem countChime (f : ChimeCounters → ChimeCounters) : Unmarked (countChime f s) :=
  ⟨unmarked.off, unmarked.queue, unmarked.voices⟩

theorem raiseFlag (f : Flag) : Unmarked (raiseFlag f s) := unmarked.of_chime (by simp)

theorem endVoice (v : Fin 4) : Unmarked (endVoice v s) where
  off := by rw [endVoice_proximity]; exact unmarked.off
  queue := by rw [endVoice_queue]; exact unmarked.queue
  voices w busy := by
    by_cases same : w = v
    · subst same
      by_cases idle : (s.voice w).state = .idle
      · rw [endVoice_idle idle] at busy
        exact absurd idle busy
      · rw [endVoice_voice idle]
        rfl
    · rw [endVoice_voice_other same] at busy ⊢
      exact unmarked.voices w busy

theorem dropVoice (busy : (s.voice v).state ≠ .idle) : Unmarked (dropVoice v s) := by
  have ended := unmarked.endVoice v
  rw [dropVoice_eq, proximityVoiceGone_other (unmarked.voices v busy)]
  dsimp only
  split
  · exact ended.raiseFlag _
  · exact (ended.countChime fun c => { c with dropped := bump c.dropped }).raiseFlag _

theorem silenceVoice (busy : (s.voice v).state ≠ .idle) : Unmarked (silenceVoice v s) := by
  have other := unmarked.voices v busy
  have ended := unmarked.endVoice v
  by_cases returns : (s.voice v).returns
  · cases queued : (Machine.endVoice v s).queued? (s.voice v).id with
    | some x =>
      have widened : ∀ y ∈ widenEntry (s.voice v).id (s.voice v).zones (Machine.endVoice v s).chime.queue,
          y.proximity = false := by
        unfold widenEntry
        simp only [List.forall_mem_map]
        intro y mem
        split <;> exact ended.queue y mem
      rw [silenceVoice_merged returns queued]
      dsimp only
      rw [proximityVoiceGone_other other]
      split <;> exact ended.setQueue widened
    | none =>
      by_cases room : (Machine.endVoice v s).chime.queue.length < 8
      · have inserted : ∀ y ∈ insertEntry (s.voice v).entry (Machine.endVoice v s).chime.queue, y.proximity = false := by
          intro y mem
          rcases mem_insertEntry.mp mem with rfl | old
          · exact other
          · exact ended.queue y old
        rw [silenceVoice_queued returns queued room]
        simp only [other, Bool.false_eq_true, false_and, if_false]
        exact ended.setQueue inserted
      · rw [silenceVoice_refused returns queued (Nat.le_of_not_lt room)]
        exact unmarked.dropVoice busy
  · rw [silenceVoice_dropped returns]
    exact unmarked.dropVoice busy

theorem removeEntry {e : QueueEntry} (other : e.proximity = false) : Unmarked (removeEntry e s) := by
  rw [removeEntry_eq]
  refine ⟨?_, fun x mem => unmarked.queue x (List.mem_of_mem_filter mem), unmarked.voices⟩
  simpa [other] using unmarked.off

theorem beginVoice {e : QueueEntry} (other : e.proximity = false) (c : ChimeEntry) (a : AssetRecord) :
    Unmarked (beginVoice v e c a s) := by
  obtain ⟨r, near, h⟩ := beginVoice_chime v e c a s
  refine ⟨?_, ?_, fun w busy => ?_⟩
  · rw [h]
    simpa [other] using unmarked.off
  · rw [h]
    exact unmarked.queue
  · have written : (Machine.beginVoice v e c a s).voice w = (s.setVoice v r).voice w := by
      simp [State.voice, h, State.setVoice]
    rw [written] at busy ⊢
    by_cases same : w = v
    · rw [same, State.voice_setVoice, near, other]
    · rw [State.voice_setVoice_ne _ _ _ _ same] at busy ⊢
      exact unmarked.voices w busy

end Unmarked

theorem unmarked_dispatchLaw : DispatchLaw Unmarked (fun e => e.proximity = false) where
  entries unmarked := unmarked.queue
  silenced unmarked busy := unmarked.silenceVoice busy
  shorter _ unmarked := unmarked.setQueue fun x mem => unmarked.queue x (List.mem_of_mem_filter mem)
  purged unmarked other := unmarked.removeEntry other
  counted f unmarked := unmarked.countChime f
  begun unmarked other := unmarked.beginVoice other _ _

/-! ### The function's stop (R150) -/

/-- A voice of the function ended. -/
def endMarked (s : State) (v : Fin 4) : State :=
  if (s.voice v).busy && (s.voice v).proximity then endVoice v s else s

theorem proximityStop_eq (s : State) : proximityStop s = dispatchAfter s (setProximity .off
    ((List.finRange 4).foldl endMarked (setQueue (s.chime.queue.filter fun e => !e.proximity) s))) := rfl

/-- A voice that is busy with the function's mark. -/
def Voice.marked (r : Voice) : Prop := r.state ≠ .idle ∧ r.proximity = true

theorem Voice.marked_iff (r : Voice) : (r.busy && r.proximity) = true ↔ r.marked := by
  simp [marked, busy_iff]

theorem endMarked_queue (s : State) (v : Fin 4) : (endMarked s v).chime.queue = s.chime.queue := by
  unfold endMarked
  split <;> simp

theorem endMarked_unmarked (s : State) (v : Fin 4) : ¬ ((endMarked s v).voice v).marked := by
  unfold endMarked
  split
  case isTrue marked =>
    rw [endVoice_voice ((Voice.marked_iff _).mp marked).1]
    exact fun h => h.1 rfl
  case isFalse unmarked => rwa [Voice.marked_iff] at unmarked

theorem endMarked_stays {w : Fin 4} (h : ¬ (s.voice w).marked) : ¬ ((endMarked s v).voice w).marked := by
  by_cases same : w = v
  · exact same ▸ endMarked_unmarked s w
  · unfold endMarked
    split
    · rwa [endVoice_voice_other same]
    · exact h

theorem foldl_endMarked_unmarked (vs : List (Fin 4)) (s : State) {w : Fin 4} (h : w ∈ vs ∨ ¬ (s.voice w).marked) :
    ¬ ((vs.foldl endMarked s).voice w).marked := by
  induction vs generalizing s with
  | nil => simpa using h
  | cons v vs ih =>
    refine ih (endMarked s v) ?_
    rcases h with mem | unmarked
    · rcases List.mem_cons.mp mem with rfl | rest
      · exact .inr (endMarked_unmarked s w)
      · exact .inl rest
    · exact .inr (endMarked_stays unmarked)

theorem proximityStop_unmarked (s : State) : Unmarked (proximityStop s) := by
  rw [proximityStop_eq]
  generalize hq : setQueue (s.chime.queue.filter fun e => !e.proximity) s = t
  have queue := foldl_keeps (fun s => s.chime.queue) endMarked endMarked_queue (List.finRange 4) t
  have voices := fun w => foldl_endMarked_unmarked (List.finRange 4) t (w := w) (.inl (List.mem_finRange w))
  generalize (List.finRange 4).foldl endMarked t = u at queue voices ⊢
  refine unmarked_dispatchLaw.dispatchAfter s ⟨rfl, fun x mem => ?_, fun w busy => ?_⟩
  · have listed : x ∈ s.chime.queue.filter fun e => !e.proximity := by
      have : x ∈ u.chime.queue := mem
      rwa [queue, ← hq] at this
    simpa using List.of_mem_filter listed
  · exact Bool.not_eq_true _ ▸ fun near => voices w ⟨busy, near⟩

/-! ### The function's conditions (R148, R149) -/

theorem proximityEnabled_iff : proximityEnabled s = true ↔
    s.chime.proximityId ≠ none ∧ s.vehicle.reverseAsserted = true ∧ s.vehicle.fresh = true := by
  simp [proximityEnabled, Option.isSome_iff_ne_none, and_assoc]

theorem proximityEvaluate_starts (enabled : proximityEnabled s = true) (off : s.chime.proximity = .off) :
    proximityEvaluate s = proximityRequest s := by
  simp [proximityEvaluate, enabled, off]

theorem proximityEvaluate_runs (enabled : proximityEnabled s = true) (on : s.chime.proximity ≠ .off) :
    proximityEvaluate s = s := by
  simp [proximityEvaluate, enabled, on]

theorem proximityEvaluate_off (disabled : ¬ proximityEnabled s = true) (off : s.chime.proximity = .off) :
    proximityEvaluate s = s := by
  simp [proximityEvaluate, disabled, off]

theorem proximityEvaluate_stops (disabled : ¬ proximityEnabled s = true) (on : s.chime.proximity ≠ .off) :
    proximityEvaluate s = proximityStop s := by
  simp [proximityEvaluate, disabled, on]

/-! ### An internal request (R136, R137) -/

section
variable {i : Fin 32} {c : ChimeEntry} {z : Option ZoneSet} {near : Bool}

theorem internalRequest_undefined (h : s.chimeEntry i = none) :
    internalRequest i z near s = countChime (fun c => { c with undefined := bump c.undefined }) s := by
  simp [internalRequest, h]

theorem internalRequest_notReady (defined : s.chimeEntry i = some c) (busy : s.store.state ≠ .ready) :
    internalRequest i z near s = countChime (fun k => { k with notReady := bump k.notReady }) s := by
  simp [internalRequest, defined, State.storeReady, busy]

theorem internalRequest_unusable (defined : s.chimeEntry i = some c) (ready : s.store.state = .ready)
    (unusable : usableAsset c.asset s = none) :
    internalRequest i z near s = countChime (fun k => { k with undefined := bump k.undefined }) s := by
  simp [internalRequest, defined, State.storeReady, ready, unusable]

/-- A taken request of another unit is counted where it is refused. -/
theorem internalRequest_taken (defined : s.chimeEntry i = some c) (ready : s.store.state = .ready)
    (usable : (usableAsset c.asset s).isSome = true) : internalRequest i z near s =
      if (settleRequest i (z.getD c.zones) c near s).1 = .refused
        then countChime (fun k => { k with refused := bump k.refused }) (settleRequest i (z.getD c.zones) c near s).2
        else (settleRequest i (z.getD c.zones) c near s).2 := by
  obtain ⟨a, ha⟩ := Option.isSome_iff_exists.mp usable
  simp only [internalRequest, defined, State.storeReady, ready, ha]
  obtain ⟨settled, t⟩ := settleRequest i (z.getD c.zones) c near s
  cases settled <;> rfl

end

/-- A proximity entry that enters the queue leaves the function in REQUESTED (R149). -/
theorem enqueue_near {e : QueueEntry} {t : State} (h : enqueue e s = some t) (near : e.proximity = true) :
    t.chime.proximity = .requested := by
  unfold enqueue at h
  simp only [near, if_true] at h
  split at h
  · obtain rfl := Option.some.inj h
    rfl
  · split at h
    · cases h
    · split at h
      · obtain rfl := Option.some.inj h
        rfl
      · cases h

theorem proximityRequest_beyond (h : ¬ InBand s) : proximityRequest s = setProximity .quiet s := by
  unfold proximityRequest
  rw [proximityBand_eq_none_iff.mpr h]
  cases s.chime.proximityId <;> rfl

theorem proximityRequest_inBand {i : Fin 32} (h : InBand s) (enabled : s.chime.proximityId = some i) :
    proximityRequest s = internalRequest i none true (setProximity .quiet s) := by
  obtain ⟨b, band⟩ := proximityBand_isSome h
  unfold proximityRequest
  rw [band, enabled]

/-- The zones that no voice covers are read from the voices. -/
theorem uncovered_of_voices {t : State} (h : ∀ v, t.voice v = s.voice v) (i : Fin 32) (z : ZoneSet) :
    uncovered i z t = uncovered i z s := by
  simp only [uncovered, h]

/-- A request of the function whose entry is defined, ready and usable, as it settles (R136, R137). -/
theorem proximityRequest_settled {i : Fin 32} {c : ChimeEntry} {settled : Settled} {t : State} (h : InBand s)
    (enabled : s.chime.proximityId = some i) (defined : s.chimeEntry i = some c) (ready : s.store.state = .ready)
    (usable : (usableAsset c.asset s).isSome = true)
    (request : settleRequest i c.zones c true (setProximity .quiet s) = (settled, t)) : proximityRequest s =
      if settled = .refused then countChime (fun k => { k with refused := bump k.refused }) t else t := by
  rw [proximityRequest_inBand h enabled, internalRequest_taken (s := setProximity .quiet s) defined ready usable,
    Option.getD_none, request]

/-! ### An accepted VEHICLE packet (R149) -/

/-- A voice of the function marked tailing, or unmarked. -/
def Voice.tail (on : Bool) (r : Voice) : Voice := if r.state ≠ .idle ∧ r.proximity = true then { r with tailing := on } else r

@[simp] theorem Voice.tail_busy (on : Bool) (r : Voice) : (r.tail on).busy = r.busy := by
  unfold tail
  split <;> rfl

/-- One voice of the function as it is marked or unmarked. -/
def tailVoice (on : Bool) (s : State) (v : Fin 4) : State :=
  if (s.voice v).busy && (s.voice v).proximity then
    if on && (s.voice v).state == .gap then proximityVoiceGone (s.voice v) (endVoice v s)
    else s.setVoice v { s.voice v with tailing := on }
  else s

theorem markTailing_eq (on : Bool) (s : State) :
    markTailing on s = dispatchAfter s ((List.finRange 4).foldl (tailVoice on) s) := rfl

theorem tailVoice_marks {on : Bool} (sounds : on = false ∨ ((s.voice v).marked → (s.voice v).state ≠ .gap)) :
    tailVoice on s v = s.setVoice v ((s.voice v).tail on) := by
  unfold tailVoice Voice.tail
  by_cases marked : (s.voice v).marked
  · have stays : (on && (s.voice v).state == .gap) = false := by
      rcases sounds with off | other
      · simp [off]
      · simp [other marked]
    rw [if_pos ((Voice.marked_iff _).mpr marked), stays, if_pos (show _ ∧ _ from marked), if_neg Bool.false_ne_true]
  · rw [if_neg (mt (Voice.marked_iff _).mp marked), if_neg (show ¬ (_ ∧ _) from marked), State.setVoice_self]

/-- Where no voice of the function ends by it, the marking changes its voices alone. -/
theorem markTailing_marks {on : Bool} (sounds : on = false ∨ ∀ w, (s.voice w).marked → (s.voice w).state ≠ .gap) :
    markTailing on s = { s with chime.voices := s.chime.voices.map (Voice.tail on) } := by
  have walked : (List.finRange 4).foldl (tailVoice on) s = { s with chime.voices := s.chime.voices.map (Voice.tail on) } :=
    foldl_voices fun u w same => tailVoice_marks (sounds.imp_right fun h => same ▸ h w)
  rw [markTailing_eq, walked]
  exact dispatchAfter_same rfl fun w => by rw [voice_map, Voice.tail_busy]

/-- A walk that acts at one place only. -/
theorem foldl_once {α β : Type} {f : β → α → β} {a b : β} {x : α} (others : ∀ y, y ≠ x → f a y = a) (acts : f a x = b)
    (after : ∀ y, f b y = b) {xs : List α} (mem : x ∈ xs) : xs.foldl f a = b := by
  have stays : ∀ ys : List α, ys.foldl f b = b := fun ys => by
    induction ys with
    | nil => rfl
    | cons y ys ih => rw [List.foldl_cons, after, ih]
  induction xs with
  | nil => cases mem
  | cons y ys ih =>
    rw [List.foldl_cons]
    by_cases same : y = x
    · rw [same, acts, stays]
    · rw [others y same]
      exact ih ((List.mem_cons.mp mem).resolve_left (Ne.symm same))

theorem tailVoice_unmarked {on : Bool} (h : ¬ (s.voice v).marked) : tailVoice on s v = s :=
  if_neg (mt (Voice.marked_iff _).mp h)

/-- The function's only voice ends where it stands in its gap, and the function turns QUIET. -/
theorem markTailing_ends (tailing : s.chime.proximity = .tailing) (marked : (s.voice v).marked)
    (gap : (s.voice v).state = .gap) (only : ∀ w, (s.voice w).marked → w = v) :
    markTailing true s = dispatch (setProximity .quiet (endVoice v s)) := by
  have acts : tailVoice true s v = setProximity .quiet (endVoice v s) := by
    have ended : (true && (s.voice v).state == .gap) = true := by simp [gap]
    rw [tailVoice, if_pos ((Voice.marked_iff _).mpr marked), if_pos ended, proximityVoiceGone_eq,
      if_pos ⟨marked.2, .inr (by rw [endVoice_proximity, tailing])⟩]
    rfl
  have idle : ((setProximity .quiet (endVoice v s)).voice v) = .reset := endVoice_voice marked.1
  have after : ∀ w, ¬ ((setProximity .quiet (endVoice v s)).voice w).marked := fun w => by
    by_cases same : w = v
    · rw [same, idle]
      exact fun h => h.1 rfl
    · have kept : (setProximity .quiet (endVoice v s)).voice w = s.voice w := endVoice_voice_other same
      rw [kept]
      exact fun h => same (only w h)
  rw [markTailing_eq, foldl_once (fun w other => tailVoice_unmarked fun h => other (only w h)) acts
    (fun w => tailVoice_unmarked (after w)) (List.mem_finRange v)]
  refine dispatchAfter_voice (v := v) ?_
  rw [idle, (s.voice v).busy_iff.mpr marked.1]
  decide

/-- What an accepted VEHICLE packet does while d_min is in band. -/
theorem proximityPacket_inBand (h : InBand s) : proximityPacket s =
    match s.chime.proximity with
    | .quiet => proximityRequest s
    | .tailing => markTailing false (setProximity .sounding s)
    | _ => s := by
  obtain ⟨b, band⟩ := proximityBand_isSome h
  unfold proximityPacket
  rw [band]
  cases s.chime.proximity <;> rfl

/-- What an accepted VEHICLE packet does while d_min is not in band. -/
theorem proximityPacket_beyond (h : ¬ InBand s) : proximityPacket s =
    match s.chime.proximity with
    | .requested => dispatch (setProximity .quiet (setQueue (s.chime.queue.filter fun e => !e.proximity) s))
    | .sounding => markTailing true (setProximity .tailing s)
    | _ => s := by
  unfold proximityPacket
  rw [proximityBand_eq_none_iff.mpr h]
  cases s.chime.proximity <;> rfl

end Sys2Proof.Machine
end

section
/-! CHIME_DEFINE, CHIME_STOP, PROXIMITY_SET and the proximity function as one statement (R133, R146 to R151). -/

namespace Sys2Proof.Machine

variable {s : State}

/-- The status, list by list with its counts (R151). -/
theorem chimeStatus_eq (s : State) : chimeStatus s =
    u8 s.chime.queue.length ++ s.chime.queue.flatMap QueueEntry.bytes ++ s.chime.voices.toList.flatMap Voice.bytes ++
      u8 s.chime.proximity.code ++ proximityIdByte s.chime.proximityId ++
      u8 s.chime.proximityBands.length ++ s.chime.proximityBands.flatMap (fun b => u16 b.limit ++ u16 b.gap) ++
      optionBytes u16 (nearestObstacle s.vehicle.distances) := by
  simp only [chimeStatus, listBytes, List.append_assoc]

/-- A voice's items, the three marks together. -/
theorem Voice.bytes_eq (r : Voice) : r.bytes =
    u8 r.state.code ++ u8 r.id.val ++ [r.zones.byte] ++ u8 r.priority ++ u8 r.repeats ++
      [boolByte r.proximity, boolByte r.tailing, boolByte r.stopping] ++ u32 r.position ++ r.buffer0.bytes ++
      r.buffer1.bytes := by
  simp only [Voice.bytes, List.append_assoc, List.cons_append, List.nil_append]

/-- A catalogue entry's items, the two flags together. -/
theorem ChimeEntry.bytes_eq (e : ChimeEntry) : e.bytes =
    u16 e.asset ++ u16 e.level ++ u8 e.priority ++ [e.zones.byte] ++ u8 e.repeats ++ u16 e.gap ++
      [boolByte e.duck, boolByte e.follows] := by
  simp only [ChimeEntry.bytes, List.append_assoc, List.cons_append, List.nil_append]

/-! ### A command's step, by its owner's answer -/

section
variable {c : Command} {t : State}

theorem next_refused (running : Running s) (mark : Byte) {st : Status} (answer : perform c s = refuse st s)
    (plain : c.code ∉ ruledByTakeover := by simp [Command.code, ruledByTakeover]) :
    (.next (runCommand mark c s) : Host.Outcome State Fault Refusal) = .next (replied mark c.code st [] s) :=
  congrArg Host.Outcome.next (runCommand_refuse running mark answer plain)

theorem next_done (running : Running s) (mark : Byte) (answer : perform c s = done t)
    (plain : c.code ∉ ruledByTakeover := by simp [Command.code, ruledByTakeover]) :
    (.next (runCommand mark c s) : Host.Outcome State Fault Refusal) = .next (replied mark c.code .ok [] t) :=
  congrArg Host.Outcome.next (runCommand_done running mark answer plain)

end

/-- Settles O40: the commands by their owner's answers, and the proximity function by its operations. -/
theorem chimeCatalogueStopAndProximityCommands : Obligations.ChimeCatalogueStopAndProximityCommands := by
  unfold Obligations.ChimeCatalogueStopAndProximityCommands
  intro mark id p bands s running zones entry queued page voice status
  refine ⟨fun unknown => ?_, chimeParams?_isSome p, fun e valid => ((chimeParams?_eq_some p e).mp valid).2, ?_,
    fun unknown other => ?_, ?_, ?_, ?_⟩
  · exact ⟨next_refused running mark (c := .chimeDefine id 2 none) (chimeDefine_unknown unknown 2 none s),
      next_refused running mark (c := .chimeDefine id 1 none) (chimeDefine_unknown unknown 1 none s),
      next_refused running mark (c := .chimeDefine id 0 (some p)) (chimeDefine_unknown unknown 0 (some p) s)⟩
  · rintro i rfl used mark'
    have inUse : chimeInUse i s = true ↔ used := chimeInUse_iff i s
    refine ⟨?_, fun invalid => next_refused running mark (c := .chimeDefine i.val 0 (some p)) (chimeDefine_invalid invalid i s),
      fun e valid busy => ?_, fun e valid free => ?_, fun busy => ?_, fun free => ?_, fun none => ?_, fun some => ?_⟩
    · have entries : ChimeEntry.bytes = entry := by
        funext e
        rw [ChimeEntry.bytes_eq, ZoneSet.byte_eq]
      have queue : QueueEntry.bytes = queued := by
        funext e
        rw [QueueEntry.bytes, ZoneSet.byte_eq]
      have voices : Voice.bytes = voice := by
        funext r
        rw [Voice.bytes_eq, ZoneSet.byte_eq]
        rfl
      have layout : chimeStatus s = status := by
        rw [chimeStatus_eq, queue, voices, proximityIdByte_eq, nearestObstacle_bytes]
        rfl
      have answer := chimeDefine_read i s
      rw [layout, entries] at answer
      refine congrArg Host.Outcome.next ((runCommand_report running mark (c := .chimeDefine i.val 2 none) answer).trans ?_)
      cases s.chimeEntry i <;> rfl
    · exact next_refused running mark (c := .chimeDefine i.val 0 (some p))
        ((chimeDefine_valid valid i s).trans (if_pos (inUse.mpr busy)))
    · exact next_done running mark (c := .chimeDefine i.val 0 (some p))
        ((chimeDefine_valid valid i s).trans (if_neg (mt inUse.mp free)))
    · exact next_refused running mark (c := .chimeDefine i.val 1 none)
        ((chimeDefine_remove i s).trans (if_pos (inUse.mpr busy)))
    · exact next_done running mark (c := .chimeDefine i.val 1 none)
        ((chimeDefine_remove i s).trans (if_neg (mt inUse.mp free)))
    · have answer := chimeStop_unqueued i none
      rw [stopChimes_one] at answer
      exact next_done running mark (c := .chimeStop i.val) answer
    · have answer := chimeStop_queued i some
      rw [stopChimes_one] at answer
      exact next_done running mark (c := .chimeStop i.val) answer
  · exact next_refused running mark (c := .chimeStop id) (chimeStop_unknown unknown other s)
  · have answer := chimeStop_all s
    rw [stopChimes_all] at answer
    exact next_done running mark (c := .chimeStop 255) answer
  · exact ⟨fun bad => next_refused running mark (c := .proximitySet id bands) (proximitySet_invalid bad s),
      fun ok => next_done running mark (c := .proximitySet id bands) (proximitySet_valid ok s)⟩
  · intro v c i u enabled inBand marked quiet t left e
    have runs : proximityEnabled u = true ↔ enabled := proximityEnabled_iff
    refine ⟨fun on => proximityEvaluate_runs (runs.mpr on), fun on => proximityEvaluate_starts (runs.mpr on),
      fun disabled => proximityEvaluate_off (mt runs.mp disabled), fun disabled on => ?_, proximityRequest_beyond,
      fun near named => ⟨fun undefined => ?_, fun defined => ⟨fun busy => ?_, fun ready unusable => ?_, fun ready usable => ?_⟩⟩,
      fun state near => ?_, fun state far => ?_, fun state near => ?_, fun state far => ?_, fun state near => ?_,
      fun state far sounds => ?_, fun state far mark gap only => ?_, fun state near => ?_, fun state far => ?_, fun state => ?_⟩
    · rw [proximityEvaluate_stops (mt runs.mp disabled) on]
      obtain ⟨off, queue, voices⟩ := proximityStop_unmarked u
      exact ⟨off, queue, voices⟩
    · rw [proximityRequest_inBand near named]
      exact internalRequest_undefined (s := quiet) undefined
    · rw [proximityRequest_inBand near named]
      exact internalRequest_notReady (s := quiet) defined busy
    · rw [proximityRequest_inBand near named]
      exact internalRequest_unusable (s := quiet) defined ready unusable
    · have taken := fun {settled w} (settles : settleRequest i c.zones c true quiet = (settled, w)) accepted =>
        (proximityRequest_settled near named defined ready usable settles).trans (if_neg accepted)
      have zones : uncovered i c.zones quiet = left := uncovered_of_voices (fun _ => rfl) i c.zones
      have request : requestEntry i c.zones c true quiet = e := by rw [requestEntry, zones]; rfl
      have arrival : arrivalTaken quiet = t := rfl
      refine ⟨fun covered => ?_, fun some queued => ?_, fun some alone passes => ?_, fun some alone fails =>
        ⟨fun z queued => ⟨enqueue_near queued rfl, ?_⟩, fun full => ?_⟩⟩
      · exact taken (settleRequest_absorbed (zones.trans covered)) (by decide)
      · have merged := settleRequest_merged (s := quiet) (c := c) (near := true) (zones.trans_ne some) queued
        rw [zones] at merged
        exact taken merged (by decide)
      · rw [← request, ← arrival] at passes ⊢
        exact taken (settleRequest_started (s := quiet) (zones.trans_ne some) alone passes) (by decide)
      · rw [← request, ← arrival] at fails queued
        exact taken (settleRequest_queued (s := quiet) (zones.trans_ne some) alone fails queued) (by decide)
      · rw [← request, ← arrival] at fails full
        rw [← arrival]
        exact (proximityRequest_settled near named defined ready usable
          (settleRequest_refused (s := quiet) (zones.trans_ne some) alone fails full)).trans (if_pos rfl)
    · rw [proximityPacket_inBand near, state]
    · rw [proximityPacket_beyond far, state]
    · rw [proximityPacket_inBand near, state]
    · rw [proximityPacket_beyond far, state]
      rfl
    · rw [proximityPacket_inBand near, state]
    · rw [proximityPacket_beyond far, state]
      exact markTailing_marks (s := setProximity .tailing u) (.inr sounds)
    · rw [proximityPacket_beyond far, state]
      exact markTailing_ends (s := setProximity .tailing u) rfl mark gap only
    · rw [proximityPacket_inBand near, state]
      exact markTailing_marks (s := setProximity .sounding u) (.inl rfl)
    · rw [proximityPacket_beyond far, state]
    · by_cases near : InBand u
      · rw [proximityPacket_inBand near]
        rcases state with state | state <;> rw [state]
      · rw [proximityPacket_beyond near]
        rcases state with state | state <;> rw [state]

end Sys2Proof.Machine
end

section
/-! The law of the chime queue (R138), through requests, dispatch, stops and voice events. -/

namespace Sys2Proof.Machine

variable {s t : State} {v : Fin 4} {e : QueueEntry} {q : List QueueEntry}

/-! ### The law under each change of the queue (R138) -/

/-- The order of two entries of a queue: by priority, highest first, then by arrival. -/
def QueueEntry.ahead (a b : QueueEntry) : Prop := b.priority < a.priority ∨ (a.priority = b.priority ∧ a.arrival ≤ b.arrival)

theorem QueueEntry.ahead.trans {a b c : QueueEntry} (ab : a.ahead b) (bc : b.ahead c) : a.ahead c := by
  unfold ahead at *
  omega

theorem queueLawful_iff : QueueLawful q ↔ q.length ≤ 8 ∧ (q.map (·.id)).Nodup ∧ q.Pairwise QueueEntry.ahead := Iff.rfl

theorem QueueLawful.filter (lawful : QueueLawful q) (keep : QueueEntry → Bool) : QueueLawful (q.filter keep) := by
  obtain ⟨room, nodup, order⟩ := queueLawful_iff.mp lawful
  exact ⟨(List.length_filter_le _ _).trans room, (List.filter_sublist.map _).nodup nodup, order.filter _⟩

theorem QueueLawful.widenEntry (lawful : QueueLawful q) (i : Fin 32) (z : ZoneSet) : QueueLawful (widenEntry i z q) := by
  obtain ⟨room, nodup, order⟩ := queueLawful_iff.mp lawful
  have kept : ∀ x : QueueEntry, (if x.id = i then { x with zones := x.zones.union z } else x).id = x.id ∧
      (if x.id = i then { x with zones := x.zones.union z } else x).priority = x.priority ∧
      (if x.id = i then { x with zones := x.zones.union z } else x).arrival = x.arrival := fun x => by
    split <;> exact ⟨rfl, rfl, rfl⟩
  refine ⟨by rw [Machine.widenEntry, List.length_map]; exact room, ?_, List.pairwise_map.mpr (order.imp fun {a b} ab => ?_)⟩
  · simpa [Machine.widenEntry, Function.comp_def, kept] using nodup
  · simpa only [QueueEntry.ahead, kept] using ab

theorem insertEntry_perm (e : QueueEntry) (q : List QueueEntry) : (insertEntry e q).Perm (e :: q) := by
  rw [insertEntry_eq]
  refine List.perm_middle.trans (List.Perm.cons e ?_)
  rw [List.takeWhile_append_dropWhile]

theorem insertEntry_ordered (order : q.Pairwise QueueEntry.ahead) : (insertEntry e q).Pairwise QueueEntry.ahead := by
  induction q with
  | nil => simp [insertEntry]
  | cons x xs ih =>
    obtain ⟨first, rest⟩ := List.pairwise_cons.mp order
    unfold insertEntry
    split
    case isTrue before =>
      have ahead : e.ahead x := before.imp id fun h => ⟨h.1.symm, h.2.le⟩
      exact List.pairwise_cons.mpr ⟨List.forall_mem_cons.mpr ⟨ahead, fun y mem => ahead.trans (first y mem)⟩, order⟩
    case isFalse after =>
      have behind : x.ahead e := by
        unfold QueueEntry.ahead
        omega
      refine List.pairwise_cons.mpr ⟨fun y mem => ?_, ih rest⟩
      rcases mem_insertEntry.mp mem with rfl | old
      · exact behind
      · exact first y old

theorem QueueLawful.insertEntry (lawful : QueueLawful q) (room : q.length < 8) (alone : ∀ x ∈ q, x.id ≠ e.id) :
    QueueLawful (insertEntry e q) := by
  obtain ⟨-, nodup, order⟩ := queueLawful_iff.mp lawful
  have perm := insertEntry_perm e q
  refine ⟨?_, (perm.map _).nodup_iff.mpr ?_, insertEntry_ordered order⟩
  · rw [perm.length_eq, List.length_cons]
    exact room
  · rw [List.map_cons, List.nodup_cons]
    exact ⟨by simpa using alone, nodup⟩

/-- In a lawful queue the entries of the last one's id are the last one alone. -/
theorem QueueLawful.filter_last (lawful : QueueLawful q) {l : QueueEntry} (last : q.getLast? = some l) :
    q.filter (fun x => decide (x.id ≠ l.id)) = q.dropLast := by
  obtain ⟨xs, rfl⟩ := List.getLast?_eq_some_iff.mp last
  obtain ⟨-, nodup, -⟩ := queueLawful_iff.mp lawful
  have others : ∀ x ∈ xs, x.id ≠ l.id := by
    rw [List.map_append, List.nodup_append] at nodup
    exact fun x mem => nodup.2.2 _ (List.mem_map_of_mem mem) _ (by simp)
  rw [List.filter_append, List.filter_eq_self.mpr (by simpa using others)]
  simp

/-! ### An entry enters the queue (R138) -/

/-- An entry in its place in the queue; one that carries the mark gives the proximity function REQUESTED. -/
def joinQueue (e : QueueEntry) (s : State) : State :=
  if e.proximity then setProximity .requested (setQueue (insertEntry e s.chime.queue) s)
  else setQueue (insertEntry e s.chime.queue) s

@[simp] theorem joinQueue_queue (e : QueueEntry) (s : State) : (joinQueue e s).chime.queue = insertEntry e s.chime.queue := by
  unfold joinQueue
  split <;> rfl

@[simp] theorem joinQueue_counters (e : QueueEntry) (s : State) : (joinQueue e s).chime.counters = s.chime.counters := by
  unfold joinQueue
  split <;> rfl

@[simp] theorem joinQueue_attention (e : QueueEntry) (s : State) : (joinQueue e s).attention = s.attention := by
  unfold joinQueue
  split <;> rfl

theorem enqueue_room (room : s.chime.queue.length < 8) : enqueue e s = some (joinQueue e s) := if_pos room

theorem enqueue_full (full : s.chime.queue.length = 8) {l : QueueEntry} (last : s.chime.queue.getLast? = some l) : enqueue e s =
    if l.priority < e.priority then some (joinQueue e (chimeDropped (removeEntry l s))) else none := by
  have none : ¬ s.chime.queue.length < Config.chimeQueueEntries := by
    unfold Config.chimeQueueEntries
    omega
  unfold enqueue
  rw [if_neg none, last]
  rfl

theorem displaced_chime (l : QueueEntry) (s : State) : (chimeDropped (removeEntry l s)).chime =
    (countChime (fun c => { c with dropped := bump c.dropped }) (removeEntry l s)).chime := by
  simp [chimeDropped]

theorem displaced_queue (l : QueueEntry) (s : State) :
    (chimeDropped (removeEntry l s)).chime.queue = s.chime.queue.filter fun x => decide (x.id ≠ l.id) := by
  rw [displaced_chime, removeEntry_eq]
  rfl

theorem displaced_dropped (l : QueueEntry) (s : State) :
    (chimeDropped (removeEntry l s)).chime.counters.dropped = bump s.chime.counters.dropped := by
  rw [displaced_chime, removeEntry_eq]
  rfl

/-- Whatever the queue does with a new entry, it keeps its law. -/
theorem QueueLawful.enqueue (lawful : QueueLawful s.chime.queue) (alone : ∀ x ∈ s.chime.queue, x.id ≠ e.id)
    (taken : enqueue e s = some t) : QueueLawful t.chime.queue := by
  by_cases room : s.chime.queue.length < 8
  · obtain rfl := Option.some.inj ((enqueue_room room).symm.trans taken)
    rw [joinQueue_queue]
    exact lawful.insertEntry room alone
  · have full : s.chime.queue.length = 8 := Nat.le_antisymm (queueLawful_iff.mp lawful).1 (Nat.le_of_not_lt room)
    obtain ⟨l, last⟩ : ∃ l, s.chime.queue.getLast? = some l := by
      cases h : s.chime.queue.getLast? with
      | some l => exact ⟨l, rfl⟩
      | none => simp [List.getLast?_eq_none_iff.mp h] at full
    rw [enqueue_full full last] at taken
    split at taken
    · obtain rfl := Option.some.inj taken
      rw [joinQueue_queue, displaced_queue]
      refine (lawful.filter _).insertEntry ?_ fun x mem => alone x (List.mem_of_mem_filter mem)
      rw [lawful.filter_last last, List.length_dropLast, full]
      decide
    · cases taken

end Sys2Proof.Machine
end

section
/-! The law of the chime queue kept by the Chime Engine's own operations (R137 to R150). -/

namespace Sys2Proof.Machine

variable {s t : State} {v : Fin 4} {e : QueueEntry}

/-- A state whose chime queue keeps its law. -/
def LawfulQueue (s : State) : Prop := QueueLawful s.chime.queue

/-- The law looks at the queue alone. -/
theorem LawfulQueue.of_queue (lawful : LawfulQueue s) (same : t.chime.queue = s.chime.queue) : LawfulQueue t := by
  unfold LawfulQueue
  rwa [same]

/-- A queue of which only some entries are left. -/
theorem LawfulQueue.of_filter (lawful : LawfulQueue s) {keep : QueueEntry → Bool}
    (less : t.chime.queue = s.chime.queue.filter keep) : LawfulQueue t := by
  unfold LawfulQueue
  rw [less]
  exact QueueLawful.filter lawful keep

theorem LawfulQueue.of_empty (empty : t.chime.queue = []) : LawfulQueue t := by
  unfold LawfulQueue
  rw [empty]
  exact ⟨Nat.zero_le _, List.nodup_nil, List.Pairwise.nil⟩

/-! ### Silencing and dispatch (R140 to R143) -/

theorem LawfulQueue.silenceVoice (lawful : LawfulQueue s) (v : Fin 4) : LawfulQueue (silenceVoice v s) := by
  have ended : QueueLawful (endVoice v s).chime.queue := by
    rw [endVoice_queue]
    exact lawful
  have dropped := lawful.of_queue (dropVoice_queue v s)
  by_cases returns : (s.voice v).returns
  · cases queued : (endVoice v s).queued? (s.voice v).id with
    | some x =>
      rw [silenceVoice_merged returns queued]
      have widened := ended.widenEntry (s.voice v).id (s.voice v).zones
      dsimp only
      split
      · exact widened
      · exact LawfulQueue.of_queue (s := setQueue _ (endVoice v s)) widened (proximityVoiceGone_queue _ _)
    | none =>
      by_cases room : (endVoice v s).chime.queue.length < 8
      · rw [silenceVoice_queued returns queued room]
        have joined : QueueLawful (insertEntry (s.voice v).entry (endVoice v s).chime.queue) :=
          ended.insertEntry room ((queued?_eq_none_iff _).mp queued)
        dsimp only
        split
        · exact joined
        · exact joined
      · rwa [silenceVoice_refused returns queued (Nat.le_of_not_lt room)]
  · rwa [silenceVoice_dropped returns]

theorem lawfulQueue_dispatchLaw : DispatchLaw LawfulQueue (fun _ => True) where
  entries _ _ _ := trivial
  silenced lawful _ := lawful.silenceVoice _
  shorter _ lawful := lawful.of_filter rfl
  purged lawful _ := lawful.of_filter (by rw [removeEntry_eq])
  counted _ lawful := lawful
  begun lawful _ := lawful.of_queue (beginVoice_queue _ _ _ _ _)

theorem LawfulQueue.dispatch (lawful : LawfulQueue s) : LawfulQueue (dispatch s) := lawfulQueue_dispatchLaw.dispatch lawful

theorem LawfulQueue.dispatchAfter (lawful : LawfulQueue s) (before : State) : LawfulQueue (dispatchAfter before s) :=
  lawfulQueue_dispatchLaw.dispatchAfter before lawful

/-! ### Requests (R136, R137) -/

theorem LawfulQueue.settleRequest (lawful : LawfulQueue s) (i : Fin 32) (z : ZoneSet) (c : ChimeEntry) (near : Bool) :
    LawfulQueue (settleRequest i z c near s).2 := by
  by_cases covered : uncovered i z s = .empty
  · rw [settleRequest_absorbed covered]
    exact lawful
  by_cases queued : ∃ x ∈ s.chime.queue, x.id = i
  · rw [settleRequest_merged covered queued]
    dsimp only
    exact LawfulQueue.dispatch (QueueLawful.widenEntry lawful i (uncovered i z s))
  have alone : ∀ x ∈ s.chime.queue, x.id ≠ i := fun x mem same => queued ⟨x, mem, same⟩
  have numbered : LawfulQueue (arrivalTaken s) := lawful
  cases passes : startTest (requestEntry i z c near s) (arrivalTaken s) with
  | true =>
    rw [settleRequest_started covered alone passes]
    dsimp only
    exact (lawfulQueue_dispatchLaw.startEntry numbered trivial).dispatch
  | false =>
    cases taken : enqueue (requestEntry i z c near s) (arrivalTaken s) with
    | some u =>
      rw [settleRequest_queued covered alone passes taken]
      dsimp only
      exact LawfulQueue.dispatch (QueueLawful.enqueue (s := arrivalTaken s) (e := requestEntry i z c near s) numbered alone taken)
    | none =>
      rw [settleRequest_refused covered alone passes taken]
      dsimp only
      exact numbered.dispatch

theorem LawfulQueue.internalRequest (lawful : LawfulQueue s) (i : Fin 32) (z : Option ZoneSet) (near : Bool) :
    LawfulQueue (internalRequest i z near s) := by
  cases entry : s.chimeEntry i with
  | none => exact lawful.of_queue (by rw [internalRequest_undefined entry]; rfl)
  | some c =>
    by_cases ready : s.store.state = .ready
    · cases usable : usableAsset c.asset s with
      | none => exact lawful.of_queue (by rw [internalRequest_unusable entry ready usable]; rfl)
      | some a =>
        have settled := lawful.settleRequest i (z.getD c.zones) c near
        unfold Machine.internalRequest
        rw [entry]
        simp only [State.storeReady, ready, decide_true, Bool.not_true, Bool.false_eq_true, if_false, usable]
        split
        case h_1 request => rw [request] at settled; exact settled
        case h_2 request => rw [request] at settled; exact settled
    · exact lawful.of_queue (by rw [internalRequest_notReady entry ready]; rfl)

theorem LawfulQueue.requestById (lawful : LawfulQueue s) (id : Nat) (z : Option ZoneSet) :
    LawfulQueue (requestById id z s) := by
  unfold Machine.requestById
  split
  · exact lawful
  · exact lawful.internalRequest _ _ _

theorem LawfulQueue.chimePlay (lawful : LawfulQueue s) (id mask : Nat) : LawfulQueue (chimePlay id mask s).state := by
  by_cases invalid : 32 ≤ id ∨ 8 ≤ mask
  · rw [chimePlay_invalid invalid]
    exact lawful
  obtain ⟨i, rfl⟩ : ∃ i : Fin 32, i.val = id := ⟨⟨id, by omega⟩, rfl⟩
  obtain ⟨m, zones⟩ : ∃ m, zoneSet? mask = some m := ⟨_, if_pos (by omega)⟩
  cases defined : s.chimeEntry i with
  | none =>
    rw [chimePlay_undefined zones defined]
    exact lawful
  | some c =>
    by_cases nowhere : playZones m c = .empty
    · rw [chimePlay_nowhere zones defined nowhere]
      exact lawful
    by_cases ready : s.store.state = .ready
    · cases usable : usableAsset c.asset s with
      | none =>
        rw [chimePlay_unusable zones defined nowhere ready usable]
        exact lawful
      | some a =>
        rw [chimePlay_taken zones defined nowhere ready (by rw [usable]; rfl)]
        have settled := lawful.settleRequest i (playZones m c) c false
        split
        · exact settled
        · exact settled
    · rw [chimePlay_notReady zones defined nowhere ready]
      exact lawful

/-! ### The stop of a chime and of the proximity function (R146, R149, R150) -/

theorem LawfulQueue.chimeStop (lawful : LawfulQueue s) (id : Nat) : LawfulQueue (chimeStop id s).state := by
  by_cases known : id ≤ 31 ∨ id = 255
  · rw [chimeStop_known known]
    have stopped : LawfulQueue (stopChimes (stopNames id) s) := lawful.of_filter rfl
    exact stopped.dispatchAfter s
  · rw [chimeStop_unknown (by omega) (by omega)]
    exact lawful

theorem LawfulQueue.proximityStop (lawful : LawfulQueue s) : LawfulQueue (proximityStop s) := by
  rw [proximityStop_eq]
  have shorter : LawfulQueue (setQueue (s.chime.queue.filter fun e => !e.proximity) s) := lawful.of_filter rfl
  have ended := foldl_keeps (fun s => s.chime.queue) endMarked endMarked_queue (List.finRange 4)
    (setQueue (s.chime.queue.filter fun e => !e.proximity) s)
  generalize (List.finRange 4).foldl endMarked _ = u at ended ⊢
  have off : LawfulQueue (setProximity .off u) := shorter.of_queue ended
  exact off.dispatchAfter s

theorem LawfulQueue.proximityRequest (lawful : LawfulQueue s) : LawfulQueue (proximityRequest s) := by
  have quiet : LawfulQueue (setProximity .quiet s) := lawful
  unfold Machine.proximityRequest
  split
  · exact quiet.internalRequest _ _ _
  · exact quiet

theorem LawfulQueue.proximityEvaluate (lawful : LawfulQueue s) : LawfulQueue (proximityEvaluate s) := by
  unfold Machine.proximityEvaluate
  split
  · split
    · exact lawful.proximityRequest
    · exact lawful
  · split
    · exact lawful
    · exact lawful.proximityStop

theorem LawfulQueue.markTailing (lawful : LawfulQueue s) (on : Bool) : LawfulQueue (markTailing on s) := by
  refine LawfulQueue.dispatchAfter (lawful.of_queue ?_) s
  refine foldl_keeps (fun s => s.chime.queue) _ (fun u v => ?_) (List.finRange 4) s
  dsimp only
  split
  · split
    · rw [proximityVoiceGone_queue, endVoice_queue]
    · rfl
  · rfl

theorem LawfulQueue.proximityPacket (lawful : LawfulQueue s) : LawfulQueue (proximityPacket s) := by
  unfold Machine.proximityPacket
  split
  · exact lawful.proximityRequest
  · exact LawfulQueue.dispatch (lawful.of_filter rfl)
  · exact LawfulQueue.markTailing (s := setProximity .tailing s) lawful true
  · exact LawfulQueue.markTailing (s := setProximity .sounding s) lawful false
  · exact lawful

theorem LawfulQueue.proximitySet (lawful : LawfulQueue s) (id : Nat) (bands : List ProximityBand) :
    LawfulQueue (proximitySet id bands s).state := by
  by_cases valid : proximityInRange id bands
  · rw [proximitySet_valid valid]
    have stopped := lawful.proximityStop
    generalize Machine.proximityStop s = u at stopped ⊢
    have settings : LawfulQueue { u with chime.proximityId := fin? 32 id, chime.proximityBands := bands } := stopped
    exact settings.proximityEvaluate
  · rw [proximitySet_invalid valid]
    exact lawful

/-! ### Playback (R143 to R145) -/

theorem LawfulQueue.finishVoice (lawful : LawfulQueue s) (v : Fin 4) : LawfulQueue (finishVoice v s) := by
  rw [finishVoice_eq]
  refine LawfulQueue.dispatch (lawful.of_queue ?_)
  rw [proximityVoiceGone_queue, endVoice_queue]

theorem enterGap_queue (v : Fin 4) (n : Nat) (s : State) : (enterGap v n s).chime.queue = s.chime.queue := by
  by_cases gap : gapOf (s.voice v) s = 0
  · rw [enterGap_none gap]
    rfl
  · rw [enterGap_some gap]
    rfl

theorem LawfulQueue.endPlay (lawful : LawfulQueue s) (v : Fin 4) : LawfulQueue (endPlay v s) := by
  unfold Machine.endPlay
  dsimp only
  split
  · exact lawful.finishVoice v
  split
  · exact lawful.of_queue (enterGap_queue _ _ _)
  split
  · exact lawful.finishVoice v
  · exact lawful.of_queue (enterGap_queue _ _ _)

theorem playSample_queue (v : Fin 4) (run : BlockRun) (s : State) : (playSample v run s).2.chime.queue = s.chime.queue := by
  cases ended : run.ended with
  | true => rw [playSample_ended ended]
  | false =>
    cases page : (s.voice v).readyPage ((s.voice v).position / 2048) with
    | none => rw [playSample_missing ended page]
    | some found =>
      rw [playSample_made ended page]
      dsimp only
      split
      · unfold refillBuffer
        dsimp only
        rw [fillBuffer_queue]
        rfl
      · rfl

theorem playSamples_queue (v : Fin 4) (n : Nat) (run : BlockRun) (s : State) :
    (playSamples v n run s).2.chime.queue = s.chime.queue := by
  induction n generalizing run s with
  | zero => rfl
  | succ n ih => rw [playSamples, ih, playSample_queue]

theorem LawfulQueue.playBlock (lawful : LawfulQueue s) (v : Fin 4) : LawfulQueue (playBlock v s) := by
  generalize h : playSamples v 48 { samples := [], short := false, ended := false } s = made
  have same : made.2.chime.queue = s.chime.queue := by
    rw [← h]
    exact playSamples_queue _ _ _ _
  rw [playBlock_eq h]
  split
  · refine LawfulQueue.endPlay (lawful.of_queue ?_) v
    split <;> exact same
  · refine lawful.of_queue ?_
    split <;> exact same

theorem LawfulQueue.voiceBlock (lawful : LawfulQueue s) (v : Fin 4) : LawfulQueue (voiceBlock v s) := by
  cases stopping : (s.voice v).stopping with
  | true =>
    by_cases idle : (s.voice v).state = .idle
    · rwa [voiceBlock_idle idle]
    · rw [voiceBlock_stopping idle stopping]
      exact lawful.finishVoice v
  | false =>
    cases state : (s.voice v).state with
    | idle => rwa [voiceBlock_idle state]
    | loading => exact lawful.of_queue (by rw [voiceBlock_silent (.inl state) stopping]; rfl)
    | gap => exact lawful.of_queue (by rw [voiceBlock_silent (.inr state) stopping]; rfl)
    | playing =>
      rw [voiceBlock_playing state stopping]
      exact lawful.playBlock v

@[simp] theorem gapExpires_queue (v : Fin 4) (s : State) : (gapExpires v s).chime.queue = s.chime.queue := by
  unfold gapExpires
  dsimp only
  split <;> rfl

theorem LawfulQueue.voicePageRead (lawful : LawfulQueue s) (v : Fin 4) (token : Nat) (content : Option (List Byte)) :
    LawfulQueue (voicePageRead v token content s) := by
  unfold Machine.voicePageRead
  dsimp only
  split
  · exact lawful
  · split
    · exact LawfulQueue.finishVoice (s := countChime _ s) lawful v
    · exact lawful.of_queue rfl

end Sys2Proof.Machine
end

section
/-! The vehicle and the takeover keep the law of the chime queue (R1 to R19); links and packets leave the chimes as they are. -/

namespace Sys2Proof.Machine

variable {s t : State}

/-! ### The vehicle and the takeover (R1 to R19) -/

/-- What leaves the Chime Engine as it is keeps the law. -/
theorem LawfulQueue.of_chime (lawful : LawfulQueue s) (same : t.chime = s.chime) : LawfulQueue t :=
  lawful.of_queue (by rw [same])

theorem duckedEngagement_chime (s : State) :
    (duckedEngagement s).chime = (requestById s.takeover.settings.engageChime none (beginEngagement s)).chime := by
  unfold duckedEngagement
  split <;> simp [beginEngagement]

theorem LawfulQueue.engage (lawful : LawfulQueue s) : LawfulQueue (engage s) := by
  have begun : LawfulQueue (beginEngagement s) := lawful
  rw [engage_eq]
  exact ((begun.requestById _ none).of_chime (duckedEngagement_chime s)).of_chime (by simp)

@[simp] theorem exitTakeover_chime (s : State) : (exitTakeover s).chime = s.chime := by
  simp [exitTakeover]

@[simp] theorem enterLinger_chime (s : State) : (enterLinger s).chime = s.chime := by
  unfold enterLinger
  dsimp only
  split <;> simp

theorem LawfulQueue.takeoverReverse (lawful : LawfulQueue s) (asserted : Bool) : LawfulQueue (takeoverReverse asserted s) := by
  unfold Machine.takeoverReverse
  split
  case h_1 => exact lawful.engage
  case h_4 => exact lawful.of_chime (enterLinger_chime s)
  all_goals exact lawful

theorem LawfulQueue.evaluateReverse (lawful : LawfulQueue s) : LawfulQueue (evaluateReverse s) := by
  unfold Machine.evaluateReverse
  dsimp only
  split
  · exact lawful
  · have noted : LawfulQueue { s with vehicle.reverseAsserted := s.vehicle.reversing } := lawful
    exact (noted.takeoverReverse _).proximityEvaluate

theorem LawfulQueue.updateMismatch (lawful : LawfulQueue s) : LawfulQueue (updateMismatch s) := lawful.of_chime (by simp)

theorem LawfulQueue.recordStales (lawful : LawfulQueue s) : LawfulQueue (recordStales s) := by
  unfold Machine.recordStales
  dsimp only
  split
  · have stale : LawfulQueue (raiseFlag .steeringStale { s with
        vehicle.fresh := false, vehicle.age := max s.vehicle.age s.takeover.settings.freshness }) :=
      lawful.of_chime (by simp)
    exact stale.evaluateReverse.updateMismatch.proximityEvaluate
  · exact lawful

theorem LawfulQueue.debounceExpires (lawful : LawfulQueue s) : LawfulQueue (debounceExpires s) := by
  unfold Machine.debounceExpires
  split
  · have settled : LawfulQueue { s with vehicle.debounced := s.vehicle.pinRaw, vehicle.debounceTimer := none } := lawful
    exact settled.evaluateReverse.updateMismatch
  · exact lawful

@[simp] theorem exitSpeedTest_chime (s : State) : (exitSpeedTest s).chime = s.chime := by
  unfold exitSpeedTest
  split <;> simp

@[simp] theorem supplyChanges_chime (old : Supply) (s : State) :
    (supplyChanges old s).chime = s.chime := by
  unfold supplyChanges
  split
  · simp
  · split <;> simp

theorem LawfulQueue.vehicleReport (lawful : LawfulQueue s) (payload : List Byte) : LawfulQueue (vehicleReport payload s) := by
  have supplied : LawfulQueue (supplyChanges s.vehicle.supply { s with vehicle := s.vehicle.withReport payload }) :=
    lawful.of_chime (supplyChanges_chime _ _)
  have tested := supplied.evaluateReverse.updateMismatch.of_chime (exitSpeedTest_chime _)
  unfold Machine.vehicleReport
  dsimp only
  split
  · exact tested.proximityPacket
  · exact tested.proximityEvaluate

theorem LawfulQueue.vehicleArrives (lawful : LawfulQueue s) (p : Packet) : LawfulQueue (vehicleArrives p s) := by
  unfold Machine.vehicleArrives
  split
  · exact lawful
  split
  · exact lawful.of_queue rfl
  · exact lawful.vehicleReport _

theorem startExpires_chime (s : State) : (startExpires s).chime = s.chime := by
  unfold startExpires
  split <;> simp

theorem watchdogExpires_chime (s : State) : (watchdogExpires s).chime = s.chime := by
  unfold watchdogExpires
  split
  · split <;> simp
  · rfl

theorem lingerExpires_chime (s : State) : (lingerExpires s).chime = s.chime := by
  unfold lingerExpires
  split <;> simp

theorem mismatchExpires_chime (s : State) : (mismatchExpires s).chime = s.chime := by
  unfold mismatchExpires
  split <;> simp

theorem pinChanges_chime (level : Bool) (s : State) : (pinChanges level s).chime = s.chime := by
  unfold pinChanges
  split <;> rfl

/-! ### Links (R174 to R176, R181) -/

@[simp] theorem linkDrops_chime (l : Link) (s : State) : (linkDrops l s).chime = s.chime := by
  unfold linkDrops
  dsimp only
  split
  · split <;> simp
  · simp

theorem lossOfLock_chime (l : Link) (s : State) : (lossOfLock l s).chime = s.chime := by
  unfold lossOfLock
  split <;> simp

theorem reachUp_chime (l : Link) (s : State) : (reachUp l s).chime = s.chime := by
  unfold reachUp reachingEffects
  split
  · cases l <;> simp
  · rfl

theorem endFlag_chime (l : Link) (s : State) : (endFlag l s).chime = s.chime := by
  unfold endFlag
  dsimp only
  split
  · rfl
  · split <;> simp

theorem overlong_chime (l : Link) (s : State) : (overlong l s).chime = s.chime := by
  unfold overlong
  dsimp only
  split <;> simp

theorem discardPacket_chime (l : Link) (bytes : List Byte) (s : State) :
    (discardPacket l bytes s).chime = s.chime := by
  unfold discardPacket
  split
  · split <;> simp
  · rfl

/-! ### Packets (R54 to R61, R176, R186) -/

theorem countPayload_chime (l : Link) (p : Packet) (s : State) :
    (countPayload l p s).chime = s.chime := by
  unfold countPayload
  split <;> simp

theorem admitVideo_chime {work : Fin 32 → VideoDescriptor → State → State} (rx : VideoRx) (p : Packet) (s : State)
    (works : ∀ t d, (work t d s).chime = s.chime) :
    (admitVideo rx p work s).chime = s.chime := by
  unfold admitVideo
  split
  · simp
  · exact works _ _
  · rfl

theorem frameArrives_chime (rx : VideoRx) (p : Packet) (s : State) :
    (frameArrives rx p s).chime = s.chime := by
  refine admitVideo_chime rx p s fun t d => ?_
  dsimp only
  split
  · unfold guideFrame
    split <;> simp [computeGuide]
  · simp

theorem videoLine_chime (rx : VideoRx) (p : Packet) (s : State) :
    (videoLine rx p s).chime = s.chime :=
  admitVideo_chime rx p s fun t _ => by simp

theorem fendArrives_chime (rx : VideoRx) (p : Packet) (s : State) :
    (fendArrives rx p s).chime = s.chime := by
  refine admitVideo_chime rx p s fun t _ => ?_
  dsimp only
  split <;> simp

theorem soundArrives_chime (p : Packet) (s : State) : (soundArrives p s).chime = s.chime := by
  unfold soundArrives
  split <;> simp

theorem controlArrives_chime (p : Packet) (s : State) :
    (controlArrives p s).chime = s.chime := by
  unfold controlArrives
  split <;> rfl

theorem lineWritten_chime {rx : VideoRx} {s t : State} (written : lineWritten rx s = .ok t) :
    t.chime = s.chime := by
  unfold lineWritten at written
  split at written
  · cases written
    rfl
  · split at written
    · cases written
      simp [writeStaged]
    · cases written

end Sys2Proof.Machine
end

section
/-! The asset store's events keep the law of the chime queue: a voice's page read alone reaches the chimes (R154 to R162). -/

namespace Sys2Proof.Machine

variable {s t : State}

/-! ### The asset store's events (R154 to R162) -/

theorem arrayReady_chime (s : State) : (arrayReady s).chime = s.chime := by
  unfold arrayReady
  split <;> simp

@[simp] theorem mountDiscard_chime (b : Fin 256) (s : State) :
    (mountDiscard b s).chime = s.chime := by
  simp [mountDiscard]

@[simp] theorem placeHeader_chime (b : Fin 256) (content : Option Page) (s : State) :
    (placeHeader b content s).chime = s.chime := by
  unfold placeHeader
  split <;> simp [sawGeneration]

@[simp] theorem mountEnd_chime (s : State) : (mountEnd s).chime = s.chime := by
  have placed : ∀ kept : List (Fin 256), (s.store.mount.blocks.foldl (fun s b =>
      if kept.contains b.block then setBlock .current b.block s else mountDiscard b.block s) s).chime =
        s.chime :=
    fun kept => foldl_keeps (fun s => s.chime) _ (fun s b => by split <;> simp) _ s
  unfold mountEnd
  simpa using placed ((currentRecords s.store.mount).flatMap (·.blocks))

@[simp] theorem headersRead_chime (s : State) : (headersRead s).chime = s.chime := by
  unfold headersRead
  dsimp only
  split <;> simp

@[simp] theorem noteGeneration_chime (content : Option Page) (s : State) :
    (noteGeneration content s).chime = s.chime := by
  unfold noteGeneration
  split
  · split <;> rfl
  · rfl

@[simp] theorem headerRead_chime (b : Fin 256) (content : Option Page) (s : State) :
    (headerRead b content s).chime = s.chime := by
  unfold headerRead
  dsimp only
  split <;> simp

@[simp] theorem commitRead_chime (b : Fin 256) (content : Option Page) (s : State) :
    (commitRead b content s).chime = s.chime := by
  unfold commitRead
  dsimp only
  split <;> simp

theorem LawfulQueue.handRead (lawful : LawfulQueue s) (r : ReadRequest) (content : Option Page) :
    LawfulQueue (handRead r content s) := by
  unfold Machine.handRead
  dsimp only
  split
  case h_3 v token _ => exact lawful.voicePageRead v token _
  all_goals exact lawful.of_chime (by simp)

theorem LawfulQueue.finishOp (lawful : LawfulQueue s) : LawfulQueue (finishOp s) := lawful.of_chime (by simp)

theorem LawfulQueue.readCompletes (lawful : LawfulQueue s) (failed : Bool) : LawfulQueue (readCompletes failed s) := by
  unfold Machine.readCompletes
  split
  · split
    · have counted : LawfulQueue { s with store.counters.readFail := bump s.store.counters.readFail } := lawful
      exact (counted.handRead _ none).finishOp
    · exact (lawful.handRead _ _).finishOp
  · exact lawful

@[simp] theorem commitGeneration_chime (s : State) : (commitGeneration s).chime = s.chime := by
  have retired : ∀ id, (retirePrevious id s).chime = s.chime := fun id => by
    unfold retirePrevious
    split
    · rfl
    · split <;> simp
  unfold commitGeneration
  simp [retired]

@[simp] theorem programVerified_chime (b : Fin 256) (page : Nat) (commit : Bool) (s : State) :
    (programVerified b page commit s).chime = s.chime := by
  unfold programVerified
  dsimp only
  split <;> simp

theorem programCompletes_chime (verified : Option (Fin 8)) (s : State) :
    (programCompletes verified s).chime = s.chime := by
  have fails : ∀ b u, (programFails b u).chime = u.chime := fun b u => by simp [programFails]
  unfold programCompletes
  split
  · rfl
  · split
    · dsimp only
      split <;> split <;> simp [fails]
    · dsimp only
      split <;> simp
    · rfl

theorem eraseCompletes_chime (failedBlocks : List (Fin 256)) (s : State) :
    (eraseCompletes failedBlocks s).chime = s.chime := by
  have erased : ∀ u b, (blockErased (failedBlocks.contains b) b u).chime = u.chime := fun u b => by
    unfold blockErased
    dsimp only
    split <;> simp
  unfold eraseCompletes
  split
  · rfl
  · split
    · rename_i bs _
      simpa using foldl_keeps (fun s => s.chime)
        (fun u b => blockErased (failedBlocks.contains b) b u) erased bs s
    · rfl

theorem abortCompletes_chime (s : State) : (abortCompletes s).chime = s.chime := by
  unfold abortCompletes
  split <;> simp

end Sys2Proof.Machine
end

section
/-! Commands that leave the chimes as they are; TAKEOVER_SET and CHIME_DEFINE keep the law of the chime queue. -/

namespace Sys2Proof.Machine

variable {s t : State}

/-! ### Streams and panels (R50 to R91) -/

theorem emptyFifos_chime (zs : List Zone) (s : State) : (zs.foldl (fun s z => emptyFifo z s) s).chime = s.chime :=
  foldl_keeps (fun s => s.chime) _ (fun s z => by simp) zs s

theorem tagSet_chime (p : TagSetParams) (s : State) :
    (tagSet p s).state.chime = s.chime := by
  unfold tagSet
  split
  · rfl
  · refine (emptyFifos_chime _ _).trans ?_
    split <;> simp

theorem tagClear_chime (tag : Nat) (s : State) : (tagClear tag s).state.chime = s.chime := by
  unfold tagClear
  split
  · rfl
  · split
    · rfl
    · split
      · rfl
      · exact (emptyFifos_chime _ _).trans (by simp)

theorem tagRead_chime (tag : Nat) (s : State) : (tagRead tag s).state.chime = s.chime := by
  unfold tagRead
  split
  · rfl
  · split <;> rfl

theorem ringSet_chime (p : RingSetParams) (s : State) :
    (ringSet p s).state.chime = s.chime := by
  rcases ringSet_cases p s with e | ⟨n, -, -, -, e⟩ <;> rw [e]
  simp

theorem panelSet_chime (q : PanelSetParams) (s : State) :
    (panelSet q s).state.chime = s.chime := by
  unfold panelSet
  split
  · split
    · dsimp only
      split
      · rfl
      · dsimp only [done]
        split <;> simp
    · rfl
  · rfl

theorem panelWake_chime (panel : Nat) (s : State) :
    (panelWake panel s).state.chime = s.chime := by
  unfold panelWake
  split <;> simp [done, refuse]

theorem panelSleep_chime (panel : Nat) (s : State) :
    (panelSleep panel s).state.chime = s.chime := by
  unfold panelSleep
  split
  · rfl
  · dsimp only [done]
    split <;> simp

theorem panelBlank_chime (panel : Nat) (blanked : Bool) (s : State) :
    (panelBlank panel blanked s).state.chime = s.chime := by
  unfold panelBlank
  split <;> simp [done, refuse]

theorem panelLevel_chime (panel level : Nat) (s : State) :
    (panelLevel panel level s).state.chime = s.chime := by
  unfold panelLevel
  split
  · rfl
  · split <;> simp [done, refuse]

theorem layerSet_chime (q : LayerSetParams) (s : State) :
    (layerSet q s).state.chime = s.chime := by
  unfold layerSet
  split
  · rfl
  · dsimp only
    split
    · split <;> simp [done, refuse]
    · rfl

theorem layerClear_chime (panel layer : Nat) (s : State) :
    (layerClear panel layer s).state.chime = s.chime := by
  unfold layerClear
  split
  · rfl
  · split
    · simp [done]
    · split <;> simp [done, refuse]

theorem panelRead_chime (panel : Nat) (s : State) :
    (panelRead panel s).state.chime = s.chime := by
  unfold panelRead
  split <;> rfl

/-! ### The takeover and the guide (R7, R8, R13, R28 to R32) -/

theorem cameraSet_chime (p : CameraSetParams) (s : State) :
    (cameraSet p s).state.chime = s.chime := by
  unfold cameraSet
  split
  · rfl
  · split
    · rfl
    · split
      · split <;> rfl
      · rfl

theorem LawfulQueue.takeoverSet (lawful : LawfulQueue s) (p : TakeoverSetParams) : LawfulQueue (takeoverSet p s).state := by
  cases hp : takeoverSettings? p with
  | none =>
    rw [takeoverSet_invalid hp]
    exact lawful
  | some t =>
    have settings : LawfulQueue { s with takeover.settings := t } := lawful
    simp only [Machine.takeoverSet, hp, done]
    have aged : LawfulQueue (if s.vehicle.fresh = true ∧ t.freshness ≤ s.vehicle.age
        then Machine.recordStales { s with takeover.settings := t } else { s with takeover.settings := t }) := by
      split
      · exact settings.recordStales
      · exact settings
    split
    · exact aged
    · split
      · exact aged.debounceExpires
      · exact aged

theorem takeoverDismiss_chime (s : State) : (takeoverDismiss s).state.chime = s.chime := by
  unfold takeoverDismiss
  split <;> simp [done, refuse]

theorem guideSet_chime (p : GuideSetParams) (s : State) :
    (guideSet p s).state.chime = s.chime := by
  unfold guideSet
  split <;> rfl

theorem steerTableSet_chime (values : List Nat) (s : State) :
    (steerTableSet values s).state.chime = s.chime := by
  unfold steerTableSet
  split
  · rfl
  · split <;> rfl

theorem rowTableSet_chime (rows : SizedList RowParams) (s : State) :
    (rowTableSet rows s).state.chime = s.chime := by
  unfold rowTableSet
  split
  · rfl
  · split <;> rfl

theorem bandTableSet_chime (bands : List GuideBand) (s : State) :
    (bandTableSet bands s).state.chime = s.chime := by
  unfold bandTableSet
  split <;> rfl

/-! ### Zones and chimes (R122, R123, R133) -/

theorem zoneSet_chime (zone option : Nat) (p : ZoneParams) (s : State) :
    (zoneSet zone option p s).state.chime = s.chime := by
  unfold zoneSet
  split
  · rfl
  · split
    · rfl
    · split
      · rfl
      · split
        · rfl
        · simp [report, applyZoneSettings]

theorem volumeTableSet_chime (values : List Nat) (s : State) :
    (volumeTableSet values s).state.chime = s.chime := by
  unfold volumeTableSet
  split
  · rfl
  · split <;> rfl

theorem chimeDefine_queue (id option : Nat) (p : Option ChimeParams) (s : State) :
    (chimeDefine id option p s).state.chime.queue = s.chime.queue := by
  unfold chimeDefine
  split
  · rfl
  · split
    · rfl
    · split
      · split <;> rfl
      · split
        · split
          · rfl
          · split <;> rfl
        · rfl

/-! ### The asset store (R164 to R172) -/

theorem assetBegin_chime (id kind length : Nat) (s : State) :
    (assetBegin id kind length s).state.chime = s.chime := by
  unfold assetBegin
  dsimp only [report, refuse]
  split
  · rfl
  · split
    · rfl
    · split
      · rfl
      · split
        · rfl
        · split <;> simp

@[simp] theorem fillPage_chime (p : Nat) (bytes : List Byte) (s : State) :
    (fillPage p bytes s).chime = s.chime := by
  unfold fillPage
  dsimp only
  split <;> simp

theorem assetData_chime (offset : Nat) (bytes : List Byte) (s : State) :
    (assetData offset bytes s).state.chime = s.chime := by
  unfold assetData
  dsimp only [refuseExpecting, report]
  split
  · rfl
  · split
    · rfl
    · split
      · rfl
      · split
        · rfl
        · split
          · rfl
          · split
            · rfl
            · split
              · rfl
              · dsimp only
                split <;> simp

theorem assetEnd_chime (crc : BitVec 32) (s : State) :
    (assetEnd crc s).state.chime = s.chime := by
  unfold assetEnd
  dsimp only [refuseExpecting]
  split
  · rfl
  · split
    · rfl
    · split
      · rfl
      · split
        · rfl
        · dsimp only
          split <;> simp

theorem assetDelete_chime (id : Nat) (s : State) :
    (assetDelete id s).state.chime = s.chime := by
  unfold assetDelete
  split
  · rfl
  · split
    · rfl
    · split
      · rfl
      · split
        · rfl
        · simp [done]

theorem assetInfo_chime (id : Nat) (s : State) : (assetInfo id s).state.chime = s.chime := by
  unfold assetInfo
  split
  · rfl
  · split
    · rfl
    · split <;> rfl

theorem storeAbort_chime (s : State) : (storeAbort s).state.chime = s.chime := by
  unfold storeAbort
  split
  · rfl
  · split
    · rfl
    · dsimp only
      split <;> simp [done]

/-! ### Links, counters and attention (R182, R189, R192) -/

theorem linkRetrain_chime (link : Nat) (s : State) :
    (linkRetrain link s).state.chime = s.chime := by
  unfold linkRetrain
  split
  · rfl
  · split
    · rfl
    · simp [done, retrain]
  · simp [done, retrain]

theorem attentionAck_chime (f : BitVec 16) (s : State) :
    (attentionAck f s).state.chime = s.chime := by
  unfold attentionAck
  split <;> rfl

theorem noticeMaskSet_chime (m : BitVec 16) (s : State) :
    (noticeMaskSet m s).state.chime = s.chime := by
  unfold noticeMaskSet
  split <;> rfl

end Sys2Proof.Machine
end

section
/-! Menus, keys and COUNTERS_READ keep the law of the chime queue (R105 to R115, R189). -/

namespace Sys2Proof.Machine

variable {s t : State}

/-! ### Seat contexts and pages (R105 to R110) -/

@[simp] theorem changeSeat_chime (k : Seat) (c : SeatContext) (s : State) :
    (changeSeat k c s).chime = s.chime := by
  simp [changeSeat]

@[simp] theorem openMenu_chime (k : Seat) (s : State) : (openMenu k s).chime = s.chime := by
  simp [openMenu]

@[simp] theorem closeMenu_chime (k : Seat) (s : State) : (closeMenu k s).chime = s.chime := by
  simp [closeMenu]

theorem inactivityExpires_chime (k : Seat) (s : State) :
    (inactivityExpires k s).chime = s.chime := by
  unfold inactivityExpires
  split <;> simp

@[simp] theorem pageChanged_chime (n : Fin 16) (s : State) :
    (pageChanged n s).chime = s.chime := by
  have settled : ∀ u, (seats.foldl (fun s k => settleSeat n k s) u).chime = u.chime :=
    foldl_keeps (fun s => s.chime) _ (fun s k => by unfold settleSeat; dsimp only; split <;> simp) _
  unfold pageChanged
  dsimp only
  split <;> simp [settled]

/-! ### Keys (R111 to R114) -/

@[simp] theorem popPage_chime (k : Seat) (s : State) : (popPage k s).chime = s.chime := by
  unfold popPage
  dsimp only
  split <;> simp

@[simp] theorem pushPage_chime (k : Seat) (n : Fin 16) (s : State) :
    (pushPage k n s).state.chime = s.chime := by
  unfold pushPage
  dsimp only
  split <;> simp

@[simp] theorem moveHighlight_chime (k : Seat) (target : Option Nat) (s : State) :
    (moveHighlight k target s).state.chime = s.chime := by
  cases target <;> simp [moveHighlight]

@[simp] theorem volumeStep_chime (k : Seat) (up : Bool) (s : State) :
    (volumeStep k up s).state.chime = s.chime := by
  unfold volumeStep
  dsimp only
  split <;> split <;> simp [setVolume]

@[simp] theorem brightnessStep_chime (k : Seat) (up : Bool) (s : State) :
    (brightnessStep k up s).state.chime = s.chime := by
  unfold brightnessStep
  dsimp only
  split <;> split <;> simp

@[simp] theorem performAction_chime (k : Seat) (a : Action) (s : State) :
    (performAction k a s).state.chime = s.chime := by
  cases a <;> simp [performAction]

@[simp] theorem selectItem_chime (k : Seat) (s : State) :
    (selectItem k s).state.chime = s.chime := by
  unfold selectItem
  split
  · rfl
  · split <;> simp

@[simp] theorem menuKey_chime (k : Seat) (s : State) : (menuKey k s).state.chime = s.chime := by
  unfold menuKey
  dsimp only
  split
  · simp
  · split <;> simp

@[simp] theorem keyEffect_chime (k : Seat) (code : Nat) (s : State) :
    (keyEffect k code s).state.chime = s.chime := by
  unfold keyEffect
  dsimp only
  split <;> simp

@[simp] theorem touchTimer_chime (k : Seat) (s : State) : (touchTimer k s).chime = s.chime := by
  rcases touchTimer_cases k s with ⟨-, e⟩ | ⟨-, -, e⟩ | ⟨-, -, e⟩ <;> rw [e]
  · simp
  · simp

theorem LawfulQueue.keyArrives (lawful : LawfulQueue s) (k : Seat) (code : Nat) : LawfulQueue (keyArrives k code s) := by
  have pressed := (lawful.of_chime (keyEffect_chime k code s)).of_chime (touchTimer_chime k _)
  unfold Machine.keyArrives
  dsimp only
  split
  · exact lawful.of_chime (by simp)
  split
  · exact lawful.of_chime (by simp)
  split
  · exact lawful
  · exact pressed.requestById _ _

/-! ### Menu commands (R106 to R109, R115) -/

theorem pageSet_chime (page : Nat) (title : List Nat) (items : SizedList ItemParams) (s : State) :
    (pageSet page title items s).state.chime = s.chime := by
  unfold pageSet
  split
  · rfl
  · split <;> simp [done, refuse]

theorem itemSet_chime (page item : Nat) (p : ItemParams) (s : State) :
    (itemSet page item p s).state.chime = s.chime := by
  unfold itemSet
  split
  · split
    · rfl
    · split <;> simp [done, refuse]
  · rfl

theorem pageClear_chime (page : Nat) (s : State) :
    (pageClear page s).state.chime = s.chime := by
  have left : ∀ (n : Fin 16) (u : State), (seats.foldl (fun (s : State) k =>
      s.setSeat k ((s.seat k).withoutPage n s.items)) u).chime = u.chime :=
    fun n => foldl_keeps (fun s => s.chime) _ (fun s k => by simp) _
  unfold pageClear
  split
  · rfl
  · split
    · rfl
    · dsimp only [done]
      split <;> simp [left]

theorem menuSet_chime (q : MenuSetParams) (s : State) :
    (menuSet q s).state.chime = s.chime := by
  unfold menuSet
  split <;> simp [done, refuse]

theorem menuOpen_chime (seat : Nat) (s : State) : (menuOpen seat s).state.chime = s.chime := by
  unfold menuOpen
  split
  · rfl
  · dsimp only
    split
    · rfl
    · split <;> simp [done, refuse]

theorem menuClose_chime (seat : Nat) (s : State) :
    (menuClose seat s).state.chime = s.chime := by
  unfold menuClose
  split
  · rfl
  · dsimp only [done]
    split <;> simp

theorem menuLock_chime (seat locked : Nat) (s : State) :
    (menuLock seat locked s).state.chime = s.chime := by
  unfold menuLock
  split
  · split
    · rfl
    · dsimp only [done]
      split <;> simp
  · rfl

/-! ### Counters (R189) -/

theorem countersRead_queue (group clear : Nat) (s : State) :
    (countersRead group clear s).state.chime.queue = s.chime.queue := by
  have cleared : ∀ g, (clearGroup g s).chime.queue = s.chime.queue := fun g => by cases g <;> rfl
  unfold countersRead
  split
  · dsimp only [report]
    split
    · exact cleared _
    · rfl
  · rfl

end Sys2Proof.Machine
end

section
/-! Every command, packet and profile entry keeps the law of the chime queue (R186 to R195); the uplink leaves the chimes as they are. -/

namespace Sys2Proof.Machine

variable {s t : State}

/-! ### Every command (R186, R187) -/

/-- Every command keeps the law of the chime queue. -/
theorem LawfulQueue.perform (lawful : LawfulQueue s) (c : Command) : LawfulQueue (perform c s).state := by
  cases c with
  | tagSet p => exact lawful.of_chime (tagSet_chime p s)
  | tagClear t => exact lawful.of_chime (tagClear_chime t s)
  | tagRead t => exact lawful.of_chime (tagRead_chime t s)
  | ringSet p => exact lawful.of_chime (ringSet_chime p s)
  | panelSet p => exact lawful.of_chime (panelSet_chime p s)
  | panelWake p => exact lawful.of_chime (panelWake_chime p s)
  | panelSleep p => exact lawful.of_chime (panelSleep_chime p s)
  | panelBlank p => exact lawful.of_chime (panelBlank_chime p true s)
  | panelShow p => exact lawful.of_chime (panelBlank_chime p false s)
  | panelLevel p l => exact lawful.of_chime (panelLevel_chime p l s)
  | layerSet p => exact lawful.of_chime (layerSet_chime p s)
  | layerClear p l => exact lawful.of_chime (layerClear_chime p l s)
  | panelRead p => exact lawful.of_chime (panelRead_chime p s)
  | cameraSet p => exact lawful.of_chime (cameraSet_chime p s)
  | takeoverSet p => exact lawful.takeoverSet p
  | takeoverDismiss => exact lawful.of_chime (takeoverDismiss_chime s)
  | takeoverRead => exact lawful
  | guideSet p => exact lawful.of_chime (guideSet_chime p s)
  | steerTableSet vs => exact lawful.of_chime (steerTableSet_chime vs s)
  | rowTableSet rows => exact lawful.of_chime (rowTableSet_chime rows s)
  | bandTableSet bands => exact lawful.of_chime (bandTableSet_chime bands s)
  | menuSet q => exact lawful.of_chime (menuSet_chime q s)
  | pageSet n title items => exact lawful.of_chime (pageSet_chime n title items s)
  | pageClear n => exact lawful.of_chime (pageClear_chime n s)
  | itemSet n i p => exact lawful.of_chime (itemSet_chime n i p s)
  | menuOpen k => exact lawful.of_chime (menuOpen_chime k s)
  | menuClose k => exact lawful.of_chime (menuClose_chime k s)
  | menuLock k l => exact lawful.of_chime (menuLock_chime k l s)
  | zoneSet z o p => exact lawful.of_chime (zoneSet_chime z o p s)
  | volumeTableSet vs => exact lawful.of_chime (volumeTableSet_chime vs s)
  | chimeDefine n o p => exact lawful.of_queue (chimeDefine_queue n o p s)
  | chimePlay n z => exact lawful.chimePlay n z
  | chimeStop n => exact lawful.chimeStop n
  | proximitySet n bands => exact lawful.proximitySet n bands
  | assetBegin n k l => exact lawful.of_chime (assetBegin_chime n k l s)
  | assetData o bs => exact lawful.of_chime (assetData_chime o bs s)
  | assetEnd c => exact lawful.of_chime (assetEnd_chime c s)
  | assetDelete n => exact lawful.of_chime (assetDelete_chime n s)
  | assetInfo n => exact lawful.of_chime (assetInfo_chime n s)
  | storeStatus => exact lawful
  | storeAbort => exact lawful.of_chime (storeAbort_chime s)
  | linkRetrain l => exact lawful.of_chime (linkRetrain_chime l s)
  | countersRead g c => exact lawful.of_queue (countersRead_queue g c s)
  | attentionAck f => exact lawful.of_chime (attentionAck_chime f s)
  | noticeMaskSet m => exact lawful.of_chime (noticeMaskSet_chime m s)
  | identify => exact lawful
  | softReset => exact lawful

theorem LawfulQueue.answerPacket (lawful : LawfulQueue s) (inProfile : Bool) (p : ControlPacket) :
    LawfulQueue (answerPacket inProfile p s).state := by
  unfold Machine.answerPacket
  split
  · exact lawful
  split
  · exact lawful
  split
  · exact lawful
  split
  · exact lawful
  · exact lawful.perform _

theorem handAnswer_chime (mark code : Byte) (a : Answer) :
    (handAnswer mark code a).chime = a.state.chime := by
  unfold handAnswer
  dsimp only
  split
  case h_1 => simp
  case h_2 => simp
  case h_3 => simp
  case h_4 => split <;> simp

theorem LawfulQueue.runCommand (lawful : LawfulQueue s) (mark : Byte) (c : Command) : LawfulQueue (runCommand mark c s) := by
  have answered : LawfulQueue (answerCommand c s).state := by
    unfold answerCommand
    split
    · exact lawful
    · exact lawful.perform c
  unfold Machine.runCommand
  split
  · exact answered.of_chime (handAnswer_chime _ _ _)
  · exact lawful

theorem LawfulQueue.takeCommand (lawful : LawfulQueue s) : LawfulQueue (takeCommand s) := by
  unfold Machine.takeCommand
  split
  · exact lawful
  next p rest _ =>
    split
    · have taken : LawfulQueue { s with control.fifo := rest, control.profileTurn := true } := lawful
      exact (taken.answerPacket false p).of_chime (handAnswer_chime _ _ _)
    · exact lawful

/-! ### Profile entries (R194) -/

theorem suppressReply_chime (a : Answer) : (suppressReply a).chime = a.state.chime := by
  unfold suppressReply
  split <;> simp [retrain]

theorem rejectEntry_chime (s : State) : (rejectEntry s).chime = s.chime := by
  simp [rejectEntry]

theorem LawfulQueue.runEntry (lawful : LawfulQueue s) (packet : List Byte) : LawfulQueue (runEntry packet s) := by
  have rejected := lawful.of_chime (rejectEntry_chime s)
  unfold Machine.runEntry
  split
  · exact rejected
  split
  · exact rejected
  · dsimp only
    generalize ControlPacket.mk _ _ _ _ = p
    have executed := (lawful.answerPacket true p).of_chime (suppressReply_chime _)
    split
    · exact executed
    · exact executed.of_chime (rejectEntry_chime _)

theorem skipEntry_chime (l : Nat) (s : State) : (skipEntry l s).chime = s.chime := by
  unfold skipEntry
  split <;> rfl

theorem afterEntry_chime (s : State) : (afterEntry s).chime = s.chime := by
  unfold afterEntry
  split
  · rfl
  · split <;> simp

theorem LawfulQueue.takeEntry (lawful : LawfulQueue s) : LawfulQueue (takeEntry s) := by
  unfold Machine.takeEntry
  split
  · split
    · exact lawful
    · split
      · exact lawful.of_chime (by simp)
      · split
        · exact lawful.of_chime (by simp)
        · have turned : LawfulQueue { s with control.profileTurn := false } := lawful
          exact LawfulQueue.of_chime ((turned.of_chime (skipEntry_chime _ _)).runEntry _) (afterEntry_chime _)
  · exact lawful

/-! ### The uplink (R179, R180) -/

theorem appendWaiting_chime (s : State) : (appendWaiting s).chime = s.chime := by
  unfold appendWaiting
  split <;> simp

theorem sendCompletes_chime (s : State) : (sendCompletes s).chime = s.chime := by
  unfold sendCompletes
  split
  · split
    · rfl
    · dsimp only
      split
      · rw [retrain, linkDrops_chime, appendWaiting_chime, emit]
      · rw [appendWaiting_chime, emit]
  · rfl

theorem waitingAppends_chime (s : State) : (waitingAppends s).chime = s.chime := by
  unfold waitingAppends
  split
  · split
    · exact appendWaiting_chime s
    · exact sendCompletes_chime s
  · rfl

end Sys2Proof.Machine
end

section
/-! The chime queue keeps its law under the clock, the resets and every step (R138). -/

namespace Sys2Proof.Machine

variable {s t : State}

/-! ### The clock (log entry 19) -/

theorem LawfulQueue.whenDue {event : State → State} (lawful : LawfulQueue s) (kept : LawfulQueue (event s)) (due : Bool) :
    LawfulQueue (whenDue due event s) := by
  cases due
  · exact lawful
  · exact kept

theorem LawfulQueue.expireRecord (lawful : LawfulQueue s) : LawfulQueue (expireRecord s) :=
  lawful.whenDue lawful.recordStales _

theorem LawfulQueue.expireDebounce (lawful : LawfulQueue s) : LawfulQueue (expireDebounce s) :=
  lawful.whenDue lawful.debounceExpires _

theorem LawfulQueue.expireMismatch (lawful : LawfulQueue s) : LawfulQueue (expireMismatch s) :=
  lawful.whenDue (lawful.of_chime (mismatchExpires_chime s)) _

theorem LawfulQueue.expireStart (lawful : LawfulQueue s) : LawfulQueue (expireStart s) :=
  lawful.whenDue (lawful.of_chime (startExpires_chime s)) _

theorem LawfulQueue.expireWatchdog (lawful : LawfulQueue s) : LawfulQueue (expireWatchdog s) :=
  lawful.whenDue (lawful.of_chime (watchdogExpires_chime s)) _

theorem LawfulQueue.expireLinger (lawful : LawfulQueue s) : LawfulQueue (expireLinger s) :=
  lawful.whenDue (lawful.of_chime (lingerExpires_chime s)) _

theorem LawfulQueue.expireVehicle (lawful : LawfulQueue s) : LawfulQueue (expireVehicle s) :=
  lawful.expireRecord.expireDebounce.expireMismatch.expireStart.expireWatchdog.expireLinger

theorem LawfulQueue.expireSeat (lawful : LawfulQueue s) (k : Seat) : LawfulQueue (expireSeat s k) :=
  lawful.whenDue (lawful.of_chime (inactivityExpires_chime k s)) _

theorem LawfulQueue.voiceTime (lawful : LawfulQueue s) (v : Fin 4) : LawfulQueue (voiceTime s v) :=
  (lawful.voiceBlock v).whenDue ((lawful.voiceBlock v).of_queue (gapExpires_queue v _)) _

theorem holdExpires_chime (z : Zone) (s : State) : (holdExpires z s).chime = s.chime := by
  unfold holdExpires
  dsimp only
  split <;> simp

theorem LawfulQueue.zoneBlock (lawful : LawfulQueue s) (z : Zone) : LawfulQueue (zoneBlock z s) :=
  lawful.of_chime (by simp)

theorem LawfulQueue.zoneTime (lawful : LawfulQueue s) (z : Zone) : LawfulQueue (zoneTime s z) :=
  (lawful.whenDue (lawful.of_chime (holdExpires_chime z s)) _).zoneBlock z

theorem LawfulQueue.tick (lawful : LawfulQueue s) : LawfulQueue (tick s) := by
  have advanced : LawfulQueue (advanceTimers s) := lawful
  have seated := List.foldlRecOn seats Machine.expireSeat advanced.expireVehicle fun _ hu k _ => hu.expireSeat k
  have voiced := List.foldlRecOn [0, 1, 2, 3] Machine.voiceTime seated fun _ hu v _ => hu.voiceTime v
  exact List.foldlRecOn zones Machine.zoneTime voiced fun _ hu z _ => hu.zoneTime z

/-! ### Resets (R193, R197) -/

theorem softResetEnds_queue (s : State) : (softResetEnds s).chime.queue = [] := by
  unfold softResetEnds softResetBlocks softResetPanel
  simp [Chime.reset]

theorem LawfulQueue.failPackets (lawful : LawfulQueue s) (ps : List ControlPacket) : LawfulQueue (failPackets ps s) := by
  induction ps generalizing s with
  | nil => exact LawfulQueue.of_empty (softResetEnds_queue s)
  | cons p rest ih =>
    have replied : LawfulQueue (handReply (failedReply p) s) := lawful.of_chime (by simp)
    unfold Machine.failPackets
    dsimp only
    split
    · exact replied
    · exact ih replied

theorem LawfulQueue.softResetEffect (lawful : LawfulQueue s) : LawfulQueue (softResetEffect s) := by
  unfold Machine.softResetEffect
  split
  · exact lawful
  · split
    · exact lawful
    · exact lawful
    · exact lawful.failPackets _

theorem LawfulQueue.idle (lawful : LawfulQueue s) : LawfulQueue (idle s) := by
  unfold Machine.idle
  split
  · exact lawful.softResetEffect
  split
  · exact lawful.takeEntry
  split
  · exact lawful.takeCommand
  · exact lawful.tick

/-! ### The step -/

/-- A packet's arrival, where its owner's work keeps the law. -/
theorem LawfulQueue.receive {work : Packet → State → State} (works : ∀ p u, LawfulQueue u → LawfulQueue (work p u))
    (lawful : LawfulQueue s) (l : Link) (k : PacketKind) (bytes : List Byte) : LawfulQueue (receive l k bytes work s) := by
  unfold Machine.receive
  split
  · exact lawful
  · exact works _ _ (lawful.of_chime (countPayload_chime l _ s))

/-- A packet whose owner leaves the chimes as they are. -/
theorem LawfulQueue.receive_chime {work : Packet → State → State} (works : ∀ p u, (work p u).chime = u.chime)
    (lawful : LawfulQueue s) (l : Link) (k : PacketKind) (bytes : List Byte) :
    LawfulQueue (Machine.receive l k bytes work s) :=
  lawful.receive (fun p u kept => kept.of_chime (works p u)) l k bytes

/-- Every command and event: `t` is its next state. -/
theorem LawfulQueue.exec (lawful : LawfulQueue s) (i : Instr) (he : exec i s = .next t) : LawfulQueue t := by
  have ends : ∀ {v}, Host.Outcome.next v = (Host.Outcome.next t : Host.Outcome State Fault Refusal) →
      LawfulQueue v → LawfulQueue t := fun e hv => Host.Outcome.next.inj e ▸ hv
  have chime : ∀ {v}, Host.Outcome.next v = (Host.Outcome.next t : Host.Outcome State Fault Refusal) →
      v.chime = s.chime → LawfulQueue t := fun e hv => ends e (lawful.of_chime hv)
  cases i with
  | fullReset => exact ends he (.of_empty rfl)
  | softResetEffect => exact ends he lawful.softResetEffect
  | zoneBlockEvent zone => exact ends he (lawful.zoneBlock zone)
  | keyPacket seat bytes => exact ends he (lawful.receive (fun _ _ hu => hu.keyArrives seat _) _ _ _)
  | inactivityTimerExpiry seat => exact chime he (inactivityExpires_chime seat s)
  | commandTake => exact ends he lawful.takeCommand
  | profileEntry => exact ends he lawful.takeEntry
  | reversePinChange level => exact chime he (pinChanges_chime level s)
  | debounceExpiry => exact ends he lawful.debounceExpires
  | vehiclePacket bytes => exact ends he (lawful.receive (fun p _ hu => hu.vehicleArrives p) _ _ _)
  | recordStale => exact ends he lawful.recordStales
  | mismatchTimerExpiry => exact chime he (mismatchExpires_chime s)
  | startTimerExpiry => exact chime he (startExpires_chime s)
  | watchdogExpiry => exact chime he (watchdogExpires_chime s)
  | lingerTimerExpiry => exact chime he (lingerExpires_chime s)
  | linkLock link => exact chime he (reachUp_chime link s)
  | linkLossOfLock link => exact chime he (lossOfLock_chime link s)
  | framePacket rx bytes => exact ends he (lawful.receive_chime (frameArrives_chime rx) _ _ _)
  | linePacket rx bytes => exact ends he (lawful.receive_chime (videoLine_chime rx) _ _ _)
  | fendPacket rx bytes => exact ends he (lawful.receive_chime (fendArrives_chime rx) _ _ _)
  | audioPacket bytes => exact ends he (lawful.receive_chime soundArrives_chime _ _ _)
  | ctrlPacket bytes => exact ends he (lawful.receive_chime controlArrives_chime _ _ _)
  | lineWriteCompletion rx =>
    simp only [Machine.exec, execLineWriteCompletion] at he
    split at he
    case h_1 written => exact chime he (lineWritten_chime written)
    case h_2 => cases he
  | endOfFrame panel => exact chime (v := endOfFrame panel s) he (by simp)
  | renderCompletion =>
    simp only [Machine.exec, execRenderCompletion] at he
    split at he
    case h_1 => exact chime he rfl
    case h_2 r _ => exact chime (v := completeRender r s) he (by simp)
  | voiceBlockEvent voice => exact ends he (lawful.voiceBlock voice)
  | gapTimerExpiry voice => exact ends he (lawful.of_queue (gapExpires_queue voice s))
  | holdTimerExpiry zone => exact chime he (holdExpires_chime zone s)
  | arrayReady => exact chime he (arrayReady_chime s)
  | pageReadCompletion failed => exact ends he (lawful.readCompletes failed)
  | pageProgramCompletion verifiedPass => exact chime he (programCompletes_chime verifiedPass s)
  | eraseCompletion failedBlocks => exact chime he (eraseCompletes_chime failedBlocks s)
  | abortCompletion => exact chime he (abortCompletes_chime s)
  | waitingReplyAppend => exact chime he (waitingAppends_chime s)
  | sendCompletion => exact chime he (sendCompletes_chime s)
  | resyncEndFlag link => exact chime he (endFlag_chime link s)
  | overlongPacket link => exact chime he (overlong_chime link s)
  | arrivedPacketDiscarded link bytes => exact chime he (discardPacket_chime link bytes s)
  | _ => exact ends he (lawful.runCommand _ _)

theorem LawfulQueue.step (lawful : LawfulQueue s) (stepped : step s = .next t) : LawfulQueue t := by
  unfold Machine.step at stepped
  split at stepped
  next i rest _ =>
    have popped : LawfulQueue { s with pending := rest } := lawful
    exact popped.exec i stepped
  next => exact Host.Outcome.next.inj stepped ▸ lawful.idle

/-! ### The statement -/

/-- Settles O39: what the queue does with a new entry, and its law under every operation and every step. -/
theorem chimeQueueKeepsItsLaw : Obligations.ChimeQueueKeepsItsLaw := by
  unfold Obligations.ChimeQueueKeepsItsLaw
  refine ⟨fun e v id mask token i z near content s queue => ?_, fun s t lawful => LawfulQueue.step lawful⟩
  have lawful : LawfulQueue s := queue
  refine ⟨fun alone => ⟨fun room => ?_, fun l full last higher => ?_, fun l full last lower => ?_⟩, lawful.dispatch,
    lawful.silenceVoice v, lawful.internalRequest i z near, lawful.chimePlay id mask, lawful.chimeStop id,
    lawful.proximityStop, lawful.voiceBlock v, lawful.voicePageRead v token content⟩
  · have joins := enqueue_room (e := e) room
    refine ⟨_, joins, ?_, queue.enqueue alone joins, joinQueue_counters e s⟩
    rw [joinQueue_queue]
    exact insertEntry_perm e _
  · have joins := (enqueue_full (e := e) full last).trans (if_pos higher)
    refine ⟨_, joins, ?_, queue.enqueue alone joins, ?_, raised_of_attention (joinQueue_attention _ _) (raiseFlag_raised _ _)⟩
    · rw [joinQueue_queue, displaced_queue, queue.filter_last last]
      exact insertEntry_perm e _
    · rw [joinQueue_counters]
      exact displaced_dropped l s
  · exact (enqueue_full full last).trans (if_neg (Nat.not_lt.mpr lower))

end Sys2Proof.Machine
end

section
/-! The array's readiness and the selection of its work (R155, R156, R159, R166, R167, R170). -/

namespace Sys2Proof.Machine

variable {s : State}

/-! ### Selection by what waits (R156, R170) -/

theorem storeSelect_unmounted (h : s.store.state = .unmounted) : storeSelect s = s := by simp [storeSelect, h]

/-- Past UNMOUNTED a free array with reads waiting takes the oldest. -/
theorem storeSelect_read {r : ReadRequest} {rest : List ReadRequest} (free : s.store.op = .idle)
    (mounted : s.store.state ≠ .unmounted) (waiting : s.store.reads = r :: rest) :
    storeSelect s = { s with store.op := .read r, store.reads := rest } := by
  simp [storeSelect, free, mounted, waiting]

/-- Before READY the mount's reads are all the work there is (R155). -/
theorem storeSelect_mounting (mounting : s.store.state = .mounting) (noReads : s.store.reads = []) : storeSelect s = s := by
  simp [storeSelect, mounting, noReads]

/-- Under the supply hold reads are all the work there is (R170). -/
theorem storeSelect_held (noReads : s.store.reads = []) (held : s.vehicle.supply ≠ .normal) : storeSelect s = s := by
  simp [storeSelect, noReads, supplyHold, held]

/-- A free array that may program and erase, with no read waiting (R155, R156, R170). -/
structure MayWrite (s : State) : Prop where
  free : s.store.op = .idle
  ready : s.store.state = .ready
  noReads : s.store.reads = []
  supplied : s.vehicle.supply = .normal

/-- The first of the transaction's programs comes first. -/
theorem MayWrite.selects_program (may : MayWrite s) {p : Nat} {rest : List Nat} (queued : s.store.txQueue = p :: rest) :
    storeSelect s = { s with
      store.op := .program (s.store.transaction.pageBlock p) (p % 64) (s.store.transaction.programPage p)
        (decide (s.store.transaction.state = .finishing ∧ p = s.store.transaction.lastPage)) true,
      store.txQueue := rest,
      store.transaction := s.store.transaction.setBuffer p
        { s.store.transaction.buffer p with state := .programming p } } := by
  simp [storeSelect, may.free, may.ready, may.noReads, supplyHold, may.supplied, queued]
  rfl

/-- Without one, the first bad-mark write. -/
theorem MayWrite.selects_badMark (may : MayWrite s) {b : Fin 256} {rest : List (Fin 256)}
    (noPrograms : s.store.txQueue = []) (marked : s.store.badMarks = b :: rest) :
    storeSelect s = { s with store.op := .badMark b, store.badMarks := rest } := by
  simp [storeSelect, may.free, may.ready, may.noReads, supplyHold, may.supplied, noPrograms, marked]

/-- Without either, a background erase of what is listed. -/
theorem MayWrite.selects_erase (may : MayWrite s) (noPrograms : s.store.txQueue = []) (noMarks : s.store.badMarks = [])
    (listed : s.store.eraseList ≠ []) :
    storeSelect s = { s with store.op := .erase (eraseChoice s.store.eraseList) } := by
  simp only [storeSelect, may.free, may.ready, may.noReads, supplyHold, may.supplied, noPrograms, noMarks]
  cases h : s.store.eraseList with
  | nil => contradiction
  | cons b bs => simp

theorem MayWrite.selects_nothing (may : MayWrite s) (noPrograms : s.store.txQueue = []) (noMarks : s.store.badMarks = [])
    (unlisted : s.store.eraseList = []) : storeSelect s = s := by
  simp [storeSelect, may.free, may.ready, may.noReads, supplyHold, may.supplied, noPrograms, noMarks, unlisted]

theorem Transaction.lastPage_eq (x : Transaction) : x.lastPage = (x.length + 4095) / 4096 - 1 := by
  simp [Transaction.lastPage, ceilDiv, Config.pageBytes]

/-- What the program of a page writes, in the terms of R166 and R167. -/
theorem Transaction.programPage_eq (x : Transaction) (p : Nat) : x.programPage p = {
    main := (if p % 2 = 0 then x.buffer0 else x.buffer1).bytes, factory := 0xFF#8, runtimeBad := false,
    header := if p % 64 = 0 then some {
        assetId := x.id, kind := x.kind.code, generation := x.generation, sequence := p / 64,
        blockCount := x.reserved.length, length := x.length }
      else none,
    commit := if x.state = .finishing ∧ p = (x.length + 4095) / 4096 - 1 then some (~~~ x.crc) else none } := by
  unfold Transaction.programPage
  rw [x.lastPage_eq]
  rfl

/-! ### The blocks of a background erase (R156) -/

theorem eraseChoice_sublist (bs : List (Fin 256)) : (eraseChoice bs).Sublist bs := by
  induction bs with
  | nil => exact .slnil
  | cons b bs ih => exact (List.filter_sublist.trans ih).cons_cons b

theorem eraseChoice_head? (bs : List (Fin 256)) : (eraseChoice bs).head? = bs.head? := by
  cases bs <;> rfl

/-- No two blocks of one erase lie in one bank. -/
theorem eraseChoice_banks (bs : List (Fin 256)) :
    (eraseChoice bs).Pairwise (fun a b => a.val % 4 ≠ b.val % 4) := by
  induction bs with
  | nil => exact .nil
  | cons b bs ih =>
    refine List.pairwise_cons.mpr ⟨fun c hc => ?_, ih.filter _⟩
    have other := (List.mem_filter.mp hc).2
    exact fun same => of_decide_eq_true other same.symm

/-- Every bank that has a block on the list has one in the erase. -/
theorem eraseChoice_serves_bank {bs : List (Fin 256)} {c : Fin 256} (hc : c ∈ bs) :
    ∃ d ∈ eraseChoice bs, d.val % 4 = c.val % 4 := by
  induction bs with
  | nil => cases hc
  | cons b bs ih =>
    by_cases same : c.val % 4 = b.val % 4
    · exact ⟨b, List.mem_cons_self, same.symm⟩
    · have later : c ∈ bs := (List.mem_cons.mp hc).resolve_left fun e => same (by rw [e])
      obtain ⟨d, hd, bank⟩ := ih later
      exact ⟨d, List.mem_cons_of_mem _ (List.mem_filter.mpr ⟨hd, decide_eq_true (bank.trans_ne same)⟩), bank⟩

/-- A block that no block before it shares the bank of is in the erase. -/
theorem eraseChoice_first {before : List (Fin 256)} {b : Fin 256} {after : List (Fin 256)}
    (first : ∀ c ∈ before, c.val % 4 ≠ b.val % 4) : b ∈ eraseChoice (before ++ b :: after) := by
  induction before with
  | nil => exact List.mem_cons_self
  | cons c before ih =>
    have here := first c List.mem_cons_self
    have chosen := ih fun d hd => first d (List.mem_cons_of_mem c hd)
    exact List.mem_cons_of_mem _ (List.mem_filter.mpr ⟨chosen, decide_eq_true (Ne.symm here)⟩)

/-- A block is in the erase at its first place exactly when it is the oldest of its bank. -/
theorem eraseChoice_oldest (before : List (Fin 256)) (b : Fin 256) (after : List (Fin 256)) :
    (b ∈ eraseChoice (before ++ b :: after) ∧ b ∉ before) ↔ ∀ c ∈ before, c.val % 4 ≠ b.val % 4 := by
  constructor
  · rintro ⟨chosen, fresh⟩ c hc same
    induction before with
    | nil => cases hc
    | cons d before ih =>
      rcases List.mem_cons.mp chosen with e | chosen
      · exact fresh (e ▸ List.mem_cons_self)
      · obtain ⟨listed, other⟩ := List.mem_filter.mp chosen
        rcases List.mem_cons.mp hc with e | hc
        · exact of_decide_eq_true other (e ▸ same.symm)
        · exact ih listed (fun h => fresh (List.mem_cons_of_mem d h)) hc
  · exact fun first => ⟨eraseChoice_first first, fun h => first b h rfl⟩

/-! ### The readiness of the array (R155, R159) -/

theorem arrayReady_unmounted (unmounted : s.store.state = .unmounted) (free : s.store.op = .idle) :
    arrayReady s = { s with
      store.state := .mounting, store.mount := { Mount.reset with headersLeft := 256 },
      store.op := .read { reader := .mountHeader, block := 0, page := 0 },
      store.reads := ((List.finRange 256).drop 1).map fun b => { reader := .mountHeader, block := b, page := 0 } } := by
  refine (if_pos unmounted).trans (storeSelect_read free (by simp) ?_)
  rw [List.finRange_succ]
  rfl

theorem arrayReady_mounted (mounted : s.store.state ≠ .unmounted) : arrayReady s = s := if_neg mounted

/-- Settles O42: each kind of waiting work by its place in R156's order, and the erase's blocks by induction on the list. -/
theorem storeSelectsInOrder : Obligations.StoreSelectsInOrder := by
  unfold Obligations.StoreSelectsInOrder
  intro s bs
  refine ⟨fun unmounted free => congrArg Host.Outcome.next (arrayReady_unmounted unmounted free),
    fun mounted => congrArg Host.Outcome.next (arrayReady_mounted mounted), storeSelect_busy,
    fun r rest => storeSelect_read, fun h => ?_, fun x p => ⟨x.lastPage_eq, x.programPage_eq p⟩,
    fun _ _ noReads held => storeSelect_held noReads held, fun free ready noReads supplied => ?_,
    eraseChoice_sublist bs, eraseChoice_head? bs, eraseChoice_banks bs, fun before b after h => ?_⟩
  · rcases h with unmounted | ⟨mounting, noReads⟩
    · exact storeSelect_unmounted unmounted
    · exact storeSelect_mounting mounting noReads
  · have may : MayWrite s := ⟨free, ready, noReads, supplied⟩
    exact ⟨fun p rest => may.selects_program, fun b rest => may.selects_badMark, may.selects_erase, may.selects_nothing⟩
  · rw [h]
    exact eraseChoice_oldest before b after

end Sys2Proof.Machine
end

section
/-! The sets of blocks (R158), what a selection leaves of the store (R156), and an answer with nothing to follow it. -/

namespace Sys2Proof.Machine

variable {s : State}

/-! ### Sets of blocks (R158) -/

theorem blockSet_setBlock (c : BlockSet) (b d : Fin 256) (s : State) :
    (setBlock c b s).blockSet d = if d = b then c else s.blockSet d := by
  simp only [State.blockSet, setBlock, Fin.getElem_fin, Vector.getElem_set, Fin.ext_iff, eq_comm]

/-- Blocks put in a set, in one update of the table of sets. -/
theorem setBlocks_eq (c : BlockSet) (bs : List (Fin 256)) (s : State) : setBlocks c bs s = { s with
    store.sets := Vector.ofFn fun b : Fin 256 => if b ∈ bs then c else s.store.sets[b] } := by
  induction bs generalizing s with
  | nil => simp [setBlocks, Vector.ofFn_getElem]
  | cons b bs ih =>
    refine (ih (setBlock c b s)).trans ?_
    have same : (Vector.ofFn fun d : Fin 256 => if d ∈ bs then c else (setBlock c b s).blockSet d) =
        Vector.ofFn fun d : Fin 256 => if d ∈ b :: bs then c else s.blockSet d := by
      congr 1
      funext d
      by_cases h : d = b <;> simp [blockSet_setBlock, h]
    exact congrArg (fun sets => { s with store.sets := sets }) same

/-- Blocks put in a set change the sets alone. -/
@[simp] theorem setBlocks_store (c : BlockSet) (bs : List (Fin 256)) (s : State) :
    (setBlocks c bs s).store.state = s.store.state ∧ (setBlocks c bs s).store.eraseList = s.store.eraseList ∧
    (setBlocks c bs s).store.directory = s.store.directory ∧ (setBlocks c bs s).store.retired = s.store.retired ∧
    (setBlocks c bs s).store.transaction = s.store.transaction ∧ (setBlocks c bs s).store.op = s.store.op ∧
    (setBlocks c bs s).store.aborting = s.store.aborting ∧ (setBlocks c bs s).store.txQueue = s.store.txQueue ∧
    (setBlocks c bs s).store.badMarks = s.store.badMarks ∧ (setBlocks c bs s).store.cursor = s.store.cursor ∧
    (setBlocks c bs s).store.nextGeneration = s.store.nextGeneration ∧
    (setBlocks c bs s).store.counters = s.store.counters ∧ (setBlocks c bs s).store.array = s.store.array := by
  rw [setBlocks_eq]
  exact ⟨rfl, rfl, rfl, rfl, rfl, rfl, rfl, rfl, rfl, rfl, rfl, rfl, rfl⟩

theorem blockSet_setBlocks (c : BlockSet) (bs : List (Fin 256)) (d : Fin 256) (s : State) :
    (setBlocks c bs s).blockSet d = if d ∈ bs then c else s.blockSet d := by
  simp [setBlocks_eq, State.blockSet]

/-! ### What a selection leaves of the store (R156) -/

/-- A selection leaves the sets, the lists, the directory and the array as they are. -/
@[simp] theorem storeSelect_store (s : State) :
    (storeSelect s).store.state = s.store.state ∧ (storeSelect s).store.sets = s.store.sets ∧
    (storeSelect s).store.eraseList = s.store.eraseList ∧ (storeSelect s).store.directory = s.store.directory ∧
    (storeSelect s).store.retired = s.store.retired ∧ (storeSelect s).store.aborting = s.store.aborting ∧
    (storeSelect s).store.counters = s.store.counters ∧ (storeSelect s).store.array = s.store.array := by
  obtain ⟨op, reads, txQueue, badMarks, t, h⟩ := storeSelect_cases s
  rw [h]
  exact ⟨rfl, rfl, rfl, rfl, rfl, rfl, rfl, rfl⟩

/-- Of the transaction a selection changes at most a buffer. -/
theorem storeSelect_transaction (s : State) : (storeSelect s).store.transaction = s.store.transaction ∨
    ∃ p b, (storeSelect s).store.transaction = s.store.transaction.setBuffer p b := by
  unfold storeSelect
  split
  · exact .inl rfl
  · split
    · exact .inl rfl
    · split
      · exact .inl rfl
      · split
        case h_1 => exact .inr ⟨_, _, rfl⟩
        case h_2 => (repeat' split) <;> exact .inl rfl

/-- With no program queued a selection leaves the transaction. -/
theorem storeSelect_no_programs (h : s.store.txQueue = []) :
    (storeSelect s).store.transaction = s.store.transaction ∧ (storeSelect s).store.txQueue = [] := by
  unfold storeSelect
  (repeat' split) <;> simp_all

/-- Blocks that join the erase list, in one update (R158). -/
theorem joinErase_eq (bs : List (Fin 256)) (s : State) : joinErase bs s = storeSelect { s with
    store.eraseList := s.store.eraseList ++ bs,
    store.sets := Vector.ofFn fun b : Fin 256 => if b ∈ bs then .eraseList else s.store.sets[b] } :=
  congrArg storeSelect (setBlocks_eq .eraseList bs { s with store.eraseList := s.store.eraseList ++ bs })

/-! ### Answers handed over in RUNNING (R187) -/

/-- A command that no rule of R25 names, answered with nothing to follow the reply. -/
theorem runCommand_answer {t : State} {st : Status} {data : List Byte} (running : Running s) (mark : Byte) {c : Command}
    (answer : perform c s = ⟨st, data, t, .nothing⟩)
    (plain : c.code ∉ ruledByTakeover := by simp [Command.code, ruledByTakeover]) :
    runCommand mark c s = replied mark c.code st data t := by
  rw [runCommand_plain running mark c plain, answer, handAnswer_plain]

end Sys2Proof.Machine
end

section
/-! ASSET_DELETE, ASSET_INFO, STORE_STATUS and STORE_ABORT (R155, R169, R171, R172). -/

namespace Sys2Proof.Machine

variable {s : State} {id : Nat} {r : AssetRecord}

/-! ### STORE_STATUS (R172) -/

/-- STORE_STATUS is answered in every phase (R188). -/
theorem runCommand_storeStatus (free : interpreterFree s = true) (mark : Byte) :
    runCommand mark .storeStatus s = handAnswer mark (BitVec.ofNat 8 75) (storeStatus s) :=
  runCommand_early free mark .storeStatus rfl (by decide)

/-- The report in the order of R172's items (log entry 13). -/
theorem storeStatus_eq (s : State) : storeStatus s =
    let st := s.store
    let size := fun c => u16 (s.countSet c)
    let retired := fun (r : RetiredEntry) => u16 r.id ++ u32 r.generation ++ blockListBytes r.blocks ++ u8 r.pins
    let x := st.transaction
    report (u8 st.state.code ++
      [boolByte (decide (s.vehicle.supply ≠ .normal))] ++ u8 st.op.code ++ [boolByte st.aborting] ++
      size .bad ++ size .free ++ size .reserved ++ size .current ++ size .retired ++ size .eraseList ++
      size .unclassified ++ u16 st.eraseList.length ++ st.eraseList.flatMap (fun b => u8 b.val) ++
      listBytes retired st.retired ++
      (u8 x.state.code ++ u16 x.id ++ u8 x.kind.code ++ u32 x.length ++ u32 x.generation ++ blockListBytes x.reserved ++
        u32 x.received ++ u32 (~~~ x.crc).toNat ++ x.buffer0.state.bytes ++ x.buffer1.state.bytes ++ x.outcome.bytes) ++
      u8 st.cursor ++ u32 st.nextGeneration ++ u16 st.reads.length ++
      ([st.counters.readFail, st.counters.programRetry, st.counters.programFail, st.counters.eraseFail,
        st.counters.opAborted, st.counters.mountDiscard].flatMap u32)) s := by
  have counters : s.store.counters.bytes = [s.store.counters.readFail, s.store.counters.programRetry,
      s.store.counters.programFail, s.store.counters.eraseFail, s.store.counters.opAborted,
      s.store.counters.mountDiscard].flatMap u32 := by simp [StoreCounters.bytes]
  unfold storeStatus
  rw [counters]
  rfl

/-! ### ASSET_DELETE and ASSET_INFO (R169, R172) -/

theorem asset_bad_id (bad : id = 0 ∨ 1024 ≤ id) : assetDelete id s = refuse .param s ∧ assetInfo id s = refuse .param s :=
  ⟨if_pos bad, if_pos bad⟩

theorem asset_not_ready (positive : 1 ≤ id) (small : id ≤ 1023) (notReady : s.store.state ≠ .ready) :
    assetDelete id s = refuse .notReady s ∧ assetInfo id s = refuse .notReady s := by
  have good : ¬ (id = 0 ∨ 1023 < id) := by omega
  constructor
  · simp [assetDelete, good, State.storeReady, notReady]
  · simp [assetInfo, good, State.storeReady, notReady]

theorem asset_absent (positive : 1 ≤ id) (small : id ≤ 1023) (ready : s.store.state = .ready) (absent : s.asset? id = none) :
    assetDelete id s = refuse .notFound s ∧ assetInfo id s = refuse .notFound s := by
  have good : ¬ (id = 0 ∨ 1023 < id) := by omega
  constructor
  · simp [assetDelete, good, State.storeReady, ready, absent]
  · simp [assetInfo, good, State.storeReady, ready, absent]

theorem assetInfo_present (positive : 1 ≤ id) (small : id ≤ 1023) (ready : s.store.state = .ready)
    (present : s.asset? id = some r) : assetInfo id s =
      report (r.bytes ++ listBytes RetiredEntry.pinBytes (s.store.retired.filter fun e => e.id == id) ++
        [boolByte (decide (s.store.transaction.state ≠ .none ∧ s.store.transaction.id = id))]) s := by
  have good : ¬ (id = 0 ∨ 1023 < id) := by omega
  simp [assetInfo, good, State.storeReady, ready, present]

theorem assetDelete_present (positive : 1 ≤ id) (small : id ≤ 1023) (ready : s.store.state = .ready)
    (present : s.asset? id = some r) : assetDelete id s =
      if 0 < r.pins then refuse .inUse s
      else done (joinErase r.blocks { s with store.directory := s.store.directory.filter fun q => q.id != id }) := by
  have good : ¬ (id = 0 ∨ 1023 < id) := by omega
  simp [assetDelete, good, State.storeReady, ready, present]

/-- ASSET_DELETE and ASSET_INFO refused for the same reason. -/
theorem exec_asset_refused (running : Running s) (mark : Byte) {st : Status}
    (refused : assetDelete id s = refuse st s ∧ assetInfo id s = refuse st s) :
    exec (.assetDelete mark id) s = .next (replied mark 73 st [] s) ∧
    exec (.assetInfo mark id) s = .next (replied mark 74 st [] s) :=
  ⟨congrArg Host.Outcome.next (runCommand_refuse running mark (c := .assetDelete id) refused.1),
    congrArg Host.Outcome.next (runCommand_refuse running mark (c := .assetInfo id) refused.2)⟩

/-! ### STORE_ABORT (R170, R171) -/

theorem storeAbort_not_ready (notReady : s.store.state ≠ .ready) : storeAbort s = refuse .notReady s := by
  simp [storeAbort, State.storeReady, notReady]

theorem storeAbort_aborting (ready : s.store.state = .ready) (aborting : s.store.aborting = true) :
    storeAbort s = done s := by
  simp [storeAbort, State.storeReady, ready, aborting]

/-- Past these the operation in flight is aborted, and then a transaction that is still open fails. -/
theorem storeAbort_effect (ready : s.store.state = .ready) (running : s.store.aborting = false) : storeAbort s =
    if (abortOperation .abort s).store.transaction.state ≠ .none then done (failTransaction .abort (abortOperation .abort s))
    else done (abortOperation .abort s) := by
  simp [storeAbort, State.storeReady, ready, running]

theorem abortOperation_nothing (cause : FailCause) (nothing : s.store.op = .idle ∨ ∃ r, s.store.op = .read r) :
    abortOperation cause s = s := by
  unfold abortOperation
  rcases nothing with idle | ⟨r, read⟩ <;> simp [*]

/-- An abort in flight: busy until its completion, and counted. -/
def State.abortBegun (s : State) : State := { s with
  store.aborting := true, store.counters.opAborted := bump s.store.counters.opAborted }

section
variable (cause : FailCause)

theorem abortOperation_aborting (aborting : s.store.aborting = true) : abortOperation cause s = s := if_pos aborting

theorem abortOperation_program {b : Fin 256} {page : Nat} {content : Page} {commit live : Bool}
    (idle : s.store.aborting = false) (program : s.store.op = .program b page content commit live) :
    abortOperation cause s = if live then failTransaction cause s.abortBegun else s.abortBegun := by
  simp [abortOperation, idle, program, State.abortBegun]

theorem abortOperation_badMark {b : Fin 256} (idle : s.store.aborting = false) (marking : s.store.op = .badMark b) :
    abortOperation cause s = { s.abortBegun with store.badMarks := b :: s.store.badMarks } := by
  simp [abortOperation, idle, marking, State.abortBegun]

theorem abortOperation_erase {bs : List (Fin 256)} (idle : s.store.aborting = false) (erasing : s.store.op = .erase bs) :
    abortOperation cause s = s.abortBegun := by
  simp [abortOperation, idle, erasing, State.abortBegun]

end

/-- STORE_ABORT in READY with no abort in progress. -/
theorem exec_storeAbort (running : Running s) (mark : Byte) (ready : s.store.state = .ready) (idle : s.store.aborting = false)
    {t : State} (aborted : abortOperation .abort s = t) :
    (t.store.transaction.state = .none → exec (.storeAbort mark) s = .next (replied mark 76 .ok [] t)) ∧
    (t.store.transaction.state ≠ .none →
      exec (.storeAbort mark) s = .next (replied mark 76 .ok [] (failTransaction .abort t))) := by
  have effect := storeAbort_effect ready idle
  rw [aborted] at effect
  exact ⟨fun none => congrArg Host.Outcome.next (runCommand_done running mark (c := .storeAbort)
      (effect.trans (if_neg (not_not_intro none)))),
    fun opened => congrArg Host.Outcome.next (runCommand_done running mark (c := .storeAbort) (effect.trans (if_pos opened)))⟩

/-- Settles O46: each command by its checks in order, and the blocks that join the erase list in one update of the sets. -/
theorem assetDeleteInfoStatusAndAbort : Obligations.AssetDeleteInfoStatusAndAbort := by
  unfold Obligations.AssetDeleteInfoStatusAndAbort
  intro mark id s
  refine ⟨fun free => ?_, fun running => ⟨fun bad => exec_asset_refused running mark (asset_bad_id bad),
    fun positive small notReady => exec_asset_refused running mark (asset_not_ready positive small notReady),
    fun positive small ready absent => exec_asset_refused running mark (asset_absent positive small ready absent),
    fun r positive small ready present => ⟨?_, fun pinned => ?_, fun unpinned => ?_⟩,
    fun notReady => ?_, fun ready aborting => ?_,
    fun ready idle nothing => exec_storeAbort running mark ready idle (abortOperation_nothing .abort nothing),
    fun bs ready idle erasing none =>
      (exec_storeAbort running mark ready idle (abortOperation_erase .abort idle erasing)).1 none⟩,
    fun bs => joinErase_eq bs s⟩
  · refine congrArg Host.Outcome.next ((runCommand_storeStatus free mark).trans ?_)
    rw [storeStatus_eq]
    rfl
  · exact congrArg Host.Outcome.next
      (runCommand_report running mark (c := .assetInfo id) (assetInfo_present positive small ready present))
  · exact congrArg Host.Outcome.next (runCommand_refuse running mark (c := .assetDelete id)
      ((assetDelete_present positive small ready present).trans (if_pos pinned)))
  · exact congrArg Host.Outcome.next (runCommand_done running mark (c := .assetDelete id)
      ((assetDelete_present positive small ready present).trans (if_neg (by omega))))
  · exact congrArg Host.Outcome.next (runCommand_refuse running mark (c := .storeAbort) (storeAbort_not_ready notReady))
  · exact congrArg Host.Outcome.next (runCommand_done running mark (c := .storeAbort) (storeAbort_aborting ready aborting))

end Sys2Proof.Machine
end

section
/-! ASSET_BEGIN, ASSET_DATA and ASSET_END (R155, R163 to R168). -/

namespace Sys2Proof.Machine

variable {s : State} {id kind length offset : Nat} {bytes : List Byte} {crc : BitVec 32}

/-! ### ASSET_BEGIN (R164) -/

/-- R164's ranges: PROFILE and id 1 name each other. -/
theorem beginParamsOk_iff : beginParamsOk id kind length = true ↔
    1 ≤ id ∧ id ≤ 1023 ∧ kind ≤ 2 ∧ (kind = 2 ↔ id = 1) ∧ 1 ≤ length ∧ length ≤ 16777216 := by
  have named : ((kind == 2) = (id == 1)) ↔ (kind = 2 ↔ id = 1) := beq_eq_beq
  simp only [beginParamsOk, Bool.and_eq_true, decide_eq_true_eq, beq_iff_eq, named, and_assoc]
  rfl

theorem blocksFor_eq (length : Nat) : blocksFor length = (length + 262143) / 262144 := by
  rw [blocksFor, ceilDiv, Config.blockBytes, Nat.add_sub_assoc (by decide)]

/-- The kinds of R164 by their codes. -/
theorem assetKind?_eq_some_iff {k : AssetKind} : assetKind? kind = some k ↔ k.code = kind := by
  unfold assetKind?
  split <;> cases k <;> simp_all [AssetKind.code] <;> omega

theorem assetKind?_of_le (h : kind ≤ 2) : ∃ k, assetKind? kind = some k ∧ k.code = kind := by
  have known : (assetKind? kind).isSome = true := by interval_cases kind <;> rfl
  obtain ⟨k, hk⟩ := Option.isSome_iff_exists.mp known
  exact ⟨k, hk, assetKind?_eq_some_iff.mp hk⟩

/-- The blocks that a transaction of a length reserves (R164). -/
def reservation (length : Nat) (s : State) : List (Fin 256) := (freeFromCursor s).take (blocksFor length)

/-- The state that an accepted ASSET_BEGIN leaves (R164), which reserves the blocks chosen. -/
def transactionBegun (id length : Nat) (kind : AssetKind) (chosen : List (Fin 256)) (s : State) : State :=
  clearFlags (Flag.bit .storeDone ||| Flag.bit .storeFailed) (setBlocks .reserved chosen { s with
    store.cursor := match chosen.getLast? with
      | some b => (b.val + 1) % 256
      | none => s.store.cursor,
    store.nextGeneration := s.store.nextGeneration + 1,
    store.transaction := { Transaction.reset with
      state := .opened, id := id, kind := kind, length := length, generation := s.store.nextGeneration,
      reserved := chosen } })

theorem assetBegin_busy (opened : s.store.transaction.state ≠ .none) : assetBegin id kind length s = refuse .busy s :=
  if_pos opened

theorem assetBegin_not_ready (none : s.store.transaction.state = .none) (notReady : s.store.state ≠ .ready) :
    assetBegin id kind length s = refuse .notReady s := by
  simp [assetBegin, none, State.storeReady, notReady]

theorem assetBegin_param (none : s.store.transaction.state = .none) (ready : s.store.state = .ready)
    (bad : beginParamsOk id kind length = false) : assetBegin id kind length s = refuse .param s := by
  cases h : assetKind? kind <;> simp [assetBegin, none, State.storeReady, ready, bad, h]

/-- With its parameters valid the command turns on the number of free blocks. -/
theorem assetBegin_valid (none : s.store.transaction.state = .none) (ready : s.store.state = .ready)
    (good : beginParamsOk id kind length = true) : ∃ k : AssetKind, k.code = kind ∧ assetBegin id kind length s =
      if (freeFromCursor s).length < blocksFor length then refuse .noSpace s
      else report (u32 s.store.nextGeneration ++ listBytes (fun b : Fin 256 => u8 b.val) (reservation length s))
        (transactionBegun id length k (reservation length s) s) := by
  obtain ⟨-, -, small, -⟩ := beginParamsOk_iff.mp good
  obtain ⟨k, known, code⟩ := assetKind?_of_le small
  refine ⟨k, code, ?_⟩
  unfold assetBegin
  rw [if_neg (not_not_intro none), if_neg (by simp [State.storeReady, ready]), known]
  exact if_neg (by simp [good])

section
variable (id length : Nat) (k : AssetKind) (chosen : List (Fin 256)) (s : State)

/-- What an accepted ASSET_BEGIN leaves of the store. -/
theorem transactionBegun_store :
    (transactionBegun id length k chosen s).store.transaction = { Transaction.reset with
      state := .opened, id := id, kind := k, length := length, generation := s.store.nextGeneration, reserved := chosen } ∧
    (transactionBegun id length k chosen s).store.nextGeneration = s.store.nextGeneration + 1 ∧
    (transactionBegun id length k chosen s).store.directory = s.store.directory ∧
    ∀ b, chosen.getLast? = some b → (transactionBegun id length k chosen s).store.cursor = (b.val + 1) % 256 :=
  ⟨by simp [transactionBegun, clearFlags], by simp [transactionBegun, clearFlags], by simp [transactionBegun, clearFlags],
    fun b last => by simp [transactionBegun, clearFlags, last]⟩

/-- The two flags that an accepted ASSET_BEGIN clears. -/
theorem transactionBegun_flags : (transactionBegun id length k chosen s).raised .storeDone = false ∧
    (transactionBegun id length k chosen s).raised .storeFailed = false := by
  simp [State.raised, transactionBegun, clearFlags, Flag.bit_self, BitVec.getLsbD_and, BitVec.getLsbD_not,
    BitVec.getLsbD_or]

theorem transactionBegun_blockSet (b : Fin 256) :
    (transactionBegun id length k chosen s).blockSet b = if b ∈ chosen then .reserved else s.blockSet b :=
  blockSet_setBlocks .reserved chosen b _

end

theorem reservation_ne_nil (positive : 1 ≤ length) (room : blocksFor length ≤ (freeFromCursor s).length) :
    reservation length s ≠ [] := by
  rw [blocksFor_eq] at room
  refine List.ne_nil_of_length_pos ?_
  rw [reservation, List.length_take, blocksFor_eq]
  omega

/-! ### A page buffer filled (R165) -/

/-- A copy into a page's buffer for a transaction of a given length. -/
theorem fillPage_eq {n : Nat} (hn : s.store.transaction.length = n) (q : Nat) (more : List Byte) : fillPage q more s =
    let y := s.store.transaction
    let held := (y.buffer q).bytes ++ more
    if held.length = 4096 ∧ q ≠ (n + 4095) / 4096 - 1 then
      storeSelect { s with
        store.transaction := y.setBuffer q { state := .queued q, bytes := held },
        store.txQueue := s.store.txQueue ++ [q] }
    else { s with store.transaction := y.setBuffer q { state := .filling q, bytes := held } } := by
  subst hn
  simp only [fillPage, Transaction.lastPage_eq]
  rfl

theorem Transaction.setBuffer_length (x : Transaction) (p : Nat) (b : TxBuffer) : (x.setBuffer p b).length = x.length := by
  unfold Transaction.setBuffer
  split <;> rfl

theorem storeSelect_length (s : State) : (storeSelect s).store.transaction.length = s.store.transaction.length := by
  rcases storeSelect_transaction s with h | ⟨p, b, h⟩
  · rw [h]
  · rw [h, Transaction.setBuffer_length]

theorem fillPage_length (q : Nat) (more : List Byte) (s : State) :
    (fillPage q more s).store.transaction.length = s.store.transaction.length := by
  rw [fillPage_eq rfl]
  dsimp only
  split
  · rw [storeSelect_length, Transaction.setBuffer_length]
  · rw [Transaction.setBuffer_length]

/-! ### ASSET_DATA (R165) -/

theorem assetData_not_ready (notReady : s.store.state ≠ .ready) : assetData offset bytes s = refuse .notReady s := by
  simp [assetData, State.storeReady, notReady]

theorem assetData_none (ready : s.store.state = .ready) (none : s.store.transaction.state = .none) :
    assetData offset bytes s = refuse .param s := by
  simp [assetData, State.storeReady, ready, none]

theorem assetData_finishing (ready : s.store.state = .ready) (finishing : s.store.transaction.state = .finishing) :
    assetData offset bytes s = refuse .busy s := by
  simp [assetData, State.storeReady, ready, finishing]

/-- The bytes of an accepted ASSET_DATA counted and taken into the running CRC (R165). -/
def bytesTaken (bytes : List Byte) (s : State) : State := { s with
  store.transaction := { s.store.transaction with
    received := s.store.transaction.received + bytes.length, crc := crc32Update s.store.transaction.crc bytes } }

/-- What remains of the checks in OPEN, for 1 to 1024 bytes. -/
theorem assetData_opened (ready : s.store.state = .ready) (opened : s.store.transaction.state = .opened)
    (some : 1 ≤ bytes.length) (few : bytes.length ≤ 1024) : assetData offset bytes s =
      let x := s.store.transaction
      let p := x.received / 4096
      let q := (x.received + bytes.length - 1) / 4096
      let room := 4096 - x.received % 4096
      if offset ≠ x.received then refuseExpecting .param s
      else if x.length < x.received + bytes.length then refuse .param s
      else if (x.buffer p).busy ∨ (x.buffer q).busy then refuseExpecting .busy s
      else
        report (u32 (x.received + bytes.length))
          (if q = p then fillPage p (bytes.take room) (bytesTaken bytes s)
            else fillPage q (bytes.drop room) (fillPage p (bytes.take room) (bytesTaken bytes s))) := by
  have counted : ¬ (bytes.length = 0 ∨ 1024 < bytes.length) := by omega
  exact (if_neg (by simp [State.storeReady, ready])).trans ((if_neg (by simp [opened])).trans
    ((if_neg (by simp [opened])).trans (if_neg counted)))

/-- The checks of R165 that turn on the bytes and the buffers, passed. -/
structure DataFits (offset : Nat) (bytes : List Byte) (x : Transaction) : Prop where
  next : offset = x.received
  fits : x.received + bytes.length ≤ x.length
  first : (x.buffer (x.received / 4096)).busy = false
  last : (x.buffer ((x.received + bytes.length - 1) / 4096)).busy = false

section
variable (ready : s.store.state = .ready) (opened : s.store.transaction.state = .opened)
  (some : 1 ≤ bytes.length) (few : bytes.length ≤ 1024) (passed : DataFits offset bytes s.store.transaction)
include ready opened some few passed

theorem assetData_accepted : assetData offset bytes s =
    let x := s.store.transaction
    let p := x.received / 4096
    let q := (x.received + bytes.length - 1) / 4096
    let room := 4096 - x.received % 4096
    report (u32 (x.received + bytes.length))
      (if q = p then fillPage p (bytes.take room) (bytesTaken bytes s)
        else fillPage q (bytes.drop room) (fillPage p (bytes.take room) (bytesTaken bytes s))) := by
  obtain ⟨next, fits, first, last⟩ := passed
  exact (assetData_opened ready opened some few).trans ((if_neg (not_not_intro next)).trans
    ((if_neg (Nat.not_lt.mpr fits)).trans (if_neg (by simp [first, last]))))

/-- Bytes that end in the page they begin in. -/
theorem assetData_within (inside : bytes.length ≤ 4096 - s.store.transaction.received % 4096) :
    assetData offset bytes s = report (u32 (s.store.transaction.received + bytes.length))
      (fillPage (s.store.transaction.received / 4096) bytes (bytesTaken bytes s)) := by
  rw [assetData_accepted ready opened some few passed]
  dsimp only
  rw [if_pos (by omega), List.take_of_length_le inside]

/-- Bytes that go on in the next page. -/
theorem assetData_across (beyond : 4096 - s.store.transaction.received % 4096 < bytes.length) :
    let room := 4096 - s.store.transaction.received % 4096
    assetData offset bytes s = report (u32 (s.store.transaction.received + bytes.length))
      (fillPage (s.store.transaction.received / 4096 + 1) (bytes.drop room)
        (fillPage (s.store.transaction.received / 4096) (bytes.take room) (bytesTaken bytes s))) := by
  have next : (s.store.transaction.received + bytes.length - 1) / 4096 = s.store.transaction.received / 4096 + 1 := by
    omega
  rw [assetData_accepted ready opened some few passed]
  dsimp only
  rw [next, if_neg (by omega)]

end

/-! ### ASSET_END (R167) -/

theorem assetEnd_not_ready (notReady : s.store.state ≠ .ready) : assetEnd crc s = refuse .notReady s := by
  simp [assetEnd, State.storeReady, notReady]

theorem assetEnd_none (ready : s.store.state = .ready) (none : s.store.transaction.state = .none) :
    assetEnd crc s = refuse .param s := by
  simp [assetEnd, State.storeReady, ready, none]

theorem assetEnd_finishing (ready : s.store.state = .ready) (finishing : s.store.transaction.state = .finishing) :
    assetEnd crc s = refuse .busy s := by
  simp [assetEnd, State.storeReady, ready, finishing]

theorem assetEnd_short (ready : s.store.state = .ready) (opened : s.store.transaction.state = .opened)
    (short : s.store.transaction.received < s.store.transaction.length) : assetEnd crc s = refuseExpecting .param s := by
  simp [assetEnd, State.storeReady, ready, opened, short]

theorem assetEnd_differs (ready : s.store.state = .ready) (opened : s.store.transaction.state = .opened)
    (whole : s.store.transaction.length ≤ s.store.transaction.received) (differs : crc ≠ ~~~ s.store.transaction.crc) :
    assetEnd crc s = ⟨.accepted, [], failTransaction .crc { s with
      store.transaction := { s.store.transaction with state := .finishing } }, .nothing⟩ := by
  simp [assetEnd, State.storeReady, ready, opened, Nat.not_lt.mpr whole, differs]

theorem assetEnd_agrees (ready : s.store.state = .ready) (opened : s.store.transaction.state = .opened)
    (whole : s.store.transaction.length ≤ s.store.transaction.received) (agrees : crc = ~~~ s.store.transaction.crc) :
    let x := s.store.transaction
    assetEnd crc s = ⟨.accepted, [], storeSelect { s with
      store.transaction := { x with state := .finishing }.setBuffer x.lastPage {
        state := .queued x.lastPage,
        bytes := (x.buffer x.lastPage).bytes ++ List.replicate (4096 - (x.buffer x.lastPage).bytes.length) 0xFF#8 },
      store.txQueue := s.store.txQueue ++ [x.lastPage] }, .nothing⟩ := by
  simp [assetEnd, State.storeReady, ready, opened, Nat.not_lt.mpr whole, agrees]
  rfl

/-- Settles O45: each command by its checks in order, then the reservation, the copy into the page buffers, or the commit
program. -/
theorem assetTransactionCommands : Obligations.AssetTransactionCommands := by
  unfold Obligations.AssetTransactionCommands
  intro mark id kind length offset bytes crc s running x ready opening data finish expected
  have begins {st : Status} {d : List Byte} {t : State} (answer : assetBegin id kind length s = ⟨st, d, t, .nothing⟩) :
      opening = .next (replied mark 70 st d t) :=
    congrArg Host.Outcome.next (runCommand_answer running mark (c := .assetBegin id kind length) answer)
  have takes {st : Status} {d : List Byte} {t : State} (answer : assetData offset bytes s = ⟨st, d, t, .nothing⟩) :
      data = .next (replied mark 71 st d t) :=
    congrArg Host.Outcome.next (runCommand_answer running mark (c := .assetData offset bytes) answer)
  have ends {st : Status} {d : List Byte} {t : State} (answer : assetEnd crc s = ⟨st, d, t, .nothing⟩) :
      finish = .next (replied mark 72 st d t) :=
    congrArg Host.Outcome.next (runCommand_answer running mark (c := .assetEnd crc) answer)
  refine ⟨fun opened => begins (assetBegin_busy opened), fun none notReady => begins (assetBegin_not_ready none notReady),
    fun none ready bad => begins (assetBegin_param none ready bad), beginParamsOk_iff, fun none ready good => ?_,
    fun notReady => ⟨takes (assetData_not_ready notReady), ends (assetEnd_not_ready notReady)⟩,
    fun ready => ⟨fun none => ⟨takes (assetData_none ready none), ends (assetEnd_none ready none)⟩,
      fun finishing => ⟨takes (assetData_finishing ready finishing), ends (assetEnd_finishing ready finishing)⟩,
      fun opened some few => ?_, fun opened short => ends (assetEnd_short ready opened short),
      fun opened whole differs => ends (assetEnd_differs ready opened whole differs),
      fun opened whole agrees => ends (assetEnd_agrees ready opened whole agrees)⟩⟩
  · obtain ⟨k, code, answer⟩ := assetBegin_valid none ready good
    obtain ⟨-, -, -, -, positive, -⟩ := beginParamsOk_iff.mp good
    intro n upward free chosen
    have reserved : reservation length s = chosen := congrArg (free.take ·) (blocksFor_eq length)
    have nonempty : n ≤ free.length → chosen ≠ [] := fun room =>
      reserved ▸ reservation_ne_nil positive ((blocksFor_eq length).trans_le room)
    rw [blocksFor_eq, reserved] at answer
    clear_value chosen
    refine ⟨fun full => begins (answer.trans (if_pos full)), fun room =>
      ⟨transactionBegun id length k chosen s, begins (answer.trans (if_neg (Nat.not_lt.mpr room))), ?_⟩⟩
    obtain ⟨transaction, generation, directory, cursor⟩ := transactionBegun_store id length k chosen s
    obtain ⟨doneClear, failedClear⟩ := transactionBegun_flags id length k chosen s
    rw [transaction]
    exact ⟨rfl, rfl, rfl, code, rfl, rfl, rfl, rfl, rfl, rfl, rfl, cursor, nonempty room, generation,
      fun b hb => (transactionBegun_blockSet id length k chosen s b).trans (if_pos hb),
      fun b hb => (transactionBegun_blockSet id length k chosen s b).trans (if_neg hb), doneClear, failedClear, directory⟩
  · have answer := assetData_opened (offset := offset) ready opened some few
    dsimp only at answer
    intro p
    refine ⟨fun other => takes (answer.trans (if_pos other)), fun same long => ?_, fun same fits busy => ?_,
      fun same fits freeP freeQ => ?_⟩
    · exact takes (answer.trans ((if_neg (not_not_intro same)).trans (if_pos long)))
    · exact takes (answer.trans ((if_neg (not_not_intro same)).trans ((if_neg (Nat.not_lt.mpr fits)).trans (if_pos busy))))
    · have passed : DataFits offset bytes x := ⟨same, fits, freeP, freeQ⟩
      intro room taken put
      have copied (q : Nat) (more : List Byte) (u : State) (hu : u.store.transaction.length = x.length) :
          put q more u = fillPage q more u := (fillPage_eq hu q more).symm
      refine ⟨fun inside => ?_, fun beyond => ?_⟩
      · rw [copied p bytes taken rfl]
        exact takes (assetData_within ready opened some few passed inside)
      · rw [copied p _ taken rfl, copied (p + 1) _ _ (fillPage_length _ _ taken)]
        exact takes (assetData_across ready opened some few passed beyond)

end Sys2Proof.Machine
end

section
/-! The array's pages under erases and lost contents, and the failure of a transaction (R154, R157, R168). -/

namespace Sys2Proof.Machine

variable {s : State}

/-! ### Pages of one block and of others (R154) -/

theorem pageNumber_block (b : Fin 256) (page : Nat) : pageNumber b page / 64 = b.val := by
  simp only [pageNumber, Config.pagesPerBlock]
  omega

theorem readPage_putPage_other {b c : Fin 256} (h : c ≠ b) (a : List (Nat × ArrayPage)) (p q : Nat) (x : ArrayPage) :
    readPage (putPage a (pageNumber b p) x) c q = readPage a c q := by
  have apart : pageNumber c q ≠ pageNumber b p := fun e => h (Fin.ext (by
    rw [← pageNumber_block c q, e, pageNumber_block]))
  simp only [readPage, find_putPage_other a apart]

/-- Every page of an erased block reads as erased. -/
theorem readPage_eraseBlock (a : List (Nat × ArrayPage)) (b : Fin 256) (page : Nat) :
    readPage (eraseBlock a b) b page = erasedPage := by
  have missing : (eraseBlock a b).find? (fun e => e.1 == pageNumber b page) = none := by
    simp only [List.find?_eq_none, eraseBlock, List.mem_filter, Config.pagesPerBlock, bne_iff_ne, beq_iff_eq]
    rintro e ⟨-, outside⟩ here
    exact outside (here ▸ pageNumber_block b page)
  simp only [readPage, missing]

theorem readPage_eraseBlock_other {b c : Fin 256} (h : c ≠ b) (a : List (Nat × ArrayPage)) (page : Nat) :
    readPage (eraseBlock a b) c page = readPage a c page := by
  have kept : (eraseBlock a b).find? (fun e => e.1 == pageNumber c page) = a.find? fun e => e.1 == pageNumber c page := by
    rw [eraseBlock, List.find?_filter]
    refine List.find?_congr fun e _ => ?_
    by_cases here : e.1 = pageNumber c page
    · have outside : e.1 / 64 ≠ b.val := by
        rw [here, pageNumber_block]
        exact fun e => h (Fin.ext e)
      simpa [here, Config.pagesPerBlock] using fun e => outside (here ▸ e)
    · simp [here]
  simp only [readPage, kept]

/-- Of the store the loss of a block's pages changes the array and the free values' number. -/
theorem loseBlock_eq (b : Fin 256) (st : Store) : ∃ a n, loseBlock b st = { st with array := a, freeCount := n } ∧
    ∀ c, c ≠ b → ∀ page, readPage a c page = readPage st.array c page := by
  unfold loseBlock
  refine List.foldlRecOn (motive := fun t => ∃ a n, t = { st with array := a, freeCount := n } ∧
    ∀ c, c ≠ b → ∀ page, readPage a c page = readPage st.array c page) _ _ ⟨st.array, st.freeCount, rfl, fun _ _ _ => rfl⟩ ?_
  rintro t ⟨a, n, rfl, kept⟩ page -
  exact ⟨_, _, rfl, fun c other q => (readPage_putPage_other other a page q _).trans (kept c other q)⟩

/-! ### Blocks that join the erase list (R158) -/

theorem joinErase_store (bs : List (Fin 256)) (s : State) :
    (joinErase bs s).store.directory = s.store.directory ∧ (joinErase bs s).store.retired = s.store.retired ∧
    (joinErase bs s).store.eraseList = s.store.eraseList ++ bs ∧
    (joinErase bs s).store.counters = s.store.counters ∧ (joinErase bs s).store.array = s.store.array ∧
    (joinErase bs s).store.aborting = s.store.aborting := by
  simp [joinErase]

theorem blockSet_joinErase (bs : List (Fin 256)) (b : Fin 256) (s : State) :
    (joinErase bs s).blockSet b = if b ∈ bs then .eraseList else s.blockSet b := by
  rw [joinErase, State.blockSet, (storeSelect_store _).2.1]
  exact blockSet_setBlocks .eraseList bs b _

/-- With the array busy nothing is selected. -/
theorem joinErase_busy (bs : List (Fin 256)) (busy : s.store.op ≠ .idle) :
    joinErase bs s = setBlocks .eraseList bs { s with store.eraseList := s.store.eraseList ++ bs } :=
  storeSelect_busy (by simpa using busy)

/-! ### The failure of a transaction (R168) -/

/-- The transaction's record after its failure, its program disowned and none queued, its blocks not yet joined. -/
def transactionFailed (cause : FailCause) (s : State) : State := { s with
  store.op := s.store.op.disowned, store.txQueue := [],
  store.transaction := { s.store.transaction with
    state := .none, reserved := [], buffer0 := .reset, buffer1 := .reset, outcome := .failed cause } }

theorem failTransaction_eq (cause : FailCause) (s : State) : failTransaction cause s =
    if cause = .reset then joinErase s.store.transaction.reserved (transactionFailed cause s)
    else raiseFlag .storeFailed (joinErase s.store.transaction.reserved (transactionFailed cause s)) := rfl

/-- The notice of a failure leaves the store. -/
theorem failTransaction_store_eq (cause : FailCause) (s : State) : (failTransaction cause s).store =
    (joinErase s.store.transaction.reserved (transactionFailed cause s)).store := by
  rw [failTransaction_eq]
  split
  · rfl
  · simp

theorem failTransaction_raised {cause : FailCause} (h : cause ≠ .reset) (s : State) :
    (failTransaction cause s).raised .storeFailed = true := by
  rw [failTransaction_eq, if_neg h]
  exact raiseFlag_raised _ _

/-- What a failure leaves of the store, with the array free or busy. -/
theorem failTransaction_store (cause : FailCause) (s : State) :
    (failTransaction cause s).store.transaction = (transactionFailed cause s).store.transaction ∧
    (failTransaction cause s).store.txQueue = [] ∧
    (failTransaction cause s).store.directory = s.store.directory ∧
    (failTransaction cause s).store.eraseList = s.store.eraseList ++ s.store.transaction.reserved ∧
    (failTransaction cause s).store.counters = s.store.counters ∧
    (failTransaction cause s).store.array = s.store.array ∧
    (failTransaction cause s).store.aborting = s.store.aborting := by
  obtain ⟨directory, -, eraseList, counters, array, aborting⟩ :=
    joinErase_store s.store.transaction.reserved (transactionFailed cause s)
  have selected : (setBlocks .eraseList s.store.transaction.reserved { transactionFailed cause s with
      store.eraseList := s.store.eraseList ++ s.store.transaction.reserved }).store.txQueue = [] := by
    simp [transactionFailed]
  obtain ⟨transaction, txQueue⟩ := storeSelect_no_programs selected
  rw [failTransaction_store_eq]
  exact ⟨transaction.trans (by simp), txQueue, directory, eraseList, counters, array, aborting⟩

theorem failTransaction_blockSet (cause : FailCause) (b : Fin 256) (s : State) : (failTransaction cause s).blockSet b =
    if b ∈ s.store.transaction.reserved then .eraseList else s.blockSet b := by
  rw [State.blockSet, failTransaction_store_eq]
  exact blockSet_joinErase _ b _

theorem ArrayOp.disowned_ne_idle {o : ArrayOp} (busy : o ≠ .idle) : o.disowned ≠ .idle := by
  cases o <;> simp_all [ArrayOp.disowned]

/-- With the array busy a failure leaves it so, and the bad-mark writes as they wait. -/
theorem failTransaction_busy (cause : FailCause) (busy : s.store.op ≠ .idle) :
    (failTransaction cause s).store.op ≠ .idle ∧ (failTransaction cause s).store.badMarks = s.store.badMarks := by
  have still : (transactionFailed cause s).store.op ≠ .idle := ArrayOp.disowned_ne_idle busy
  rw [failTransaction_store_eq, joinErase_busy _ still]
  exact ⟨by simpa using still, by simp [transactionFailed]⟩

end Sys2Proof.Machine
end

section
/-! What the store's readers leave alone while an operation is in flight: the operation and its abort, the counters, the
transaction, the bad-mark writes and the array (R154, R156, R161, R162). -/

namespace Sys2Proof.Machine

variable {s t u : State}

/-- The part of the store that no reader touches while the array is busy. -/
def Store.service (st : Store) : ArrayOp × Bool × StoreCounters × Transaction × List (Fin 256) × List (Nat × ArrayPage) :=
  (st.op, st.aborting, st.counters, st.transaction, st.badMarks, st.array)

theorem service_fields {x y : Store} (h : x.service = y.service) : x.op = y.op ∧ x.aborting = y.aborting ∧
    x.counters = y.counters ∧ x.transaction = y.transaction ∧ x.badMarks = y.badMarks ∧ x.array = y.array := by
  simpa [Store.service] using h

/-- The second state follows from the first with that part as it was, if the array was busy. -/
def ServiceKept (s t : State) : Prop := s.store.op ≠ .idle → t.store.service = s.store.service

namespace ServiceKept

theorem refl (s : State) : ServiceKept s s := fun _ => rfl

theorem of_store (h : t.store = s.store) : ServiceKept s t := fun _ => by rw [h]

theorem trans (h : ServiceKept s t) (k : ServiceKept t u) : ServiceKept s u := fun busy =>
  (k ((service_fields (h busy)).1.trans_ne busy)).trans (h busy)

/-- A change of other blocks of the part comes after, or before. -/
theorem then_store (h : ServiceKept s t) (k : u.store = t.store) : ServiceKept s u := h.trans (of_store k)

theorem since_store (h : ServiceKept t u) (k : t.store = s.store) : ServiceKept s u := (of_store k).trans h

theorem foldl {α : Type} {f : State → α → State} (hf : ∀ x a, ServiceKept x (f x a)) (xs : List α) (s : State) :
    ServiceKept s (xs.foldl f s) :=
  List.foldlRecOn (motive := fun t => ServiceKept s t) xs f (refl s) fun _ h a _ => h.trans (hf _ a)

/-! ### Pins and reads (R161, R162) -/

theorem selected (h : t.store.service = s.store.service) : ServiceKept s (storeSelect t) := fun busy => by
  rw [storeSelect_busy ((service_fields h).1.trans_ne busy)]
  exact h

theorem joinErase (bs : List (Fin 256)) (s : State) : ServiceKept s (joinErase bs s) :=
  selected (by simp [Store.service])

theorem issueRead (r : Reader) (b : Fin 256) (page : Nat) (s : State) : ServiceKept s (issueRead r b page s) :=
  selected rfl

theorem unpinAsset (id gen : Nat) (s : State) : ServiceKept s (unpinAsset id gen s) := by
  unfold Machine.unpinAsset
  split
  · exact fun _ => rfl
  · split
    · exact refl s
    · split
      · exact fun busy => joinErase _ _ busy
      · exact fun _ => rfl

/-! ### Voices (R142 to R145) -/

theorem fillBuffer (v : Fin 4) (one : Bool) (page : Option Nat) (s : State) : ServiceKept s (fillBuffer v one page s) := by
  cases page with
  | none => exact of_store rfl
  | some p => exact selected rfl

theorem endVoice (v : Fin 4) (s : State) : ServiceKept s (endVoice v s) := by
  unfold Machine.endVoice
  dsimp only
  split
  · exact (unpinAsset _ _ _).since_store (by split <;> simp)
  · exact refl s

theorem silenceVoice (v : Fin 4) (s : State) : ServiceKept s (silenceVoice v s) := by
  refine (endVoice v s).then_store ?_
  unfold Machine.silenceVoice
  dsimp only
  split
  · split
    · split <;> simp
    · split <;> split <;> simp
  · split <;> simp

theorem clearTheWay (z : ZoneSet) (s : State) : ServiceKept s (clearTheWay z s) := by
  have cleared := foldl (f := fun s v => if (s.voice v).meets z then Machine.silenceVoice v s else s)
    (fun x v => by
      split
      · exact silenceVoice v x
      · exact refl x) (List.finRange 4) s
  unfold Machine.clearTheWay
  dsimp only
  split
  · exact cleared
  · split
    · exact cleared
    · exact cleared.trans (silenceVoice _ _)

theorem beginVoice (v : Fin 4) (e : QueueEntry) (c : ChimeEntry) (a : AssetRecord) (s : State) :
    ServiceKept s (beginVoice v e c a s) := by
  have marked {x : State} (h : ServiceKept s x) :
      ServiceKept s (if e.proximity then setProximity .sounding x else x) := by
    split
    · exact h.then_store (by simp)
    · exact h
  have filled {x : State} {p : Option Nat} (h : ServiceKept s x) :
      ServiceKept s (Machine.fillBuffer v true p (Machine.fillBuffer v false (some 0) x)) :=
    (h.trans (fillBuffer v false (some 0) x)).trans (fillBuffer v true p _)
  have demanded {x : State} (h : ServiceKept s x) : ServiceKept s (if c.duck then beginDemands e.zones x else x) := by
    split
    · exact h.then_store (by simp)
    · exact h
  exact demanded (filled (marked fun _ => rfl))

theorem startEntry (e : QueueEntry) (s : State) : ServiceKept s (startEntry e s) := by
  have cleared (q : List QueueEntry) : ServiceKept s (setQueue q (Machine.clearTheWay e.zones s)) :=
    (clearTheWay e.zones s).then_store (by simp)
  unfold Machine.startEntry
  dsimp only
  split
  · exact (cleared _).trans (beginVoice _ _ _ _ _)
  · exact cleared _

/-! ### The queue and dispatch (R138, R140) -/

theorem examine (q : List QueueEntry) (s : State) : ServiceKept s (examine q s).1 := by
  induction q generalizing s with
  | nil => exact refl s
  | cons e q ih =>
    unfold Machine.examine
    split
    · exact (ih (purgeEntry s e)).since_store (by unfold purgeEntry; split <;> simp)
    · split
      · dsimp only; exact startEntry e s
      · exact ih s

theorem dispatchFor (n : Nat) (s : State) : ServiceKept s (dispatchFor n s) := by
  induction n generalizing s with
  | zero => exact refl s
  | succ n ih =>
    have examined := examine s.chime.queue s
    unfold Machine.dispatchFor
    split <;> rename_i e <;> rw [e] at examined
    · exact examined.trans (ih _)
    · exact examined

theorem dispatch (s : State) : ServiceKept s (dispatch s) := dispatchFor 4096 s

theorem dispatchAfter (before s : State) : ServiceKept s (dispatchAfter before s) := by
  unfold Machine.dispatchAfter
  split
  · exact refl s
  · exact dispatch s

theorem settleRequest (id : Fin 32) (z : ZoneSet) (c : ChimeEntry) (p : Bool) (s : State) :
    ServiceKept s (settleRequest id z c p s).2 := by
  unfold Machine.settleRequest
  dsimp only
  generalize (if p = true then 255 else c.repeats) = repeats
  split
  · exact of_store (by simp)
  · split
    · dsimp only; exact (dispatch _).since_store (by simp)
    · split
      · dsimp only; exact ((startEntry _ _).trans (dispatch _)).since_store rfl
      · split <;> dsimp only
        · rename_i e
          obtain ⟨-, -, -, -, -, -, -, -, store, -⟩ := enqueue_keeps e
          exact (dispatch _).since_store store
        · exact (dispatch _).since_store rfl

theorem internalRequest (id : Fin 32) (z : Option ZoneSet) (p : Bool) (s : State) :
    ServiceKept s (internalRequest id z p s) := by
  unfold Machine.internalRequest
  split
  · exact of_store (by simp)
  · rename_i c _
    split
    · exact of_store (by simp)
    · split
      · exact of_store (by simp)
      · have settled := settleRequest id (z.getD c.zones) c p s
        split <;> rename_i e <;> rw [e] at settled
        · exact settled.then_store (by simp)
        · exact settled

theorem requestById (id : Nat) (z : Option ZoneSet) (s : State) : ServiceKept s (requestById id z s) := by
  unfold Machine.requestById
  split
  · exact refl s
  · exact internalRequest _ z false s

/-! ### The proximity function (R147 to R150) -/

theorem proximityRequest (s : State) : ServiceKept s (proximityRequest s) := by
  unfold Machine.proximityRequest
  split
  · exact (internalRequest _ none true _).since_store (by simp)
  · exact of_store (by simp)

theorem proximityStop (s : State) : ServiceKept s (proximityStop s) := by
  have ended := foldl (f := fun s v => if (s.voice v).busy && (s.voice v).proximity then Machine.endVoice v s else s)
    (fun x v => by
      split
      · exact endVoice v x
      · exact refl x) (List.finRange 4) (setQueue (s.chime.queue.filter fun e => !e.proximity) s)
  unfold Machine.proximityStop
  exact ((ended.since_store (by simp)).then_store (by simp)).trans (dispatchAfter s _)

theorem proximityEvaluate (s : State) : ServiceKept s (proximityEvaluate s) := by
  unfold Machine.proximityEvaluate
  split
  · split
    · exact proximityRequest s
    · exact refl s
  · split
    · exact refl s
    · exact proximityStop s

theorem markTailing (on : Bool) (s : State) : ServiceKept s (markTailing on s) := by
  unfold Machine.markTailing
  refine (foldl (fun x v => ?_) _ s).trans (dispatchAfter s _)
  dsimp only
  split
  · split
    · exact (endVoice v x).then_store (by simp)
    · exact of_store (by simp)
  · exact refl x

theorem proximityPacket (s : State) : ServiceKept s (proximityPacket s) := by
  unfold Machine.proximityPacket
  split
  · exact proximityRequest s
  · exact (dispatch _).since_store (by simp)
  · exact (markTailing true _).since_store (by simp)
  · exact (markTailing false _).since_store (by simp)
  · exact refl s

/-! ### The vehicle and the takeover (R5, R9 to R12) -/

theorem engage (s : State) : ServiceKept s (engage s) := by
  have asked : ServiceKept s (Machine.requestById s.takeover.settings.engageChime none (beginEngagement s)) :=
    (requestById _ none _).since_store rfl
  rw [engage_eq]
  refine asked.then_store ?_
  simp only [raiseFlag_keeps, requestRenders_keeps, wakeEffect_keeps]
  unfold duckedEngagement
  dsimp only
  split <;> simp

theorem exitTakeover (s : State) : ServiceKept s (exitTakeover s) := of_store (by simp)

theorem takeoverReverse (asserted : Bool) (s : State) : ServiceKept s (takeoverReverse asserted s) := by
  unfold Machine.takeoverReverse
  split
  · exact engage s
  · exact refl s
  · exact refl s
  · exact of_store (by simp)
  · exact of_store (by simp)
  · exact refl s

theorem evaluateReverse (s : State) : ServiceKept s (evaluateReverse s) := by
  unfold Machine.evaluateReverse
  dsimp only
  split
  · exact refl s
  · exact ((takeoverReverse _ _).trans (proximityEvaluate _)).since_store rfl

end ServiceKept
end Sys2Proof.Machine
end

section
/-! Aborts: what makes them, what they leave, and their completion (R154, R157, R170, R171). -/

namespace Sys2Proof.Machine

variable {s : State}

/-! ### An abort in flight (R170) -/

/-- What every abort leaves: the array busy, the abort in progress and counted. -/
structure AbortBegun (cause : FailCause) (s t : State) : Prop where
  busy : t.store.op ≠ .idle
  aborting : t.store.aborting = true
  counted : t.store.counters.opAborted = bump s.store.counters.opAborted
  failed : ∀ b page content commit, s.store.op = .program b page content commit true →
    t.store.transaction.state = .none ∧ t.store.transaction.outcome = .failed cause ∧
    (cause ≠ .reset → t.raised .storeFailed = true)
  queuedAgain : ∀ b, s.store.op = .badMark b → t.store.badMarks = b :: s.store.badMarks

theorem abortOperation_begun (cause : FailCause) (none : s.store.aborting = false) (busy : s.store.op ≠ .idle)
    (notRead : ∀ r, s.store.op ≠ .read r) : AbortBegun cause s (abortOperation cause s) := by
  cases inFlight : s.store.op with
  | idle => exact absurd inFlight busy
  | read r => exact absurd inFlight (notRead r)
  | program b page content commit live =>
    rw [abortOperation_program cause none inFlight]
    cases live with
    | true =>
      rw [if_pos rfl]
      obtain ⟨transaction, -, -, -, counters, -, aborting⟩ := failTransaction_store cause s.abortBegun
      refine ⟨(failTransaction_busy (s := s.abortBegun) cause busy).1, aborting, congrArg StoreCounters.opAborted counters,
        fun _ _ _ _ _ => ?_, fun _ marking => by simp [inFlight] at marking⟩
      rw [transaction]
      exact ⟨rfl, rfl, fun h => failTransaction_raised h _⟩
    | false =>
      exact ⟨busy, rfl, rfl, fun _ _ _ _ program => by simp [inFlight] at program,
        fun _ marking => by simp [inFlight] at marking⟩
  | badMark b =>
    rw [abortOperation_badMark cause none inFlight]
    refine ⟨busy, rfl, rfl, fun _ _ _ _ program => by simp [inFlight] at program, fun c marking => ?_⟩
    obtain rfl : b = c := by simpa [inFlight] using marking
    rfl
  | erase bs =>
    rw [abortOperation_erase cause none inFlight]
    exact ⟨busy, rfl, rfl, fun _ _ _ _ program => by simp [inFlight] at program,
      fun _ marking => by simp [inFlight] at marking⟩

/-- An abort stands through what readers do after it. -/
theorem AbortBegun.kept {cause : FailCause} {t u : State} (begun : AbortBegun cause s t) (kept : ServiceKept t u)
    (stands : t.raised .storeFailed = true → u.raised .storeFailed = true) : AbortBegun cause s u := by
  obtain ⟨op, aborting, counters, transaction, badMarks, -⟩ := service_fields (kept begun.busy)
  refine ⟨op.trans_ne begun.busy, aborting.trans begun.aborting, ?_, ?_, ?_⟩
  · rw [counters]
    exact begun.counted
  · intro b page content commit program
    obtain ⟨state, outcome, raised⟩ := begun.failed b page content commit program
    rw [transaction]
    exact ⟨state, outcome, fun h => stands (raised h)⟩
  · intro b marking
    rw [badMarks]
    exact begun.queuedAgain b marking

/-! ### A VEHICLE packet that brings CRANKING (R1, R170) -/

theorem markTailing_raised {g : Flag} (on : Bool) (h : s.raised g = true) : (markTailing on s).raised g = true := by
  unfold markTailing
  refine dispatchAfter_raised s (foldl_raised (fun u v hu => ?_) _ h)
  dsimp only
  split
  · split
    · exact raised_of_attention (by simp) hu
    · exact hu
  · exact hu

theorem proximityPacket_raised {g : Flag} (h : s.raised g = true) : (proximityPacket s).raised g = true := by
  unfold proximityPacket
  split
  · exact proximityRequest_raised h
  · exact dispatch_raised (raised_of_attention (by simp) h)
  · exact markTailing_raised true (raised_of_attention (by simp) h)
  · exact markTailing_raised false (raised_of_attention (by simp) h)
  · exact h

/-- The state in which an accepted report has acted through the supply hold alone. -/
def supplyReported (payload : List Byte) (s : State) : State :=
  supplyChanges s.vehicle.supply { s with vehicle := s.vehicle.withReport payload }

/-- The rest of an accepted report's effects: readers' work, and no flag cleared. -/
theorem vehicleReport_after (payload : List Byte) (s : State) :
    ServiceKept (supplyReported payload s) (vehicleReport payload s) ∧
    ∀ g, (supplyReported payload s).raised g = true → (vehicleReport payload s).raised g = true := by
  let evaluated := updateMismatch (evaluateReverse (supplyReported payload s))
  have judged : ServiceKept (supplyReported payload s) evaluated :=
    (ServiceKept.evaluateReverse _).then_store (by simp [evaluated])
  have kept : ServiceKept (supplyReported payload s) (exitSpeedTest evaluated) := judged.then_store (by simp)
  have stands (g : Flag) (h : (supplyReported payload s).raised g = true) : (exitSpeedTest evaluated).raised g = true := by
    have judged := updateMismatch_raised (evaluateReverse_raised h)
    unfold exitSpeedTest
    split
    · exact exitTakeover_raised judged
    · exact judged
  unfold vehicleReport
  dsimp only
  split
  · exact ⟨kept.trans (.proximityPacket _), fun g h => proximityPacket_raised (stands g h)⟩
  · exact ⟨kept.trans (.proximityEvaluate _), fun g h => proximityEvaluate_raised (stands g h)⟩

/-- A report with supply code 2 that finds another supply and an operation to abort. -/
theorem vehicleReport_cranking (b0 b2 b3 b4 b5 b6 b7 b8 b9 : Byte) (other : s.vehicle.supply ≠ .cranking)
    (none : s.store.aborting = false) (busy : s.store.op ≠ .idle) (notRead : ∀ r, s.store.op ≠ .read r) :
    (vehicleReport [b0, 2#8, b2, b3, b4, b5, b6, b7, b8, b9] s).vehicle.supply = .cranking ∧
    AbortBegun .supply s (vehicleReport [b0, 2#8, b2, b3, b4, b5, b6, b7, b8, b9] s) := by
  let payload : List Byte := [b0, 2#8, b2, b3, b4, b5, b6, b7, b8, b9]
  have cranking : (s.vehicle.withReport payload).supply = .cranking := rfl
  obtain ⟨m, timer, vehicle⟩ := vehicleReport_vehicle payload s
  have aborted : supplyReported payload s = abortOperation .supply { s with vehicle := s.vehicle.withReport payload } :=
    if_pos ⟨cranking, other⟩
  obtain ⟨kept, stands⟩ := vehicleReport_after payload s
  rw [aborted] at kept stands
  have begun := abortOperation_begun .supply (s := { s with vehicle := s.vehicle.withReport payload }) none busy notRead
  obtain ⟨busy, aborting, counted, failed, queuedAgain⟩ := begun.kept kept (stands .storeFailed)
  exact ⟨(congrArg Vehicle.supply vehicle).trans cranking, busy, aborting, counted, failed, queuedAgain⟩

/-- The packet of such a report, received. -/
theorem exec_vehiclePacket_report {mark c : Byte} {a b : Nat} (up : s.links.downlink.state = .up)
    (assembling : s.links.downlink.assembler = .assembling) (ha : a < 65536) (hb : b < 65536) {payload : List Byte}
    (ten : payload.length = 10) :
    exec (.vehiclePacket (packetBytes .vehicle mark a b c payload)) s = .next (vehicleReport payload s) :=
  congrArg Host.Outcome.next ((receive_packetBytes (l := .downlink) rfl ha hb (by omega) up assembling mark c
    vehicleArrives).trans (vehicleArrives_report rfl ten s))

/-! ### The abort's completion (R154, R157) -/

/-- What an operation that is aborted leaves of the store, its repeated passes counted. -/
theorem abortCompletes_aborting (aborting : s.store.aborting = true) :
    let aborted := fun (n : Nat) => { s.store with
      counters := { s.store.counters with programRetry := min (s.store.counters.programRetry + n) 4294967295 } }
    let repeated := (Config.abortedRetries s.store.freeCount).val
    abortCompletes s = finishOp { s with store := match s.store.op with
      | .program b page _ _ _ => losePage b page (aborted repeated)
      | .badMark _ => { aborted repeated with freeCount := s.store.freeCount + 1 }
      | .erase bs => bs.foldl (fun st b => loseBlock b st) (aborted 0)
      | .read _ => aborted 0
      | .idle => aborted 0 } := by
  have effect : abortCompletes s = finishOp { s with store := s.store.op.leave { s.store with
    counters := { s.store.counters with programRetry := bumpBy s.store.counters.programRetry (abortedRetries s) } } } :=
      if_pos aborting
  cases inFlight : s.store.op <;> simp only [effect, abortedRetries, inFlight] <;> rfl

end Sys2Proof.Machine
end

section
/-! The commit of a generation (R161, R167), with the glyph load it may start (R101). -/

namespace Sys2Proof.Machine

variable {s t u : State} {id : Nat}

/-! ### The directory by ids (R161) -/

/-- Records changed under their ids are found changed. -/
theorem asset?_map {f : AssetRecord → AssetRecord} (hf : ∀ r, (f r).id = r.id) (l : List AssetRecord) (i : Nat) :
    (l.map f).find? (fun r => r.id == i) = (l.find? fun r => r.id == i).map f := by
  simp [List.find?_map, hf]

theorem asset?_id {i : Nat} {r : AssetRecord} (found : s.asset? i = some r) : r.id = i := by
  simpa using List.find?_some found

/-- The record of an id replaced by a new one is the new one, and every other stays. -/
theorem asset?_replaced (l : List AssetRecord) (r : AssetRecord) (i : Nat) :
    ((l.filter fun q => q.id != r.id) ++ [r]).find? (fun q => q.id == i) =
      if i = r.id then some r else l.find? fun q => q.id == i := by
  rw [List.find?_append]
  by_cases h : i = r.id
  · have none : (l.filter fun q => q.id != r.id).find? (fun q => q.id == i) = none := by
      simp only [List.find?_eq_none, List.mem_filter, bne_iff_ne, beq_iff_eq, h]
      exact fun _ kept => kept.2
    rw [none, if_pos h]
    simp [h]
  · have same : (l.filter fun q => q.id != r.id).find? (fun q => q.id == i) = l.find? fun q => q.id == i := by
      rw [List.find?_filter]
      refine List.find?_congr fun q _ => ?_
      by_cases hq : q.id = i <;> simp [hq, h]
    have other : (r.id == i) = false := by simpa using Ne.symm h
    rw [same, if_neg h]
    simp [other]

/-! ### Pins of one id taken and released (R161, R101) -/

/-- What the pins of one id, and reads issued, change: that id's pins, blocks that join the erase list. -/
structure PinWork (id : Nat) (s t : State) : Prop where
  other : ∀ i, i ≠ id → t.asset? i = s.asset? i
  own : ∀ r, s.asset? id = some r → ∃ n, t.asset? id = some { r with pins := n }
  listed : ∀ c, c ∈ s.store.eraseList → c ∈ t.store.eraseList
  sets : ∀ c, t.blockSet c = s.blockSet c ∨ t.blockSet c = .eraseList

namespace PinWork

theorem refl (id : Nat) (s : State) : PinWork id s s := ⟨fun _ _ => rfl, fun r h => ⟨r.pins, h⟩, fun _ h => h, fun _ => .inl rfl⟩

theorem trans (h : PinWork id s t) (k : PinWork id t u) : PinWork id s u where
  other i hi := (k.other i hi).trans (h.other i hi)
  own r hr := by
    obtain ⟨n, hn⟩ := h.own r hr
    obtain ⟨m, hm⟩ := k.own _ hn
    exact ⟨m, hm⟩
  listed c hc := k.listed c (h.listed c hc)
  sets c := by
    rcases k.sets c with same | joined
    · rw [same]
      exact h.sets c
    · exact .inr joined

/-- Directory, sets and erase list as they were. -/
theorem of_fields (directory : t.store.directory = s.store.directory) (sets : t.store.sets = s.store.sets)
    (listed : t.store.eraseList = s.store.eraseList) : PinWork id s t where
  other i _ := by simp only [State.asset?, directory]
  own r h := ⟨r.pins, by rw [State.asset?, directory]; exact h⟩
  listed c h := by rwa [listed]
  sets c := .inl (by simp only [State.blockSet, sets])

theorem since_fields (h : PinWork id t u) (directory : t.store.directory = s.store.directory)
    (sets : t.store.sets = s.store.sets) (listed : t.store.eraseList = s.store.eraseList) : PinWork id s u :=
  (of_fields directory sets listed).trans h

theorem of_store (h : t.store = s.store) : PinWork id s t := of_fields (by rw [h]) (by rw [h]) (by rw [h])

/-- The pins of the records of one id changed. -/
theorem of_map {f : AssetRecord → AssetRecord} (own : ∀ r, r.id = id → ∃ n, f r = { r with pins := n })
    (other : ∀ r, r.id ≠ id → f r = r) : PinWork id s { s with store.directory := s.store.directory.map f } := by
  have ids : ∀ r, (f r).id = r.id := fun r => by
    by_cases h : r.id = id
    · obtain ⟨n, hn⟩ := own r h
      rw [hn]
    · rw [other r h]
  refine ⟨fun i hi => ?_, fun r hr => ?_, fun _ h => h, fun _ => .inl rfl⟩
  · refine (asset?_map ids s.store.directory i).trans ?_
    change (s.asset? i).map f = s.asset? i
    cases found : s.asset? i with
    | none => rfl
    | some r => exact congrArg some (other r (asset?_id found ▸ hi))
  · obtain ⟨n, hn⟩ := own r (asset?_id hr)
    refine ⟨n, (asset?_map ids s.store.directory id).trans ?_⟩
    change (s.asset? id).map f = _
    rw [hr, ← hn]
    rfl

theorem pinAsset (id : Nat) (s : State) : PinWork id s (pinAsset id s) :=
  of_map (fun r h => ⟨r.pins + 1, if_pos h⟩) fun _ h => if_neg h

theorem joinErase (bs : List (Fin 256)) (s : State) : PinWork id s (joinErase bs s) := by
  obtain ⟨directory, -, listed, -⟩ := joinErase_store bs s
  refine ⟨fun i _ => by simp only [State.asset?, directory], fun r h => ⟨r.pins, by rw [State.asset?, directory]; exact h⟩,
    fun c h => listed ▸ List.mem_append_left _ h, fun c => ?_⟩
  rw [blockSet_joinErase]
  split
  · exact .inr rfl
  · exact .inl rfl

theorem unpinAsset (id gen : Nat) (s : State) : PinWork id s (unpinAsset id gen s) := by
  unfold Machine.unpinAsset
  split
  · refine of_map (fun r _ => ?_) fun r h => if_neg fun both => h both.1
    by_cases both : r.id = id ∧ r.generation = gen
    · exact ⟨r.pins - 1, if_pos both⟩
    · exact ⟨r.pins, if_neg both⟩
  · split
    · exact refl id s
    · split
      · exact (joinErase _ _).since_fields rfl rfl rfl
      · exact of_fields rfl rfl rfl

theorem issueGlyphRead (page : Nat) (l : GlyphLoad) (s : State) : PinWork id s (issueGlyphRead page l s) := by
  rw [issueGlyphRead_eq]
  exact of_fields (by simp) (by simp) (by simp)

theorem dropGlyphLoad (s : State) : PinWork s.raster.glyphSet s (dropGlyphLoad s) := by
  unfold Machine.dropGlyphLoad
  split
  · exact refl _ s
  · exact (unpinAsset _ _ _).since_fields rfl rfl rfl

/-- A load that starts with none in progress pins its asset, or finds none. -/
theorem startGlyphLoad_idle (id : Nat) (idle : s.raster.load = none) : PinWork id s (startGlyphLoad id s) := by
  cases found : glyphAsset id s with
  | none =>
    rw [startGlyphLoad_refused idle found]
    exact of_store (by simp)
  | some a =>
    have pinned : PinWork id s (loadPinned id a s) := (pinAsset id s).trans (of_store rfl)
    rw [startGlyphLoad_begun idle found]
    split
    · exact pinned
    · exact pinned.trans (issueGlyphRead _ _ _)

/-- A load of the cache's own glyph set started again. -/
theorem startGlyphLoad (s : State) : PinWork s.raster.glyphSet s (startGlyphLoad s.raster.glyphSet s) := by
  rw [← startGlyphLoad_dropped]
  exact (dropGlyphLoad s).trans (startGlyphLoad_idle _ (by rw [dropGlyphLoad_raster]))

end PinWork

/-- Such work begun with no load in progress leaves the sets as they are. -/
theorem startGlyphLoad_sets (id : Nat) (idle : s.raster.load = none) :
    (startGlyphLoad id s).store.sets = s.store.sets ∧ (startGlyphLoad id s).store.retired = s.store.retired := by
  cases found : glyphAsset id s with
  | none =>
    rw [startGlyphLoad_refused idle found]
    simp
  | some a =>
    rw [startGlyphLoad_begun idle found]
    split
    · exact ⟨rfl, rfl⟩
    · rw [issueGlyphRead_eq]
      simp [loadPinned]

theorem ServiceKept.issueGlyphRead (page : Nat) (l : GlyphLoad) (s : State) : ServiceKept s (issueGlyphRead page l s) := by
  rw [issueGlyphRead_eq]
  exact selected rfl

theorem ServiceKept.startGlyphLoad (id : Nat) (s : State) : ServiceKept s (startGlyphLoad id s) := by
  have dropped : ServiceKept s (dropGlyphLoad s) := by
    unfold Machine.dropGlyphLoad
    split
    · exact refl s
    · exact (unpinAsset _ _ _).since_store rfl
  have idle : (Machine.dropGlyphLoad s).raster.load = none := by rw [dropGlyphLoad_raster]
  rw [← startGlyphLoad_dropped]
  refine dropped.trans ?_
  cases found : glyphAsset id (Machine.dropGlyphLoad s) with
  | none =>
    rw [startGlyphLoad_refused idle found]
    exact of_store (by simp)
  | some a =>
    rw [startGlyphLoad_begun idle found]
    split
    · exact fun _ => rfl
    · exact trans (t := loadPinned id a _) (fun _ => rfl) (issueGlyphRead _ _ _)

end Sys2Proof.Machine
end

section
/-! The commit of a generation, step by step (R167). -/

namespace Sys2Proof.Machine

variable {s : State} {id : Nat} {r : AssetRecord}

/-! ### The previous generation (R167) -/

theorem retirePrevious_unpinned (found : s.asset? id = some r) (unpinned : r.pins = 0) :
    retirePrevious id s = joinErase r.blocks s := by
  simp [retirePrevious, found, unpinned]

theorem retirePrevious_pinned (found : s.asset? id = some r) (pinned : 1 ≤ r.pins) :
    retirePrevious id s = setBlocks .retired r.blocks { s with
      store.retired := s.store.retired ++
        [{ id := r.id, generation := r.generation, blocks := r.blocks, pins := r.pins }] } := by
  simp [retirePrevious, found, Nat.ne_of_gt pinned]

/-- Of the part the previous generation's going changes the store alone, and there neither the directory nor, with the array
busy, what readers leave alone. -/
theorem retirePrevious_leaves (id : Nat) (s : State) : (retirePrevious id s).store.directory = s.store.directory ∧
    (retirePrevious id s).raster = s.raster ∧ ServiceKept s (retirePrevious id s) := by
  cases found : s.asset? id with
  | none => simpa [retirePrevious, found] using ServiceKept.refl s
  | some r =>
    by_cases unpinned : r.pins = 0
    · rw [retirePrevious_unpinned found unpinned]
      exact ⟨(joinErase_store _ s).1, by simp, .joinErase _ s⟩
    · rw [retirePrevious_pinned found (Nat.pos_of_ne_zero unpinned)]
      exact ⟨by simp, by simp, fun _ => by simp [Store.service]⟩

/-! ### The new generation (R161, R167) -/

/-- The record of a committed transaction. -/
def Transaction.record (x : Transaction) : AssetRecord :=
  { id := x.id, kind := x.kind, generation := x.generation, length := x.length, crc := ~~~ x.crc, blocks := x.reserved, pins := 0 }

/-- The transaction's record after its commit. -/
def Transaction.committed (x : Transaction) : Transaction :=
  { x with state := .none, reserved := [], buffer0 := .reset, buffer1 := .reset, outcome := .done }

/-- The generation made current, the previous one gone, no flag raised and no glyph load begun yet. -/
def generationMade (s : State) : State :=
  let x := s.store.transaction
  let old := retirePrevious x.id s
  setBlocks .current x.reserved { old with
    store.directory := old.store.directory.filter (fun q => q.id != x.id) ++ [x.record], store.transaction := x.committed }

theorem commitGeneration_eq (s : State) : commitGeneration s =
    glyphCommitted s.store.transaction.id (raiseFlag .storeDone (generationMade s)) := rfl

theorem generationMade_asset? (i : Nat) (s : State) : (generationMade s).asset? i =
    if i = s.store.transaction.id then some s.store.transaction.record else s.asset? i := by
  have directory : (generationMade s).store.directory =
      (s.store.directory.filter fun q => q.id != s.store.transaction.id) ++ [s.store.transaction.record] := by
    rw [← (retirePrevious_leaves s.store.transaction.id s).1]
    simp [generationMade]
  rw [State.asset?, directory]
  exact asset?_replaced s.store.directory s.store.transaction.record i

/-- The blocks of the new generation are current, the others as the previous one's going left them. -/
theorem generationMade_blockSet (c : Fin 256) (s : State) : (generationMade s).blockSet c =
    if c ∈ s.store.transaction.reserved then .current else (retirePrevious s.store.transaction.id s).blockSet c :=
  blockSet_setBlocks .current s.store.transaction.reserved c _

theorem generationMade_lists (s : State) :
    (generationMade s).store.eraseList = (retirePrevious s.store.transaction.id s).store.eraseList ∧
    (generationMade s).store.retired = (retirePrevious s.store.transaction.id s).store.retired := by
  simp [generationMade]

theorem generationMade_raster (s : State) : (generationMade s).raster = s.raster := by
  rw [← (retirePrevious_leaves s.store.transaction.id s).2.1]
  simp [generationMade]

/-- With the array busy a commit changes the transaction, and of what readers leave alone nothing else. -/
theorem generationMade_service (busy : s.store.op ≠ .idle) :
    (generationMade s).store.service = { s.store with transaction := s.store.transaction.committed }.service := by
  obtain ⟨op, aborting, counters, -, badMarks, array⟩ :=
    service_fields ((retirePrevious_leaves s.store.transaction.id s).2.2 busy)
  simp [generationMade, Store.service, op, aborting, counters, badMarks, array]

/-! ### The glyph load that a commit starts (R101) -/

theorem glyphCommitted_other (other : id ≠ s.raster.glyphSet) : glyphCommitted id s = s :=
  if_neg fun h => other h.1

/-- A commit reported to the cache is pins' and readers' work. -/
theorem glyphCommitted_work (id : Nat) (s : State) :
    PinWork id s (glyphCommitted id s) ∧ ServiceKept s (glyphCommitted id s) := by
  unfold glyphCommitted
  split
  · rename_i own
    rw [own.1]
    exact ⟨.startGlyphLoad s, .startGlyphLoad _ s⟩
  · exact ⟨.refl id s, .refl s⟩

theorem glyphCommitted_sets (idle : id ≠ s.raster.glyphSet ∨ s.raster.load = none) :
    (glyphCommitted id s).store.sets = s.store.sets := by
  rcases idle with other | idle
  · rw [glyphCommitted_other other]
  · unfold glyphCommitted
    split
    · exact (startGlyphLoad_sets id idle).1
    · rfl

/-! ### The commit (R167) -/

theorem commitGeneration_raised (s : State) : (commitGeneration s).raised .storeDone = true := by
  rw [commitGeneration_eq]
  exact raised_of_attention (by simp) (raiseFlag_raised .storeDone (generationMade s))

/-- The commit up to the glyph load: that load is pins' work of the same id. -/
theorem commitGeneration_work (s : State) : PinWork s.store.transaction.id (generationMade s) (commitGeneration s) :=
  (PinWork.of_store (by simp)).trans (glyphCommitted_work _ (raiseFlag .storeDone (generationMade s))).1

theorem commitGeneration_service (busy : s.store.op ≠ .idle) : (commitGeneration s).store.service =
    { s.store with transaction := s.store.transaction.committed }.service := by
  have made := generationMade_service busy
  have kept : ServiceKept (generationMade s) (commitGeneration s) :=
    (glyphCommitted_work _ (raiseFlag .storeDone (generationMade s))).2.since_store (by simp)
  exact (kept ((service_fields made).1.trans_ne busy)).trans made

/-- Without the glyph set's id a commit does no more. -/
theorem commitGeneration_other (other : s.store.transaction.id ≠ s.raster.glyphSet) :
    (commitGeneration s).store = (generationMade s).store := by
  rw [commitGeneration_eq, glyphCommitted_other (by simpa [generationMade_raster] using other)]
  simp

theorem commitGeneration_sets (idle : s.store.transaction.id ≠ s.raster.glyphSet ∨ s.raster.load = none) :
    (commitGeneration s).store.sets = (generationMade s).store.sets := by
  rw [commitGeneration_eq, glyphCommitted_sets (by simpa [generationMade_raster] using idle)]
  simp

/-- The id's record is the transaction's, pinned only if it is the glyph set. -/
theorem commitGeneration_own (s : State) : ∃ n,
    (commitGeneration s).asset? s.store.transaction.id = some { s.store.transaction.record with pins := n } ∧
    (s.store.transaction.id ≠ s.raster.glyphSet → n = 0) := by
  have made : (generationMade s).asset? s.store.transaction.id = some s.store.transaction.record :=
    (generationMade_asset? _ s).trans (if_pos rfl)
  by_cases other : s.store.transaction.id ≠ s.raster.glyphSet
  · refine ⟨0, ?_, fun _ => rfl⟩
    rw [State.asset?, commitGeneration_other other]
    exact made
  · obtain ⟨n, found⟩ := (commitGeneration_work s).own _ made
    exact ⟨n, found, fun h => absurd h other⟩

theorem commitGeneration_asset?_other {i : Nat} (other : i ≠ s.store.transaction.id) :
    (commitGeneration s).asset? i = s.asset? i :=
  ((commitGeneration_work s).other i other).trans ((generationMade_asset? i s).trans (if_neg other))

theorem commitGeneration_current (idle : s.store.transaction.id ≠ s.raster.glyphSet ∨ s.raster.load = none) {c : Fin 256}
    (reserved : c ∈ s.store.transaction.reserved) : (commitGeneration s).blockSet c = .current := by
  have made := generationMade_blockSet c s
  rw [if_pos reserved] at made
  rw [State.blockSet, commitGeneration_sets idle]
  exact made

/-- The blocks of a previous generation without pins join the erase list. -/
theorem commitGeneration_unpinned (found : s.asset? s.store.transaction.id = some r) (unpinned : r.pins = 0) {c : Fin 256}
    (old : c ∈ r.blocks) : c ∈ (commitGeneration s).store.eraseList ∧
      (c ∉ s.store.transaction.reserved → (commitGeneration s).blockSet c = .eraseList) := by
  have retired := retirePrevious_unpinned found unpinned
  have made := generationMade_blockSet c s
  have listed := (generationMade_lists s).1
  rw [retired, blockSet_joinErase, if_pos old] at made
  rw [retired, (joinErase_store r.blocks s).2.2.1] at listed
  refine ⟨(commitGeneration_work s).listed c (listed ▸ List.mem_append_right _ old), fun fresh => ?_⟩
  rw [if_neg fresh] at made
  rcases (commitGeneration_work s).sets c with same | joined
  · exact same.trans made
  · exact joined

/-- One with pins goes to the retired list's end. -/
theorem commitGeneration_pinned (found : s.asset? s.store.transaction.id = some r) (pinned : 1 ≤ r.pins)
    (other : s.store.transaction.id ≠ s.raster.glyphSet) :
    (commitGeneration s).store.retired = s.store.retired ++
      [{ id := r.id, generation := r.generation, blocks := r.blocks, pins := r.pins }] ∧
    ∀ c ∈ r.blocks, c ∉ s.store.transaction.reserved → (commitGeneration s).blockSet c = .retired := by
  have retired := retirePrevious_pinned found pinned
  rw [commitGeneration_other other, (generationMade_lists s).2, retired]
  refine ⟨by simp, fun c old fresh => ?_⟩
  have made := generationMade_blockSet c s
  rw [if_neg fresh, retired, blockSet_setBlocks, if_pos old] at made
  rw [State.blockSet, commitGeneration_other other]
  exact made

end Sys2Proof.Machine
end

section
/-! The completions of programs, bad-mark writes and erases (R154, R157, R158, R166, R167). -/

namespace Sys2Proof.Machine

variable {s : State} {b : Fin 256} {page : Nat} {content : Page} {commit live : Bool}

/-! ### Programs (R154, R166, R167) -/

/-- Completions while an abort is in progress change nothing (log entry 40). -/
theorem completions_aborting (aborting : s.store.aborting = true) (k : Option (Fin 8)) (failed : List (Fin 256)) :
    programCompletes k s = s ∧ eraseCompletes failed s = s := ⟨if_pos aborting, if_pos aborting⟩

/-- The state of a program that verified at a pass: its words written, its repeated passes counted. -/
def programWritten (b : Fin 256) (page : Nat) (content : Page) (n : Fin 8) (s : State) : State := { s with
  store.array := writePage s.store.array b page content,
  store.counters.programRetry := bumpBy s.store.counters.programRetry n.val }

/-- The counters of a program that no pass verified (log entry 38). -/
def StoreCounters.failedProgram (c : StoreCounters) : StoreCounters :=
  { c with programRetry := bumpBy c.programRetry 7, programFail := bump c.programFail }

/-- The state of such a program: its page not given, its passes counted. -/
def programLost (b : Fin 256) (page : Nat) (s : State) : State :=
  { s with store := losePage b page { s.store with counters := s.store.counters.failedProgram } }

theorem programCompletes_verified (none : s.store.aborting = false)
    (program : s.store.op = .program b page content commit live) (n : Fin 8) : programCompletes (some n) s =
      finishOp (if live then programVerified b page commit (programWritten b page content n s)
        else programWritten b page content n s) := by
  simp [programCompletes, none, program, countPasses, programWritten]

theorem programCompletes_failed (none : s.store.aborting = false)
    (program : s.store.op = .program b page content commit live) : programCompletes .none s =
      finishOp (if live then programFails b (programLost b page s) else programLost b page s) := by
  simp [programCompletes, none, program, countPasses, programLost, StoreCounters.failedProgram]

/-- The buffer of a program that has verified goes FREE (R166). -/
def TxBuffer.freedBy (b : Fin 256) (page : Nat) (x : Transaction) (q : TxBuffer) : TxBuffer :=
  match q.state with
  | .programming p => if x.pageBlock p = b ∧ p % 64 = page then .reset else q
  | _ => q

/-- The transaction with the buffer of a verified program FREE. -/
def programFreed (b : Fin 256) (page : Nat) (s : State) : State := { s with
  store.transaction := { s.store.transaction with
    buffer0 := s.store.transaction.buffer0.freedBy b page s.store.transaction,
    buffer1 := s.store.transaction.buffer1.freedBy b page s.store.transaction } }

theorem programVerified_eq (b : Fin 256) (page : Nat) (commit : Bool) (s : State) : programVerified b page commit s =
    if commit then commitGeneration (programFreed b page s) else programFreed b page s := rfl

/-! ### A block that becomes bad in service (R157) -/

theorem makeBad_busy (b : Fin 256) (busy : s.store.op ≠ .idle) :
    makeBad b s = setBlock .bad b { s with store.badMarks := s.store.badMarks ++ [b] } := storeSelect_busy busy

/-- The transaction without a block that has become bad. -/
def blockLost (b : Fin 256) (s : State) : State := setBlock .bad b { s with
  store.badMarks := s.store.badMarks ++ [b],
  store.transaction := { s.store.transaction with reserved := s.store.transaction.reserved.filter fun c => c != b } }

/-- A failed program of the transaction: its block is bad, and the transaction fails with what is left of its blocks. -/
theorem programFails_busy (b : Fin 256) (busy : s.store.op ≠ .idle) :
    programFails b s = failTransaction .program (blockLost b s) := by
  refine congrArg (failTransaction .program) (makeBad_busy b (s := { s with
    store.transaction := { s.store.transaction with reserved := s.store.transaction.reserved.filter fun c => c != b } }) ?_)
  exact busy

theorem programFails_effect (b : Fin 256) (busy : s.store.op ≠ .idle) : ∃ t, programFails b s = t ∧
    t.blockSet b = .bad ∧ t.store.badMarks = s.store.badMarks ++ [b] ∧ t.store.txQueue = [] ∧
    t.store.transaction.state = .none ∧ t.store.transaction.outcome = .failed .program ∧
    t.raised .storeFailed = true ∧ t.store.counters = s.store.counters ∧ t.store.array = s.store.array ∧
    t.store.directory = s.store.directory := by
  have still : (blockLost b s).store.op ≠ .idle := busy
  obtain ⟨transaction, txQueue, directory, -, counters, array, -⟩ := failTransaction_store .program (blockLost b s)
  have outside : b ∉ (blockLost b s).store.transaction.reserved := by simp [blockLost, setBlock]
  have bad : (blockLost b s).blockSet b = .bad := (blockSet_setBlock .bad b b _).trans (if_pos rfl)
  refine ⟨_, programFails_busy b busy, ?_, (failTransaction_busy .program still).2, txQueue, ?_, ?_,
    failTransaction_raised (by decide) _, counters, array, directory⟩
  · rw [failTransaction_blockSet, if_neg outside, bad]
  · rw [transaction]; rfl
  · rw [transaction]; rfl

/-! ### Bad-mark writes (R157) -/

theorem programCompletes_badMark (none : s.store.aborting = false) (marking : s.store.op = .badMark b) (k : Option (Fin 8)) :
    programCompletes k s = finishOp (match k with
      | some n => { s with store := setBadMark b { s.store with counters := countPasses (some n) s.store.counters } }
      | .none => { s with store := loseBadMark b { s.store with counters := countPasses .none s.store.counters } }) := by
  cases k <;> simp [programCompletes, none, marking]

/-! ### Erases (R154, R157, R158) -/

/-- One block's erase, with the array busy. -/
structure BlockErased (failed : Bool) (b : Fin 256) (s t : State) : Prop where
  busy : t.store.op = s.store.op
  listed : t.store.eraseList = s.store.eraseList.filter fun c => c != b
  own : t.blockSet b = if failed then .bad else .free
  other : ∀ c, c ≠ b → t.blockSet c = s.blockSet c
  badMarks : t.store.badMarks = if failed then s.store.badMarks ++ [b] else s.store.badMarks
  erased : failed = false → ∀ page, readPage t.store.array b page = erasedPage
  kept : ∀ c, c ≠ b → ∀ page, readPage t.store.array c page = readPage s.store.array c page
  eraseFail : t.store.counters.eraseFail =
    if failed then bump s.store.counters.eraseFail else s.store.counters.eraseFail
  directory : t.store.directory = s.store.directory

theorem blockErased_effect (failed : Bool) (b : Fin 256) (busy : s.store.op ≠ .idle) :
    BlockErased failed b s (blockErased failed b s) := by
  cases failed with
  | false =>
    exact ⟨rfl, rfl, (blockSet_setBlock .free b b _).trans (if_pos rfl),
      fun c h => (blockSet_setBlock .free b c _).trans (if_neg h), rfl, fun _ => readPage_eraseBlock _ b,
      fun c h => readPage_eraseBlock_other h _, rfl, rfl⟩
  | true =>
    obtain ⟨a, n, lost, kept⟩ := loseBlock_eq b { s.store with
      eraseList := s.store.eraseList.filter fun c => c != b,
      counters := { s.store.counters with eraseFail := bump s.store.counters.eraseFail } }
    have effect : blockErased true b s = setBlock .bad b { s with store := { s.store with
        eraseList := s.store.eraseList.filter fun c => c != b,
        counters := { s.store.counters with eraseFail := bump s.store.counters.eraseFail },
        array := a, freeCount := n, badMarks := s.store.badMarks ++ [b] } } :=
      (congrArg (fun st => makeBad b { s with store := st }) lost).trans (makeBad_busy b busy)
    rw [effect]
    exact ⟨rfl, rfl, (blockSet_setBlock .bad b b _).trans (if_pos rfl),
      fun c h => (blockSet_setBlock .bad b c _).trans (if_neg h), rfl, nofun, kept, rfl, rfl⟩

/-- The blocks of an erase, one after another. -/
def blocksErased (failed bs : List (Fin 256)) (s : State) : State :=
  bs.foldl (fun s b => blockErased (failed.contains b) b s) s

theorem eraseCompletes_erase {bs : List (Fin 256)} (none : s.store.aborting = false) (erasing : s.store.op = .erase bs)
    (failed : List (Fin 256)) : eraseCompletes failed s = finishOp (blocksErased failed bs s) := by
  simp [eraseCompletes, none, erasing, blocksErased]

/-- The blocks outside an erase, and its bad-mark writes, stay. -/
theorem blocksErased_other (failed : List (Fin 256)) {bs : List (Fin 256)} (busy : s.store.op ≠ .idle) {c : Fin 256}
    (outside : c ∉ bs) :
    (blocksErased failed bs s).blockSet c = s.blockSet c ∧
    (c ∈ (blocksErased failed bs s).store.eraseList ↔ c ∈ s.store.eraseList) ∧
    ∀ page, readPage (blocksErased failed bs s).store.array c page = readPage s.store.array c page := by
  induction bs generalizing s with
  | nil => exact ⟨rfl, Iff.rfl, fun _ => rfl⟩
  | cons b bs ih =>
    obtain ⟨apart, later⟩ : c ≠ b ∧ c ∉ bs := by simpa using outside
    have first := blockErased_effect (failed.contains b) b busy
    obtain ⟨set, listed, pages⟩ := ih (first.busy.trans_ne busy) later
    refine ⟨set.trans (first.other c apart), listed.trans ?_, fun page => (pages page).trans (first.kept c apart page)⟩
    rw [first.listed]
    simp [apart]

theorem blocksErased_badMarks (failed : List (Fin 256)) (bs : List (Fin 256)) (busy : s.store.op ≠ .idle) {c : Fin 256}
    (queued : c ∈ s.store.badMarks) : c ∈ (blocksErased failed bs s).store.badMarks := by
  induction bs generalizing s with
  | nil => exact queued
  | cons b bs ih =>
    have first := blockErased_effect (failed.contains b) b busy
    refine ih (first.busy.trans_ne busy) ?_
    rw [first.badMarks]
    split
    · exact List.mem_append_left _ queued
    · exact queued

/-- Each block of an erase is free and erased, or bad with its bad-mark write queued, and off the erase list (R158). -/
theorem blocksErased_own (failed : List (Fin 256)) {bs : List (Fin 256)} (busy : s.store.op ≠ .idle) {c : Fin 256}
    (inside : c ∈ bs) :
    c ∉ (blocksErased failed bs s).store.eraseList ∧
    (c ∉ failed → (blocksErased failed bs s).blockSet c = .free ∧
      ∀ page, readPage (blocksErased failed bs s).store.array c page = erasedPage) ∧
    (c ∈ failed → (blocksErased failed bs s).blockSet c = .bad ∧ c ∈ (blocksErased failed bs s).store.badMarks) := by
  induction bs generalizing s with
  | nil => cases inside
  | cons b bs ih =>
    have first := blockErased_effect (failed.contains b) b busy
    have still := first.busy.trans_ne busy
    by_cases later : c ∈ bs
    · exact ih still later
    · obtain rfl : c = b := (List.mem_cons.mp inside).resolve_right later
      obtain ⟨set, listed, pages⟩ := blocksErased_other failed still later
      have off : c ∉ (blockErased (failed.contains c) c s).store.eraseList := by
        rw [first.listed]
        simp
      refine ⟨fun h => off (listed.mp h), fun good => ?_, fun bad => ?_⟩
      · have verified : failed.contains c = false := by simpa using good
        have own := first.own
        rw [verified] at own
        exact ⟨set.trans (by rwa [verified]), fun page => (pages page).trans (first.erased verified page)⟩
      · have failure : failed.contains c = true := by simpa using bad
        have own := first.own
        have marks := first.badMarks
        rw [failure] at own marks
        refine ⟨set.trans (by rwa [failure]), blocksErased_badMarks failed bs still ?_⟩
        rw [failure, marks]
        exact List.mem_append_right _ (List.mem_singleton_self c)

theorem blocksErased_directory (failed bs : List (Fin 256)) (busy : s.store.op ≠ .idle) :
    (blocksErased failed bs s).store.directory = s.store.directory := by
  induction bs generalizing s with
  | nil => rfl
  | cons b bs ih =>
    have first := blockErased_effect (failed.contains b) b busy
    exact (ih (first.busy.trans_ne busy)).trans first.directory

/-- A block that fails is counted once each time the erase comes to it, below the counter's end. -/
theorem blocksErased_eraseFail (failed bs : List (Fin 256)) (busy : s.store.op ≠ .idle)
    (room : s.store.counters.eraseFail + bs.length ≤ 4294967295) : (blocksErased failed bs s).store.counters.eraseFail =
      s.store.counters.eraseFail + bs.countP fun b => decide (b ∈ failed) := by
  induction bs generalizing s with
  | nil => rfl
  | cons b bs ih =>
    have first := blockErased_effect (failed.contains b) b busy
    rw [List.length_cons] at room
    have counted : (blockErased (failed.contains b) b s).store.counters.eraseFail =
        s.store.counters.eraseFail + if b ∈ failed then 1 else 0 := by
      rw [first.eraseFail]
      by_cases h : b ∈ failed
      · simp [h, bump, Config.counterMax]
        omega
      · simp [h]
    refine (ih (first.busy.trans_ne busy) (by rw [counted]; split <;> omega)).trans ?_
    rw [counted, List.countP_cons]
    simp only [decide_eq_true_eq]
    omega

end Sys2Proof.Machine
end

section
/-! Programs, erases and aborts to their ends: the statement over section 8.3 to 8.5 (R154, R157, R158, R166 to R171). -/

namespace Sys2Proof.Machine

variable {s : State} {b : Fin 256} {page : Nat} {content : Page}

/-! ### A live program of the transaction (R166, R167) -/

/-- The commit program of the transaction, at its completion. -/
theorem programVerified_commit (b : Fin 256) (page : Nat) (busy : s.store.op ≠ .idle) :
    let x := s.store.transaction
    let t := programVerified b page true s
    t.store.array = s.store.array ∧ t.store.counters = s.store.counters ∧ t.raised .storeDone = true ∧
    t.store.transaction = x.committed ∧
    (∃ r, t.asset? x.id = some r ∧ r.kind = x.kind ∧ r.generation = x.generation ∧ r.length = x.length ∧
      r.crc = ~~~ x.crc ∧ r.blocks = x.reserved ∧ (x.id ≠ s.raster.glyphSet → r.pins = 0)) ∧
    (x.id ≠ s.raster.glyphSet ∨ s.raster.load = none → ∀ c ∈ x.reserved, t.blockSet c = .current) ∧
    (∀ i, i ≠ x.id → t.asset? i = s.asset? i) ∧
    (∀ r, s.asset? x.id = some r →
      (r.pins = 0 → ∀ c ∈ r.blocks, c ∈ t.store.eraseList ∧ (c ∉ x.reserved → t.blockSet c = .eraseList)) ∧
      (1 ≤ r.pins → x.id ≠ s.raster.glyphSet →
        t.store.retired = s.store.retired ++
          [{ id := r.id, generation := r.generation, blocks := r.blocks, pins := r.pins }] ∧
        ∀ c ∈ r.blocks, c ∉ x.reserved → t.blockSet c = .retired)) := by
  intro x t
  let freed := programFreed b page s
  have effect : t = commitGeneration freed := programVerified_eq b page true s
  have still : freed.store.op ≠ .idle := busy
  obtain ⟨-, -, counters, transaction, -, array⟩ := service_fields (commitGeneration_service still)
  obtain ⟨n, own, unpinned⟩ := commitGeneration_own freed
  rw [effect]
  exact ⟨array, counters, commitGeneration_raised freed, transaction,
    ⟨_, own, rfl, rfl, rfl, rfl, rfl, unpinned⟩, fun idle c reserved => commitGeneration_current (s := freed) idle reserved,
    fun i other => commitGeneration_asset?_other (s := freed) other, fun r found =>
      ⟨fun none c old => commitGeneration_unpinned (s := freed) found none old,
        fun pinned other => commitGeneration_pinned (s := freed) found pinned other⟩⟩

/-! ### STORE_ABORT with a program, a bad-mark write or an erase in flight (R171) -/

theorem exec_storeAbort_live (running : Running s) (mark : Byte) (ready : s.store.state = .ready)
    (idle : s.store.aborting = false) {commit : Bool} (program : s.store.op = .program b page content commit true) :
    exec (.storeAbort mark) s = .next (replied mark 76 .ok [] (failTransaction .abort s.abortBegun)) := by
  have failed := (abortOperation_program .abort idle program).trans (if_pos rfl)
  refine (exec_storeAbort running mark ready idle failed).1 ?_
  rw [(failTransaction_store .abort s.abortBegun).1]
  rfl

/-- What the abort makes of another operation leaves the transaction. -/
theorem abortOperation_others (idle : s.store.aborting = false) {u : State}
    (other : (∃ b page content commit, s.store.op = .program b page content commit false ∧ u = s.abortBegun) ∨
      (∃ b, s.store.op = .badMark b ∧ u = { s.abortBegun with store.badMarks := b :: s.store.badMarks }) ∨
      (∃ bs, s.store.op = .erase bs ∧ u = s.abortBegun)) (cause : FailCause) :
    abortOperation cause s = u ∧ u.store.transaction = s.store.transaction := by
  rcases other with ⟨b, page, content, commit, program, rfl⟩ | ⟨b, marking, rfl⟩ | ⟨bs, erasing, rfl⟩
  · exact ⟨(abortOperation_program cause idle program).trans (if_neg (by simp)), rfl⟩
  · exact ⟨abortOperation_badMark cause idle marking, rfl⟩
  · exact ⟨abortOperation_erase cause idle erasing, rfl⟩

/-- Settles O44: each completion by the operation in flight, the commit by its steps, an erase by induction on its blocks, and
the aborts by what they leave to the readers' work that follows. -/
theorem programsErasesAndAbortsComplete : Obligations.ProgramsErasesAndAbortsComplete := by
  unfold Obligations.ProgramsErasesAndAbortsComplete
  intro s k failed mark x retried failedOnce counted
  refine ⟨rfl, fun aborting => ?_, fun none => ⟨congrArg Host.Outcome.next (if_neg (by simp [none])), ?_, ?_, ?_⟩,
    fun cause => ⟨abortOperation_aborting cause, fun none => ⟨?_, ?_, ?_, ?_, abortOperation_nothing cause⟩, ?_⟩, ?_,
    fun running ready none => ⟨?_, ?_⟩⟩
  · obtain ⟨program, erase⟩ := completions_aborting aborting k failed
    exact ⟨congrArg Host.Outcome.next program, congrArg Host.Outcome.next erase,
      congrArg Host.Outcome.next (abortCompletes_aborting aborting)⟩
  · intro b page content commit live program
    have busy : s.store.op ≠ .idle := by simp [program]
    refine ⟨fun n verified => ?_, fun failure isLive => ?_, fun failure notLive => ?_⟩
    · have effect := programCompletes_verified none program n
      subst verified
      refine ⟨fun notLive => ?_, fun isLive notCommit => ?_, fun isLive isCommit => ?_⟩
      · rw [notLive] at effect
        exact congrArg Host.Outcome.next effect
      · rw [isLive, notCommit] at effect
        exact congrArg Host.Outcome.next effect
      · rw [isLive, isCommit] at effect
        exact ⟨_, congrArg Host.Outcome.next effect,
          programVerified_commit b page (s := programWritten b page content n s) busy⟩
    · subst failure
      have effect := programCompletes_failed none program
      rw [isLive] at effect
      obtain ⟨t, rfl, lost⟩ := programFails_effect b (s := programLost b page s) busy
      obtain ⟨bad, badMarks, txQueue, state, outcome, raised, counters, array, directory⟩ := lost
      exact ⟨_, congrArg Host.Outcome.next effect, bad, badMarks, txQueue, state, outcome, raised, counters, array, directory⟩
    · subst failure
      have effect := programCompletes_failed none program
      rw [notLive] at effect
      exact congrArg Host.Outcome.next effect
  · intro b marking
    refine ⟨fun n verified => ?_, fun failure => ?_⟩
    · subst verified
      exact ⟨_, congrArg Host.Outcome.next (programCompletes_badMark none marking (some n)), readPage_putMark b true s.store,
        fun c page low other => readPage_putMark_other low other true s.store⟩
    · subst failure
      exact ⟨_, congrArg Host.Outcome.next (programCompletes_badMark none marking .none),
        readPage_putMark b (Config.unknownMark s.store.freeCount) s.store,
        fun c page low other => readPage_putMark_other low other _ s.store⟩
  · intro bs erasing
    have busy : s.store.op ≠ .idle := by simp [erasing]
    refine ⟨blocksErased failed bs s, congrArg Host.Outcome.next (eraseCompletes_erase none erasing failed),
      fun b inside => ?_, fun b outside => ?_, blocksErased_eraseFail failed bs busy, blocksErased_directory failed bs busy⟩
    · obtain ⟨off, good, bad⟩ := blocksErased_own failed busy inside
      exact ⟨off, fun verified => ⟨(good verified).1, fun page _ => (good verified).2 page⟩, bad⟩
    · obtain ⟨set, listed, pages⟩ := blocksErased_other failed busy outside
      exact ⟨set, listed, fun page _ => pages page⟩
  · exact fun b page content commit program => (abortOperation_program cause none program).trans (if_pos rfl)
  · exact fun b page content commit program => (abortOperation_program cause none program).trans (if_neg (by simp))
  · exact fun b marking => abortOperation_badMark cause none marking
  · exact fun bs erasing => abortOperation_erase cause none erasing
  · obtain ⟨transaction, txQueue, directory, eraseList, -⟩ := failTransaction_store cause s
    dsimp only
    rw [transaction]
    exact ⟨rfl, rfl, rfl, txQueue, directory, eraseList,
      fun b reserved => (failTransaction_blockSet cause b s).trans (if_pos reserved), fun h => failTransaction_raised h s⟩
  · intro c a b b0 b2 b3 b4 b5 b6 b7 b8 b9 up assembling ha hb other none busy notRead
    obtain ⟨supply, begun⟩ := vehicleReport_cranking b0 b2 b3 b4 b5 b6 b7 b8 b9 other none busy notRead
    refine ⟨_, exec_vehiclePacket_report up assembling ha hb rfl, supply, begun.aborting, begun.counted,
      fun n page content commit program => ?_, begun.queuedAgain⟩
    obtain ⟨state, outcome, raised⟩ := begun.failed n page content commit program
    exact ⟨state, outcome, raised (by decide)⟩
  · exact fun b page content commit program => exec_storeAbort_live running mark ready none program
  · intro u other
    obtain ⟨aborted, transaction⟩ := abortOperation_others none other .abort
    have answered := exec_storeAbort running mark ready none aborted
    rw [transaction] at answered
    exact answered

end Sys2Proof.Machine
end

section
/-! Page reads handed to their readers, and the header and commit page reads of the mount (R154, R159, R160, R162). -/

namespace Sys2Proof.Machine

variable {s : State} {b : Fin 256} {page token : Nat} {v : Fin 4} {content : Option Page}

/-! ### A read's completion (R154, R162) -/

theorem readCompletes_none (none : ∀ r, s.store.op ≠ .read r) (failed : Bool) : readCompletes failed s = s := by
  cases inFlight : s.store.op with
  | read r => exact absurd inFlight (none r)
  | _ => simp [readCompletes, inFlight]

theorem readCompletes_failed {r : ReadRequest} (reading : s.store.op = .read r) : readCompletes true s =
    finishOp (handRead r none { s with store.counters.readFail := bump s.store.counters.readFail }) := by
  simp [readCompletes, reading]

theorem readCompletes_read {r : ReadRequest} (reading : s.store.op = .read r) : readCompletes false s =
    finishOp (handRead r (some (readPage s.store.array r.block r.page)) s) := by
  simp [readCompletes, reading]

/-! ### Voices, the glyph load and the profile (R101, R143 to R145, R194) -/

/-- The page of a buffer that a read of a token fills. -/
def PageBuffer.awaited (token : Nat) : PageBuffer → Option Nat
  | .reading p t => if t = token then some p else none
  | _ => none

theorem PageBuffer.awaited_iff {q : PageBuffer} {token p : Nat} : awaited token q = some p ↔ q = .reading p token := by
  cases q with
  | reading n t => simp [awaited, and_comm]
  | _ => simp [awaited]

/-- A read fills the lower-numbered of the buffers that await its token. -/
theorem Voice.awaits_eq (r : Voice) (token : Nat) : r.awaits token =
    ((PageBuffer.awaited token r.buffer0).map (false, ·)).or ((PageBuffer.awaited token r.buffer1).map (true, ·)) := by
  unfold Voice.awaits
  cases r.buffer0 <;> cases r.buffer1 <;> simp only [PageBuffer.awaited] <;> repeat' split
  all_goals rfl

theorem Voice.awaits_iff (r : Voice) (token : Nat) (one : Bool) (p : Nat) : r.awaits token = some (one, p) ↔
    (one = false ∧ r.buffer0 = .reading p token) ∨
      (one = true ∧ r.buffer1 = .reading p token ∧ ∀ x, r.buffer0 ≠ .reading x token) := by
  simp only [Voice.awaits_eq, Option.or_eq_some_iff, Option.map_eq_some_iff, Prod.mk.injEq,
    Option.eq_none_iff_forall_ne_some, ne_eq, PageBuffer.awaited_iff]
  grind

theorem voicePageRead_stale (stale : (s.voice v).awaits token = none) (bytes : Option (List Byte)) :
    voicePageRead v token bytes s = s := by
  simp [voicePageRead, stale]

/-- A page that a voice awaits: its buffer is READY, and page 0 of a LOADING voice begins its play. -/
theorem voicePageRead_page {one : Bool} {p : Nat} (own : (s.voice v).awaits token = some (one, p)) (bytes : List Byte) :
    voicePageRead v token (some bytes) s = s.setVoice v
      { (s.voice v).setBuffer one (.ready p bytes) with
        state := if (s.voice v).state = .loading ∧ p = 0 then .playing else (s.voice v).state } := by
  have state : ((s.voice v).setBuffer one (.ready p bytes)).state = (s.voice v).state := by cases one <;> rfl
  simp only [voicePageRead, own]
  split
  · rfl
  · rw [← state]

/-- A failed page that a voice awaits ends the voice. -/
theorem voicePageRead_failed {one : Bool} {p : Nat} (own : (s.voice v).awaits token = some (one, p)) :
    voicePageRead v token none s = finishVoice v { s with
      chime.counters.readFail := bump s.chime.counters.readFail } := by
  simp only [voicePageRead, own]
  rfl

theorem glyphPageRead_unawaited (stale : ∀ l, s.raster.load = some l → l.token ≠ some token)
    (bytes : Option (List Byte)) : glyphPageRead token bytes s = s := by
  cases load : s.raster.load with
  | none => simp [glyphPageRead, load]
  | some l => exact glyphPageRead_stale load (stale l load) bytes

theorem profilePageRead_unawaited (stale : ∀ p, s.control.profile = some p → p.token ≠ some token)
    (bytes : Option (List Byte)) : profilePageRead token bytes s = s := by
  cases profile : s.control.profile with
  | none => simp [profilePageRead, profile]
  | some p => simp [profilePageRead, profile, stale p profile]

/-! ### The erase list of the mount, in block order (R160) -/

theorem mem_insertBlock {b c : Fin 256} {bs : List (Fin 256)} : c ∈ insertBlock b bs ↔ c = b ∨ c ∈ bs := by
  induction bs with
  | nil => simp [insertBlock]
  | cons d bs ih =>
    unfold insertBlock
    split
    · simp
    · simp only [List.mem_cons, ih]
      tauto

theorem insertBlock_sorted (b : Fin 256) {bs : List (Fin 256)} (sorted : bs.Pairwise (· ≤ ·)) :
    (insertBlock b bs).Pairwise (· ≤ ·) := by
  induction bs with
  | nil => exact List.pairwise_singleton _ b
  | cons d bs ih =>
    obtain ⟨least, rest⟩ := List.pairwise_cons.mp sorted
    unfold insertBlock
    split
    · rename_i before
      exact List.pairwise_cons.mpr ⟨fun c hc => (List.mem_cons.mp hc).elim (fun e => e ▸ before.le)
        fun later => before.le.trans (least c later), sorted⟩
    · rename_i after
      refine List.pairwise_cons.mpr ⟨fun c hc => ?_, ih rest⟩
      rcases mem_insertBlock.mp hc with rfl | later
      · exact not_lt.mp after
      · exact least c later

theorem mountDiscard_blockSet (b c : Fin 256) (s : State) :
    (mountDiscard b s).blockSet c = if c = b then .eraseList else s.blockSet c := blockSet_setBlock .eraseList b c _

/-! ### A block classified by its header (R159) -/

theorem headerValid_iff (h : BlockHeader) : headerValid h = true ↔ 1 ≤ h.assetId ∧ h.assetId ≤ 1023 ∧ h.kind ≤ 2 ∧
    (h.kind = 2 ↔ h.assetId = 1) ∧ 1 ≤ h.blockCount ∧ h.blockCount ≤ 64 ∧ h.sequence < h.blockCount ∧
    (h.blockCount - 1) * 262144 < h.length ∧ h.length ≤ h.blockCount * 262144 ∧ 1 ≤ h.generation := by
  have named : ((h.kind == 2) = (h.assetId == 1)) ↔ (h.kind = 2 ↔ h.assetId = 1) := beq_eq_beq
  simp only [headerValid, Bool.and_eq_true, decide_eq_true_eq, beq_iff_eq, named, and_assoc]
  rfl

theorem placeHeader_discarded (discarded : classify content = .discard) (s : State) :
    (placeHeader b content s).blockSet b = .eraseList ∧ b ∈ (placeHeader b content s).store.eraseList ∧
    (placeHeader b content s).store.counters.mountDiscard = bump s.store.counters.mountDiscard := by
  have effect : placeHeader b content s = mountDiscard b s := by simp only [placeHeader, discarded]
  rw [effect]
  exact ⟨(mountDiscard_blockSet b b s).trans (if_pos rfl), mem_insertBlock.mpr (.inl rfl), rfl⟩

theorem placeHeader_bad {x : Page} (marked : x.factory ≠ 0xFF#8 ∨ x.runtimeBad = true) :
    placeHeader b (some x) s = setBlock .bad b s := by
  have bad : classify (some x) = .bad := by
    unfold classify
    rcases marked with factory | runtime
    · exact if_pos factory
    · simp [runtime]
  simp only [placeHeader, bad]

section
variable {x : Page} (factory : x.factory = 0xFF#8) (good : x.runtimeBad = false)
include factory good

theorem placeHeader_free (blank : x.header = none) : placeHeader b (some x) s = setBlock .free b s := by
  have free : classify (some x) = .free := by simp [classify, factory, good, blank]
  simp only [placeHeader, free]

theorem classify_header {h : BlockHeader} (header : x.header = some h) :
    classify (some x) = if headerValid h then .asset h else .discard := by
  simp [classify, factory, good, header]

theorem placeHeader_asset {h : BlockHeader} (header : x.header = some h) (valid : headerValid h = true) :
    placeHeader b (some x) s = sawGeneration h { s with
      store.mount.blocks := s.store.mount.blocks ++ [{ block := b, header := h, commit := x.commit }] } := by
  have asset := (classify_header factory good header).trans (if_pos valid)
  simp only [placeHeader, asset]

end

/-! ### The header reads (R159, R160) -/

/-- The next generation after a header read, a valid header of a bad block included (R160). -/
def seenGeneration (content : Option Page) (next : Nat) : Nat :=
  match content.bind (·.header) with
  | some h => if headerValid h then max next (h.generation + 1) else next
  | none => next

theorem noteGeneration_eq (content : Option Page) (s : State) : noteGeneration content s =
    { s with store.nextGeneration := seenGeneration content s.store.nextGeneration } := by
  cases header : content.bind (·.header) with
  | none => simp [noteGeneration, seenGeneration, header]
  | some h =>
    simp only [noteGeneration, seenGeneration, header]
    split <;> rfl

/-- A block that is classified as an asset block carries that valid header. -/
theorem classify_asset {h : BlockHeader} (asset : classify content = .asset h) :
    content.bind (·.header) = some h ∧ headerValid h = true := by
  unfold classify at asset
  (repeat' split at asset) <;> simp_all

/-- Of the mount and the reads a classification changes at most the asset blocks found. -/
theorem placeHeader_leaves (b : Fin 256) (content : Option Page) (s : State) :
    (placeHeader b content s).store.mount.headersLeft = s.store.mount.headersLeft ∧
    (placeHeader b content s).store.reads = s.store.reads := by
  unfold placeHeader
  split <;> exact ⟨rfl, rfl⟩

/-- A header read sees the generation of its block's header once. -/
theorem noteGeneration_placed (b : Fin 256) (content : Option Page) (s : State) :
    noteGeneration content (placeHeader b content s) =
      { placeHeader b content s with store.nextGeneration := seenGeneration content s.store.nextGeneration } := by
  have seen : seenGeneration content (placeHeader b content s).store.nextGeneration =
      seenGeneration content s.store.nextGeneration := by
    cases classified : classify content with
    | asset h =>
      obtain ⟨header, valid⟩ := classify_asset classified
      simp [seenGeneration, header, valid, placeHeader, classified, sawGeneration]
    | bad | free | discard =>
      simp only [placeHeader, classified]
      rfl
  rw [noteGeneration_eq, seen]

/-- The state with a header read's block classified and its generation seen. -/
def headerPlaced (b : Fin 256) (content : Option Page) (s : State) : State :=
  { placeHeader b content { s with store.mount.headersLeft := s.store.mount.headersLeft - 1 } with
    store.nextGeneration := seenGeneration content s.store.nextGeneration }

theorem headerRead_eq (b : Fin 256) (content : Option Page) (s : State) : headerRead b content s =
    if s.store.mount.headersLeft - 1 = 0 then headersRead (headerPlaced b content s) else headerPlaced b content s := by
  have placed := noteGeneration_placed b content { s with store.mount.headersLeft := s.store.mount.headersLeft - 1 }
  have left := (placeHeader_leaves b content { s with store.mount.headersLeft := s.store.mount.headersLeft - 1 }).1
  unfold headerRead
  rw [placed]
  dsimp only
  rw [left]
  rfl

theorem headerPlaced_reads (b : Fin 256) (content : Option Page) (s : State) :
    (headerPlaced b content s).store.reads = s.store.reads := (placeHeader_leaves b content _).2

theorem headerRead_more (b : Fin 256) (content : Option Page) (more : 2 ≤ s.store.mount.headersLeft) :
    headerRead b content s = headerPlaced b content s := (headerRead_eq b content s).trans (if_neg (by omega))

/-- The last header read, with no commit page to read or with some. -/
theorem headerRead_last (b : Fin 256) (content : Option Page) (last : s.store.mount.headersLeft ≤ 1) :
    let placed := headerPlaced b content s
    let reads := commitReads placed.store.mount.blocks
    (reads = [] → headerRead b content s = mountEnd placed) ∧
    (reads ≠ [] → headerRead b content s = { placed with
      store.reads := s.store.reads ++ reads, store.mount.commitsLeft := reads.length }) := by
  have effect := (headerRead_eq b content s).trans (if_pos (by omega))
  refine ⟨fun none => effect.trans (if_pos none), fun some => effect.trans ((if_neg some).trans ?_)⟩
  rw [headerPlaced_reads]

/-! ### The commit page reads (R160) -/

/-- The state with a commit page read counted and the commit record it found noted. -/
def commitNoted (b : Fin 256) (content : Option Page) (s : State) : State := { s with
  store.mount.commitsLeft := s.store.mount.commitsLeft - 1,
  store.mount.commits := s.store.mount.commits ++ match content.bind (·.commit) with
    | some crc => [(b, crc)]
    | none => [] }

theorem commitRead_eq (b : Fin 256) (content : Option Page) (s : State) : commitRead b content s =
    if s.store.mount.commitsLeft - 1 = 0 then mountEnd (commitNoted b content s) else commitNoted b content s := by
  cases content with
  | none => simp [commitRead, commitNoted]
  | some x => cases commit : x.commit <;> simp [commitRead, commitNoted, commit]

end Sys2Proof.Machine
end

section
/-! The groups of asset blocks at the mount: which are whole, their commit pages, and the records of the complete (R160). -/

namespace Sys2Proof.Machine

variable {m : Mount} {bs g : List MountBlock} {x y : MountBlock} {r q : AssetRecord}

/-! ### Groups (R160) -/

/-- What the blocks of one group share: asset id and generation. -/
def MountBlock.key (x : MountBlock) : Nat × Nat := (x.header.assetId, x.header.generation)

/-- The group of a block. -/
def groupOf (bs : List MountBlock) (x : MountBlock) : List MountBlock :=
  bs.filter fun y => y.header.assetId == x.header.assetId && y.header.generation == x.header.generation

theorem mem_groupOf : y ∈ groupOf bs x ↔ y ∈ bs ∧ y.key = x.key := by
  simp [groupOf, MountBlock.key]

theorem groupOf_congr (same : y.key = x.key) : groupOf bs y = groupOf bs x := by
  obtain ⟨id, generation⟩ := Prod.mk.inj same
  simp only [groupOf, id, generation]

theorem self_mem_groupOf (hx : x ∈ bs) : x ∈ groupOf bs x := mem_groupOf.mpr ⟨hx, rfl⟩

/-- The mount's groups are those of its blocks. -/
theorem mem_mountGroups : g ∈ mountGroups bs ↔ ∃ x ∈ bs, g = groupOf bs x := by
  simp only [mountGroups, List.mem_map, List.mem_eraseDups]
  constructor
  · rintro ⟨k, ⟨x, hx, rfl⟩, rfl⟩
    exact ⟨x, hx, rfl⟩
  · rintro ⟨x, hx, rfl⟩
    exact ⟨x.key, ⟨x, hx, rfl⟩, rfl⟩

theorem nodup_eraseDups {α : Type} [BEq α] [LawfulBEq α] (l : List α) : l.eraseDups.Nodup := by
  match l with
  | [] => exact List.nodup_nil
  | a :: l =>
    rw [List.eraseDups_cons]
    refine List.nodup_cons.mpr ⟨fun h => ?_, nodup_eraseDups _⟩
    simpa using (List.mem_filter.mp (List.mem_eraseDups.mp h)).2
termination_by l.length
decreasing_by exact Nat.lt_succ_of_le (List.length_filter_le _ l)

/-- No block of one group shares its key with one of another. -/
theorem mountGroups_apart (bs : List MountBlock) :
    (mountGroups bs).Pairwise fun g g' => ∀ x ∈ g, ∀ y ∈ g', x.key ≠ y.key := by
  refine List.pairwise_map.mpr ((nodup_eraseDups _).imp fun {k l} other x hx y hy same => other ?_)
  have key (k : Nat × Nat) (x : MountBlock)
      (hx : x ∈ bs.filter fun b => b.header.assetId == k.1 && b.header.generation == k.2) : x.key = k := by
    obtain ⟨id, generation⟩ : x.header.assetId = k.1 ∧ x.header.generation = k.2 := by
      simpa using (List.mem_filter.mp hx).2
    exact Prod.ext id generation
  rw [← key k x hx, ← key l y hy, same]

/-! ### Whole groups (R160) -/

/-- A group that is whole, in the terms of one of its blocks. -/
structure Whole (g : List MountBlock) (x : MountBlock) : Prop where
  agree : ∀ y ∈ g, y.header.kind = x.header.kind ∧ y.header.blockCount = x.header.blockCount ∧
    y.header.length = x.header.length
  count : g.length = x.header.blockCount
  each : ∀ i, i < x.header.blockCount → ∃ y ∈ g, y.header.sequence = i

theorem Whole.congr (whole : Whole g x) (hy : y ∈ g) : Whole g y := by
  obtain ⟨kind, count, length⟩ := whole.agree y hy
  refine ⟨fun z hz => ?_, whole.count.trans count.symm, count ▸ whole.each⟩
  rw [kind, count, length]
  exact whole.agree z hz

theorem groupBlock_isSome {i : Nat} : (groupBlock g i).isSome = true ↔ ∃ y ∈ g, y.header.sequence = i := by
  simp [groupBlock]

theorem wholeGroup_iff (hx : x ∈ g) : wholeGroup g = true ↔ Whole g x := by
  cases g with
  | nil => cases hx
  | cons h rest =>
    have head : wholeGroup (h :: rest) = true ↔ Whole (h :: rest) h := by
      simp only [wholeGroup, Bool.and_eq_true, List.all_eq_true, beq_iff_eq, List.mem_range, groupBlock_isSome, and_assoc]
      exact ⟨fun ⟨agree, count, each⟩ => ⟨agree, count, each⟩, fun ⟨agree, count, each⟩ => ⟨agree, count, each⟩⟩
    rw [head]
    exact ⟨fun whole => whole.congr hx, fun whole => whole.congr List.mem_cons_self⟩

/-- The sequence indices of a whole group are those below its count, each once. -/
theorem Whole.sequences (whole : Whole g x) : (g.map (·.header.sequence)).Perm (List.range x.header.blockCount) := by
  have within : List.range x.header.blockCount ⊆ g.map (·.header.sequence) := fun i hi =>
    List.mem_map.mpr (whole.each i (List.mem_range.mp hi))
  refine ((List.nodup_range.subperm within).perm_of_length_le ?_).symm
  simp [whole.count]

theorem Whole.sequence_lt (whole : Whole g x) (hy : y ∈ g) : y.header.sequence < x.header.blockCount :=
  List.mem_range.mp (whole.sequences.mem_iff.mp (List.mem_map_of_mem hy))

theorem Whole.sequence_inj (whole : Whole g x) {z : MountBlock} (hy : y ∈ g) (hz : z ∈ g)
    (same : y.header.sequence = z.header.sequence) : y = z :=
  List.inj_on_of_nodup_map (whole.sequences.nodup_iff.mpr List.nodup_range) hy hz same

theorem Whole.groupBlock (whole : Whole g x) (hy : y ∈ g) : Machine.groupBlock g y.header.sequence = some y := by
  obtain ⟨z, found⟩ := Option.isSome_iff_exists.mp (groupBlock_isSome.mpr ⟨y, hy, rfl⟩)
  have same : z.header.sequence = y.header.sequence := by simpa using List.find?_some found
  rw [found, whole.sequence_inj (List.mem_of_find?_eq_some found) hy same]

/-! ### Commit pages (R160) -/

/-- The page of the group's last block that carries the commit record, by the length in a block's header. -/
def MountBlock.page (x : MountBlock) : Nat := (x.header.length - 1) / 4096 % 64

/-- A block with the highest sequence index of its asset. -/
def MountBlock.Last (x : MountBlock) : Prop := x.header.sequence + 1 = x.header.blockCount

theorem Whole.last_exists (whole : Whole g x) (hx : x ∈ g) : ∃ y ∈ g, y.Last := by
  have positive : 0 < x.header.blockCount := whole.count ▸ List.length_pos_of_mem hx
  obtain ⟨y, hy, sequence⟩ := whole.each (x.header.blockCount - 1) (by omega)
  refine ⟨y, hy, ?_⟩
  rw [MountBlock.Last, (whole.agree y hy).2.1]
  omega

/-- The commit page of a whole group lies in its block with the highest sequence index. -/
theorem Whole.commitPage (whole : Whole g x) (hy : y ∈ g) (last : y.Last) :
    Machine.commitPage g = some (y, y.page) := by
  cases g with
  | nil => cases hy
  | cons h rest =>
    obtain ⟨-, count, length⟩ := (whole.congr List.mem_cons_self).agree y hy
    have index : h.header.blockCount - 1 = y.header.sequence := by
      rw [MountBlock.Last] at last
      omega
    simp only [Machine.commitPage, index, whole.groupBlock hy, Option.map_some, MountBlock.page, length,
      Config.pageBytes, Config.pagesPerBlock]

/-- The read of a group's commit page, unless it is page 0. -/
def commitReadOf (g : List MountBlock) : Option ReadRequest :=
  match commitPage g with
  | none => none
  | some (b, page) => if page = 0 then none else some { reader := .mountCommit, block := b.block, page := page }

theorem commitReads_eq (bs : List MountBlock) :
    commitReads bs = ((mountGroups bs).filter wholeGroup).filterMap commitReadOf := rfl

theorem Whole.commitReadOf (whole : Whole g x) (hy : y ∈ g) (last : y.Last) : Machine.commitReadOf g =
    if y.page = 0 then none
    else some { reader := .mountCommit, block := y.block, page := y.page } := by
  simp only [Machine.commitReadOf, whole.commitPage hy last]

theorem mem_commitReads {r : ReadRequest} : r ∈ commitReads bs ↔ ∃ x ∈ bs, Whole (groupOf bs x) x ∧ x.Last ∧
    x.page ≠ 0 ∧ r = { reader := .mountCommit, block := x.block, page := x.page } := by
  simp only [commitReads_eq, List.mem_filterMap, List.mem_filter, mem_mountGroups]
  constructor
  · rintro ⟨-, ⟨⟨x, hx, rfl⟩, isWhole⟩, read⟩
    have whole := (wholeGroup_iff (self_mem_groupOf hx)).mp isWhole
    obtain ⟨y, hy, last⟩ := whole.last_exists (self_mem_groupOf hx)
    obtain ⟨listed, key⟩ := mem_groupOf.mp hy
    obtain ⟨notFirst, same⟩ := Option.ite_none_left_eq_some.mp ((whole.commitReadOf hy last).symm.trans read)
    obtain rfl := Option.some.inj same
    exact ⟨y, listed, groupOf_congr key ▸ whole.congr hy, last, notFirst, rfl⟩
  · rintro ⟨x, hx, whole, last, notFirst, rfl⟩
    have own := self_mem_groupOf hx
    exact ⟨groupOf bs x, ⟨⟨x, hx, rfl⟩, (wholeGroup_iff own).mpr whole⟩, (whole.commitReadOf own last).trans (if_neg notFirst)⟩

/-- A group's commit page read reads one of its blocks. -/
theorem commitReadOf_block {r : ReadRequest} (read : commitReadOf g = some r) : ∃ y ∈ g, r.block = y.block := by
  unfold commitReadOf at read
  split at read
  · cases read
  · rename_i y page found
    obtain rfl := Option.some.inj (Option.ite_none_left_eq_some.mp read).2
    cases g with
    | nil => cases found
    | cons h rest =>
      obtain ⟨z, block, same⟩ := Option.map_eq_some_iff.mp found
      obtain ⟨rfl, -⟩ := Prod.mk.inj same
      exact ⟨z, List.mem_of_find?_eq_some block, rfl⟩

/-- With no block found twice no commit page is read twice. -/
theorem commitReads_nodup (distinct : (bs.map (·.block)).Nodup) : (commitReads bs).Nodup := by
  have apart : ((mountGroups bs).filter wholeGroup).Pairwise fun g g' => ∀ x ∈ g, ∀ y ∈ g', x.block ≠ y.block := by
    refine ((mountGroups_apart bs).imp_of_mem fun {g g'} hg hg' other x hx y hy same => ?_).filter _
    obtain ⟨z, _, rfl⟩ := mem_mountGroups.mp hg
    obtain ⟨w, _, rfl⟩ := mem_mountGroups.mp hg'
    exact other x hx y hy (congrArg MountBlock.key
      (List.inj_on_of_nodup_map distinct (mem_groupOf.mp hx).1 (mem_groupOf.mp hy).1 same))
  refine apart.filterMap commitReadOf fun g g' blocks r hr r' hr' same => ?_
  obtain ⟨x, hx, block⟩ := commitReadOf_block hr
  obtain ⟨y, hy, block'⟩ := commitReadOf_block hr'
  exact blocks x hx y hy (block.symm.trans ((congrArg ReadRequest.block same).trans block'))

/-! ### Complete groups and their records (R160) -/

/-- The commit record that the mount has of a block: of its page 0, read with its header, or of its commit page. -/
def Mount.commitOf (m : Mount) (x : MountBlock) : Option (BitVec 32) :=
  if x.page = 0 then x.commit else (m.commits.find? fun e => e.1 == x.block).map (·.2)

/-- A record made of a complete group, in the terms of one of its blocks. -/
structure RecordOf (m : Mount) (x : MountBlock) (r : AssetRecord) : Prop where
  whole : Whole (groupOf m.blocks x) x
  id : r.id = x.header.assetId
  kind : assetKind? x.header.kind = some r.kind
  generation : r.generation = x.header.generation
  length : r.length = x.header.length
  pins : r.pins = 0
  count : r.blocks.length = x.header.blockCount
  blocks : ∀ y ∈ groupOf m.blocks x, r.blocks[y.header.sequence]? = some y.block
  crc : ∃ y ∈ groupOf m.blocks x, y.Last ∧ some r.crc = m.commitOf y

/-- The blocks of a group in sequence order. -/
def sequenceBlocks (g : List MountBlock) (n : Nat) : List (Fin 256) :=
  (List.range n).filterMap fun i => (groupBlock g i).map (·.block)

theorem Whole.sequenceBlocks_length (whole : Whole g x) :
    (sequenceBlocks g x.header.blockCount).length = x.header.blockCount := by
  refine (List.filterMap_length_eq_length.mpr fun i hi => ?_).trans List.length_range
  rw [Option.isSome_map]
  exact groupBlock_isSome.mpr (whole.each i (List.mem_range.mp hi))

/-- An entry that every element gives stands at its element's place. -/
theorem getElem?_filterMap_of_isSome {α β : Type} {f : α → Option β} {l : List α} (given : ∀ a ∈ l, (f a).isSome = true)
    (i : Nat) : (l.filterMap f)[i]? = l[i]?.bind f := by
  induction l generalizing i with
  | nil => rfl
  | cons a l ih =>
    obtain ⟨b, hb⟩ := Option.isSome_iff_exists.mp (given a List.mem_cons_self)
    rw [List.filterMap_cons_some hb]
    cases i with
    | zero => simp [hb]
    | succ i => simpa using ih (fun a ha => given a (List.mem_cons_of_mem _ ha)) i

theorem Whole.sequenceBlocks_getElem? (whole : Whole g x) (hy : y ∈ g) :
    (sequenceBlocks g x.header.blockCount)[y.header.sequence]? = some y.block := by
  refine (getElem?_filterMap_of_isSome (fun i hi => ?_) _).trans ?_
  · rw [Option.isSome_map]
    exact groupBlock_isSome.mpr (whole.each i (List.mem_range.mp hi))
  · simp [List.getElem?_range (whole.sequence_lt hy), whole.groupBlock hy]

/-- The list of a whole group's blocks by their sequence indices is its blocks in sequence order. -/
theorem Whole.eq_sequenceBlocks (whole : Whole g x) {l : List (Fin 256)} (count : l.length = x.header.blockCount)
    (blocks : ∀ y ∈ g, l[y.header.sequence]? = some y.block) : l = sequenceBlocks g x.header.blockCount := by
  refine List.ext_getElem? fun i => ?_
  by_cases hi : i < x.header.blockCount
  · obtain ⟨y, hy, rfl⟩ := whole.each i hi
    rw [blocks y hy, whole.sequenceBlocks_getElem? hy]
  · rw [List.getElem?_eq_none (by omega), List.getElem?_eq_none (by rw [whole.sequenceBlocks_length]; omega)]

theorem Whole.groupCommit (whole : Whole (groupOf m.blocks x) x) (hy : y ∈ groupOf m.blocks x) (last : y.Last) :
    Machine.groupCommit m.commits (groupOf m.blocks x) = m.commitOf y := by
  simp only [Machine.groupCommit, whole.commitPage hy last, Mount.commitOf]

/-- The record of a whole group, whichever of its blocks gives the header. -/
theorem Whole.groupRecord (whole : Whole g x) (hx : x ∈ g) (m : Mount) : Machine.groupRecord m g =
    (Machine.groupCommit m.commits g).bind fun crc => (assetKind? x.header.kind).map fun kind =>
      { id := (g.headD x).header.assetId, kind := kind, generation := (g.headD x).header.generation,
        length := x.header.length, crc := crc, blocks := sequenceBlocks g x.header.blockCount, pins := 0 } := by
  cases g with
  | nil => cases hx
  | cons h rest =>
    obtain ⟨kind, count, length⟩ := whole.agree h List.mem_cons_self
    unfold Machine.groupRecord
    dsimp only
    rw [if_pos ((wholeGroup_iff hx).mpr whole), kind, count, length]
    cases Machine.groupCommit m.commits (h :: rest) <;> cases assetKind? x.header.kind <;> rfl

/-- The records made are those of the complete groups. -/
theorem groupRecord_iff (hx : x ∈ m.blocks) : groupRecord m (groupOf m.blocks x) = some r ↔ RecordOf m x r := by
  have own := self_mem_groupOf hx
  by_cases isWhole : wholeGroup (groupOf m.blocks x) = true
  · have whole := (wholeGroup_iff own).mp isWhole
    obtain ⟨y, hy, last⟩ := whole.last_exists own
    have head : ((groupOf m.blocks x).headD x).key = x.key := by
      cases h : groupOf m.blocks x with
      | nil => rfl
      | cons z rest => exact (mem_groupOf.mp (h ▸ List.mem_cons_self)).2
    obtain ⟨id, generation⟩ := Prod.mk.inj head
    rw [whole.groupRecord own, whole.groupCommit hy last, id, generation]
    simp only [Option.bind_eq_some_iff, Option.map_eq_some_iff]
    constructor
    · rintro ⟨crc, commit, kind, known, rfl⟩
      exact ⟨whole, rfl, known, rfl, rfl, rfl, whole.sequenceBlocks_length, fun _ => whole.sequenceBlocks_getElem?,
        y, hy, last, commit.symm⟩
    · rintro ⟨-, id, kind, generation, length, pins, count, blocks, z, hz, lastZ, commit⟩
      have same : y = z := whole.sequence_inj hy hz (by
        have hcount := (whole.agree y hy).2.1.trans (whole.agree z hz).2.1.symm
        rw [MountBlock.Last] at last lastZ
        omega)
      refine ⟨r.crc, by rw [same, commit], r.kind, kind, ?_⟩
      rw [← whole.eq_sequenceBlocks count blocks, ← id, ← generation, ← length, ← pins]
  · refine iff_of_false (fun made => isWhole ?_) fun record => isWhole ((wholeGroup_iff own).mpr record.whole)
    unfold groupRecord at made
    split at made
    · cases made
    · split at made
      · assumption
      · cases made

/-! ### The directory that the mount makes (R160) -/

/-- The records of all complete groups. -/
def completeRecords (m : Mount) : List AssetRecord := (mountGroups m.blocks).filterMap (groupRecord m)

theorem currentRecords_eq (m : Mount) : currentRecords m = (completeRecords m).filter fun r =>
    (completeRecords m).all fun q => q.id != r.id || q.generation ≤ r.generation := rfl

theorem mem_completeRecords : r ∈ completeRecords m ↔ ∃ x ∈ m.blocks, RecordOf m x r := by
  simp only [completeRecords, List.mem_filterMap, mem_mountGroups]
  constructor
  · rintro ⟨-, ⟨x, hx, rfl⟩, made⟩
    exact ⟨x, hx, (groupRecord_iff hx).mp made⟩
  · rintro ⟨x, hx, record⟩
    exact ⟨groupOf m.blocks x, ⟨x, hx, rfl⟩, (groupRecord_iff hx).mpr record⟩

theorem mem_currentRecords : r ∈ currentRecords m ↔ r ∈ completeRecords m ∧
    ∀ q ∈ completeRecords m, q.id = r.id → q.generation ≤ r.generation := by
  simp only [currentRecords_eq, List.mem_filter, List.all_eq_true, Bool.or_eq_true, bne_iff_ne, decide_eq_true_eq,
    imp_iff_not_or, ne_eq]

/-- No two complete groups make records of one id and one generation. -/
theorem completeRecords_apart (m : Mount) :
    (completeRecords m).Pairwise fun r q => (r.id, r.generation) ≠ (q.id, q.generation) := by
  have apart := (mountGroups_apart m.blocks).imp_of_mem
    (S := fun g g' => ∀ r, groupRecord m g = some r → ∀ q, groupRecord m g' = some q →
      (r.id, r.generation) ≠ (q.id, q.generation)) fun {g g'} hg hg' other r hr q hq same => by
    obtain ⟨x, hx, rfl⟩ := mem_mountGroups.mp hg
    obtain ⟨y, hy, rfl⟩ := mem_mountGroups.mp hg'
    have made := (groupRecord_iff hx).mp hr
    have made' := (groupRecord_iff hy).mp hq
    refine other x (self_mem_groupOf hx) y (self_mem_groupOf hy) ?_
    rwa [made.id, made.generation, made'.id, made'.generation] at same
  exact List.pairwise_filterMap.mpr apart

theorem currentRecords_nodup (m : Mount) : ((currentRecords m).map (·.id)).Nodup := by
  refine List.pairwise_map.mpr (((completeRecords_apart m).filter _).imp_of_mem fun {r q} hr hq other same => other ?_)
  obtain ⟨listed, highest⟩ := mem_currentRecords.mp hr
  obtain ⟨listed', highest'⟩ := mem_currentRecords.mp hq
  exact Prod.ext same (Nat.le_antisymm (highest' r listed same) (highest q listed' same.symm))

end Sys2Proof.Machine
end

section
/-! The end of the mount and its directory, and O43 (R154, R159, R160, R162). -/

namespace Sys2Proof.Machine

variable {s : State} {m : Mount} {kept : List (Fin 256)} {bs : List MountBlock} {c : Fin 256} {x : MountBlock}
  {r : AssetRecord}

/-! ### The asset blocks placed at the mount's end (R160) -/

/-- An asset block kept for the directory, or discarded. -/
def placeAsset (kept : List (Fin 256)) (s : State) (x : MountBlock) : State :=
  if kept.contains x.block then setBlock .current x.block s else mountDiscard x.block s

/-- The asset blocks placed in order. -/
def placeAssets (kept : List (Fin 256)) (bs : List MountBlock) (s : State) : State := bs.foldl (placeAsset kept) s

theorem placeAsset_kept (h : x.block ∈ kept) : placeAsset kept s x = setBlock .current x.block s :=
  if_pos (List.contains_iff_mem.mpr h)

theorem placeAsset_discarded (h : x.block ∉ kept) : placeAsset kept s x = mountDiscard x.block s :=
  if_neg fun contained => h (List.contains_iff_mem.mp contained)

theorem placeAsset_eq (kept : List (Fin 256)) (s : State) (x : MountBlock) : placeAsset kept s x = { s with
    store.sets := (placeAsset kept s x).store.sets, store.eraseList := (placeAsset kept s x).store.eraseList,
    store.counters.mountDiscard := (placeAsset kept s x).store.counters.mountDiscard } := by
  by_cases h : x.block ∈ kept
  · rw [placeAsset_kept h]
    rfl
  · rw [placeAsset_discarded h]
    rfl

theorem placeAsset_blockSet (c : Fin 256) : (placeAsset kept s x).blockSet c =
    if c = x.block then if c ∈ kept then .current else .eraseList else s.blockSet c := by
  by_cases h : x.block ∈ kept
  · rw [placeAsset_kept h, blockSet_setBlock]
    split
    · rename_i same
      rw [if_pos (same ▸ h)]
    · rfl
  · rw [placeAsset_discarded h, mountDiscard_blockSet]
    split
    · rename_i same
      rw [if_neg (same ▸ h)]
    · rfl

theorem mem_placeAsset_eraseList : c ∈ (placeAsset kept s x).store.eraseList ↔
    c ∈ s.store.eraseList ∨ (c = x.block ∧ c ∉ kept) := by
  by_cases h : x.block ∈ kept
  · rw [placeAsset_kept h]
    exact ⟨.inl, fun either => either.elim id fun ⟨same, discarded⟩ => absurd (same ▸ h) discarded⟩
  · rw [placeAsset_discarded h]
    refine mem_insertBlock.trans ⟨fun either => either.elim (fun same => .inr ⟨same, same ▸ h⟩) .inl, fun either =>
      either.elim .inr fun own => .inl own.1⟩

theorem placeAsset_sorted (sorted : s.store.eraseList.Pairwise (· ≤ ·)) :
    (placeAsset kept s x).store.eraseList.Pairwise (· ≤ ·) := by
  by_cases h : x.block ∈ kept
  · rw [placeAsset_kept h]
    exact sorted
  · rw [placeAsset_discarded h]
    exact insertBlock_sorted x.block sorted

theorem placeAssets_cons (kept : List (Fin 256)) (x : MountBlock) (bs : List MountBlock) (s : State) :
    placeAssets kept (x :: bs) s = placeAssets kept bs (placeAsset kept s x) := rfl

theorem placeAssets_eq (kept : List (Fin 256)) (bs : List MountBlock) (s : State) : placeAssets kept bs s = { s with
    store.sets := (placeAssets kept bs s).store.sets, store.eraseList := (placeAssets kept bs s).store.eraseList,
    store.counters.mountDiscard := (placeAssets kept bs s).store.counters.mountDiscard } := by
  induction bs generalizing s with
  | nil => rfl
  | cons x bs ih =>
    refine (ih (placeAsset kept s x)).trans ?_
    rw [placeAssets_cons]
    generalize placeAssets kept bs (placeAsset kept s x) = t
    rw [placeAsset_eq]

/-- Every asset block is current or in the erase list; no other block moves. -/
theorem placeAssets_blockSet (s : State) (c : Fin 256) : (placeAssets kept bs s).blockSet c =
    if ∃ x ∈ bs, x.block = c then if c ∈ kept then .current else .eraseList else s.blockSet c := by
  induction bs generalizing s with
  | nil => simp [placeAssets]
  | cons x bs ih =>
    rw [placeAssets_cons, ih, placeAsset_blockSet]
    by_cases own : c = x.block
    · simp [own]
    · simp [own, Ne.symm own]

/-- The erase list gains the asset blocks that no current record holds. -/
theorem mem_placeAssets_eraseList (s : State) : c ∈ (placeAssets kept bs s).store.eraseList ↔
    c ∈ s.store.eraseList ∨ ((∃ x ∈ bs, x.block = c) ∧ c ∉ kept) := by
  induction bs generalizing s with
  | nil => simp [placeAssets]
  | cons x bs ih =>
    rw [placeAssets_cons, ih, mem_placeAsset_eraseList]
    simp only [List.mem_cons, exists_eq_or_imp, eq_comm (a := c)]
    tauto

theorem placeAssets_sorted (bs : List MountBlock) (sorted : s.store.eraseList.Pairwise (· ≤ ·)) :
    (placeAssets kept bs s).store.eraseList.Pairwise (· ≤ ·) := by
  induction bs generalizing s with
  | nil => exact sorted
  | cons x bs ih => exact ih (placeAsset_sorted sorted)

/-- Every discarded asset block is counted, up to the counter's end. -/
theorem placeAssets_mountDiscard (s : State)
    (room : s.store.counters.mountDiscard + bs.countP (fun x => decide (x.block ∉ kept)) ≤ 4294967295) :
    (placeAssets kept bs s).store.counters.mountDiscard =
      s.store.counters.mountDiscard + bs.countP fun x => decide (x.block ∉ kept) := by
  induction bs generalizing s with
  | nil => rfl
  | cons x bs ih =>
    rw [placeAssets_cons]
    by_cases h : x.block ∈ kept
    · rw [List.countP_cons_of_neg (by simpa using h)] at room ⊢
      rw [placeAsset_kept h]
      exact ih _ room
    · rw [List.countP_cons_of_pos (by simpa using h)] at room ⊢
      have counted : (placeAsset kept s x).store.counters.mountDiscard = s.store.counters.mountDiscard + 1 := by
        rw [placeAsset_discarded h]
        exact Nat.min_eq_left (Nat.le_trans (by omega) room)
      rw [ih _ (by rw [counted]; omega), counted]
      omega

/-! ### The mount's end (R160) -/

/-- The blocks of the current records. -/
def keptBlocks (m : Mount) : List (Fin 256) := (currentRecords m).flatMap (·.blocks)

/-- The state that the mount's end makes, before the flag and the profile. -/
def mounted (s : State) : State :=
  { placeAssets (keptBlocks s.store.mount) s.store.mount.blocks s with
    store.state := .ready, store.directory := currentRecords s.store.mount, store.cursor := 0, store.mount := .reset }

theorem mountEnd_eq (s : State) : mountEnd s = profileStart (raiseFlag .storeMounted (mounted s)) := rfl

theorem mountEnd_raised (s : State) : (mountEnd s).raised .storeMounted = true :=
  raised_of_attention (by simp [mountEnd_eq]) (raiseFlag_raised .storeMounted (mounted s))

theorem mounted_eq (s : State) : mounted s = { s with
    store.state := .ready, store.cursor := 0, store.mount := .reset, store.directory := (mounted s).store.directory,
    store.sets := (mounted s).store.sets, store.eraseList := (mounted s).store.eraseList,
    store.counters.mountDiscard := (mounted s).store.counters.mountDiscard } := by
  have placed := placeAssets_eq (keptBlocks s.store.mount) s.store.mount.blocks s
  unfold mounted
  generalize placeAssets (keptBlocks s.store.mount) s.store.mount.blocks s = t at placed
  rw [placed]

theorem mem_keptBlocks : c ∈ keptBlocks m ↔ ∃ r ∈ currentRecords m, c ∈ r.blocks := List.mem_flatMap

theorem mem_mounted_directory : r ∈ (mounted s).store.directory ↔ ∃ x ∈ s.store.mount.blocks,
    RecordOf s.store.mount x r ∧
    ∀ y ∈ s.store.mount.blocks, ∀ q, RecordOf s.store.mount y q → q.id = r.id → q.generation ≤ r.generation := by
  refine mem_currentRecords.trans ?_
  simp only [mem_completeRecords]
  constructor
  · rintro ⟨⟨x, hx, record⟩, highest⟩
    exact ⟨x, hx, record, fun y hy q made => highest q ⟨y, hy, made⟩⟩
  · rintro ⟨x, hx, record, highest⟩
    exact ⟨⟨x, hx, record⟩, fun q ⟨y, hy, made⟩ => highest y hy q made⟩

/-- An asset block is current when a record of the directory holds it, and in the erase list when none does. -/
theorem mounted_asset (hx : x ∈ s.store.mount.blocks) :
    (mounted s).blockSet x.block = if x.block ∈ keptBlocks s.store.mount then .current else .eraseList :=
  (placeAssets_blockSet s x.block).trans (if_pos ⟨x, hx, rfl⟩)

theorem mem_mounted_eraseList : c ∈ (mounted s).store.eraseList ↔
    c ∈ s.store.eraseList ∨ ((∃ x ∈ s.store.mount.blocks, x.block = c) ∧ c ∉ keptBlocks s.store.mount) :=
  mem_placeAssets_eraseList s

theorem mounted_other (other : ∀ x ∈ s.store.mount.blocks, x.block ≠ c) :
    (mounted s).blockSet c = s.blockSet c ∧ (c ∈ (mounted s).store.eraseList ↔ c ∈ s.store.eraseList) := by
  have none : ¬ ∃ x ∈ s.store.mount.blocks, x.block = c := fun ⟨x, hx, same⟩ => other x hx same
  refine ⟨(placeAssets_blockSet s c).trans (if_neg none), mem_mounted_eraseList.trans ?_⟩
  exact or_iff_left fun asset => none asset.1

theorem mounted_mountDiscard (s : State) :
    let discarded := s.store.mount.blocks.countP fun x => decide ((mounted s).blockSet x.block = .eraseList)
    s.store.counters.mountDiscard + discarded ≤ 4294967295 →
    (mounted s).store.counters.mountDiscard = s.store.counters.mountDiscard + discarded := by
  have same : (s.store.mount.blocks.countP fun x => decide ((mounted s).blockSet x.block = .eraseList)) =
      s.store.mount.blocks.countP fun x => decide (x.block ∉ keptBlocks s.store.mount) :=
    List.countP_congr fun x hx => by
      rw [mounted_asset hx]
      by_cases h : x.block ∈ keptBlocks s.store.mount <;> simp [h]
  dsimp only
  rw [same]
  exact placeAssets_mountDiscard s

/-! ### O43 -/

theorem whole_iff {g : List MountBlock} : Whole g x ↔
    (∀ y ∈ g, y.header.kind = x.header.kind ∧ y.header.blockCount = x.header.blockCount ∧
      y.header.length = x.header.length) ∧
    g.length = x.header.blockCount ∧ ∀ i, i < x.header.blockCount → ∃ y ∈ g, y.header.sequence = i :=
  ⟨fun ⟨agree, count, each⟩ => ⟨agree, count, each⟩, fun ⟨agree, count, each⟩ => ⟨agree, count, each⟩⟩

theorem recordOf_iff : RecordOf m x r ↔ Whole (groupOf m.blocks x) x ∧ r.id = x.header.assetId ∧
    assetKind? x.header.kind = some r.kind ∧ r.generation = x.header.generation ∧ r.length = x.header.length ∧
    r.pins = 0 ∧ r.blocks.length = x.header.blockCount ∧
    (∀ y ∈ groupOf m.blocks x, r.blocks[y.header.sequence]? = some y.block) ∧
    ∃ y ∈ groupOf m.blocks x, y.Last ∧ some r.crc = m.commitOf y :=
  ⟨fun ⟨whole, id, kind, generation, length, pins, count, blocks, crc⟩ =>
    ⟨whole, id, kind, generation, length, pins, count, blocks, crc⟩,
   fun ⟨whole, id, kind, generation, length, pins, count, blocks, crc⟩ =>
    ⟨whole, id, kind, generation, length, pins, count, blocks, crc⟩⟩

/-- Settles O43: a read's completion by its kind of reader, a header read by the classification of its page, and the mount's
end by the whole and the complete groups of the blocks found. -/
theorem pageReadsAreHandedOn : Obligations.PageReadsAreHandedOn := by
  unfold Obligations.PageReadsAreHandedOn
  intro s failed b page token v content
  refine ⟨fun none => congrArg Host.Outcome.next (readCompletes_none none failed), fun r reading => ⟨?_, ?_⟩,
    fun stale => voicePageRead_stale stale _, fun stale => glyphPageRead_unawaited stale _,
    fun stale => profilePageRead_unawaited stale _, ?_, ?_, fun one p => Voice.awaits_iff _ token one p,
    ⟨?_, fun x found => ⟨?_, ?_, fun h factory good header => ⟨?_, ?_⟩⟩⟩, headerValid_iff, ?_, ?_, ?_⟩
  · rintro rfl
    exact congrArg Host.Outcome.next (readCompletes_failed reading)
  · rintro rfl
    exact congrArg Host.Outcome.next (readCompletes_read reading)
  · rintro one p x own rfl
    exact voicePageRead_page own x.main
  · rintro one p own rfl
    exact voicePageRead_failed own
  · rintro rfl
    exact placeHeader_discarded rfl s
  · rintro marked
    exact found ▸ placeHeader_bad marked
  · rintro factory good blank
    exact found ▸ placeHeader_free factory good blank
  · intro invalid
    exact placeHeader_discarded (found ▸ (classify_header factory good header).trans (if_neg (by simp [invalid]))) s
  · intro valid
    rw [found, placeHeader_asset factory good header valid]
    exact ⟨rfl, rfl, rfl⟩
  · exact ⟨headerRead_more b content, fun last => (headerRead_last b content last).1,
      fun last => (headerRead_last b content last).2⟩
  · have effect := commitRead_eq b content s
    exact ⟨fun more => effect.trans (if_neg (by omega)), fun last => effect.trans (if_pos (by omega))⟩
  · refine ⟨fun r => ?_, commitReads_nodup, mountEnd_raised s, mounted s, mountEnd_eq s, mounted_eq s, fun r => ?_,
      currentRecords_nodup _, fun x hx => ⟨fun held => ?_, fun unheld => ?_⟩, fun c => mounted_other,
      placeAssets_sorted _, mounted_mountDiscard s⟩
    · simp only [mem_commitReads, whole_iff]
      rfl
    · simp only [mem_mounted_directory, recordOf_iff, whole_iff]
      rfl
    · have kept := mem_keptBlocks.mpr held
      exact ⟨(mounted_asset hx).trans (if_pos kept), mem_mounted_eraseList.trans (or_iff_left fun lost => lost.2 kept)⟩
    · have lost : x.block ∉ keptBlocks s.store.mount := fun kept =>
        (mem_keptBlocks.mp kept).elim fun r ⟨listed, holds⟩ => unheld r listed holds
      exact ⟨(mounted_asset hx).trans (if_neg lost), mem_mounted_eraseList.mpr (.inr ⟨⟨x, hx, rfl⟩, lost⟩)⟩

end Sys2Proof.Machine
end

section
/-! The bounds of the control FIFO and of the uplink queue (R180, R186), and what the Chime Engine leaves of them. -/

namespace Sys2Proof.Machine

variable {s t : State} {v : Fin 4} {e : QueueEntry}

theorem queuesBounded_iff : QueuesBounded s ↔ s.control.fifo.length ≤ 8 ∧ s.uplink.queue.length ≤ 16 := Iff.rfl

namespace QueuesBounded

variable (bounded : QueuesBounded s)
include bounded

/-- The bounds look at two queues alone. -/
theorem of_queues (fifo : t.control.fifo = s.control.fifo) (queue : t.uplink.queue = s.uplink.queue) :
    QueuesBounded t := by
  rw [queuesBounded_iff, fifo, queue]
  exact bounded

/-- What leaves the interpreter and the uplink's packets as they are keeps the bounds. -/
theorem of_kept (kept : t.control = s.control ∧ t.uplink = s.uplink) : QueuesBounded t :=
  bounded.of_queues (by rw [kept.1]) (by rw [kept.2])

/-- What leaves the interpreter as it is, and no more than 16 packets in the uplink queue. -/
theorem of_control (control : t.control = s.control) (room : t.uplink.queue.length ≤ 16) : QueuesBounded t := by
  obtain ⟨fifo, -⟩ := bounded
  rw [queuesBounded_iff, control]
  exact ⟨fifo, room⟩

/-! ### Packets handed over (R180, R191) -/

theorem handNotice (b : UplinkBody) : QueuesBounded (handNotice b s) :=
  bounded.of_control (by simp) (handNotice_queue_le b bounded.2)

theorem handReply (p : UplinkPacket) : QueuesBounded (handReply p s) :=
  bounded.of_control (by simp) (handReply_queue_le p bounded.2)

theorem raiseFlag (f : Flag) : QueuesBounded (raiseFlag f s) :=
  bounded.of_control (by simp) (raiseFlag_queue_le f bounded.2)

/-! ### Silencing and dispatch (R138 to R143) -/

theorem chimeDropped : QueuesBounded (chimeDropped s) := by
  have counted : QueuesBounded (countChime (fun c => { c with dropped := bump c.dropped }) s) := bounded
  exact counted.raiseFlag .chimeDropped

theorem dropVoice (v : Fin 4) : QueuesBounded (dropVoice v s) := by
  have gone : QueuesBounded (proximityVoiceGone (s.voice v) (endVoice v s)) := bounded.of_kept (by simp)
  unfold Machine.dropVoice
  dsimp only
  split
  · exact gone.raiseFlag _
  · exact gone.chimeDropped

theorem silenceVoice (v : Fin 4) : QueuesBounded (silenceVoice v s) := by
  have dropped := bounded.dropVoice v
  by_cases returns : (s.voice v).returns
  · cases queued : (endVoice v s).queued? (s.voice v).id with
    | some x =>
      rw [silenceVoice_merged returns queued]
      dsimp only
      split <;> exact bounded.of_kept (by simp)
    | none =>
      by_cases room : (endVoice v s).chime.queue.length < 8
      · rw [silenceVoice_queued returns queued room]
        dsimp only
        split <;> exact bounded.of_kept (by simp)
      · rwa [silenceVoice_refused returns queued (Nat.le_of_not_lt room)]
  · rwa [silenceVoice_dropped returns]

omit bounded in
theorem dispatchLaw : DispatchLaw QueuesBounded (fun _ => True) where
  entries _ _ _ := trivial
  silenced bounded _ := bounded.silenceVoice _
  shorter _ bounded := bounded
  purged bounded _ := bounded.of_kept (by simp)
  counted _ bounded := bounded
  begun bounded _ := bounded.of_kept (by simp)

theorem dispatch : QueuesBounded (dispatch s) := dispatchLaw.dispatch bounded

theorem dispatchAfter (before : State) : QueuesBounded (dispatchAfter before s) := dispatchLaw.dispatchAfter before bounded

theorem enqueue (taken : enqueue e s = some t) : QueuesBounded t := by
  have joined : ∀ {u}, QueuesBounded u → QueuesBounded (joinQueue e u) := fun hu => by
    unfold joinQueue
    split <;> exact hu.of_kept (by simp)
  unfold Machine.enqueue at taken
  dsimp only at taken
  split at taken
  · cases taken
    exact joined bounded
  split at taken
  · cases taken
  next l _ =>
    split at taken
    · cases taken
      have shorter : QueuesBounded (removeEntry l s) := bounded.of_kept (by simp)
      exact joined shorter.chimeDropped
    · cases taken

/-! ### Requests (R136, R137) -/

theorem settleRequest (i : Fin 32) (z : ZoneSet) (c : ChimeEntry) (near : Bool) :
    QueuesBounded (settleRequest i z c near s).2 := by
  have numbered : QueuesBounded (arrivalTaken s) := bounded
  by_cases covered : uncovered i z s = .empty
  · rw [settleRequest_absorbed covered]
    exact numbered
  by_cases queued : ∃ x ∈ s.chime.queue, x.id = i
  · have widened : QueuesBounded (countMerged
      (setQueue (widenEntry i (uncovered i z s) s.chime.queue) (arrivalTaken s))) := numbered
    rw [settleRequest_merged covered queued]
    exact widened.dispatch
  have alone : ∀ x ∈ s.chime.queue, x.id ≠ i := fun x mem same => queued ⟨x, mem, same⟩
  cases passes : startTest (requestEntry i z c near s) (arrivalTaken s) with
  | true =>
    rw [settleRequest_started covered alone passes]
    dsimp only
    exact (dispatchLaw.startEntry numbered trivial).dispatch
  | false =>
    cases taken : Machine.enqueue (requestEntry i z c near s) (arrivalTaken s) with
    | some u =>
      rw [settleRequest_queued covered alone passes taken]
      dsimp only
      exact (numbered.enqueue taken).dispatch
    | none =>
      rw [settleRequest_refused covered alone passes taken]
      dsimp only
      exact numbered.dispatch

theorem internalRequest (i : Fin 32) (z : Option ZoneSet) (near : Bool) : QueuesBounded (internalRequest i z near s) := by
  unfold Machine.internalRequest
  split
  · exact bounded
  next c _ =>
    split
    · exact bounded
    split
    · exact bounded
    · have settled := bounded.settleRequest i (z.getD c.zones) c near
      split <;> rename_i request <;> rw [request] at settled <;> exact settled

theorem requestById (id : Nat) (z : Option ZoneSet) : QueuesBounded (requestById id z s) := by
  unfold Machine.requestById
  split
  · exact bounded
  · exact bounded.internalRequest _ _ _

theorem chimePlay (id mask : Nat) : QueuesBounded (chimePlay id mask s).state := by
  unfold Machine.chimePlay
  split
  next i m _ _ =>
    split
    · exact bounded
    next c _ =>
      dsimp only
      generalize (if m.isEmpty = true then c.zones else m.inter c.zones) = z
      have settled := bounded.settleRequest i z c false
      split
      · exact bounded
      split
      · exact bounded
      split
      · exact bounded
      · split <;> rename_i request <;> rw [request] at settled <;> exact settled
  · exact bounded

/-! ### The stop of a chime and the proximity function (R146 to R150) -/

theorem chimeStop (id : Nat) : QueuesBounded (chimeStop id s).state := by
  by_cases known : id ≤ 31 ∨ id = 255
  · rw [chimeStop_known known]
    have stopped : QueuesBounded (stopChimes (stopNames id) s) := bounded
    exact stopped.dispatchAfter s
  · rw [chimeStop_unknown (by omega) (by omega)]
    exact bounded

theorem proximityStop : QueuesBounded (proximityStop s) := by
  have shorter : QueuesBounded (setQueue (s.chime.queue.filter fun e => !e.proximity) s) := bounded
  have ended := List.foldlRecOn (List.finRange 4) endMarked shorter fun u hu v _ => by
    unfold endMarked
    split
    · exact hu.of_kept (by simp)
    · exact hu
  rw [proximityStop_eq]
  generalize (List.finRange 4).foldl endMarked _ = u at ended ⊢
  have off : QueuesBounded (setProximity .off u) := ended
  exact off.dispatchAfter s

theorem proximityRequest : QueuesBounded (proximityRequest s) := by
  have quiet : QueuesBounded (setProximity .quiet s) := bounded
  unfold Machine.proximityRequest
  split
  · exact quiet.internalRequest _ _ _
  · exact quiet

theorem proximityEvaluate : QueuesBounded (proximityEvaluate s) := by
  unfold Machine.proximityEvaluate
  split
  · split
    · exact bounded.proximityRequest
    · exact bounded
  · split
    · exact bounded
    · exact bounded.proximityStop

theorem markTailing (on : Bool) : QueuesBounded (markTailing on s) := by
  refine dispatchAfter (List.foldlRecOn _ _ bounded fun u hu v _ => ?_) s
  dsimp only
  split
  · split <;> exact hu.of_kept (by simp)
  · exact hu

theorem proximityPacket : QueuesBounded (proximityPacket s) := by
  unfold Machine.proximityPacket
  split
  · exact bounded.proximityRequest
  · have shorter : QueuesBounded (setProximity .quiet (setQueue (s.chime.queue.filter fun e => !e.proximity) s)) := bounded
    exact shorter.dispatch
  · exact markTailing (s := setProximity .tailing s) bounded true
  · exact markTailing (s := setProximity .sounding s) bounded false
  · exact bounded

theorem proximitySet (id : Nat) (bands : List ProximityBand) : QueuesBounded (proximitySet id bands s).state := by
  by_cases valid : proximityInRange id bands
  · rw [proximitySet_valid valid]
    have stopped := bounded.proximityStop
    generalize Machine.proximityStop s = u at stopped ⊢
    have settings : QueuesBounded { u with chime.proximityId := fin? 32 id, chime.proximityBands := bands } := stopped
    exact settings.proximityEvaluate
  · rw [proximitySet_invalid valid]
    exact bounded

/-! ### Playback (R139, R143 to R145) -/

theorem finishVoice (v : Fin 4) : QueuesBounded (finishVoice v s) := by
  rw [finishVoice_eq]
  exact dispatch (bounded.of_kept (by simp))

theorem enterGap (v : Fin 4) (n : Nat) : QueuesBounded (enterGap v n s) := by
  unfold Machine.enterGap
  dsimp only
  split <;> exact bounded.of_kept (by simp)

theorem endPlay (v : Fin 4) : QueuesBounded (endPlay v s) := by
  unfold Machine.endPlay
  dsimp only
  split
  · exact bounded.finishVoice v
  split
  · exact bounded.enterGap v _
  split
  · exact bounded.finishVoice v
  · exact bounded.enterGap v _

theorem playSample (v : Fin 4) (run : BlockRun) : QueuesBounded (playSample v run s).2 := by
  unfold Machine.playSample
  dsimp only
  split
  · exact bounded
  split
  · exact bounded
  · dsimp only
    split <;> exact bounded.of_kept (by simp)

theorem playSamples (v : Fin 4) (n : Nat) (run : BlockRun) : QueuesBounded (playSamples v n run s).2 := by
  induction n generalizing run s with
  | zero => exact bounded
  | succ n ih => exact ih (bounded.playSample v run) _

theorem playBlock (v : Fin 4) : QueuesBounded (playBlock v s) := by
  have played := bounded.playSamples v 48 { samples := [], short := false, ended := false }
  generalize made : Machine.playSamples v 48 { samples := [], short := false, ended := false } s = block at played
  rw [playBlock_eq made]
  split
  · refine endPlay ?_ v
    split <;> exact played.of_kept (by simp)
  · split <;> exact played.of_kept (by simp)

theorem voiceBlock (v : Fin 4) : QueuesBounded (voiceBlock v s) := by
  unfold Machine.voiceBlock
  dsimp only
  split
  · exact bounded
  · split
    · exact bounded.finishVoice v
    · exact bounded.of_kept (by simp)
  · split
    · exact bounded.finishVoice v
    · exact bounded.of_kept (by simp)
  · split
    · exact bounded.finishVoice v
    · exact bounded.playBlock v

theorem gapExpires (v : Fin 4) : QueuesBounded (gapExpires v s) := by
  unfold Machine.gapExpires
  dsimp only
  split
  · exact bounded.of_kept (by simp)
  · exact bounded

theorem voicePageRead (v : Fin 4) (token : Nat) (content : Option (List Byte)) :
    QueuesBounded (voicePageRead v token content s) := by
  unfold Machine.voicePageRead
  dsimp only
  split
  · exact bounded
  split
  · exact finishVoice (s := countChime _ s) bounded v
  · exact bounded.of_kept (by simp)

theorem chimeDefine (id option : Nat) (p : Option ChimeParams) : QueuesBounded (chimeDefine id option p s).state := by
  unfold Machine.chimeDefine
  split
  · exact bounded
  split
  · exact bounded
  split
  · split <;> exact bounded
  split
  · split
    · exact bounded
    · split <;> exact bounded
  · exact bounded

end QueuesBounded
end Sys2Proof.Machine
end

section
/-! The takeover, the vehicle, links, packets, zones and keys keep the bounds of the queues (R1 to R24, R54 to R61, R111 to
R130, R174 to R181). -/

namespace Sys2Proof.Machine
namespace QueuesBounded

variable {s t : State} (bounded : QueuesBounded s)
include bounded

/-! ### Links and panels (R72, R174, R181, R197) -/

theorem panelOff (p : Panel) : QueuesBounded (panelOff p s) := by
  have released : QueuesBounded (releaseReaders p (s.setPanel p { s.panel p with
    power := .off, transition := .none, blankEnded := 0, outBacklight := 0, frame := none })) := bounded.of_kept (by simp)
  exact released.raiseFlag _

/-- A soft reset that takes effect empties the FIFO. -/
theorem softResetBegins : QueuesBounded (softResetBegins s) := ⟨Nat.zero_le 8, bounded.2⟩

theorem waitingLeft : QueuesBounded (waitingLeft s) := by
  unfold Machine.waitingLeft
  split
  · exact bounded.softResetBegins
  · exact bounded

theorem emptyUplink : QueuesBounded (emptyUplink s) := by
  have emptied : ∀ r, QueuesBounded { s with uplink := .reset, links.uplink := r } := fun r => ⟨bounded.1, Nat.zero_le 16⟩
  unfold Machine.emptyUplink
  dsimp only
  split
  · exact (emptied _).waitingLeft
  · exact emptied _

theorem leavingEffects (l : Link) : QueuesBounded (leavingEffects l s) := by
  have abandoned : ∀ rx, QueuesBounded (abandonLink rx s) := fun rx => bounded.of_kept (by simp)
  cases l with
  | downlink => exact (abandoned .downlink).raiseFlag _
  | uplink => exact bounded.emptyUplink.raiseFlag _
  | camera => exact (abandoned .camera).raiseFlag _
  | front => exact bounded.panelOff .front
  | left => exact bounded.panelOff .left
  | right => exact bounded.panelOff .right

theorem setLink (l : Link) (r : LinkRecord) : QueuesBounded (s.setLink l r) := bounded.of_kept (by simp)

theorem putDown (l : Link) : QueuesBounded (putDown l s) := by
  unfold Machine.putDown
  dsimp only
  split
  · exact (bounded.setLink l _).leavingEffects l
  · exact bounded.setLink l _

/-! ### The camera view (R14 to R19) -/

theorem lostAsked (cause : LostCause) : QueuesBounded (lostAsked cause s) := by
  have lost : QueuesBounded { s with takeover := s.takeover.lost cause } := bounded
  exact (lost.raiseFlag .cameraView).of_kept (t := Machine.lostAsked cause s) (by simp [Machine.lostAsked])

theorem enterLost (cause : LostCause) : QueuesBounded (enterLost cause s) := by
  cases retrains : s.takeover.settings.retrain with
  | false => exact enterLost_plain retrains ▸ bounded.lostAsked cause
  | true => exact enterLost_retrain retrains ▸ (bounded.lostAsked cause).putDown .camera

theorem restartWatchdog : QueuesBounded (restartWatchdog s) := bounded

theorem enterFrozen : QueuesBounded (enterFrozen s) := by
  have frozen : QueuesBounded { s with takeover.view := .frozen, takeover.repeats := 3, takeover.rejoins := 0 } := bounded
  exact (frozen.restartWatchdog.raiseFlag .cameraView).of_kept (t := Machine.enterFrozen s) (by simp [Machine.enterFrozen])

theorem rejoinLive : QueuesBounded (rejoinLive s) := by
  have live : QueuesBounded { s with takeover.view := .live, takeover.cause := .none, takeover.repeats := 0, takeover.rejoins := 0 } :=
    bounded
  exact (live.restartWatchdog.raiseFlag .cameraView).of_kept (t := Machine.rejoinLive s) (by simp [Machine.rejoinLive])

theorem countRejoin (isRepeat : Bool) : QueuesBounded (countRejoin isRepeat s) := by
  unfold Machine.countRejoin
  split
  · exact bounded
  split
  · exact bounded
  · exact bounded.rejoinLive

theorem countRepeat (isRepeat : Bool) : QueuesBounded (countRepeat isRepeat s) := by
  unfold Machine.countRepeat
  split
  · exact bounded
  split
  · exact bounded
  · exact bounded.enterFrozen

theorem goodFrame (n : Nat) : QueuesBounded (goodFrame n s) := by
  have noted : QueuesBounded { s with takeover.lastGood := some n } := bounded
  unfold Machine.goodFrame
  dsimp only
  split
  · exact noted.of_kept (by simp [firstLive])
  · exact noted.countRepeat _
  · exact noted.countRejoin _
  · exact noted.restartWatchdog.countRejoin _

theorem startExpires : QueuesBounded (startExpires s) := by
  unfold Machine.startExpires
  split
  · exact bounded.enterLost _
  · exact bounded

theorem watchdogExpires : QueuesBounded (watchdogExpires s) := by
  unfold Machine.watchdogExpires
  split
  · split
    · exact bounded.enterLost _
    · exact bounded.enterLost _
    · exact bounded
    · exact bounded
  · exact bounded

theorem viewLinkDown : QueuesBounded (viewLinkDown s) := by
  unfold Machine.viewLinkDown
  split
  · exact bounded
  split
  · exact bounded.enterLost _
  · exact bounded.enterLost _
  · exact bounded
  · exact bounded

theorem linkDrops (l : Link) : QueuesBounded (linkDrops l s) := by
  have down := bounded.putDown l
  unfold Machine.linkDrops
  dsimp only
  split
  · split
    · exact down.viewLinkDown
    · exact down
  · exact down

theorem lossOfLock (l : Link) : QueuesBounded (lossOfLock l s) := by
  unfold Machine.lossOfLock
  split
  · exact bounded.linkDrops l
  · exact bounded

theorem reachUp (l : Link) : QueuesBounded (reachUp l s) := by
  unfold Machine.reachUp
  split
  · exact bounded.of_kept (by cases l <;> simp [reachingEffects])
  · exact bounded

/-! ### The phase (R9 to R13) -/

theorem engage : QueuesBounded (engage s) := by
  have begun : QueuesBounded (beginEngagement s) := bounded
  have asked := begun.requestById s.takeover.settings.engageChime none
  have ducked : QueuesBounded (duckedEngagement s) := by
    unfold duckedEngagement
    dsimp only
    split
    · exact asked.of_kept (by simp)
    · exact asked
  rw [engage_eq]
  exact (ducked.of_kept (t := requestRenders [.takeover] (wakeEffect .front (duckedEngagement s))) (by simp)).raiseFlag _

theorem exitTakeover : QueuesBounded (exitTakeover s) := by
  have left : QueuesBounded (leaveEngagement s) := bounded
  rw [exitTakeover_eq]
  exact (left.of_kept (t := frontToRequested (withdrawTakeoverDemand (leaveEngagement s))) (by simp)).raiseFlag _

theorem enterLinger : QueuesBounded (enterLinger s) := by
  have lingers : QueuesBounded { s with takeover.phase := .linger, takeover.lingerTimer := some s.takeover.settings.linger } :=
    bounded
  unfold Machine.enterLinger
  dsimp only
  split
  · exact lingers.exitTakeover
  · exact lingers

theorem takeoverReverse (asserted : Bool) : QueuesBounded (takeoverReverse asserted s) := by
  unfold Machine.takeoverReverse
  split
  · exact bounded.engage
  · exact bounded
  · exact bounded
  · exact bounded.enterLinger
  · exact bounded
  · exact bounded

theorem lingerExpires : QueuesBounded (lingerExpires s) := by
  unfold Machine.lingerExpires
  split
  · exact bounded.exitTakeover
  · exact bounded

theorem exitSpeedTest : QueuesBounded (exitSpeedTest s) := by
  unfold Machine.exitSpeedTest
  split
  · exact bounded.exitTakeover
  · exact bounded

theorem takeoverDismiss : QueuesBounded (takeoverDismiss s).state := by
  unfold Machine.takeoverDismiss
  split
  · exact bounded.exitTakeover
  · exact bounded
  · exact bounded

/-! ### The vehicle (R1 to R7, R170) -/

theorem failTransaction (cause : FailCause) : QueuesBounded (failTransaction cause s) := by
  have failed : ∀ op q x, QueuesBounded (joinErase s.store.transaction.reserved
    { s with store.op := op, store.txQueue := q, store.transaction := x }) := fun _ _ _ => bounded.of_kept (by simp)
  unfold Machine.failTransaction
  dsimp only
  split
  · exact failed _ _ _
  · exact (failed _ _ _).raiseFlag _

theorem abortOperation (cause : FailCause) : QueuesBounded (abortOperation cause s) := by
  have counted : QueuesBounded { s with store.aborting := true, store.counters.opAborted := bump s.store.counters.opAborted } :=
    bounded
  unfold Machine.abortOperation
  dsimp only
  split
  · exact bounded
  split
  · split
    · exact counted.failTransaction cause
    · exact counted
  · exact bounded
  · exact counted
  · exact bounded
  · exact bounded

theorem supplyChanges (old : Supply) : QueuesBounded (supplyChanges old s) := by
  unfold Machine.supplyChanges
  split
  · exact bounded.abortOperation _
  split
  · exact bounded.of_kept (by simp)
  · exact bounded

theorem evaluateReverse : QueuesBounded (evaluateReverse s) := by
  have noted : QueuesBounded { s with vehicle.reverseAsserted := s.vehicle.reversing } := bounded
  unfold Machine.evaluateReverse
  dsimp only
  split
  · exact bounded
  · exact (noted.takeoverReverse _).proximityEvaluate

theorem updateMismatch : QueuesBounded (updateMismatch s) := bounded.of_kept (by simp)

theorem mismatchExpires : QueuesBounded (mismatchExpires s) := by
  have reported : QueuesBounded { s with vehicle.mismatch := .reported, vehicle.mismatchTimer := none } := bounded
  unfold Machine.mismatchExpires
  split
  · exact reported.raiseFlag _
  · exact bounded

theorem recordStales : QueuesBounded (recordStales s) := by
  have stale : ∀ age, QueuesBounded { s with vehicle.fresh := false, vehicle.age := age } := fun _ => bounded
  unfold Machine.recordStales
  dsimp only
  split
  · exact ((stale _).raiseFlag _).evaluateReverse.updateMismatch.proximityEvaluate
  · exact bounded

theorem debounceExpires : QueuesBounded (debounceExpires s) := by
  have settled : QueuesBounded { s with vehicle.debounced := s.vehicle.pinRaw, vehicle.debounceTimer := none } := bounded
  unfold Machine.debounceExpires
  split
  · exact settled.evaluateReverse.updateMismatch
  · exact bounded

theorem pinChanges (level : Bool) : QueuesBounded (pinChanges level s) := by
  unfold Machine.pinChanges
  split <;> exact bounded

theorem vehicleReport (payload : List Byte) : QueuesBounded (vehicleReport payload s) := by
  have reported : QueuesBounded { s with vehicle := s.vehicle.withReport payload } := bounded
  have tested := (reported.supplyChanges s.vehicle.supply).evaluateReverse.updateMismatch.exitSpeedTest
  unfold Machine.vehicleReport
  dsimp only
  split
  · exact tested.proximityPacket
  · exact tested.proximityEvaluate

theorem vehicleArrives (p : Packet) : QueuesBounded (vehicleArrives p s) := by
  unfold Machine.vehicleArrives
  split
  · exact bounded
  split
  · exact bounded
  · exact bounded.vehicleReport _

theorem takeoverSet (p : TakeoverSetParams) : QueuesBounded (takeoverSet p s).state := by
  cases hp : takeoverSettings? p with
  | none => rwa [takeoverSet_invalid hp]
  | some t =>
    have settings : QueuesBounded { s with takeover.settings := t } := bounded
    have aged : QueuesBounded (if s.vehicle.fresh = true ∧ t.freshness ≤ s.vehicle.age
        then Machine.recordStales { s with takeover.settings := t } else { s with takeover.settings := t }) := by
      split
      · exact settings.recordStales
      · exact settings
    simp only [Machine.takeoverSet, hp, done]
    split
    · exact aged
    split
    · exact aged.debounceExpires
    · exact aged

/-! ### Packets (R54 to R61, R175, R176, R186) -/

theorem admitVideo {work : Fin 32 → VideoDescriptor → State → State} (rx : VideoRx) (p : Packet)
    (works : ∀ t d, QueuesBounded (work t d s)) : QueuesBounded (admitVideo rx p work s) := by
  unfold Machine.admitVideo
  split
  · exact bounded.of_kept (by simp)
  · exact works _ _
  · exact bounded

theorem frameArrives (rx : VideoRx) (p : Packet) : QueuesBounded (frameArrives rx p s) := by
  refine bounded.admitVideo rx p fun t d => ?_
  have begun : QueuesBounded (beginFrame t rx p.a d s) := bounded.of_kept (by simp)
  dsimp only
  split
  · unfold guideFrame
    split
    · exact begun
    · exact begun.of_kept (by simp [computeGuide])
  · exact begun

theorem videoLine (rx : VideoRx) (p : Packet) : QueuesBounded (videoLine rx p s) :=
  bounded.admitVideo rx p fun t _ => bounded.of_kept (by simp)

theorem fendArrives (rx : VideoRx) (p : Packet) : QueuesBounded (fendArrives rx p s) := by
  refine bounded.admitVideo rx p fun t _ => ?_
  have ended : QueuesBounded (endFrame t rx p.a s) := bounded.of_kept (by simp)
  dsimp only
  split
  · exact ended.goodFrame _
  · exact ended

theorem soundArrives (p : Packet) : QueuesBounded (soundArrives p s) := by
  unfold Machine.soundArrives
  split
  · exact bounded.of_kept (by simp)
  · exact bounded.of_kept (by simp)
  · exact bounded

/-- A CTRL packet enters the FIFO only while it holds fewer than 8. -/
theorem controlArrives (p : Packet) : QueuesBounded (controlArrives p s) := by
  obtain ⟨fifo, queue⟩ := queuesBounded_iff.mp bounded
  unfold Machine.controlArrives Config.controlFifoPackets
  split
  next room => exact queuesBounded_iff.mpr ⟨by simpa using room, queue⟩
  next => exact bounded

theorem lineWritten {rx : VideoRx} (written : lineWritten rx s = .ok t) : QueuesBounded t := by
  unfold Machine.lineWritten at written
  split at written
  · cases written
    exact bounded
  split at written
  · cases written
    exact bounded.of_kept (by simp [writeStaged])
  · cases written

theorem receive {work : Packet → State → State} (works : ∀ p u, QueuesBounded u → QueuesBounded (work p u)) (l : Link)
    (k : PacketKind) (bytes : List Byte) : QueuesBounded (receive l k bytes work s) := by
  unfold Machine.receive
  split
  · exact bounded
  next p _ =>
    refine works p _ ?_
    unfold countPayload
    split
    · exact bounded
    · exact bounded.setLink l _

theorem endFlag (l : Link) : QueuesBounded (endFlag l s) := by
  unfold Machine.endFlag
  dsimp only
  split
  · exact bounded
  split
  · exact bounded.setLink l _
  · exact bounded.setLink l _
  · exact bounded
  · exact bounded

theorem overlong (l : Link) : QueuesBounded (overlong l s) := by
  unfold Machine.overlong
  dsimp only
  split
  · exact bounded.setLink l _
  · exact bounded

theorem discardPacket (l : Link) (bytes : List Byte) : QueuesBounded (discardPacket l bytes s) := by
  unfold Machine.discardPacket
  split
  · split
    · exact bounded
    · exact bounded.setLink l _
  · exact bounded

/-! ### Zones (R118, R126) -/

theorem holdExpires (z : Zone) : QueuesBounded (holdExpires z s) := by
  unfold Machine.holdExpires
  dsimp only
  split
  · exact bounded.of_kept (by simp)
  · exact bounded

theorem zoneBlock (z : Zone) : QueuesBounded (zoneBlock z s) := by
  have mixed : QueuesBounded (s.setZone z (zoneAfterBlock s z)) := bounded.of_kept (by simp)
  unfold Machine.zoneBlock
  dsimp only
  split
  · exact mixed.raiseFlag _
  · exact mixed

/-! ### Keys (R110 to R114) -/

theorem changeSeat (k : Seat) (c : SeatContext) : QueuesBounded (changeSeat k c s) :=
  bounded.of_kept (by simp [Machine.changeSeat])

theorem inactivityExpires (k : Seat) : QueuesBounded (inactivityExpires k s) := by
  unfold Machine.inactivityExpires
  split
  · exact bounded.changeSeat k _
  · exact bounded

theorem moveHighlight (k : Seat) (target : Option Nat) : QueuesBounded (moveHighlight k target s).state := by
  cases target with
  | none => exact bounded
  | some i => exact bounded.changeSeat k _

theorem popPage (k : Seat) : QueuesBounded (popPage k s) := by
  unfold Machine.popPage
  dsimp only
  split <;> exact bounded.changeSeat k _

theorem pushPage (k : Seat) (n : Fin 16) : QueuesBounded (pushPage k n s).state := by
  unfold Machine.pushPage
  dsimp only
  split
  · exact bounded
  · exact bounded.changeSeat k _

theorem volumeStep (k : Seat) (up : Bool) : QueuesBounded (volumeStep k up s).state := by
  have stepped : ∀ n, QueuesBounded (setVolume k.zone n s) := fun n => bounded.of_kept (by simp [setVolume])
  unfold Machine.volumeStep
  dsimp only
  split <;> split
  · exact bounded
  · exact stepped _
  · exact bounded
  · exact stepped _

theorem brightnessStep (k : Seat) (up : Bool) : QueuesBounded (brightnessStep k up s).state := by
  have stepped : ∀ n, QueuesBounded (setLevel k.panel n s) := fun n => bounded.of_kept (by simp)
  unfold Machine.brightnessStep
  dsimp only
  split <;> split
  · exact bounded
  · exact stepped _
  · exact bounded
  · exact stepped _

theorem performAction (k : Seat) (a : Action) : QueuesBounded (performAction k a s).state := by
  cases a with
  | subpage n => exact bounded.pushPage k n
  | report code => exact bounded.handNotice _
  | volumeUp => exact bounded.volumeStep k true
  | volumeDown => exact bounded.volumeStep k false
  | brightnessUp => exact bounded.brightnessStep k true
  | brightnessDown => exact bounded.brightnessStep k false
  | back => exact bounded.popPage k
  | close => exact bounded.changeSeat k _

theorem selectItem (k : Seat) : QueuesBounded (selectItem k s).state := by
  unfold Machine.selectItem
  split
  · exact bounded
  split
  · exact bounded.performAction k _
  · exact bounded

theorem menuKey (k : Seat) : QueuesBounded (menuKey k s).state := by
  unfold Machine.menuKey
  dsimp only
  split
  · exact bounded.changeSeat k _
  split
  · exact bounded
  · exact bounded.changeSeat k _

theorem keyEffect (k : Seat) (code : Nat) : QueuesBounded (keyEffect k code s).state := by
  unfold Machine.keyEffect
  dsimp only
  split
  · exact bounded.moveHighlight k _
  · exact bounded.moveHighlight k _
  · exact bounded.selectItem k
  · exact bounded.popPage k
  · exact bounded.menuKey k
  · exact bounded.volumeStep k true
  · exact bounded.volumeStep k false

theorem touchTimer (k : Seat) : QueuesBounded (touchTimer k s) := by
  rcases touchTimer_cases k s with ⟨-, e⟩ | ⟨-, -, e⟩ | ⟨-, -, e⟩ <;> rw [e]
  · exact bounded
  · exact bounded.of_kept (by simp)
  · exact bounded.of_kept (by simp)

theorem keyArrives (k : Seat) (code : Nat) : QueuesBounded (keyArrives k code s) := by
  unfold Machine.keyArrives
  dsimp only
  split
  · exact bounded.of_kept (by simp)
  split
  · exact bounded.of_kept (by simp)
  split
  · exact bounded
  · exact ((bounded.keyEffect k code).touchTimer k).requestById _ _

end QueuesBounded
end Sys2Proof.Machine
end

section
/-! The asset store and the start-up profile keep the bounds of the queues (R153 to R173, R193, R194). -/

namespace Sys2Proof.Machine
namespace QueuesBounded

variable {s t : State} (bounded : QueuesBounded s)
include bounded

/-! ### The profile's reading and its ends (R193, R194) -/

theorem endProfile (o : ProfileOutcome) : QueuesBounded (endProfile o s) := by
  unfold Machine.endProfile
  split
  · exact bounded
  · exact bounded.of_queues (by simp) (by simp)

theorem cutShort : QueuesBounded (cutShort s) := (bounded.endProfile .cutShort).raiseFlag _

theorem profileFetch : QueuesBounded (profileFetch s) := by
  unfold Machine.profileFetch
  split
  · exact bounded
  split
  · exact bounded
  · exact bounded.of_queues (by simp [takeToken]) (by simp [takeToken])

theorem profileStart : QueuesBounded (profileStart s) := by
  unfold Machine.profileStart
  split
  · exact bounded
  · exact profileFetch (bounded.of_queues (by simp) (by simp))

theorem profilePageRead (token : Nat) (content : Option (List Byte)) : QueuesBounded (profilePageRead token content s) := by
  unfold Machine.profilePageRead
  split
  · exact bounded
  next p _ =>
    have read : ∀ bytes, QueuesBounded { s with control.profile := some { p with
      bytes := bytes, nextPage := p.nextPage + 1, token := none } } := fun _ => bounded
    split
    · exact bounded
    split
    · exact bounded.cutShort
    · exact (read _).profileFetch

/-! ### The mount (R155, R159, R160) -/

theorem arrayReady : QueuesBounded (arrayReady s) := by
  unfold Machine.arrayReady
  split
  · exact bounded.of_kept (by simp)
  · exact bounded

theorem mountDiscard (b : Fin 256) : QueuesBounded (mountDiscard b s) := bounded

theorem placeHeader (b : Fin 256) (content : Option Page) : QueuesBounded (placeHeader b content s) := by
  unfold Machine.placeHeader
  split <;> exact bounded

theorem mountEnd : QueuesBounded (mountEnd s) := by
  have kept : QueuesBounded (mounted s) := by
    rw [mounted_eq]
    exact bounded
  rw [mountEnd_eq]
  exact (kept.raiseFlag .storeMounted).profileStart

theorem noteGeneration (content : Option Page) : QueuesBounded (noteGeneration content s) := by
  unfold Machine.noteGeneration
  split
  · split <;> exact bounded
  · exact bounded

theorem headersRead : QueuesBounded (headersRead s) := by
  unfold Machine.headersRead
  dsimp only
  split
  · exact bounded.mountEnd
  · exact bounded

theorem headerRead (b : Fin 256) (content : Option Page) : QueuesBounded (headerRead b content s) := by
  have counted : QueuesBounded { s with store.mount.headersLeft := s.store.mount.headersLeft - 1 } := bounded
  have placed := (counted.placeHeader b content).noteGeneration content
  unfold Machine.headerRead
  dsimp only
  split
  · exact placed.headersRead
  · exact placed

theorem commitRead (b : Fin 256) (content : Option Page) : QueuesBounded (commitRead b content s) := by
  have counted : ∀ cs, QueuesBounded { s with
    store.mount.commitsLeft := s.store.mount.commitsLeft - 1, store.mount.commits := cs } := fun _ => bounded
  unfold Machine.commitRead
  dsimp only
  split
  · exact (counted _).mountEnd
  · exact counted _

/-! ### Completions (R154, R157, R158, R162, R166, R167) -/

theorem finishOp : QueuesBounded (finishOp s) := bounded.of_kept (by simp)

theorem handRead (r : ReadRequest) (content : Option Page) : QueuesBounded (handRead r content s) := by
  unfold Machine.handRead
  dsimp only
  split
  · exact bounded.headerRead _ _
  · exact bounded.commitRead _ _
  · exact bounded.voicePageRead _ _ _
  · exact bounded.of_kept (by simp)
  · exact bounded.profilePageRead _ _

theorem readCompletes (failed : Bool) : QueuesBounded (readCompletes failed s) := by
  have counted : QueuesBounded { s with store.counters.readFail := bump s.store.counters.readFail } := bounded
  unfold Machine.readCompletes
  split
  · split
    · exact (counted.handRead _ _).finishOp
    · exact (bounded.handRead _ _).finishOp
  · exact bounded

theorem retirePrevious (id : Nat) : QueuesBounded (retirePrevious id s) := by
  unfold Machine.retirePrevious
  split
  · exact bounded
  split
  · exact bounded.of_kept (by simp)
  · exact bounded.of_kept (by simp)

theorem commitGeneration : QueuesBounded (commitGeneration s) := by
  have made : QueuesBounded (generationMade s) :=
    (bounded.retirePrevious s.store.transaction.id).of_kept (by simp [generationMade])
  have raised := made.raiseFlag .storeDone
  rw [commitGeneration_eq]
  exact raised.of_kept (by simp)

theorem programVerified (b : Fin 256) (page : Nat) (commit : Bool) : QueuesBounded (programVerified b page commit s) := by
  have freed : ∀ x, QueuesBounded { s with store.transaction := x } := fun _ => bounded
  unfold Machine.programVerified
  dsimp only
  split
  · exact (freed _).commitGeneration
  · exact freed _

theorem programFails (b : Fin 256) : QueuesBounded (programFails b s) := by
  have bad : ∀ x, QueuesBounded (makeBad b { s with store.transaction := x }) := fun _ => bounded.of_kept (by simp)
  exact (bad _).failTransaction .program

theorem programCompletes (verified : Option (Fin 8)) : QueuesBounded (programCompletes verified s) := by
  have stored : ∀ x, QueuesBounded { s with store := x } := fun _ => bounded
  unfold Machine.programCompletes
  split
  · exact bounded
  split
  · dsimp only
    split <;> split
    · exact ((stored _).programVerified _ _ _).finishOp
    · exact (stored _).finishOp
    · exact ((stored _).programFails _).finishOp
    · exact (stored _).finishOp
  · dsimp only
    split
    · exact (stored _).finishOp
    · exact (stored _).finishOp
  · exact bounded

theorem eraseCompletes (failedBlocks : List (Fin 256)) : QueuesBounded (eraseCompletes failedBlocks s) := by
  unfold Machine.eraseCompletes
  split
  · exact bounded
  split
  · refine finishOp (List.foldlRecOn _ _ bounded fun u hu b _ => ?_)
    dsimp only [blockErased]
    split <;> exact hu.of_kept (by simp)
  · exact bounded

theorem abortCompletes : QueuesBounded (abortCompletes s) := by
  have stored : ∀ x, QueuesBounded { s with store := x } := fun _ => bounded
  unfold Machine.abortCompletes
  split
  · exact (stored _).finishOp
  · exact bounded

/-! ### Commands to the store (R164 to R172) -/

theorem assetBegin (id kind length : Nat) : QueuesBounded (assetBegin id kind length s).state := by
  unfold Machine.assetBegin
  dsimp only [report, refuse]
  split
  · exact bounded
  split
  · exact bounded
  split
  · exact bounded
  split
  · exact bounded
  split
  · exact bounded
  · exact bounded.of_kept (by simp)

theorem fillPage (p : Nat) (bytes : List Byte) : QueuesBounded (fillPage p bytes s) := by
  unfold Machine.fillPage
  dsimp only
  split
  · exact bounded.of_kept (by simp)
  · exact bounded

theorem assetData (offset : Nat) (bytes : List Byte) : QueuesBounded (assetData offset bytes s).state := by
  have received : ∀ x, QueuesBounded { s with store.transaction := x } := fun _ => bounded
  unfold Machine.assetData
  dsimp only [refuseExpecting, report]
  split
  · exact bounded
  split
  · exact bounded
  split
  · exact bounded
  split
  · exact bounded
  split
  · exact bounded
  split
  · exact bounded
  split
  · exact bounded
  dsimp only
  split
  · exact (received _).fillPage _ _
  · exact ((received _).fillPage _ _).fillPage _ _

theorem assetEnd (crc : BitVec 32) : QueuesBounded (assetEnd crc s).state := by
  have finishing : ∀ x, QueuesBounded { s with store.transaction := x } := fun _ => bounded
  unfold Machine.assetEnd
  dsimp only [refuseExpecting]
  split
  · exact bounded
  split
  · exact bounded
  split
  · exact bounded
  split
  · exact bounded
  dsimp only
  split
  · exact (finishing _).failTransaction _
  · exact bounded.of_kept (by simp)

theorem assetDelete (id : Nat) : QueuesBounded (assetDelete id s).state := by
  unfold Machine.assetDelete
  split
  · exact bounded
  split
  · exact bounded
  split
  · exact bounded
  split
  · exact bounded
  · exact bounded.of_kept (by simp [done])

theorem assetInfo (id : Nat) : QueuesBounded (assetInfo id s).state := by
  unfold Machine.assetInfo
  split
  · exact bounded
  split
  · exact bounded
  split <;> exact bounded

theorem storeAbort : QueuesBounded (storeAbort s).state := by
  have aborted := bounded.abortOperation .abort
  unfold Machine.storeAbort
  split
  · exact bounded
  split
  · exact bounded
  dsimp only
  split
  · exact aborted.failTransaction .abort
  · exact aborted

end QueuesBounded
end Sys2Proof.Machine
end

section
/-! Every command, reset, millisecond and step keeps the bounds of the queues (R180, R186). -/

namespace Sys2Proof.Machine
namespace QueuesBounded

variable {s t : State} (bounded : QueuesBounded s)
include bounded

/-! ### Streams (R50 to R53, R63) -/

theorem emptyFifos (zs : List Zone) : QueuesBounded (zs.foldl (fun s z => emptyFifo z s) s) :=
  List.foldlRecOn _ _ bounded fun _ hu _ _ => hu.of_kept (by simp)

theorem tagSet (p : TagSetParams) : QueuesBounded (tagSet p s).state := by
  unfold Machine.tagSet
  split
  · exact bounded
  · refine emptyFifos ?_ _
    split <;> exact bounded.of_kept (by simp)

theorem tagClear (tag : Nat) : QueuesBounded (tagClear tag s).state := by
  unfold Machine.tagClear
  split
  · exact bounded
  split
  · exact bounded
  split
  · exact bounded
  · exact emptyFifos (bounded.of_kept (by simp)) _

theorem tagRead (tag : Nat) : QueuesBounded (tagRead tag s).state := by
  unfold Machine.tagRead
  split
  · exact bounded
  split <;> exact bounded

theorem ringSet (p : RingSetParams) : QueuesBounded (ringSet p s).state := by
  rcases ringSet_cases p s with e | ⟨n, -, -, -, e⟩ <;> rw [e]
  · exact bounded
  · exact bounded.of_kept (by simp)

/-! ### Panels (R71, R74, R75, R79 to R84, R91) -/

theorem panelSet (q : PanelSetParams) : QueuesBounded (panelSet q s).state := by
  unfold Machine.panelSet
  split
  · split
    · dsimp only
      split
      · exact bounded
      · dsimp only [done]
        split <;> exact bounded.of_kept (by simp)
    · exact bounded
  · exact bounded

theorem panelWake (panel : Nat) : QueuesBounded (panelWake panel s).state := by
  unfold Machine.panelWake
  split
  · exact bounded
  · exact bounded.of_kept (by simp [done])

theorem panelSleep (panel : Nat) : QueuesBounded (panelSleep panel s).state := by
  unfold Machine.panelSleep
  split
  · exact bounded
  · dsimp only [done]
    split <;> exact bounded.of_kept (by simp)

theorem panelBlank (panel : Nat) (blanked : Bool) : QueuesBounded (panelBlank panel blanked s).state := by
  unfold Machine.panelBlank
  split
  · exact bounded
  · exact bounded.of_kept (by simp [done])

theorem panelLevel (panel level : Nat) : QueuesBounded (panelLevel panel level s).state := by
  unfold Machine.panelLevel
  split
  · exact bounded
  split
  · exact bounded
  · exact bounded.of_kept (by simp [done])

theorem layerSet (q : LayerSetParams) : QueuesBounded (layerSet q s).state := by
  unfold Machine.layerSet
  split
  · exact bounded
  · dsimp only
    split
    · split
      · exact bounded
      · exact bounded.of_kept (by simp [done])
    · exact bounded

theorem layerClear (panel layer : Nat) : QueuesBounded (layerClear panel layer s).state := by
  unfold Machine.layerClear
  split
  · exact bounded
  split
  · exact bounded.of_kept (by simp [done])
  split
  · exact bounded
  · exact bounded.of_kept (by simp [done])

theorem panelRead (panel : Nat) : QueuesBounded (panelRead panel s).state := by
  unfold Machine.panelRead
  split <;> exact bounded

/-! ### The camera and the guide (R8, R28 to R32) -/

theorem cameraSet (p : CameraSetParams) : QueuesBounded (cameraSet p s).state := by
  unfold Machine.cameraSet
  split
  · exact bounded
  split
  · exact bounded
  split
  · split <;> exact bounded
  · exact bounded

theorem guideSet (p : GuideSetParams) : QueuesBounded (guideSet p s).state := by
  unfold Machine.guideSet
  split <;> exact bounded

theorem steerTableSet (values : List Nat) : QueuesBounded (steerTableSet values s).state := by
  unfold Machine.steerTableSet
  split
  · exact bounded
  split <;> exact bounded

theorem rowTableSet (rows : SizedList RowParams) : QueuesBounded (rowTableSet rows s).state := by
  unfold Machine.rowTableSet
  split
  · exact bounded
  split <;> exact bounded

theorem bandTableSet (bands : List GuideBand) : QueuesBounded (bandTableSet bands s).state := by
  unfold Machine.bandTableSet
  split <;> exact bounded

/-! ### Menus (R106 to R109, R115) -/

theorem pageChanged (n : Fin 16) : QueuesBounded (pageChanged n s) := by
  have settled : QueuesBounded (seats.foldl (fun s k => settleSeat n k s) s) :=
    List.foldlRecOn _ _ bounded fun u hu k _ => by
      unfold settleSeat
      dsimp only
      split
      · exact hu.of_kept (by simp)
      · exact hu
  unfold Machine.pageChanged
  dsimp only
  split
  · exact settled
  · exact settled.of_kept (by simp)

theorem setPage (n : Fin 16) (p : Option MenuPage) : QueuesBounded (s.setPage n p) := bounded.of_kept (by simp)

theorem pageSet (page : Nat) (title : List Nat) (items : SizedList ItemParams) :
    QueuesBounded (pageSet page title items s).state := by
  unfold Machine.pageSet
  split
  · exact bounded
  split
  · exact (bounded.setPage _ _).pageChanged _
  · exact bounded

theorem itemSet (page item : Nat) (p : ItemParams) : QueuesBounded (itemSet page item p s).state := by
  unfold Machine.itemSet
  split
  · split
    · exact bounded
    split
    · exact bounded
    · exact (bounded.setPage _ _).pageChanged _
  · exact bounded

theorem pageClear (page : Nat) : QueuesBounded (pageClear page s).state := by
  have left : ∀ n : Fin 16, QueuesBounded (seats.foldl (fun (s : State) k =>
      s.setSeat k ((s.seat k).withoutPage n s.items)) (s.setPage n none)) :=
    fun n => List.foldlRecOn _ _ (bounded.setPage n none) fun _ hu _ _ => hu.of_kept (by simp)
  unfold Machine.pageClear
  split
  · exact bounded
  next n _ =>
    have gone := left n
    split
    · exact bounded
    · dsimp only [done]
      split
      · exact gone
      · exact gone.of_kept (by simp)

theorem menuSet (q : MenuSetParams) : QueuesBounded (menuSet q s).state := by
  unfold Machine.menuSet
  split
  · exact bounded.of_kept (by simp [done])
  · exact bounded

theorem menuOpen (seat : Nat) : QueuesBounded (menuOpen seat s).state := by
  unfold Machine.menuOpen
  split
  · exact bounded
  dsimp only
  split
  · exact bounded
  split
  · exact bounded
  · exact bounded.changeSeat _ _

theorem menuClose (seat : Nat) : QueuesBounded (menuClose seat s).state := by
  unfold Machine.menuClose
  split
  · exact bounded
  · dsimp only [done]
    split
    · exact bounded.changeSeat _ _
    · exact bounded

theorem menuLock (seat locked : Nat) : QueuesBounded (menuLock seat locked s).state := by
  unfold Machine.menuLock
  split
  next k on _ _ =>
    split
    · exact bounded
    · have locks : QueuesBounded (s.setSeat k { s.seat k with locked := on }) := bounded.of_kept (by simp)
      dsimp only [done]
      split
      · exact locks.changeSeat _ _
      · exact bounded.changeSeat _ _
  next => exact bounded

/-! ### Zones, links, counters and attention (R122, R123, R182, R189, R192) -/

theorem zoneSet (zone option : Nat) (p : ZoneParams) : QueuesBounded (zoneSet zone option p s).state := by
  unfold Machine.zoneSet
  split
  · exact bounded
  split
  · exact bounded
  split
  · exact bounded
  split
  · exact bounded
  · exact bounded.of_kept (by simp [report, applyZoneSettings])

theorem volumeTableSet (values : List Nat) : QueuesBounded (volumeTableSet values s).state := by
  unfold Machine.volumeTableSet
  split
  · exact bounded
  split <;> exact bounded

theorem linkRetrain (link : Nat) : QueuesBounded (linkRetrain link s).state := by
  unfold Machine.linkRetrain
  split
  · exact bounded
  · split
    · exact bounded
    · exact bounded.linkDrops .uplink
  · exact bounded.linkDrops _

theorem clearGroup (g : CounterGroup) : QueuesBounded (clearGroup g s) := by
  cases g <;> exact bounded

theorem countersRead (group clear : Nat) : QueuesBounded (countersRead group clear s).state := by
  unfold Machine.countersRead
  split
  · dsimp only [report]
    split
    · exact bounded.clearGroup _
    · exact bounded
  · exact bounded

theorem attentionAck (f : BitVec 16) : QueuesBounded (attentionAck f s).state := by
  unfold Machine.attentionAck
  split <;> exact bounded

theorem noticeMaskSet (m : BitVec 16) : QueuesBounded (noticeMaskSet m s).state := by
  unfold Machine.noticeMaskSet
  split <;> exact bounded

/-! ### Every command (R186, R187) -/

/-- A command performed by its owner. -/
theorem perform (c : Command) : QueuesBounded (perform c s).state := by
  cases c with
  | tagSet p => exact bounded.tagSet p
  | tagClear t => exact bounded.tagClear t
  | tagRead t => exact bounded.tagRead t
  | ringSet p => exact bounded.ringSet p
  | panelSet p => exact bounded.panelSet p
  | panelWake p => exact bounded.panelWake p
  | panelSleep p => exact bounded.panelSleep p
  | panelBlank p => exact bounded.panelBlank p true
  | panelShow p => exact bounded.panelBlank p false
  | panelLevel p l => exact bounded.panelLevel p l
  | layerSet p => exact bounded.layerSet p
  | layerClear p l => exact bounded.layerClear p l
  | panelRead p => exact bounded.panelRead p
  | cameraSet p => exact bounded.cameraSet p
  | takeoverSet p => exact bounded.takeoverSet p
  | takeoverDismiss => exact bounded.takeoverDismiss
  | takeoverRead => exact bounded
  | guideSet p => exact bounded.guideSet p
  | steerTableSet vs => exact bounded.steerTableSet vs
  | rowTableSet rows => exact bounded.rowTableSet rows
  | bandTableSet bands => exact bounded.bandTableSet bands
  | menuSet q => exact bounded.menuSet q
  | pageSet n title items => exact bounded.pageSet n title items
  | pageClear n => exact bounded.pageClear n
  | itemSet n i p => exact bounded.itemSet n i p
  | menuOpen k => exact bounded.menuOpen k
  | menuClose k => exact bounded.menuClose k
  | menuLock k l => exact bounded.menuLock k l
  | zoneSet z o p => exact bounded.zoneSet z o p
  | volumeTableSet vs => exact bounded.volumeTableSet vs
  | chimeDefine n o p => exact bounded.chimeDefine n o p
  | chimePlay n z => exact bounded.chimePlay n z
  | chimeStop n => exact bounded.chimeStop n
  | proximitySet n bands => exact bounded.proximitySet n bands
  | assetBegin n k l => exact bounded.assetBegin n k l
  | assetData o bs => exact bounded.assetData o bs
  | assetEnd c => exact bounded.assetEnd c
  | assetDelete n => exact bounded.assetDelete n
  | assetInfo n => exact bounded.assetInfo n
  | storeStatus => exact bounded
  | storeAbort => exact bounded.storeAbort
  | linkRetrain l => exact bounded.linkRetrain l
  | countersRead g c => exact bounded.countersRead g c
  | attentionAck f => exact bounded.attentionAck f
  | noticeMaskSet m => exact bounded.noticeMaskSet m
  | identify => exact bounded
  | softReset => exact bounded

theorem answerPacket (inProfile : Bool) (p : ControlPacket) : QueuesBounded (answerPacket inProfile p s).state := by
  unfold Machine.answerPacket
  split
  · exact bounded
  split
  · exact bounded
  split
  · exact bounded
  split
  · exact bounded
  · exact bounded.perform _

omit bounded in
theorem handAnswer {a : Answer} (bounded : QueuesBounded a.state) (mark code : Byte) :
    QueuesBounded (handAnswer mark code a) := by
  have replied := bounded.handReply (replyOf mark code a)
  unfold Machine.handAnswer
  dsimp only
  split
  · exact replied
  · exact replied
  · exact replied.handNotice _
  · split
    · exact replied
    · exact replied.softResetBegins

theorem runCommand (mark : Byte) (c : Command) : QueuesBounded (runCommand mark c s) := by
  have answered : QueuesBounded (answerCommand c s).state := by
    unfold answerCommand
    split
    · exact bounded
    · exact bounded.perform c
  unfold Machine.runCommand
  split
  · exact answered.handAnswer _ _
  · exact bounded

/-- A packet taken leaves the FIFO. -/
theorem takeCommand : QueuesBounded (takeCommand s) := by
  obtain ⟨fifo, queue⟩ := queuesBounded_iff.mp bounded
  unfold Machine.takeCommand
  split
  · exact bounded
  next p rest held =>
    split
    · have taken : QueuesBounded { s with control.fifo := rest, control.profileTurn := true } := by
        rw [held, List.length_cons] at fifo
        exact queuesBounded_iff.mpr ⟨Nat.le_of_succ_le fifo, queue⟩
      exact (taken.answerPacket false p).handAnswer _ _
    · exact bounded

/-! ### Profile entries (R194) -/

omit bounded in
theorem suppressReply {a : Answer} (bounded : QueuesBounded a.state) : QueuesBounded (suppressReply a) := by
  unfold Machine.suppressReply
  split
  · exact bounded
  · exact bounded.linkDrops .uplink
  · exact bounded.handNotice _
  · exact bounded

theorem rejectEntry : QueuesBounded (rejectEntry s) := by
  have counted : QueuesBounded { s with control.profileReject := bump s.control.profileReject } := bounded
  exact counted.raiseFlag _

theorem runEntry (packet : List Byte) : QueuesBounded (runEntry packet s) := by
  unfold Machine.runEntry
  split
  · exact bounded.rejectEntry
  split
  · exact bounded.rejectEntry
  · dsimp only
    generalize ControlPacket.mk _ _ _ _ = p
    have executed := (bounded.answerPacket true p).suppressReply
    split
    · exact executed
    · exact executed.rejectEntry

theorem skipEntry (l : Nat) : QueuesBounded (skipEntry l s) := by
  unfold Machine.skipEntry
  split <;> exact bounded

theorem afterEntry : QueuesBounded (afterEntry s) := by
  unfold Machine.afterEntry
  split
  · exact bounded
  split
  · exact bounded.endProfile _
  · exact bounded.profileFetch

theorem takeEntry : QueuesBounded (takeEntry s) := by
  have turned : QueuesBounded { s with control.profileTurn := false } := bounded
  unfold Machine.takeEntry
  split
  · split
    · exact bounded
    split
    · exact bounded.cutShort
    split
    · exact bounded.cutShort
    · exact ((turned.skipEntry _).runEntry _).afterEntry
  · exact bounded

/-! ### The uplink (R179, R180) -/

/-- A waiting reply appended into room. -/
theorem appendWaiting (room : s.uplink.queue.length < 16) : QueuesBounded (appendWaiting s) := by
  unfold Machine.appendWaiting
  split
  · exact bounded
  next p _ =>
    have appended : QueuesBounded { s with uplink := { queue := s.uplink.queue ++ [p], waiting := none } } :=
      bounded.of_control rfl (by simpa using room)
    exact appended.waitingLeft

/-- The packet sent makes the room for the waiting reply. -/
theorem sendCompletes : QueuesBounded (sendCompletes s) := by
  obtain ⟨fifo, queue⟩ := queuesBounded_iff.mp bounded
  unfold Machine.sendCompletes
  split
  · split
    · exact bounded
    next p rest held =>
      rw [held, List.length_cons] at queue
      have sent : QueuesBounded (emit (.uplink p.body.bytes) { s with uplink.queue := rest }) :=
        queuesBounded_iff.mpr ⟨fifo, Nat.le_of_succ_le queue⟩
      have appended := sent.appendWaiting queue
      dsimp only
      split
      · exact appended.linkDrops .uplink
      · exact appended
  · exact bounded

theorem waitingAppends : QueuesBounded (waitingAppends s) := by
  unfold Machine.waitingAppends
  split
  · split
    next room => exact bounded.appendWaiting room
    next => exact bounded.sendCompletes
  · exact bounded

/-! ### Resets (R193, R197) -/

theorem releasePins : QueuesBounded (releasePins s) := by
  have voices := List.foldlRecOn (List.finRange 4) (fun (s : State) v =>
    if (s.voice v).busy then unpinAsset (s.voice v).asset (s.voice v).generation s else s) bounded fun u hu v _ => by
      split
      · exact hu.of_kept (by simp)
      · exact hu
  unfold Machine.releasePins
  generalize (List.finRange 4).foldl _ s = u at voices ⊢
  have dropped : QueuesBounded (dropGlyphLoad u) := voices.of_kept (by simp)
  dsimp only
  split
  · exact dropped
  · exact dropped.of_kept (by simp)

theorem softResetStore : QueuesBounded (softResetStore s) := by
  have failed : QueuesBounded (if s.store.transaction.state = .none then s else Machine.failTransaction .reset s) := by
    split
    · exact bounded
    · exact bounded.failTransaction .reset
  have released := failed.releasePins
  unfold Machine.softResetStore
  dsimp only
  generalize Machine.releasePins _ = u at released ⊢
  exact released

theorem softResetPanel (p : Panel) : QueuesBounded (softResetPanel p s) := bounded.of_kept (by simp [Machine.softResetPanel])

/-- Of the interpreter a soft reset keeps the FIFO, and of the uplink its queue. -/
theorem softResetBlocks : QueuesBounded (softResetBlocks s) := by
  have stored := bounded.softResetStore
  unfold Machine.softResetBlocks
  dsimp only
  generalize Machine.softResetStore s = u at stored ⊢
  refine softResetPanel (softResetPanel (softResetPanel (supplyChanges ?_ s.vehicle.supply) .front) .left) .right
  exact ⟨bounded.1, stored.2⟩

theorem softResetEnds : QueuesBounded (softResetEnds s) := bounded.softResetBlocks.profileStart

theorem failPackets (ps : List ControlPacket) : QueuesBounded (failPackets ps s) := by
  induction ps generalizing s with
  | nil => exact bounded.softResetEnds
  | cons p rest ih =>
    have replied := bounded.handReply (failedReply p)
    unfold Machine.failPackets
    dsimp only
    split
    · exact replied
    · exact ih replied

theorem softResetEffect : QueuesBounded (softResetEffect s) := by
  unfold Machine.softResetEffect
  split
  · exact bounded
  split
  · exact bounded
  · exact bounded
  · exact bounded.failPackets _

omit bounded in
theorem fullReset (s : State) : QueuesBounded (fullReset s) := ⟨Nat.zero_le 8, Nat.zero_le 16⟩

/-! ### The clock (log entry 19) -/

theorem whenDue {event : State → State} (kept : QueuesBounded (event s)) (due : Bool) : QueuesBounded (whenDue due event s) := by
  cases due
  · exact bounded
  · exact kept

theorem expireRecord : QueuesBounded (expireRecord s) := bounded.whenDue bounded.recordStales _
theorem expireDebounce : QueuesBounded (expireDebounce s) := bounded.whenDue bounded.debounceExpires _
theorem expireMismatch : QueuesBounded (expireMismatch s) := bounded.whenDue bounded.mismatchExpires _
theorem expireStart : QueuesBounded (expireStart s) := bounded.whenDue bounded.startExpires _
theorem expireWatchdog : QueuesBounded (expireWatchdog s) := bounded.whenDue bounded.watchdogExpires _
theorem expireLinger : QueuesBounded (expireLinger s) := bounded.whenDue bounded.lingerExpires _

theorem expireVehicle : QueuesBounded (expireVehicle s) :=
  bounded.expireRecord.expireDebounce.expireMismatch.expireStart.expireWatchdog.expireLinger

theorem expireSeat (k : Seat) : QueuesBounded (expireSeat s k) := bounded.whenDue (bounded.inactivityExpires k) _

theorem voiceTime (v : Fin 4) : QueuesBounded (voiceTime s v) :=
  (bounded.voiceBlock v).whenDue ((bounded.voiceBlock v).gapExpires v) _

theorem zoneTime (z : Zone) : QueuesBounded (zoneTime s z) := (bounded.whenDue (bounded.holdExpires z) _).zoneBlock z

theorem tick : QueuesBounded (tick s) := by
  have advanced : QueuesBounded (advanceTimers s) := bounded
  have seated := List.foldlRecOn seats Machine.expireSeat advanced.expireVehicle fun _ hu k _ => hu.expireSeat k
  have voiced := List.foldlRecOn [0, 1, 2, 3] Machine.voiceTime seated fun _ hu v _ => hu.voiceTime v
  exact List.foldlRecOn zones Machine.zoneTime voiced fun _ hu z _ => hu.zoneTime z

theorem idle : QueuesBounded (idle s) := by
  unfold Machine.idle
  split
  · exact bounded.softResetEffect
  split
  · exact bounded.takeEntry
  split
  · exact bounded.takeCommand
  · exact bounded.tick

/-! ### The step -/

/-- Every command and event: `t` is its next state. -/
theorem exec (i : Instr) (he : exec i s = .next t) : QueuesBounded t := by
  have ends : ∀ {v}, Host.Outcome.next v = (Host.Outcome.next t : Host.Outcome State Fault Refusal) →
      QueuesBounded v → QueuesBounded t := fun e hv => Host.Outcome.next.inj e ▸ hv
  cases i with
  | fullReset => exact ends he (fullReset s)
  | softResetEffect => exact ends he bounded.softResetEffect
  | reversePinChange level => exact ends he (bounded.pinChanges level)
  | debounceExpiry => exact ends he bounded.debounceExpires
  | vehiclePacket bytes => exact ends he (bounded.receive (fun p _ hu => hu.vehicleArrives p) _ _ _)
  | recordStale => exact ends he bounded.recordStales
  | mismatchTimerExpiry => exact ends he bounded.mismatchExpires
  | startTimerExpiry => exact ends he bounded.startExpires
  | watchdogExpiry => exact ends he bounded.watchdogExpires
  | lingerTimerExpiry => exact ends he bounded.lingerExpires
  | linkLock link => exact ends he (bounded.reachUp link)
  | linkLossOfLock link => exact ends he (bounded.lossOfLock link)
  | framePacket rx bytes => exact ends he (bounded.receive (fun p _ hu => hu.frameArrives rx p) _ _ _)
  | linePacket rx bytes => exact ends he (bounded.receive (fun p _ hu => hu.videoLine rx p) _ _ _)
  | fendPacket rx bytes => exact ends he (bounded.receive (fun p _ hu => hu.fendArrives rx p) _ _ _)
  | audioPacket bytes => exact ends he (bounded.receive (fun p _ hu => hu.soundArrives p) _ _ _)
  | ctrlPacket bytes => exact ends he (bounded.receive (fun p _ hu => hu.controlArrives p) _ _ _)
  | keyPacket seat bytes => exact ends he (bounded.receive (fun _ _ hu => hu.keyArrives seat _) _ _ _)
  | lineWriteCompletion rx =>
    simp only [Machine.exec, execLineWriteCompletion] at he
    split at he
    next written => exact ends he (bounded.lineWritten written)
    next => cases he
  | endOfFrame panel => exact ends he (bounded.of_kept (t := endOfFrame panel s) (by simp))
  | renderCompletion =>
    simp only [Machine.exec, execRenderCompletion] at he
    split at he
    next => exact ends he bounded
    next r _ => exact ends he (bounded.of_kept (t := completeRender r s) (by simp))
  | zoneBlockEvent zone => exact ends he (bounded.zoneBlock zone)
  | voiceBlockEvent voice => exact ends he (bounded.voiceBlock voice)
  | gapTimerExpiry voice => exact ends he (bounded.gapExpires voice)
  | holdTimerExpiry zone => exact ends he (bounded.holdExpires zone)
  | inactivityTimerExpiry seat => exact ends he (bounded.inactivityExpires seat)
  | arrayReady => exact ends he bounded.arrayReady
  | pageReadCompletion failed => exact ends he (bounded.readCompletes failed)
  | pageProgramCompletion verifiedPass => exact ends he (bounded.programCompletes verifiedPass)
  | eraseCompletion failedBlocks => exact ends he (bounded.eraseCompletes failedBlocks)
  | abortCompletion => exact ends he bounded.abortCompletes
  | commandTake => exact ends he bounded.takeCommand
  | waitingReplyAppend => exact ends he bounded.waitingAppends
  | sendCompletion => exact ends he bounded.sendCompletes
  | profileEntry => exact ends he bounded.takeEntry
  | resyncEndFlag link => exact ends he (bounded.endFlag link)
  | overlongPacket link => exact ends he (bounded.overlong link)
  | arrivedPacketDiscarded link bytes => exact ends he (bounded.discardPacket link bytes)
  | _ => exact ends he (bounded.runCommand _ _)

theorem step (stepped : step s = .next t) : QueuesBounded t := by
  unfold Machine.step at stepped
  split at stepped
  next i rest _ =>
    have popped : QueuesBounded { s with pending := rest } := bounded
    exact popped.exec i stepped
  next => exact Host.Outcome.next.inj stepped ▸ bounded.idle

end QueuesBounded

/-- Settles O59: a packet enters the FIFO and the uplink queue only into room, through every command, event and idle step. -/
theorem everyStepKeepsTheQueuesBounded : Obligations.EveryStepKeepsTheQueuesBounded := by
  unfold Obligations.EveryStepKeepsTheQueuesBounded
  exact fun _ _ bounded stepped => bounded.step stepped

end Sys2Proof.Machine
end

section
/-! The assembler's moves and the packets that the checks discard (R175, R176). -/

namespace Sys2Proof.Machine

variable {l : Link} {s : State}

/-! ### The assembler (R175) -/

theorem exec_resyncEndFlag (l : Link) (s : State) : exec (.resyncEndFlag l) s = .next (endFlag l s) := rfl

theorem exec_overlongPacket (l : Link) (s : State) : exec (.overlongPacket l) s = .next (overlong l s) := rfl

theorem exec_arrivedPacketDiscarded (l : Link) (bytes : List Byte) (s : State) :
    exec (.arrivedPacketDiscarded l bytes) s = .next (discardPacket l bytes s) := rfl

theorem endFlag_resync (up : (s.link l).state = .up) (resync : (s.link l).assembler = .resync) :
    endFlag l s = s.setLink l { s.link l with assembler := .assembling, resync := bump (s.link l).resync } := by
  simp [endFlag, up, resync]

theorem endFlag_discarding (up : (s.link l).state = .up) (discarding : (s.link l).assembler = .discarding) :
    endFlag l s = s.setLink l { s.link l with assembler := .assembling } := by
  simp [endFlag, up, discarding]

theorem receiving_of_assembling (up : (s.link l).state = .up) (assembling : (s.link l).assembler = .assembling) :
    receiving s l = true := decide_eq_true ⟨up, assembling⟩

theorem overlong_receiving (receives : receiving s l = true) : overlong l s =
    s.setLink l { s.link l with assembler := .discarding, overlong := bump (s.link l).overlong } := if_pos receives

/-! ### The checks that discard a packet (R176) -/

theorem checkPacket_runt (l : Link) {bytes : List Byte} (short : bytes.length ≤ 7) :
    checkPacket l bytes = .discarded .runt := by
  unfold checkPacket
  split
  next =>
    simp only [List.length_cons] at short
    omega
  next => rfl

section
variable {h0 h1 h2 h3 h4 h5 h6 h7 : Byte}

theorem checkPacket_badHeader (bad : h0.toNat % 16 ≠ 0 ∨ h7 ≠ crc8 [h0, h1, h2, h3, h4, h5, h6]) (l : Link)
    (body : List Byte) :
    checkPacket l (h0 :: h1 :: h2 :: h3 :: h4 :: h5 :: h6 :: h7 :: body) = .discarded .hdrErr := if_pos bad

theorem checkPacket_violation (reserved : h0.toNat % 16 = 0) (crc : h7 = crc8 [h0, h1, h2, h3, h4, h5, h6])
    (foreign : ∀ k, kind? (h0.toNat / 16) = some k → allowedOn l k = false) (body : List Byte) :
    checkPacket l (h0 :: h1 :: h2 :: h3 :: h4 :: h5 :: h6 :: h7 :: body) = .discarded .kindViolation := by
  have header : ¬ (h0.toNat % 16 ≠ 0 ∨ h7 ≠ crc8 [h0, h1, h2, h3, h4, h5, h6]) := by simp [reserved, crc]
  refine (if_neg header).trans ?_
  cases kind : kind? (h0.toNat / 16) with
  | none => rfl
  | some k => simp [foreign k kind]

end

/-- A packet that a receiver takes and a check discards is counted, and does nothing else. -/
theorem discardPacket_discarded (receives : receiving s l = true) {bytes : List Byte} (arrived : bytes ≠ [])
    (size : bytes.length ≤ 3852) {d : Discard} (check : checkPacket l bytes = .discarded d) :
    discardPacket l bytes s = s.setLink l (countDiscard d (s.link l)) := by
  refine (if_pos ⟨receives, arrived, size⟩).trans ?_
  rw [check]

/-- Settles O49: the assembler's three moves, and each discarded packet by the first check that it fails. -/
theorem assemblerAndDiscardedPackets : Obligations.AssemblerAndDiscardedPackets := by
  unfold Obligations.AssemblerAndDiscardedPackets
  refine fun l s up => ⟨fun resync => ?_, fun discarding => ?_, fun assembling => ?_,
    fun bytes assembling some short => ?_,
    fun h0 h1 h2 h3 h4 h5 h6 h7 body assembling size => ⟨fun bad => ?_, fun reserved crc foreign => ?_⟩⟩
  · rw [exec_resyncEndFlag, endFlag_resync up resync]
  · rw [exec_resyncEndFlag, endFlag_discarding up discarding]
  · rw [exec_overlongPacket, overlong_receiving (receiving_of_assembling up assembling)]
  · have receives := receiving_of_assembling up assembling
    rw [exec_arrivedPacketDiscarded, discardPacket_discarded receives (List.ne_nil_of_length_pos some) (by omega)
      (checkPacket_runt l short)]
    rfl
  · have receives := receiving_of_assembling up assembling
    rw [exec_arrivedPacketDiscarded, discardPacket_discarded receives (List.cons_ne_nil _ _)
      (by simp only [List.length_cons]; omega) (checkPacket_badHeader bad l body)]
    rfl
  · have receives := receiving_of_assembling up assembling
    rw [exec_arrivedPacketDiscarded, discardPacket_discarded receives (List.cons_ne_nil _ _)
      (by simp only [List.length_cons]; omega) (checkPacket_violation reserved crc foreign body)]
    rfl

end Sys2Proof.Machine
end

section
/-! Replies and notices handed over, the send completion, and the append of a waiting reply (R179, R180, R182, R197). -/

namespace Sys2Proof.Machine

variable {s : State} {p w : UplinkPacket} {rest : List UplinkPacket}

/-! ### Handing over (R180) -/

theorem handReply_room (up : s.links.uplink.state = .up) (room : s.uplink.queue.length < 16) (p : UplinkPacket) :
    handReply p s = { s with uplink.queue := s.uplink.queue ++ [p] } := by
  simp [handReply, up, room, Config.uplinkPackets]

theorem handReply_full (up : s.links.uplink.state = .up) (full : 16 ≤ s.uplink.queue.length) (p : UplinkPacket) :
    handReply p s = { s with uplink.waiting := some p } := by
  simp [handReply, up, Nat.not_lt.mpr full, Config.uplinkPackets]

theorem handReply_down (down : s.links.uplink.state ≠ .up) (p : UplinkPacket) :
    handReply p s = { s with links.uplink.replyDrop := bump s.links.uplink.replyDrop } := if_neg down

theorem handNotice_room (up : s.links.uplink.state = .up) (room : s.uplink.queue.length < 16) (b : UplinkBody) :
    handNotice b s = { s with uplink.queue := s.uplink.queue ++ [{ body := b, retrains := false }] } := if_pos ⟨up, room⟩

theorem handNotice_full (full : 16 ≤ s.uplink.queue.length) (b : UplinkBody) :
    handNotice b s = { s with links.uplink.uplinkDrop := bump s.links.uplink.uplinkDrop } :=
  if_neg fun h => Nat.not_lt.mpr full h.2

theorem handNotice_down (down : s.links.uplink.state ≠ .up) (b : UplinkBody) :
    handNotice b s = { s with links.uplink.uplinkDrop := bump s.links.uplink.uplinkDrop } := if_neg fun h => down h.1

/-! ### The waiting reply's append and the send completion (R179, R182, R197) -/

/-- The interpreter once a waiting reply is appended or dropped: a soft reset arranged on that reply takes effect (R197). -/
def Control.replyLeft (c : Control) : Control :=
  if c.softReset = .arranged then { c with softReset := .failing c.fifo, fifo := [] } else c

theorem waitingLeft_eq (s : State) : waitingLeft s = { s with control := s.control.replyLeft } := by
  unfold waitingLeft Control.replyLeft softResetBegins
  split <;> rfl

theorem appendWaiting_none (empty : s.uplink.waiting = none) : appendWaiting s = s := by
  simp [appendWaiting, empty]

theorem appendWaiting_some (waits : s.uplink.waiting = some w) : appendWaiting s = { s with
    uplink := { queue := s.uplink.queue ++ [w], waiting := none }, control := s.control.replyLeft } := by
  simp [appendWaiting, waits, waitingLeft_eq]

/-- The state with the packet at the head of the queue sent. -/
def headSent (p : UplinkPacket) (rest : List UplinkPacket) (s : State) : State :=
  emit (.uplink p.body.bytes) { s with uplink.queue := rest }

theorem sendCompletes_down (down : s.links.uplink.state ≠ .up) : sendCompletes s = s := if_neg down

theorem sendCompletes_empty (empty : s.uplink.queue = []) : sendCompletes s = s := by
  simp [sendCompletes, empty]

theorem sendCompletes_head (up : s.links.uplink.state = .up) (head : s.uplink.queue = p :: rest) : sendCompletes s =
    if p.retrains then retrain .uplink (appendWaiting (headSent p rest s)) else appendWaiting (headSent p rest s) := by
  simp [sendCompletes, up, head, headSent]

theorem exec_sendCompletion (s : State) : exec .sendCompletion s = .next (sendCompletes s) := rfl

theorem exec_waitingReplyAppend (s : State) : exec .waitingReplyAppend s = .next (waitingAppends s) := rfl

theorem waitingAppends_full (waits : s.uplink.waiting = some w) (full : 16 ≤ s.uplink.queue.length) :
    waitingAppends s = sendCompletes s := by
  simp [waitingAppends, waits, Nat.not_lt.mpr full, Config.uplinkPackets]

theorem waitingAppends_room (waits : s.uplink.waiting = some w) (room : s.uplink.queue.length < 16) :
    waitingAppends s = appendWaiting s := by
  simp [waitingAppends, waits, room, Config.uplinkPackets]

/-- Settles O47: a packet handed over by the room in the queue, and a completion by the head's retrain and the waiting reply. -/
theorem uplinkHandoverAndSending : Obligations.UplinkHandoverAndSending := by
  unfold Obligations.UplinkHandoverAndSending
  refine ⟨fun p b s => ⟨fun up room => ⟨handReply_room up room p, handNotice_room up room b⟩,
      fun up full => ⟨handReply_full up full p, handNotice_full full b⟩,
      fun down => ⟨handReply_down down p, handNotice_down down b⟩⟩,
    fun s p w rest => ⟨fun up head empty plain => ?_, fun up head waits plain => ?_, fun up head empty retrains => ?_,
      fun up head waits retrains => ?_, fun empty => ?_, fun waits full => ?_, fun waits room => ?_, fun down => ?_⟩⟩
  · rw [exec_sendCompletion, sendCompletes_head up head, plain]
    exact congrArg Host.Outcome.next (appendWaiting_none (s := headSent p rest s) empty)
  · rw [exec_sendCompletion, sendCompletes_head up head, plain]
    exact congrArg Host.Outcome.next (appendWaiting_some (s := headSent p rest s) waits)
  · rw [exec_sendCompletion, sendCompletes_head up head, retrains]
    exact congrArg (fun u => Host.Outcome.next (retrain .uplink u)) (appendWaiting_none (s := headSent p rest s) empty)
  · rw [exec_sendCompletion, sendCompletes_head up head, retrains]
    exact congrArg (fun u => Host.Outcome.next (retrain .uplink u)) (appendWaiting_some (s := headSent p rest s) waits)
  · rw [exec_sendCompletion, sendCompletes_empty empty]
  · rw [exec_waitingReplyAppend, waitingAppends_full waits full, exec_sendCompletion]
  · rw [exec_waitingReplyAppend, waitingAppends_room waits room, appendWaiting_some waits]
    rfl
  · rw [exec_sendCompletion, sendCompletes_down down]

end Sys2Proof.Machine
end

section
/-! A link reaches UP, leaves UP and is retrained (R174, R175, R179, R181, R182). -/

namespace Sys2Proof.Machine

variable {l : Link} {s : State}

/-! ### Lock (R174) -/

theorem exec_linkLock (l : Link) (s : State) : exec (.linkLock l) s = .next (reachUp l s) := rfl

theorem reachUp_training (training : (s.link l).state = .training) :
    reachUp l s = reachingEffects l (s.setLink l { s.link l with state := .up }) := if_pos training

theorem reachUp_other (other : (s.link l).state ≠ .training) : reachUp l s = s := if_neg other

/-! ### Loss of lock and retrain (R174, R182) -/

theorem exec_linkLossOfLock (l : Link) (s : State) : exec (.linkLossOfLock l) s = .next (lossOfLock l s) := rfl

/-- A retrain of an UP link is its loss of lock. -/
theorem lossOfLock_up (up : (s.link l).state = .up) : lossOfLock l s = retrain l s := if_pos up

theorem lossOfLock_other (other : (s.link l).state ≠ .up) : lossOfLock l s = s := if_neg other

theorem State.setLink_link (s : State) (l : Link) : s.setLink l (s.link l) = s := by cases l <;> rfl

theorem putDown_training (training : (s.link l).state = .training) : putDown l s = s := by
  have same : { s.link l with state := .training } = s.link l := by rw [← training]
  simp [putDown, training, same, State.setLink_link]

/-- The link's own record as it leaves UP. -/
def LinkRecord.lost (r : LinkRecord) : LinkRecord :=
  { r with state := .training, assembler := .off, linkDown := bump r.linkDown }

theorem putDown_up (up : (s.link l).state = .up) : putDown l s = leavingEffects l (s.setLink l (s.link l).lost) := if_pos up

theorem retrain_camera (s : State) : retrain .camera s =
    if (s.link .camera).state = .up then viewLinkDown (putDown .camera s) else putDown .camera s := rfl

theorem retrain_other (other : l ≠ .camera) (s : State) : retrain l s = putDown l s := by
  cases l with
  | camera => exact absurd rfl other
  | _ => rfl

theorem retrain_training (training : (s.link l).state = .training) : retrain l s = s := by
  by_cases camera : l = .camera
  · subst camera
    rw [retrain_camera, putDown_training training]
    simp [training]
  · rw [retrain_other camera, putDown_training training]

/-- The uplink's queue and waiting reply removed and counted; a soft reset arranged on that reply takes effect (R181, R197). -/
theorem emptyUplink_eq (s : State) : emptyUplink s = { s with
    uplink := { queue := [], waiting := none },
    links.uplink := { s.links.uplink with
      replyDrop := bumpBy s.links.uplink.replyDrop ((s.uplink.queue ++ s.uplink.waiting.toList).countP isReply),
      uplinkDrop := bumpBy s.links.uplink.uplinkDrop
        ((s.uplink.queue ++ s.uplink.waiting.toList).countP fun p => !isReply p) },
    control := if s.uplink.waiting.isSome then s.control.replyLeft else s.control } := by
  unfold emptyUplink
  dsimp only
  split
  · rw [waitingLeft_eq]
    rfl
  · rfl

theorem replyLeft_of_waiting (s : State) :
    (if s.uplink.waiting.isSome then s.control.replyLeft else s.control) =
      if s.uplink.waiting.isSome ∧ s.control.softReset = .arranged
        then { s.control with softReset := .failing s.control.fifo, fifo := [] } else s.control := by
  rw [ite_and]
  rfl

theorem lock_training (training : (s.link l).state = .training) :
    exec (.linkLock l) s = .next (reachingEffects l (s.setLink l { s.link l with state := .up })) := by
  rw [exec_linkLock, reachUp_training training]

theorem loss_up (other : l ≠ .camera) (up : (s.link l).state = .up) :
    exec (.linkLossOfLock l) s = .next (leavingEffects l (s.setLink l (s.link l).lost)) := by
  rw [exec_linkLossOfLock, lossOfLock_up up, retrain_other other, putDown_up up]

theorem loss_camera (up : (s.link .camera).state = .up) : exec (.linkLossOfLock .camera) s =
    .next (viewLinkDown (leavingEffects .camera (s.setLink .camera (s.link .camera).lost))) := by
  rw [exec_linkLossOfLock, lossOfLock_up up, retrain_camera, if_pos up, putDown_up up]

/-! ### LINK_RETRAIN (R182) -/

theorem exec_linkRetrain (running : Running s) (mark : Byte) (n : Nat) :
    exec (.linkRetrain mark n) s = .next (handAnswer mark 80#8 (linkRetrain n s)) :=
  congrArg Host.Outcome.next (runCommand_plain running mark (.linkRetrain n) (show 80 ∉ _ by decide))

theorem linkRetrain_named {n : Nat} (named : link? n = some l) (now : l = .uplink → s.links.uplink.state ≠ .up) :
    linkRetrain n s = done (retrain l s) := by
  unfold linkRetrain
  rw [named]
  cases l with
  | uplink => exact if_neg (now rfl)
  | _ => rfl

theorem linkRetrain_uplink (up : s.links.uplink.state = .up) : linkRetrain 1 s = ⟨.ok, [], s, .retrainUplink⟩ := if_pos up

theorem link?_none {n : Nat} (h : 6 ≤ n) : link? n = none := by
  obtain ⟨k, rfl⟩ := Nat.exists_eq_add_of_le' h
  rfl

theorem linkRetrain_unknown {n : Nat} (h : 6 ≤ n) : linkRetrain n s = refuse .param s := by
  simp [linkRetrain, link?_none h]

end Sys2Proof.Machine
end

section
/-! A panel as its link leaves UP and as it reaches UP (R72, R77, R78). -/

namespace Sys2Proof.Machine

variable {s : State} {p : Panel} {n : Fin 8} {k : Nat}

/-! ### The holds of a ring's buffers under releases (R68, R77) -/

/-- How many readers hold a buffer, by the ring's own count. -/
def State.holdsAt (s : State) (n : Fin 8) (k : Nat) : Option Nat := (s.ring n).buffers[k]?.map (·.holds)

theorem holdsAt_of_streams {t : State} (same : t.streams = s.streams) : t.holdsAt n k = s.holdsAt n k := by
  simp [State.holdsAt, State.ring, same]

theorem releaseHold_holdsAt (h : Hold) (s : State) (n : Fin 8) (k : Nat) : (releaseHold h s).holdsAt n k =
    (s.holdsAt n k).map (· - if h = { ring := n, buffer := k } then 1 else 0) := by
  obtain ⟨m, j⟩ := h
  unfold State.holdsAt releaseHold
  by_cases ring : n = m
  · subst ring
    rw [State.ring_setRing, Ring.release, Ring.buffers_modify]
    by_cases buffer : k = j
    · subst buffer
      simp only [if_true, Option.map_map]
      congr 1
      funext b
      dsimp only [Function.comp_apply]
      split <;> rfl
    · simp [buffer, Ne.symm buffer, Function.comp_def]
  · simp [State.ring_setRing_ne _ _ _ _ ring, Ne.symm ring, Function.comp_def]

theorem dropHold_holdsAt (id : Fin 6) : (dropHold p id s).holdsAt n k =
    (s.holdsAt n k).map (· - if (s.panel p).hold id = some { ring := n, buffer := k } then 1 else 0) := by
  unfold dropHold
  split
  next none => simp [none]
  next h held =>
    rw [holdsAt_of_streams (s := releaseHold h s) (by simp), releaseHold_holdsAt, held]
    simp only [Option.some.injEq]

/-- Distinct layer ids drop what they hold, one after another. -/
theorem foldl_dropHold_holdsAt {ids : List (Fin 6)} (distinct : ids.Nodup) (s : State) :
    (ids.foldl (fun s id => dropHold p id s) s).holdsAt n k = (s.holdsAt n k).map
      (· - ids.countP fun id => decide ((s.panel p).hold id = some { ring := n, buffer := k })) := by
  induction ids generalizing s with
  | nil => simp
  | cons id ids ih =>
    obtain ⟨alone, distinct⟩ := List.nodup_cons.mp distinct
    have others : ids.countP (fun j => decide (((dropHold p id s).panel p).hold j = some { ring := n, buffer := k })) =
        ids.countP fun j => decide ((s.panel p).hold j = some { ring := n, buffer := k }) :=
      List.countP_congr fun j mem => by rw [dropHold_hold, if_neg fun e : j = id => alone (e ▸ mem)]
    rw [List.foldl_cons, ih distinct, others, dropHold_holdsAt, Option.map_map, List.countP_cons]
    congr 1
    funext b
    simp only [Function.comp_apply, decide_eq_true_eq]
    omega

theorem dropCameraHold_holdsAt : (dropCameraHold s).holdsAt n k =
    (s.holdsAt n k).map (· - if s.takeover.cameraHold = some { ring := n, buffer := k } then 1 else 0) := by
  unfold dropCameraHold
  split
  next none => simp [none]
  next h held =>
    rw [releaseHold_holdsAt, held]
    simp only [Option.some.injEq]
    rfl

/-- What the readers of a panel hold, the camera layer among those of FRONT (R23, R67). -/
def readersHold (p : Panel) (s : State) : List (Option Hold) :=
  (s.panel p).holds.toList ++ if p = .front then [s.takeover.cameraHold] else []

theorem releaseReaders_camera (s : State) : releaseReaders .front s =
    dropCameraHold ((List.finRange 6).foldl (fun s id => dropHold .front id s) s) := rfl

theorem releaseReaders_layers (other : p ≠ .front) (s : State) :
    releaseReaders p s = (List.finRange 6).foldl (fun s id => dropHold p id s) s := by
  cases p with
  | front => exact absurd rfl other
  | _ => rfl

theorem holds_toList (r : PanelRecord) : r.holds.toList = (List.finRange 6).map r.hold := by
  refine List.ext_getElem (by simp) fun i _ _ => ?_
  simp [PanelRecord.hold]

theorem layers_holdsAt (p : Panel) (s : State) : ((List.finRange 6).foldl (fun s id => dropHold p id s) s).holdsAt n k =
    (s.holdsAt n k).map (· - (s.panel p).holds.toList.countP fun h => decide (h = some { ring := n, buffer := k })) := by
  rw [foldl_dropHold_holdsAt (List.nodup_finRange 6), holds_toList, List.countP_map]
  rfl

theorem releaseReaders_holdsAt (p : Panel) (s : State) (n : Fin 8) (k : Nat) :
    (releaseReaders p s).holdsAt n k = (s.holdsAt n k).map
      (· - (readersHold p s).countP fun h => decide (h = some { ring := n, buffer := k })) := by
  unfold readersHold
  by_cases front : p = .front
  · subst front
    have camera : ((List.finRange 6).foldl (fun s id => dropHold .front id s) s).takeover = s.takeover :=
      foldl_keeps (·.takeover) _ (fun s id => by simp) _ _
    rw [releaseReaders_camera, dropCameraHold_holdsAt, layers_holdsAt, camera, Option.map_map, if_pos rfl,
      List.countP_append, List.countP_singleton]
    congr 1
    funext b
    simp only [Function.comp_apply, decide_eq_true_eq]
    omega
  · rw [releaseReaders_layers front, layers_holdsAt, if_neg front, List.append_nil]

/-! ### The other panels and the takeover -/

theorem dropHold_panel_other {q : Panel} (other : q ≠ p) (id : Fin 6) (s : State) : (dropHold p id s).panel q = s.panel q := by
  unfold dropHold
  split
  · rfl
  · rw [setHold, State.panel_setPanel_ne _ _ _ _ other, releaseHold_panel]

theorem releaseReaders_panel_other {q : Panel} (other : q ≠ p) (s : State) : (releaseReaders p s).panel q = s.panel q := by
  have dropped := foldl_keeps (fun u => u.panel q) (fun u id => dropHold p id u)
    (fun u id => dropHold_panel_other other id u) (List.finRange 6) s
  unfold releaseReaders
  cases p
  · exact (dropCameraHold_panel _ q).trans dropped
  · exact dropped
  · exact dropped

theorem dropCameraHold_takeover (s : State) : (dropCameraHold s).takeover = s.takeover.unheld := by
  unfold dropCameraHold
  split
  next none => exact (congrArg (fun h => { s.takeover with cameraHold := h }) none :)
  next => simp [Takeover.unheld]

theorem releaseReaders_takeover (p : Panel) (s : State) :
    (releaseReaders p s).takeover = if p = .front then s.takeover.unheld else s.takeover := by
  have dropped : ((List.finRange 6).foldl (fun s id => dropHold p id s) s).takeover = s.takeover :=
    foldl_keeps (·.takeover) _ (fun s id => by simp) _ _
  unfold releaseReaders
  cases p with
  | front => exact (dropCameraHold_takeover _).trans (congrArg Takeover.unheld dropped)
  | left => exact dropped
  | right => exact dropped

/-- The panel's record after its readers released their buffers: it holds nothing, and is otherwise as it was. -/
theorem releaseReaders_panel (p : Panel) (s : State) : (releaseReaders p s).panel p = (s.panel p).unheld := by
  have empty : ((releaseReaders p s).panel p).holds = Vector.replicate 6 none := by
    ext1 i hi
    exact (releaseReaders_hold p ⟨i, hi⟩ s).trans (by simp)
  rw [← releaseReaders_unheld, PanelRecord.unheld, ← empty]

/-! ### A panel goes OFF (R72, R77) -/

/-- The panel's record in OFF, its readers not yet released. -/
def PanelRecord.off (r : PanelRecord) : PanelRecord :=
  { r with power := .off, transition := .none, blankEnded := 0, outBacklight := 0, frame := none }

theorem panelOff_eq (p : Panel) (s : State) :
    panelOff p s = raiseFlag .panelLink (releaseReaders p (s.setPanel p (s.panel p).off)) := rfl

theorem panelOff_panel (p : Panel) (s : State) : (panelOff p s).panel p = (s.panel p).off.unheld := by
  have raised := panel_of_panels (p := p) (s := releaseReaders p (s.setPanel p (s.panel p).off))
    (t := panelOff p s) (by rw [panelOff_eq]; simp)
  rw [raised, releaseReaders_panel, State.panel_setPanel]

theorem panelOff_panel_other {q : Panel} (other : q ≠ p) (s : State) : (panelOff p s).panel q = s.panel q := by
  have raised := panel_of_panels (p := q) (s := releaseReaders p (s.setPanel p (s.panel p).off))
    (t := panelOff p s) (by rw [panelOff_eq]; simp)
  rw [raised, releaseReaders_panel_other other, State.panel_setPanel_ne _ _ _ _ other]

theorem panelOff_takeover (p : Panel) (s : State) : (panelOff p s).takeover =
    { s.takeover with cameraHold := if p = .front then none else s.takeover.cameraHold } := by
  rw [panelOff_eq]
  simp only [raiseFlag_keeps, releaseReaders_takeover, State.setPanel_takeover]
  split <;> rfl

theorem panelOff_holdsAt (p : Panel) (s : State) (n : Fin 8) (k : Nat) : (panelOff p s).holdsAt n k =
    (s.holdsAt n k).map (· - (readersHold p s).countP fun h => decide (h = some { ring := n, buffer := k })) := by
  have holds : readersHold p (s.setPanel p (s.panel p).off) = readersHold p s := by
    simp [readersHold, PanelRecord.off]
  rw [panelOff_eq, holdsAt_of_streams (s := releaseReaders p (s.setPanel p (s.panel p).off)) (by simp),
    releaseReaders_holdsAt, holds, holdsAt_of_streams (s := s) (by simp)]

theorem panelOff_buffer {b : Buffer} (found : (s.ring n).buffers[k]? = some b) :
    ∃ b', ((panelOff p s).ring n).buffers[k]? = some b' ∧
      b'.holds = b.holds - (readersHold p s).countP fun h => decide (h = some { ring := n, buffer := k }) := by
  have counted := panelOff_holdsAt p s n k
  simp only [State.holdsAt, found, Option.map_some] at counted
  exact Option.map_eq_some_iff.mp counted

/-! ### A panel's link reaches UP (R72, R78) -/

/-- The panel in SLEEP with backlight 0 sent. -/
def panelSlept (p : Panel) (s : State) : State :=
  { s.setPanel p { s.panel p with power := .sleep, transition := .none, blankEnded := 0, outBacklight := 0 } with
    out := .backlight p 0 :: s.out }

theorem State.setPanel_setPanel (s : State) (p : Panel) (r q : PanelRecord) :
    (s.setPanel p r).setPanel p q = s.setPanel p q := by cases p <;> rfl

theorem panelUp_eq (up : (s.link p.link).state = .up) : panelUp p s =
    if (s.panel p).requestActive = true ∨ takeoverFrames s p = true then enterWaking p (panelSlept p s)
    else panelSlept p s := by
  have slept : sendBacklight p 0 (s.setPanel p { s.panel p with power := .sleep, transition := .none, blankEnded := 0 }) =
      panelSlept p s := by
    simp [sendBacklight, up, emit, panelSlept, State.setPanel_setPanel]
  unfold panelUp
  rw [slept]

theorem enterWaking_slept (p : Panel) (s : State) : enterWaking p (panelSlept p s) =
    frameStart p ((panelSlept p s).setPanel p
      { s.panel p with power := .waking, transition := .none, blankEnded := 0, outBacklight := 0 }) := by
  have record : (panelSlept p s).panel p =
      { s.panel p with power := .sleep, transition := .none, blankEnded := 0, outBacklight := 0 } := by
    cases p <;> rfl
  rw [enterWaking, record]

end Sys2Proof.Machine
end

section
/-! Lock, loss of lock and LINK_RETRAIN of every link as one statement (R72, R77, R174, R181, R182). -/

namespace Sys2Proof.Machine

/-- Settles O48: a lock and a loss of lock link by link, LINK_RETRAIN by its answer, and the panels' OFF and SLEEP part by
part. -/
theorem linkEventsAndRetrain : Obligations.LinkEventsAndRetrain := by
  unfold Obligations.LinkEventsAndRetrain
  refine ⟨fun s => ⟨fun training => ?_, fun training => ?_, fun training => ?_, fun training => ?_, fun training => ?_,
      fun training => ?_, fun l other => ?_⟩,
    fun s => ⟨fun up => ?_, fun up => ?_, fun up => ?_, fun up => ?_, fun up => ?_, fun up => ?_, fun l other => ?_⟩,
    fun mark s running => ⟨fun n l named now => ?_, fun up => ?_, fun n unknown => ?_, fun l up => ?_,
      fun l => retrain_training⟩,
    fun p s => ⟨⟨panelOff_panel p s, fun q other => panelOff_panel_other other s, raiseFlag_raised _ _, ?_, ?_,
      panelOff_takeover p s, fun n k b found => panelOff_buffer found⟩,
      fun up => ⟨fun sleeps idle => ?_, fun wakes => ?_⟩⟩⟩
  · exact lock_training (l := .downlink) training
  · exact lock_training (l := .camera) training
  · exact lock_training (l := .uplink) training
  · exact lock_training (l := .front) training
  · exact lock_training (l := .left) training
  · exact lock_training (l := .right) training
  · rw [exec_linkLock, reachUp_other other]
  · exact loss_up (l := .downlink) (by decide) up
  · exact loss_camera up
  · rw [loss_up (l := .uplink) (by decide) up, leavingEffects, emptyUplink_eq, replyLeft_of_waiting]
    rfl
  · exact loss_up (l := .front) (by decide) up
  · exact loss_up (l := .left) (by decide) up
  · exact loss_up (l := .right) (by decide) up
  · rw [exec_linkLossOfLock, lossOfLock_other other]
  · rw [exec_linkRetrain running, linkRetrain_named named now]
    rfl
  · rw [exec_linkRetrain running, linkRetrain_uplink up]
    rfl
  · rw [exec_linkRetrain running, linkRetrain_unknown unknown]
    rfl
  · rw [exec_linkLossOfLock, lossOfLock_up up]
  · simp [panelOff_eq]
  · simp [panelOff_eq]
  · refine (panelUp_eq up).trans (if_neg ?_)
    rw [sleeps, takeoverFrames_iff]
    rintro (wakes | ⟨front, engaged⟩)
    · exact absurd wakes (by decide)
    · exact idle.elim (· front) engaged
  · refine (panelUp_eq up).trans ((if_pos ?_).trans (enterWaking_slept p s))
    rwa [takeoverFrames_iff]

end Sys2Proof.Machine
end

section
/-! The parameter area of a command reads back as the command (R185, R188): the reader of each kind of item after the
writer of it, and from these each command's reader after its writer. -/

namespace Sys2Proof.Machine

variable {α β : Type} {r : Reading α} {rest : List Byte}

/-! ### Readers one after another -/

/-- What a reader left, given to the reader after it. -/
def feed (o : Option (α × List Byte)) (f : α → Reading β) : Option (β × List Byte) := o.bind fun p => f p.1 p.2

@[simp] theorem feed_some (x : α) (rest : List Byte) (f : α → Reading β) : feed (some (x, rest)) f = f x rest := rfl

/-- The first reader's result is found before the second is looked at. -/
@[congr] theorem feed_congr {o o' : Option (α × List Byte)} {f : α → Reading β} (same : o = o') :
    feed o f = feed o' f := by rw [same]

@[simp] theorem read_bind (r : Reading α) (f : α → Reading β) (bs : List Byte) : (r >>= f) bs = feed (r bs) f := rfl

@[simp] theorem read_pure (x : α) (bs : List Byte) : (pure x : Reading α) bs = some (x, bs) := rfl

@[simp] theorem read_map (f : α → β) (r : Reading α) (bs : List Byte) :
    (f <$> r) bs = (r bs).map fun p => (f p.1, p.2) := by
  rw [map_eq_pure_bind, read_bind]
  cases r bs <;> rfl

/-! ### Numbers -/

theorem beNat_append_singleton (bs : List Byte) (b : Byte) : beNat (bs ++ [b]) = beNat bs * 256 + b.toNat := by
  simp [beNat]

/-- A number's big-endian bytes read back as the number, modulo what they carry. -/
theorem beNat_beBytes (n x : Nat) : beNat (beBytes n x) = x % 256 ^ n := by
  induction n generalizing x with
  | zero => simp [beBytes, beNat, Nat.mod_one]
  | succ n ih =>
    have digits : x % 256 ^ (n + 1) = x % 256 + 256 * (x / 256 % 256 ^ n) := by rw [Nat.pow_succ', Nat.mod_mul]
    rw [beBytes, beNat_append_singleton, ih, BitVec.toNat_ofNat, digits]
    omega

/-- A signed number that n bytes carry is the two's complement reading of its residue. -/
theorem signedOf_residue {n m : Nat} {x : Int} (width : 256 ^ n = 2 * m) (low : -(m : Int) ≤ x) (high : x < m) :
    signedOf n (x % (256 ^ n : Nat)).toNat = x := by
  unfold signedOf
  rw [width]
  by_cases sign : 0 ≤ x
  · have residue : x % (2 * m : Nat) = x := Int.emod_eq_of_lt sign (by omega)
    rw [residue, if_pos (by omega)]
    omega
  · have residue : x % (2 * m : Nat) = x + (2 * m : Nat) := by
      rw [← Int.add_emod_right]
      exact Int.emod_eq_of_lt (by omega) (by omega)
    rw [residue, if_neg (by omega)]
    omega

theorem signedOf_beInt {n m : Nat} {x : Int} (width : 256 ^ n = 2 * m) (low : -(m : Int) ≤ x) (high : x < m) :
    signedOf n (beNat (beInt n x)) = x := by
  have small : (x % (256 ^ n : Nat)).toNat < 256 ^ n :=
    (Int.toNat_lt' (by omega)).mpr (Int.emod_lt_of_pos x (by omega))
  rw [beInt, beNat_beBytes, Nat.mod_eq_of_lt small, signedOf_residue width low high]

@[simp] theorem readU8_u8 {n : Nat} (fits : fits8 n) : readU8 (u8 n ++ rest) = some (n, rest) := by
  have small : n < 256 := of_decide_eq_true fits
  simp [u8, readU8, Nat.mod_eq_of_lt small]

@[simp] theorem readByte_cons (b : Byte) : readByte (b :: rest) = some (b, rest) := rfl

@[simp] theorem readU16_u16 {n : Nat} (fits : fits16 n) : readU16 (u16 n ++ rest) = some (n, rest) := by
  have small : n < 65536 := of_decide_eq_true fits
  have read : readU16 (u16 n ++ rest) = some (beNat (beBytes 2 n), rest) := rfl
  rw [read, beNat_beBytes, Nat.mod_eq_of_lt (by omega)]

@[simp] theorem readU32_u32 {n : Nat} (fits : fits32 n) : readU32 (u32 n ++ rest) = some (n, rest) := by
  have small : n < 4294967296 := of_decide_eq_true fits
  have read : readU32 (u32 n ++ rest) = some (beNat (beBytes 4 n), rest) := rfl
  rw [read, beNat_beBytes, Nat.mod_eq_of_lt (by omega)]

@[simp] theorem readI8_i8 {x : Int} (fits : fitsI8 x) : readI8 (i8 x ++ rest) = some (x, rest) := by
  obtain ⟨low, high⟩ : -128 ≤ x ∧ x < 128 := by simpa [fitsI8] using fits
  have read : readI8 (i8 x ++ rest) = some (signedOf 1 (beNat (beInt 1 x)), rest) := by
    simp [readI8, i8, beInt, beBytes, readU8, beNat]
  rw [read, signedOf_beInt (m := 128) rfl low high]

@[simp] theorem readI16_i16 {x : Int} (fits : fitsI16 x) : readI16 (i16 x ++ rest) = some (x, rest) := by
  obtain ⟨low, high⟩ : -32768 ≤ x ∧ x < 32768 := by simpa [fitsI16] using fits
  have read : readI16 (i16 x ++ rest) = some (signedOf 2 (beNat (beInt 2 x)), rest) := rfl
  rw [read, signedOf_beInt (m := 32768) rfl low high]

/-! ### Colours, lists, values that may be absent -/

@[simp] theorem readRgb_rgbBytes (c : Rgb) : readRgb (rgbBytes c ++ rest) = some (c, rest) := rfl

@[simp] theorem readArgb_argbBytes (c : Argb) : readArgb (argbBytes c ++ rest) = some (c, rest) := rfl

/-- A reader inverts a writer on the values that fit: it reads the value back and leaves what follows. -/
def Inverts (r : Reading α) (f : α → List Byte) (fits : α → Bool) : Prop :=
  ∀ x rest, fits x = true → r (f x ++ rest) = some (x, rest)

variable {f : α → List Byte} {fits : α → Bool} {xs : List α}

theorem Inverts.many (each : Inverts r f fits) (all : xs.all fits = true) (rest : List Byte) :
    readMany r xs.length (xs.flatMap f ++ rest) = some (xs, rest) := by
  induction xs with
  | nil => rfl
  | cons x xs ih =>
    rw [List.all_cons, Bool.and_eq_true] at all
    simp [readMany, each x _ all.1, ih all.2]

theorem Inverts.list (each : Inverts r f fits) : Inverts (readList r) (listBytes f) (fitsList fits) := by
  intro xs rest listed
  obtain ⟨short, all⟩ : (xs.length < 256) ∧ xs.all fits = true := by simpa [fitsList] using listed
  simp [readList, listBytes, readU8_u8 (decide_eq_true short), each.many all]

theorem Inverts.optional (each : Inverts r f fits) :
    Inverts (readOptional r) (optionalBytes f) (fitsOptional fits) := by
  intro x rest fit
  cases x with
  | absent => rfl
  | badPresence => rfl
  | present x =>
    have one : readU8 (u8 1 ++ (f x ++ rest)) = some (1, f x ++ rest) := rfl
    have value : r (f x ++ rest) = some (x, rest) := each x rest fit
    simp [readOptional, optionalBytes, one, value]

theorem inverts_u8 : Inverts readU8 u8 fits8 := fun _ _ fit => readU8_u8 fit

theorem inverts_u16 : Inverts readU16 u16 fits16 := fun _ _ fit => readU16_u16 fit

/-! ### Records of items -/

@[simp] theorem readText_listBytes {text : List Nat} (fit : fitsList fits8 text) :
    readText (listBytes u8 text ++ rest) = some (text, rest) := inverts_u8.list text rest fit

@[simp] theorem readMessage_messageBytes {m : Message} (fit : m.encodable) :
    readMessage (messageBytes m ++ rest) = some (m, rest) := by
  obtain ⟨icon, text⟩ : fits8 m.icon = true ∧ fitsList fits8 m.text = true := by simpa [Message.encodable] using fit
  simp [readMessage, messageBytes, icon, text]

@[simp] theorem readIcon_optionalBytes {icon : Optional Nat} (fit : fitsOptional fits8 icon) :
    readOptional readU8 (optionalBytes u8 icon ++ rest) = some (icon, rest) := inverts_u8.optional icon rest fit

@[simp] theorem readFill_optionalBytes (fill : Optional Rgb) :
    readOptional readRgb (optionalBytes rgbBytes fill ++ rest) = some (fill, rest) :=
  Inverts.optional (fits := fun _ => true) (fun c _ _ => readRgb_rgbBytes c) fill rest (by cases fill <;> rfl)

@[simp] theorem readItem_itemBytes {i : ItemParams} (fit : i.encodable) :
    readItem (itemBytes i ++ rest) = some (i, rest) := by
  simp only [ItemParams.encodable, Bool.and_eq_true] at fit
  simp [readItem, itemBytes, fit]

@[simp] theorem readRow_rowBytes {row : RowParams} (fit : row.encodable) :
    readRow (rowBytes row ++ rest) = some (row, rest) := by
  simp only [RowParams.encodable, Bool.and_eq_true] at fit
  simp [readRow, rowBytes, fit]

@[simp] theorem readChime_chimeBytes {p : ChimeParams} (fit : p.encodable) :
    readChime (chimeBytes p ++ rest) = some (p, rest) := by
  simp only [ChimeParams.encodable, Bool.and_eq_true] at fit
  simp [readChime, chimeBytes, fit]

end Sys2Proof.Machine
end

section
/-! Every command that the encoding admits reads back from its parameter area (R185, R188). -/

namespace Sys2Proof.Machine

/-- The reader of the command's code reads its area back as the command, and leaves what follows the area. -/
def ReadsBack (c : Command) : Prop :=
  ∃ r, readCommand c.code = some r ∧ ∀ rest, r (c.params ++ rest) = some (c, rest)

variable {r : Reading Command} {c : Command}

/-- A packet's area is a command's exactly when the reader leaves nothing of it. -/
theorem decodeParams_of_read (read : ∀ rest, r (c.params ++ rest) = some (c, rest)) :
    decodeParams r c.params = some c ∧ ∀ extra, extra ≠ [] → decodeParams r (c.params ++ extra) = none := by
  refine ⟨?_, fun extra some => ?_⟩
  · have whole : r c.params = some (c, []) := by simpa using read []
    rw [decodeParams, whole]
  · rw [decodeParams, read extra]
    cases extra with
    | nil => exact absurd rfl some
    | cons => rfl

/-! ### Commands of one or two plain items -/

section
variable {n m : Nat}

theorem read_one (k : Nat → Command) (fit : fits8 n) (rest : List Byte) :
    (do return k (← readU8) : Reading Command) (u8 n ++ rest) = some (k n, rest) := by
  simp [fit]

theorem read_word (k : Nat → Command) (fit : fits16 n) (rest : List Byte) :
    (do return k (← readU16) : Reading Command) (u16 n ++ rest) = some (k n, rest) := by
  simp [fit]

theorem read_two (k : Nat → Nat → Command) (fit : fits8 n && fits8 m) (rest : List Byte) :
    (do return k (← readU8) (← readU8) : Reading Command) (u8 n ++ u8 m ++ rest) = some (k n m, rest) := by
  rw [Bool.and_eq_true] at fit
  simp [fit]

/-- A mask of 16 bits read into the command that carries it. -/
theorem read_mask (k : BitVec 16 → Command) (mask : BitVec 16) (rest : List Byte) :
    (do return k (BitVec.ofNat 16 (← readU16)) : Reading Command) (u16 mask.toNat ++ rest) = some (k mask, rest) := by
  have fit : fits16 mask.toNat = true := decide_eq_true mask.isLt
  simp [fit]

end

/-! ### Commands of one record -/

theorem readsBack_tagSet {p : TagSetParams} (fit : p.encodable) : ReadsBack (.tagSet p) := by
  refine ⟨_, rfl, fun rest => ?_⟩
  simp only [TagSetParams.encodable, Bool.and_eq_true] at fit
  simp [Command.params, readTagSet, fit]

theorem readsBack_ringSet {p : RingSetParams} (fit : p.encodable) : ReadsBack (.ringSet p) := by
  refine ⟨_, rfl, fun rest => ?_⟩
  simp only [RingSetParams.encodable, Bool.and_eq_true] at fit
  simp [Command.params, readRingSet, fit]

theorem readsBack_panelSet {p : PanelSetParams} (fit : p.encodable) : ReadsBack (.panelSet p) := by
  refine ⟨_, rfl, fun rest => ?_⟩
  simp only [PanelSetParams.encodable, Bool.and_eq_true] at fit
  simp [Command.params, readPanelSet, fit]

theorem readsBack_layerSet {p : LayerSetParams} (fit : p.encodable) : ReadsBack (.layerSet p) := by
  refine ⟨_, rfl, fun rest => ?_⟩
  simp only [LayerSetParams.encodable, Bool.and_eq_true] at fit
  simp [Command.params, readLayerSet, fit]

theorem readsBack_cameraSet {p : CameraSetParams} (fit : p.encodable) : ReadsBack (.cameraSet p) := by
  refine ⟨_, rfl, fun rest => ?_⟩
  simp only [CameraSetParams.encodable, Bool.and_eq_true] at fit
  simp [Command.params, readCameraSet, fit]

theorem readsBack_takeoverSet {p : TakeoverSetParams} (fit : p.encodable) : ReadsBack (.takeoverSet p) := by
  refine ⟨_, rfl, fun rest => ?_⟩
  simp only [TakeoverSetParams.encodable, Bool.and_eq_true] at fit
  simp [Command.params, readTakeoverSet, fit]

theorem readsBack_guideSet {p : GuideSetParams} (fit : p.encodable) : ReadsBack (.guideSet p) := by
  refine ⟨_, rfl, fun rest => ?_⟩
  simp only [GuideSetParams.encodable, Bool.and_eq_true] at fit
  simp [Command.params, readGuideSet, fit]

theorem readsBack_menuSet {p : MenuSetParams} (fit : p.encodable) : ReadsBack (.menuSet p) := by
  refine ⟨_, rfl, fun rest => ?_⟩
  simp only [MenuSetParams.encodable, Bool.and_eq_true] at fit
  simp [Command.params, readMenuSet, fit]

theorem readsBack_itemSet {n i : Nat} {p : ItemParams} (fit : fits8 n && fits8 i && p.encodable) :
    ReadsBack (.itemSet n i p) := by
  refine ⟨_, rfl, fun rest => ?_⟩
  simp only [Bool.and_eq_true] at fit
  simp [Command.params, fit]

theorem readsBack_zoneSet {z o : Nat} {p : ZoneParams} (fit : fits8 z && fits8 o && p.encodable) :
    ReadsBack (.zoneSet z o p) := by
  refine ⟨_, rfl, fun rest => ?_⟩
  simp only [ZoneParams.encodable, Bool.and_eq_true] at fit
  simp [Command.params, readZone, fit]

/-- CHIME_DEFINE carries its entry exactly with option DEFINE (log entry 12). -/
theorem readsBack_chimeDefine {n o : Nat} {p : Option ChimeParams} (fit : (Command.chimeDefine n o p).encodable) :
    ReadsBack (.chimeDefine n o p) := by
  refine ⟨_, rfl, fun rest => ?_⟩
  cases p with
  | none =>
    obtain ⟨⟨id, option⟩, other⟩ : (fits8 n = true ∧ fits8 o = true) ∧ o ≠ 0 := by
      simpa [Command.encodable] using fit
    simp [Command.params, readChimeDefine, id, option, other]
  | some entry =>
    obtain ⟨⟨id, option⟩, define, entryFit⟩ :
        (fits8 n = true ∧ fits8 o = true) ∧ o = 0 ∧ entry.encodable = true := by
      simpa [Command.encodable] using fit
    subst define
    simp [Command.params, readChimeDefine, id, option, entryFit]

theorem readsBack_assetBegin {n k l : Nat} (fit : fits16 n && fits8 k && fits32 l) : ReadsBack (.assetBegin n k l) := by
  refine ⟨_, rfl, fun rest => ?_⟩
  simp only [Bool.and_eq_true] at fit
  simp [Command.params, fit]

theorem readsBack_assetEnd (crc : BitVec 32) : ReadsBack (.assetEnd crc) := by
  refine ⟨_, rfl, fun rest => ?_⟩
  have fit : fits32 crc.toNat = true := decide_eq_true crc.isLt
  simp [Command.params, fit]

/-! ### Commands of a list or a table -/

theorem inverts_row : Inverts readRow rowBytes RowParams.encodable := fun _ _ fit => readRow_rowBytes fit

theorem inverts_item : Inverts readItem itemBytes ItemParams.encodable := fun _ _ fit => readItem_itemBytes fit

theorem inverts_guideBand :
    Inverts readGuideBand (fun b => u16 b.limit ++ argbBytes b.colour) fun b => fits16 b.limit := by
  intro b rest fit
  simp [readGuideBand, fit]

theorem inverts_proximityBand :
    Inverts readProximityBand (fun b => u16 b.limit ++ u16 b.gap) fun b => fits16 b.limit && fits16 b.gap := by
  intro b rest fit
  rw [Bool.and_eq_true] at fit
  simp [readProximityBand, fit]

theorem inverts_byte : Inverts readByte (fun b => [b]) fun _ => true := fun _ _ _ => rfl

/-- A table of a fixed count carries no count (log entry 32). -/
theorem read_table {k : List Nat → Command} {count : Nat} {vs : List Nat} (fit : vs.length == count && vs.all fits16)
    (rest : List Byte) :
    (do return k (← readMany readU16 count) : Reading Command) (vs.flatMap u16 ++ rest) = some (k vs, rest) := by
  obtain ⟨length, all⟩ : vs.length = count ∧ vs.all fits16 = true := by simpa using fit
  subst length
  simp [inverts_u16.many all]

theorem readsBack_bandTableSet {bands : List GuideBand} (fit : fitsList (fun b => fits16 b.limit) bands) :
    ReadsBack (.bandTableSet bands) := by
  refine ⟨_, rfl, fun rest => ?_⟩
  simp [Command.params, inverts_guideBand.list bands rest fit]

theorem readsBack_proximitySet {n : Nat} {bands : List ProximityBand}
    (fit : fits8 n && fitsList (fun b => fits16 b.limit && fits16 b.gap) bands) : ReadsBack (.proximitySet n bands) := by
  refine ⟨_, rfl, fun rest => ?_⟩
  obtain ⟨id, listed⟩ := Bool.and_eq_true_iff.mp fit
  simp [Command.params, id, inverts_proximityBand.list bands rest listed]

theorem readsBack_rowTableSet {rows : SizedList RowParams} (fit : (Command.rowTableSet rows).encodable) :
    ReadsBack (.rowTableSet rows) := by
  refine ⟨_, rfl, fun rest => ?_⟩
  obtain ⟨length, listed⟩ :
      rows.length = rowTableLength rows.entries ∧ fitsList RowParams.encodable rows.entries = true := by
    simpa [Command.encodable] using fit
  simp [Command.params, readRowTableSet, inverts_row.list rows.entries rest listed, ← length]

theorem readsBack_pageSet {n : Nat} {title : List Nat} {items : SizedList ItemParams}
    (fit : (Command.pageSet n title items).encodable) : ReadsBack (.pageSet n title items) := by
  refine ⟨_, rfl, fun rest => ?_⟩
  obtain ⟨⟨⟨length, id⟩, text⟩, listed⟩ : ((items.length = pageLength title items.entries ∧ fits8 n = true) ∧
      fitsList fits8 title = true) ∧ fitsList ItemParams.encodable items.entries = true := by
    simpa [Command.encodable] using fit
  simp [Command.params, readPageSet, id, text, inverts_item.list items.entries rest listed, ← length]

theorem readsBack_assetData {offset : Nat} {bytes : List Byte} (fit : fits32 offset && fits16 bytes.length) :
    ReadsBack (.assetData offset bytes) := by
  refine ⟨_, rfl, fun rest => ?_⟩
  obtain ⟨start, count⟩ := Bool.and_eq_true_iff.mp fit
  have block := inverts_byte.many (xs := bytes) (by simp) rest
  rw [List.flatMap_singleton'] at block
  simp [Command.params, readAssetData, start, count, block]

/-! ### Every command -/

theorem readsBack (c : Command) (fit : c.encodable) : ReadsBack c := by
  cases c with
  | tagSet => exact readsBack_tagSet fit
  | tagClear => exact ⟨_, rfl, read_one .tagClear fit⟩
  | tagRead => exact ⟨_, rfl, read_one .tagRead fit⟩
  | ringSet => exact readsBack_ringSet fit
  | panelSet => exact readsBack_panelSet fit
  | panelWake => exact ⟨_, rfl, read_one .panelWake fit⟩
  | panelSleep => exact ⟨_, rfl, read_one .panelSleep fit⟩
  | panelBlank => exact ⟨_, rfl, read_one .panelBlank fit⟩
  | panelShow => exact ⟨_, rfl, read_one .panelShow fit⟩
  | panelLevel => exact ⟨_, rfl, read_two .panelLevel fit⟩
  | layerSet => exact readsBack_layerSet fit
  | layerClear => exact ⟨_, rfl, read_two .layerClear fit⟩
  | panelRead => exact ⟨_, rfl, read_one .panelRead fit⟩
  | cameraSet => exact readsBack_cameraSet fit
  | takeoverSet => exact readsBack_takeoverSet fit
  | takeoverDismiss => exact ⟨_, rfl, fun _ => rfl⟩
  | takeoverRead => exact ⟨_, rfl, fun _ => rfl⟩
  | guideSet => exact readsBack_guideSet fit
  | steerTableSet => exact ⟨_, rfl, read_table fit⟩
  | rowTableSet => exact readsBack_rowTableSet fit
  | bandTableSet => exact readsBack_bandTableSet fit
  | menuSet => exact readsBack_menuSet fit
  | pageSet => exact readsBack_pageSet fit
  | pageClear => exact ⟨_, rfl, read_one .pageClear fit⟩
  | itemSet => exact readsBack_itemSet fit
  | menuOpen => exact ⟨_, rfl, read_one .menuOpen fit⟩
  | menuClose => exact ⟨_, rfl, read_one .menuClose fit⟩
  | menuLock => exact ⟨_, rfl, read_two .menuLock fit⟩
  | zoneSet => exact readsBack_zoneSet fit
  | volumeTableSet => exact ⟨_, rfl, read_table fit⟩
  | chimeDefine => exact readsBack_chimeDefine fit
  | chimePlay => exact ⟨_, rfl, read_two .chimePlay fit⟩
  | chimeStop => exact ⟨_, rfl, read_one .chimeStop fit⟩
  | proximitySet => exact readsBack_proximitySet fit
  | assetBegin => exact readsBack_assetBegin fit
  | assetData => exact readsBack_assetData fit
  | assetEnd crc => exact readsBack_assetEnd crc
  | assetDelete => exact ⟨_, rfl, read_word .assetDelete fit⟩
  | assetInfo => exact ⟨_, rfl, read_word .assetInfo fit⟩
  | storeStatus => exact ⟨_, rfl, fun _ => rfl⟩
  | storeAbort => exact ⟨_, rfl, fun _ => rfl⟩
  | linkRetrain => exact ⟨_, rfl, read_one .linkRetrain fit⟩
  | countersRead => exact ⟨_, rfl, read_two .countersRead fit⟩
  | attentionAck mask => exact ⟨_, rfl, read_mask .attentionAck mask⟩
  | noticeMaskSet mask => exact ⟨_, rfl, read_mask .noticeMaskSet mask⟩
  | identify => exact ⟨_, rfl, fun _ => rfl⟩
  | softReset => exact ⟨_, rfl, fun _ => rfl⟩

/-- Settles O51: the round trip command by command, each from the items that it carries. -/
theorem commandParametersRoundTrip : Obligations.CommandParametersRoundTrip := by
  unfold Obligations.CommandParametersRoundTrip
  intro c fit
  obtain ⟨r, code, read⟩ := readsBack c fit
  exact ⟨r, code, decodeParams_of_read read⟩

end Sys2Proof.Machine
end
